-- ==== Sys2Proof/Word.lean ====
section
/-! DEFINITION. Word.lean: the words the LK7 computes with, and nothing that decodes a field. -/

namespace Sys2Proof

/-- A register, a bus word, a Quire general register (R11, R333). -/
abbrev Word := BitVec 32

/-- One byte of memory. -/
abbrev Byte := BitVec 8

/-- The Metronome count (R26). -/
abbrev Count := BitVec 48

/-- A Quire accumulator (R350). -/
abbrev Acc := BitVec 72

end Sys2Proof
end

