-- ==== Sys2Proof/Syntax.lean ====
section
/-! DEFINITION. Syntax.lean: the commands of the LK7, one constructor for each row of the table of operations and
events. A command is what the outside world, a bus master, a core or the clock brings to the block next; its operands
say who and where, and carry what comes from outside (a value, a pin's level, received bytes). -/

namespace Sys2Proof

/-- A bus master by the numbers of R17: Core 0 and 1; DMA groups 0 and 1 (by channel); the Stacks' wave port; the
effect fabric; the display; the Scriptorium; the host port (by channel). -/
inductive Master where
  | core (n : Nat)
  | dma (ch : Nat)
  | wave
  | fx
  | disp
  | scr
  | host (ch : Nat)
  deriving DecidableEq, Repr

/-- The master number of R17, by which shadow sets and staging sets are kept. -/
def Master.port : Master → Nat
  | .core n => n
  | .dma ch => 2 + ch / 8
  | .wave => 4
  | .fx => 5
  | .disp => 6
  | .scr => 7
  | .host _ => 8

/-- What an access to on-chip memory found (R464): nothing, an error of one bit, or of two. -/
inductive EccEvent where
  | clean
  | single
  | double
  deriving DecidableEq, Repr

/-- An access of a bus master (R448, R460): a read, a write of `data`, or a fetch, of `size` bytes from `addr`; whether it
carries the lock attribute and ends its locked sequence; and what the access finds in an on-chip memory. -/
structure BusAccess where
  m : Master
  write : Bool
  fetch : Bool
  addr : Nat
  size : Nat
  data : List Byte
  locked : Bool
  last : Bool
  ecc : EccEvent
  deriving DecidableEq, Repr

/-- The kinds of request at the Registry (R427). -/
inductive RegReq where
  | read
  | own
  | upgrade
  deriving DecidableEq, Repr

/-- The standard and audio-class requests that read (R250 to R252, R261), and SET_ADDRESS. -/
inductive UsbRequest where
  | deviceDescriptor
  | configDescriptor (n : Nat)
  | stringDescriptor (n : Nat)
  | getStatus
  | getConfiguration
  | getInterface (n : Nat)
  | setAddress (a : BitVec 7)
  | getCur (entity control : Nat)
  | getRange (entity control : Nat)
  | other
  deriving DecidableEq, Repr

/-- The instructions of the JTAG port (R664). -/
inductive JtagIns where
  | bypass
  | idcode
  | sample
  | extest
  | clamp
  | highz
  deriving DecidableEq, Repr

/-- What a JTAG debugger does with the TAP (R412, R664): resets it, loads an instruction, scans the data register in force
(`cells` are the values shifted in for the 96 GPIO pads), or reads or writes the DBG window. -/
inductive JtagOp where
  | reset
  | load (i : JtagIns)
  | scan (cells : BitVec 96)
  | read (addr : Nat)
  | write (addr : Nat) (v : Word)
  deriving DecidableEq, Repr

/-- One command: a row of the table of operations and events. -/
inductive Instr where
  /-- PROFILE_LOCK_WRITE (R6). A write to SYS_PROFILE_LOCK is accepted only when the value is 0x0001_0000 and is otherwise ignored. -/
  | profileLockWrite (m : Master) (v : Word)
  /-- REGISTER_WRITE (R16). A write to a register that has no row of its own acts as its access code states (RW, W1C, W1S, reserved bits, RO ignored). -/
  | registerWrite (m : Master) (addr : Nat) (v : Word)
  /-- RC_REGISTER_READ (R16). A read of an RC register returns its value and then clears it. -/
  | rcRegisterRead (m : Master) (addr : Nat)
  /-- BUS_ACCESS (R452). A master's access is arbitrated at its target, granted and completed, or completed with a bus error. -/
  | busAccess (r : BusAccess) (rivals : List BusAccess)
  /-- SYS_CLK_CFG_WRITE (R21). A write of SYS_CLK_CFG in CONFIGURE starts a relock of both PLLs, and outside CONFIGURE is ignored and sets CFG_REFUSED. -/
  | sysClkCfgWrite (m : Master) (v : Word)
  /-- PLL_LOCK (R22). The PLLs lock to the selected source, the lock bits set and the count runs from MCLK again. -/
  | pllLock (edges : Bool)
  /-- CLOCK_MEASUREMENT (R24). Every 32 Vault-clock periods the MCLK cycle count is published in SYS_CLK_MEAS and FREQ_BAD is updated. -/
  | clockMeasurement (cycles : BitVec 17)
  /-- HOLDOVER_ENTRY (R25). When a locked MCLK_IN shows no edge for 8 MCLK periods, the audio PLL enters holdover and a SEVERE fault is recorded. -/
  | holdoverEntry
  /-- SLOW_COUNT_STEP (R29). While MCLK is stopped, each Vault-clock edge advances the count by 1,500, or by 1,378 plus 1 on every eighth edge. -/
  | slowCountStep
  /-- COUNT_WRAP (R27). When the 48-bit count passes from its maximum to 0, MET_EPOCH increments and MET_STAT.WRAP is set. -/
  | countWrap
  /-- SAMPLE_TICK (R31). At every multiple of Cs the sample tick fires and the ports frame one sample. -/
  | sampleTick (rx : List (Nat × Word))
  /-- BLOCK_TICK (R32). At every multiple of Cb the block tick fires, pending settings apply and computation of the next output block begins. -/
  | blockTick (late : Nat)
  /-- FRAME_TICK (R35). Every F block ticks the frame tick fires and the display begins a frame, snapshot or refresh. -/
  | frameTick
  /-- MET_COUNT_LO_READ (R48). A read of MET_COUNT_LO returns count bits [31:0] and captures the reader's shadow set of the other time registers. -/
  | metCountLoRead (m : Master)
  /-- VERIFY (R74). CHT_CMD OP 1 starts verification of the named source as the new candidate, or is refused with code 0x60. -/
  | verify (src : Nat)
  /-- VERIFY_COMPLETE (R72). The loader finishes its ordered checks and leaves the candidate ADMITTED or REFUSED with its result code and DONE. -/
  | verifyComplete
  /-- COMMIT (R76). CHT_CMD OP 2 in CONFIGURE arranges for the admitted candidate to become live at the commit tick. -/
  | commit
  /-- COMMIT_TAKES_EFFECT (R40). At the commit tick the candidate becomes live, the mode enters PERFORM, queues are emptied and frame 0 begins. -/
  | commitTakesEffect
  /-- PLAN_SWAP (R78). CHT_CMD OP 3 checks the candidate against the live Charter and chooses a crossfade or a hard change. -/
  | planSwap
  /-- ARM_SWAP (R79). CHT_CMD OP 4 arms the planned swap if the swap block is 4 or more blocks ahead, or refuses it with code 0x62. -/
  | armSwap
  /-- CANCEL (R74). CHT_CMD OP 5 cancels a planned or armed swap or discards the candidate. -/
  | cancel
  /-- PROGRAM (R77). CHT_CMD OP 6 checks a RAM Charter and starts erasing and programming it into an NVM slot. -/
  | program (slot : Nat)
  /-- ERASE (R74). CHT_CMD OP 7 starts erasing the named NVM slot unless it is the live slot. -/
  | erase (slot : Nat)
  /-- NVM_OPERATION_COMPLETE (R77). A PROGRAM or ERASE finishes or fails its verify, NVM_BUSY clears and NVM_DONE is set. -/
  | nvmOperationComplete (ok : Bool)
  /-- CHT_SWAP_PARAM_WRITE (R80). A write to CHT_SWAP_BLOCK or CHT_XFADE is stored, or ignored with PARAM_REFUSED while a swap is planned or armed. -/
  | chtSwapParamWrite (xfade : Bool) (v : Word)
  /-- HARD_CHANGE_RAMP (R83). At the tick that begins computation of block s minus 2 the old structure's outputs start a two-block ramp to silence. -/
  | hardChangeRamp
  /-- SWAP_TAKES_EFFECT (R81). At swap block s the new structure starts producing output, with a crossfade or hard change, and CHT_INT.SWAP is set. -/
  | swapTakesEffect
  /-- XFADE_END (R81). After the last crossfade block the old structure's voices end, the candidate is live and XFADE_END is set. -/
  | xfadeEnd
  /-- GROUP_MEMBER_WRITE (R85). A write to an RWA member of a coupled group goes to the group's staging copy. -/
  | groupMemberWrite (m : Master) (addr : Nat) (v : Word)
  /-- GROUP_ARM (R85). A write to a group's arming register copies the whole staging copy into the pending copy. -/
  | groupArm (m : Master) (addr : Nat) (v : Word)
  /-- GROUP_APPLY (R86). At the first block tick after arming, a pending copy becomes the applied set of its group. -/
  | groupApply (arm : Nat)
  /-- QUEN_PUSH_STAGE (R110). A write to QUEn_PUSH1, PUSH2 or PUSH3 sets a word of the writing master's staging set. -/
  | quenPushStage (m : Master) (q : Nat) (k : Nat) (v : Word)
  /-- QUEN_PUSH (R110). A write of word 0 to QUEn_PUSH commits the staged record stamped now, or is refused under R112. -/
  | quenPush (m : Master) (q : Nat) (v : Word)
  /-- QUEN_PUSH_T (R110). A write of word 0 to QUEn_PUSH_T commits the staged record with its staged TIME. -/
  | quenPushT (m : Master) (q : Nat) (v : Word)
  /-- RECORD_ACCEPT (R103). A queue's write port accepts the oldest skid-buffer record of lowest source number, applying the fill and the queue's policy. -/
  | recordAccept (q : Nat)
  /-- HOLD_RELEASE (R109). A commit waiting at a full HOLD queue completes when the queue has room. -/
  | holdRelease (q : Nat)
  /-- HOLD_TIMEOUT (R109). A HOLD commit that has waited 65,536 cycles is dropped, counted and recorded as a RECOVERABLE fault. -/
  | holdTimeout (q : Nat)
  /-- QUEN_POP (R111). A read of QUEn_POP removes and returns the oldest record's word 0 and loads the reader's pop shadow, or returns 0 with UNDER. -/
  | quenPop (m : Master) (q : Nat)
  /-- ALLOCATOR_INTAKE_CLOSE (R117). At the intake close of block k the allocator dispatches due records in two passes up to E_MAX. -/
  | allocatorIntakeClose
  /-- VOICE_WRITE_APPLY (R125). A plain write to a voice or chime register applies from the first block whose computation begins after it. -/
  | voiceWriteApply
  /-- ENVELOPE_SEGMENT_END (R137). An envelope reaches the end of its segment duration and enters the next segment, holds or completes. -/
  | envelopeSegmentEnd (v : Nat) (env : Nat)
  /-- WAVE_END (R134). A one-shot voice, or one that left its loop, ends when its frame index reaches END. -/
  | waveEnd (v : Nat)
  /-- VCMD_START (R168). STK_VCMD START starts an IDLE voice with its current registers at the next intake close. -/
  | vcmdStart (m : Master) (v : Nat)
  /-- VCMD_RELEASE (R168). STK_VCMD RELEASE releases the voice at the next intake close. -/
  | vcmdRelease (m : Master) (v : Nat)
  /-- VCMD_KILL (R168). STK_VCMD KILL ramps the voice to 0 over the next block and then ends it. -/
  | vcmdKill (m : Master) (v : Nat)
  /-- CHIME_DECAY_STEP (R173). Every DECAY blocks a keyed-on chime channel's VOL decreases by 1. -/
  | chimeDecayStep (n : Nat)
  /-- CHIME_LENGTH_EXPIRE (R173). A chime channel's LENGTH reaches 0 and keys the channel off. -/
  | chimeLengthExpire (n : Nat)
  /-- SAP_SLAVE_FRAME (R200). A slave port detects a frame start on FS, measures its phase and edge count and frames the data. -/
  | sapSlaveFrame (i : Nat) (phase : Nat) (edges : Nat) (rx : List (Nat × Word))
  /-- SAP_SLAVE_LOCK (R201). After 64 consistent frames a slave port locks and its inputs feed their IN channels. -/
  | sapSlaveLock (i : Nat)
  /-- SAP_FRAME_START_TIMEOUT (R203). A locked slave that sees no frame start within 2 × Cs counts raises a clock fault. -/
  | sapFrameStartTimeout (i : Nat)
  /-- SPDIF_BLOCK_START (R206). A new 192-frame S/PDIF block begins, applying SPDIF_CS and setting SPDIF_STAT.BLOCK. -/
  | spdifBlockStart
  /-- KEY_SCAN (R211). At each multiple of 1,024 counts the scanner runs its 16 dwells, sampling contacts and forming records. -/
  | keyScan (levels : BitVec 256) (edges : List (Nat × Nat))
  /-- LOCKOUT_END (R214). A contact's lockout ends, any level difference is reported with OVERRUN, and its bounce average is updated. -/
  | lockoutEnd (contact : Nat)
  /-- KEY_RECORD_PRESENT (R213). The scanner presents its buffered records to its skid buffer in stamp order when the skid buffer has room. -/
  | keyRecordPresent
  /-- KEY_CFG_WRITE (R218). A write of KEY_CFG or KEY_MAP changes configuration, starts or stops scanning, or is refused while EN = 1. -/
  | keyCfgWrite (m : Master) (addr : Nat) (v : Word)
  /-- SLEEP_SCAN_SAMPLE (R224). In Doze and Drowse the scanner samples all sense lines at a Vault-clock edge and records sleep stamps and a wake request. -/
  | sleepScanSample (low : BitVec 16)
  /-- ADC_CONVERSION (R227). At the end of each 256-count slot the ADC completes one conversion of the next enabled channel. -/
  | adcConversion (value : BitVec 12)
  /-- ADC_CFG_WRITE (R233). A write to ADCn_CFG discards the group in progress and makes the next value reported. -/
  | adcCfgWrite (m : Master) (n : Nat) (v : Word)
  /-- MIDI_IN_MESSAGE (R237). A complete MIDI message received on a DIN input forms its record at the middle of its last stop bit. -/
  | midiInMessage (i : Nat) (bytes : List (Nat × Byte × Bool))
  /-- MIDI_REALTIME_BYTE (R238). A real-time byte forms its own SYSTEM record, unless filtered by RTDROP, without disturbing the message in progress. -/
  | midiRealtimeByte (i : Nat) (idle : Nat) (b : BitVec 3)
  /-- SYSEX_RECORD (R240). Each 6 gathered SysEx bytes, and the end of the message, form a SYSEX record. -/
  | sysexRecord (i : Nat) (bytes : List (Nat × Byte × Bool))
  /-- ACTIVE_SENSING_TIMEOUT (R242). An input watching active sensing that receives no byte for AS_TIME × 10 ms posts a timeout record and optional all-notes-off. -/
  | activeSensingTimeout (i : Nat)
  /-- MIDI_OUT_RECORD (R244). A MIDI output takes the next record of its queue and sends its bytes when the line is free. -/
  | midiOutRecord (i : Nat)
  /-- MIDI_OUT_SEND_AT (R246). A scheduled record waiting at the head of a SCHED output queue starts at its send-at count. -/
  | midiOutSendAt (i : Nat)
  /-- DIRECT_SLOT_SEND (R247). A MIDI output's direct slot sends its message at its send-at count at a byte boundary. -/
  | directSlotSend (i : Nat)
  /-- ACTIVE_SENSING_TX (R245). With AS_TX an output whose line has been idle for 270 ms sends 0xFE. -/
  | activeSensingTx (i : Nat)
  /-- USB_CFG_WRITE (R249). A write to USB_CFG presents or withdraws the pull-up and sets configuration, or is refused while connected. -/
  | usbCfgWrite (m : Master) (addr : Nat) (v : Word)
  /-- USB_RECONNECT (R253). A commit that changes fs while connected withdraws the pull-up for 50 ms and presents it again. -/
  | usbReconnect
  /-- USB_BUS_RESET (R263). A USB bus reset discards part-formed messages and sets BUS_RESET. -/
  | usbBusReset (hs : Bool)
  /-- USB_SUSPEND (R248). The USB bus suspends and SUSPEND is set. -/
  | usbSuspend
  /-- USB_RESUME (R248). Resume signalling arrives on the USB bus and RESUME is set. -/
  | usbResume
  /-- USB_STANDARD_REQUEST (R261). The device answers a standard or audio-class GET request itself. -/
  | usbStandardRequest (r : UsbRequest)
  /-- SET_CONFIGURATION (R261). A SET_CONFIGURATION request selects the configuration and forms a USB_CTRL record. -/
  | setConfiguration (v : Nat)
  /-- SET_INTERFACE (R261). A SET_INTERFACE request selects an alternate, resets rings or discards part messages, and forms a USB_CTRL record. -/
  | setInterface (i : Nat) (alt : Nat)
  /-- FEATURE_UNIT_SET_CUR (R261). A feature-unit SET_CUR of mute or volume forms a USB_CTRL record without applying it. -/
  | featureUnitSetCur (entity : Nat) (control : Nat) (v : Nat)
  /-- CLOCK_SET_CUR (R252). A SET_CUR of the clock frequency other than fs is answered with STALL. -/
  | clockSetCur (hz : Nat)
  /-- USB_AUDIO_OUT_PACKET (R255). An isochronous OUT packet's frames are added to the OUT ring, or discarded with OVERRUN when it is full. -/
  | usbAudioOutPacket (toggle : Bool) (frames : List (List Word))
  /-- USB_AUDIO_IN_PACKET (R255). An isochronous IN packet carries the frames captured since the previous packet. -/
  | usbAudioInPacket
  /-- USB_FEEDBACK (R256). The feedback endpoint sends the value computed from measured MCLK counts and the OUT ring fill. -/
  | usbFeedback (counts : Nat)
  /-- USB_MIDI_EVENT_PACKET (R257). A USB-MIDI 1.0 event packet from the host forms records as a DIN input would. -/
  | usbMidiEventPacket (toggle : Bool) (events : List Word)
  /-- UNIVERSAL_MIDI_PACKET (R258). A UMP from the host forms UMP records or translated records. -/
  | universalMidiPacket (toggle : Bool) (ws : List Word)
  /-- USB_MIDI_IN_SEND (R259). The device-to-host MIDI endpoint takes records from its queue and sends them encoded. -/
  | usbMidiInSend
  /-- DFU_DOWNLOAD (R262). In DFU mode a download writes firmware to SRAM or a Charter to a slot. -/
  | dfuDownload (data : List Byte)
  /-- DFU_UPLOAD (R262). A DFU_UPLOAD request is answered with STALL. -/
  | dfuUpload
  /-- DFU_MANIFEST (R591). After manifesting alternate 0 the device withdraws its pull-up and jumps to the image, or reports errVERIFY. -/
  | dfuManifest
  /-- DISP_CTL_WRITE (R270). A write of DISP_CTL.EN stops scan-out at the end of the frame or restarts it at the next frame tick. -/
  | dispCtlWrite (m : Master) (v : Word)
  /-- DISP_LINE_START (R272). At pixel 0 of each line the controller latches registers and evaluates sprites for the next line and starts its fetch. -/
  | dispLineStart (late : List (Nat × Nat))
  /-- DISP_TE_EDGE (R292). A rising edge on DISP_TE starts a push that waits for it. -/
  | dispTeEdge
  /-- PUSH_COMPLETE (R293). A command-mode push or character refresh finishes and queued command bytes may be sent. -/
  | pushComplete
  /-- DISP_DBI_CMD (R293). A write to DISP_DBI_CMD enters a byte into the 16-entry FIFO, or sets CMD_OVF when full. -/
  | dispDbiCmd (m : Master) (v : Word)
  /-- DISP_DIRTY_MARK (R288). A write to DISP_DIRTY_MARK marks a rectangle of tiles dirty. -/
  | dispDirtyMark (m : Master) (v : Word)
  /-- DISP_DIRTY_ALL (R288). A write of 1 to DISP_DIRTY_ALL marks every tile dirty. -/
  | dispDirtyAll (m : Master) (v : Word)
  /-- DISP_CHR_CMD (R297). A write to DISP_CHR_CMD sends one raw byte or nibble to the character module between refreshes. -/
  | dispChrCmd (m : Master) (v : Word)
  /-- RESYNC (R296). A write of DISP_CHR_CFG.RESYNC invalidates the shadow so the whole buffer is sent. -/
  | resync (m : Master) (v : Word)
  /-- DISP_SR_WRITE (R298). A write of DISP_SR.REQ requests entry to or exit from self-refresh. -/
  | dispSrWrite (m : Master) (v : Word)
  /-- SCR_EXECUTE (R319). SCR_GO OP 1 executes the command held in SCR_CMD0 to SCR_CMD7. -/
  | scrExecute (m : Master)
  /-- SCR_START_LIST (R319). SCR_GO OP 2 starts the command list at SCR_LIST_ADDR. -/
  | scrStartList (m : Master)
  /-- SCR_ABORT (R322). SCR_CTL.ABORT stops the engine at the end of its row or at once at a fence, setting ABORTED. -/
  | scrAbort (m : Master) (rows : Nat)
  /-- SCR_NOP (R309). The NOP command does nothing. -/
  | scrNop
  /-- SCR_FILL (R310). FILL writes COLOUR to every pixel of a rectangle, subject to bounds and clipping. -/
  | scrFill
  /-- SCR_RECT (R310). RECT writes COLOUR to the border pixels of a rectangle. -/
  | scrRect
  /-- SCR_LINE (R311). LINE writes COLOUR along the path of the line algorithm. -/
  | scrLine
  /-- SCR_COPY (R313). COPY copies a source rectangle to the target as if through a temporary buffer. -/
  | scrCopy
  /-- SCR_KEYCOPY (R310). KEYCOPY copies source pixels that are not equal to KEY. -/
  | scrKeycopy
  /-- SCR_BLEND (R310). BLEND blends 16 bpp source pixels over the target with alpha GA. -/
  | scrBlend
  /-- SCR_GLYPH (R312). GLYPH writes or blends COLOUR by the coverage of a glyph bitmap. -/
  | scrGlyph
  /-- SCR_TILEW (R314). TILEW writes a block of consecutively numbered Folio map entries. -/
  | scrTilew
  /-- SCR_PACK (R315). PACK compresses a target rectangle into a Folio-Pack object, stopping with error 0x06 past LIMIT. -/
  | scrPack
  /-- SCR_TARGET (R310). TARGET sets the target surface address, format and bounds. -/
  | scrTarget
  /-- SCR_CLIP (R318). CLIP sets one clip rectangle and its enable and exclusive bits. -/
  | scrClip
  /-- SCR_FENCE (R325). FENCE arms a fence on a beam line, fires it at once with LATE, or waits for an armed one. -/
  | scrFence
  /-- SCR_JUMP (R321). JUMP continues the list at an aligned address, or stops with error 0x03. -/
  | scrJump
  /-- SCR_END (R322). END stops the engine with DONE and SCR_PC at the END. -/
  | scrEnd
  /-- SCR_UNKNOWN_OP (R309). A command with an unlisted OP stops the engine with error 0x01. -/
  | scrUnknownOp
  /-- FENCE_FIRE (R327). An armed fence fires when the beam or push reaches its line, setting WM and releasing a waiting list. -/
  | fenceFire
  /-- ADD (R344). ADD writes ra + rb and optionally sets N, Z, C, V. -/
  | add (core : BitVec 1) (c16 : Bool) (f : Bool) (rd : BitVec 5) (ra : BitVec 5) (rb : BitVec 5)
  /-- SUB (R344). SUB writes ra − rb and optionally sets flags. -/
  | sub (core : BitVec 1) (c16 : Bool) (f : Bool) (rd : BitVec 5) (ra : BitVec 5) (rb : BitVec 5)
  /-- ADC (R344). ADC writes ra + rb + C. -/
  | adc (core : BitVec 1) (f : Bool) (rd : BitVec 5) (ra : BitVec 5) (rb : BitVec 5)
  /-- SBC (R344). SBC writes ra − rb − (1 − C). -/
  | sbc (core : BitVec 1) (f : Bool) (rd : BitVec 5) (ra : BitVec 5) (rb : BitVec 5)
  /-- AND (R344). AND writes ra & rb. -/
  | and (core : BitVec 1) (c16 : Bool) (f : Bool) (rd : BitVec 5) (ra : BitVec 5) (rb : BitVec 5)
  /-- OR (R344). OR writes ra | rb. -/
  | or (core : BitVec 1) (c16 : Bool) (f : Bool) (rd : BitVec 5) (ra : BitVec 5) (rb : BitVec 5)
  /-- XOR (R344). XOR writes ra ^ rb. -/
  | xor (core : BitVec 1) (c16 : Bool) (f : Bool) (rd : BitVec 5) (ra : BitVec 5) (rb : BitVec 5)
  /-- ANDN (R344). ANDN writes ra & ~rb. -/
  | andn (core : BitVec 1) (f : Bool) (rd : BitVec 5) (ra : BitVec 5) (rb : BitVec 5)
  /-- SLL (R344). SLL shifts ra left by rb[4:0]. -/
  | sll (core : BitVec 1) (f : Bool) (rd : BitVec 5) (ra : BitVec 5) (rb : BitVec 5)
  /-- SRL (R344). SRL shifts ra right with zero fill by rb[4:0]. -/
  | srl (core : BitVec 1) (f : Bool) (rd : BitVec 5) (ra : BitVec 5) (rb : BitVec 5)
  /-- SRA (R344). SRA shifts ra right with sign fill by rb[4:0]. -/
  | sra (core : BitVec 1) (f : Bool) (rd : BitVec 5) (ra : BitVec 5) (rb : BitVec 5)
  /-- ROR (R344). ROR rotates ra right by rb[4:0]. -/
  | ror (core : BitVec 1) (f : Bool) (rd : BitVec 5) (ra : BitVec 5) (rb : BitVec 5)
  /-- SLLI (R344). SLLI shifts ra left by an immediate amount. -/
  | slli (core : BitVec 1) (c16 : Bool) (f : Bool) (rd : BitVec 5) (ra : BitVec 5) (n : BitVec 5)
  /-- SRLI (R344). SRLI shifts ra right with zero fill by an immediate amount. -/
  | srli (core : BitVec 1) (c16 : Bool) (f : Bool) (rd : BitVec 5) (ra : BitVec 5) (n : BitVec 5)
  /-- SRAI (R344). SRAI shifts ra right with sign fill by an immediate amount. -/
  | srai (core : BitVec 1) (c16 : Bool) (f : Bool) (rd : BitVec 5) (ra : BitVec 5) (n : BitVec 5)
  /-- RORI (R344). RORI rotates ra right by an immediate amount. -/
  | rori (core : BitVec 1) (f : Bool) (rd : BitVec 5) (ra : BitVec 5) (n : BitVec 5)
  /-- SLT (R344). SLT writes 1 if ra < rb signed, else 0. -/
  | slt (core : BitVec 1) (f : Bool) (rd : BitVec 5) (ra : BitVec 5) (rb : BitVec 5)
  /-- SLTU (R344). SLTU writes 1 if ra < rb unsigned, else 0. -/
  | sltu (core : BitVec 1) (f : Bool) (rd : BitVec 5) (ra : BitVec 5) (rb : BitVec 5)
  /-- MIN (R344). MIN writes the signed minimum. -/
  | min (core : BitVec 1) (f : Bool) (rd : BitVec 5) (ra : BitVec 5) (rb : BitVec 5)
  /-- MAX (R344). MAX writes the signed maximum. -/
  | max (core : BitVec 1) (f : Bool) (rd : BitVec 5) (ra : BitVec 5) (rb : BitVec 5)
  /-- MINU (R344). MINU writes the unsigned minimum. -/
  | minu (core : BitVec 1) (f : Bool) (rd : BitVec 5) (ra : BitVec 5) (rb : BitVec 5)
  /-- MAXU (R344). MAXU writes the unsigned maximum. -/
  | maxu (core : BitVec 1) (f : Bool) (rd : BitVec 5) (ra : BitVec 5) (rb : BitVec 5)
  /-- CLZ (R344). CLZ writes the number of leading zeros of ra. -/
  | clz (core : BitVec 1) (f : Bool) (rd : BitVec 5) (ra : BitVec 5)
  /-- ABS (R344). ABS writes the absolute value of ra, setting V for 0x8000_0000. -/
  | abs (core : BitVec 1) (f : Bool) (rd : BitVec 5) (ra : BitVec 5)
  /-- REV (R344). REV writes ra with its bytes reversed. -/
  | rev (core : BitVec 1) (f : Bool) (rd : BitVec 5) (ra : BitVec 5)
  /-- SEXTB (R344). SEXTB sign-extends ra[7:0]. -/
  | sextb (core : BitVec 1) (f : Bool) (rd : BitVec 5) (ra : BitVec 5)
  /-- SEXTH (R344). SEXTH sign-extends ra[15:0]. -/
  | sexth (core : BitVec 1) (f : Bool) (rd : BitVec 5) (ra : BitVec 5)
  /-- ZEXTH (R344). ZEXTH zero-extends ra[15:0]. -/
  | zexth (core : BitVec 1) (f : Bool) (rd : BitVec 5) (ra : BitVec 5)
  /-- CMP (R344). CMP sets the flags of ra − rb. -/
  | cmp (core : BitVec 1) (c16 : Bool) (ra : BitVec 5) (rb : BitVec 5)
  /-- TST (R344). TST sets the flags of ra & rb. -/
  | tst (core : BitVec 1) (ra : BitVec 5) (rb : BitVec 5)
  /-- ADDI (R346). ADDI writes ra + simm15. -/
  | addi (core : BitVec 1) (c16 : Bool) (rd : BitVec 5) (ra : BitVec 5) (imm : BitVec 15)
  /-- ANDI (R346). ANDI writes ra & uimm15. -/
  | andi (core : BitVec 1) (rd : BitVec 5) (ra : BitVec 5) (imm : BitVec 15)
  /-- ORI (R346). ORI writes ra | uimm15. -/
  | ori (core : BitVec 1) (rd : BitVec 5) (ra : BitVec 5) (imm : BitVec 15)
  /-- XORI (R346). XORI writes ra ^ uimm15. -/
  | xori (core : BitVec 1) (rd : BitVec 5) (ra : BitVec 5) (imm : BitVec 15)
  /-- CMPI (R346). CMPI sets the flags of ra − simm15. -/
  | cmpi (core : BitVec 1) (c16 : Bool) (ra : BitVec 5) (imm : BitVec 15)
  /-- SLTI (R346). SLTI writes 1 if ra < simm15 signed. -/
  | slti (core : BitVec 1) (rd : BitVec 5) (ra : BitVec 5) (imm : BitVec 15)
  /-- LUI (R346). LUI writes uimm20 << 12. -/
  | lui (core : BitVec 1) (rd : BitVec 5) (imm : BitVec 20)
  /-- AUIPC (R346). AUIPC writes the instruction address plus uimm20 << 12. -/
  | auipc (core : BitVec 1) (rd : BitVec 5) (imm : BitVec 20)
  /-- MUL (R347). MUL writes the low 32 bits of ra × rb. -/
  | mul (core : BitVec 1) (rd : BitVec 5) (ra : BitVec 5) (rb : BitVec 5)
  /-- MULH (R347). MULH writes the high 32 bits of the signed product. -/
  | mulh (core : BitVec 1) (rd : BitVec 5) (ra : BitVec 5) (rb : BitVec 5)
  /-- MULHU (R347). MULHU writes the high 32 bits of the unsigned product. -/
  | mulhu (core : BitVec 1) (rd : BitVec 5) (ra : BitVec 5) (rb : BitVec 5)
  /-- MULHSU (R347). MULHSU writes the high 32 bits of signed ra × unsigned rb. -/
  | mulhsu (core : BitVec 1) (rd : BitVec 5) (ra : BitVec 5) (rb : BitVec 5)
  /-- DIV (R348). DIV writes signed ra / rb truncated, with defined results for 0 and overflow. -/
  | div (core : BitVec 1) (rd : BitVec 5) (ra : BitVec 5) (rb : BitVec 5)
  /-- DIVU (R348). DIVU writes unsigned ra / rb, or 0xFFFF_FFFF for rb 0. -/
  | divu (core : BitVec 1) (rd : BitVec 5) (ra : BitVec 5) (rb : BitVec 5)
  /-- REM (R348). REM writes the signed remainder. -/
  | rem (core : BitVec 1) (rd : BitVec 5) (ra : BitVec 5) (rb : BitVec 5)
  /-- REMU (R348). REMU writes the unsigned remainder. -/
  | remu (core : BitVec 1) (rd : BitVec 5) (ra : BitVec 5) (rb : BitVec 5)
  /-- QADD (R349). QADD writes the saturated sum. -/
  | qadd (core : BitVec 1) (rd : BitVec 5) (ra : BitVec 5) (rb : BitVec 5)
  /-- QSUB (R349). QSUB writes the saturated difference. -/
  | qsub (core : BitVec 1) (rd : BitVec 5) (ra : BitVec 5) (rb : BitVec 5)
  /-- QNEG (R349). QNEG writes the saturated negation. -/
  | qneg (core : BitVec 1) (rd : BitVec 5) (ra : BitVec 5)
  /-- QABS (R349). QABS writes the saturated absolute value. -/
  | qabs (core : BitVec 1) (rd : BitVec 5) (ra : BitVec 5)
  /-- QADD16 (R349). QADD16 adds two Q15 lanes with saturation. -/
  | qadd16 (core : BitVec 1) (rd : BitVec 5) (ra : BitVec 5) (rb : BitVec 5)
  /-- QSUB16 (R349). QSUB16 subtracts two Q15 lanes with saturation. -/
  | qsub16 (core : BitVec 1) (rd : BitVec 5) (ra : BitVec 5) (rb : BitVec 5)
  /-- QMUL (R349). QMUL writes the rounded saturated Q31 product. -/
  | qmul (core : BitVec 1) (rd : BitVec 5) (ra : BitVec 5) (rb : BitVec 5)
  /-- QMUL16 (R349). QMUL16 writes rounded saturated Q15 lane products. -/
  | qmul16 (core : BitVec 1) (rd : BitVec 5) (ra : BitVec 5) (rb : BitVec 5)
  /-- SATS (R349). SATS clamps ra to a signed n-bit range. -/
  | sats (core : BitVec 1) (rd : BitVec 5) (ra : BitVec 5) (rb : BitVec 5)
  /-- SATU (R349). SATU clamps ra to an unsigned n-bit range. -/
  | satu (core : BitVec 1) (rd : BitVec 5) (ra : BitVec 5) (rb : BitVec 5)
  /-- PACKLL (R349). PACKLL packs the low halves of rb and ra. -/
  | packll (core : BitVec 1) (rd : BitVec 5) (ra : BitVec 5) (rb : BitVec 5)
  /-- PACKHH (R349). PACKHH packs the high halves of rb and ra. -/
  | packhh (core : BitVec 1) (rd : BitVec 5) (ra : BitVec 5) (rb : BitVec 5)
  /-- MAC (R350). MAC adds the signed product to an accumulator modulo 2^72. -/
  | mac (core : BitVec 1) (c16 : Bool) (a : BitVec 1) (ra : BitVec 5) (rb : BitVec 5)
  /-- MSU (R350). MSU subtracts the signed product from an accumulator. -/
  | msu (core : BitVec 1) (a : BitVec 1) (ra : BitVec 5) (rb : BitVec 5)
  /-- MACU (R350). MACU adds the unsigned product to an accumulator. -/
  | macu (core : BitVec 1) (a : BitVec 1) (ra : BitVec 5) (rb : BitVec 5)
  /-- MULA (R350). MULA sets an accumulator to the signed product. -/
  | mula (core : BitVec 1) (a : BitVec 1) (ra : BitVec 5) (rb : BitVec 5)
  /-- MACQ (R350). MACQ adds the doubled signed product to an accumulator. -/
  | macq (core : BitVec 1) (a : BitVec 1) (ra : BitVec 5) (rb : BitVec 5)
  /-- MAC16 (R350). MAC16 adds the sum of two lane products to an accumulator. -/
  | mac16 (core : BitVec 1) (a : BitVec 1) (ra : BitVec 5) (rb : BitVec 5)
  /-- MACQ16 (R350). MACQ16 adds the doubled sum of two lane products. -/
  | macq16 (core : BitVec 1) (a : BitVec 1) (ra : BitVec 5) (rb : BitVec 5)
  /-- ACCR (R350). ACCR writes the rounded, shifted and saturated accumulator. -/
  | accr (core : BitVec 1) (rd : BitVec 5) (a : BitVec 1) (sh : BitVec 6)
  /-- ACCRL (R350). ACCRL writes accumulator bits [31:0]. -/
  | accrl (core : BitVec 1) (rd : BitVec 5) (a : BitVec 1)
  /-- ACCRH (R350). ACCRH writes accumulator bits [63:32]. -/
  | accrh (core : BitVec 1) (rd : BitVec 5) (a : BitVec 1)
  /-- ACCRG (R350). ACCRG writes the sign-extended guard bits. -/
  | accrg (core : BitVec 1) (rd : BitVec 5) (a : BitVec 1)
  /-- ACCWL (R350). ACCWL writes accumulator bits [31:0]. -/
  | accwl (core : BitVec 1) (a : BitVec 1) (ra : BitVec 5)
  /-- ACCWH (R350). ACCWH writes accumulator bits [63:32]. -/
  | accwh (core : BitVec 1) (a : BitVec 1) (ra : BitVec 5)
  /-- ACCWG (R350). ACCWG writes accumulator bits [71:64]. -/
  | accwg (core : BitVec 1) (a : BitVec 1) (ra : BitVec 5)
  /-- ASHR (R350). ASHR shifts an accumulator right with sign fill. -/
  | ashr (core : BitVec 1) (a : BitVec 1) (sh : BitVec 6)
  /-- ACLR (R350). ACLR clears an accumulator. -/
  | aclr (core : BitVec 1) (a : BitVec 1)
  /-- EXTU (R351). EXTU extracts a zero-extended bit field. -/
  | extu (core : BitVec 1) (rd : BitVec 5) (ra : BitVec 5) (pos : BitVec 5) (wm1 : BitVec 5)
  /-- EXTS (R351). EXTS extracts a sign-extended bit field. -/
  | exts (core : BitVec 1) (rd : BitVec 5) (ra : BitVec 5) (pos : BitVec 5) (wm1 : BitVec 5)
  /-- INS (R351). INS inserts a bit field into rd. -/
  | ins (core : BitVec 1) (rd : BitVec 5) (ra : BitVec 5) (pos : BitVec 5) (wm1 : BitVec 5)
  /-- INSZ (R351). INSZ writes a shifted field with other bits 0. -/
  | insz (core : BitVec 1) (rd : BitVec 5) (ra : BitVec 5) (pos : BitVec 5) (wm1 : BitVec 5)
  /-- LD (R353). LD loads a byte, halfword or word from ra + simm12. -/
  | ld (core : BitVec 1) (c16 : Bool) (rd : BitVec 5) (ra : BitVec 5) (sz : BitVec 3) (imm : BitVec 12)
  /-- ST (R353). ST stores a byte, halfword or word to ra + simm12 through the write buffer. -/
  | st (core : BitVec 1) (c16 : Bool) (rd : BitVec 5) (ra : BitVec 5) (sz : BitVec 3) (imm : BitVec 12)
  /-- LDX (R353). LDX loads with scaled-index, increment or decrement addressing and base update. -/
  | ldx (core : BitVec 1) (c16 : Bool) (rd : BitVec 5) (ra : BitVec 5) (rb : BitVec 5) (mode : BitVec 3) (sc : BitVec 2) (sz : BitVec 3)
  /-- STX (R353). STX stores with scaled-index, increment or decrement addressing and base update. -/
  | stx (core : BitVec 1) (rd : BitVec 5) (ra : BitVec 5) (rb : BitVec 5) (mode : BitVec 3) (sc : BitVec 2) (sz : BitVec 3)
  /-- BCC (R356). Bcc branches by 2 × OFF when its condition holds. -/
  | bcc (core : BitVec 1) (c16 : Bool) (cond : BitVec 4) (off : BitVec 20)
  /-- JAL (R356). JAL writes the link and jumps by 2 × OFF. -/
  | jal (core : BitVec 1) (c16 : Bool) (rd : BitVec 5) (off : BitVec 20)
  /-- JALR (R356). JALR writes the link and jumps to ra + simm15 with bit 0 cleared. -/
  | jalr (core : BitVec 1) (c16 : Bool) (rd : BitVec 5) (ra : BitVec 5) (imm : BitVec 15)
  /-- LOOP (R358). LOOP opens a zero-overhead loop level with a count from ra, or skips to LE for 0. -/
  | loop (core : BitVec 1) (ra : BitVec 5) (endoff : BitVec 10)
  /-- LOOPI (R358). LOOPI opens a zero-overhead loop level with an immediate count. -/
  | loopi (core : BitVec 1) (count : BitVec 15) (endoff : BitVec 10)
  /-- LPOP (R362). LPOP decreases LOOPSTAT.DEPTH by 1. -/
  | lpop (core : BitVec 1) (c16 : Bool)
  /-- SWAP (R365). SWAP atomically reads a word into rd and writes rb to it. -/
  | swap (core : BitVec 1) (rd : BitVec 5) (ra : BitVec 5) (rb : BitVec 5)
  /-- CAS (R365). CAS atomically writes rb if the word equals rd and sets Z accordingly. -/
  | cas (core : BitVec 1) (rd : BitVec 5) (ra : BitVec 5) (rb : BitVec 5)
  /-- MFC (R368). MFC reads a control register into rd. -/
  | mfc (core : BitVec 1) (rd : BitVec 5) (ctl : BitVec 9)
  /-- MTC (R368). MTC writes a control register from ra. -/
  | mtc (core : BitVec 1) (ctl : BitVec 9) (ra : BitVec 5)
  /-- TRAP (R368). TRAP raises the TRAP exception with its code. -/
  | trap (core : BitVec 1) (code : BitVec 9)
  /-- BKPT (R368). BKPT raises the BKPT exception or enters debug halt. -/
  | bkpt (core : BitVec 1) (c16 : Bool) (code : BitVec 9)
  /-- RETI (R391). RETI unstacks the frame and returns, or tail-chains into a chainable level. -/
  | reti (core : BitVec 1)
  /-- WFI (R409). WFI waits until an acceptable level is presented or a debug halt is requested. -/
  | wfi (core : BitVec 1) (c16 : Bool)
  /-- SYNC (R368). SYNC completes when all earlier loads and stores have completed and the write buffer is empty. -/
  | sync (core : BitVec 1) (c16 : Bool)
  /-- CLEAN (R438). CLEAN writes back the line holding ra from whichever member holds it in M. -/
  | clean (core : BitVec 1) (ra : BitVec 5)
  /-- INVAL (R438). INVAL discards the executing core's data-cache copy of the line. -/
  | inval (core : BitVec 1) (ra : BitVec 5)
  /-- CLINV (R438). CLINV cleans and then invalidates the line. -/
  | clinv (core : BitVec 1) (ra : BitVec 5)
  /-- ICINV (R369). ICINV discards the instruction-cache line and later fetched instructions. -/
  | icinv (core : BitVec 1) (ra : BitVec 5)
  /-- STORE_BUS (R385). A bus error reported for a store that left the core is taken at the next instruction boundary. -/
  | storeBus (core : BitVec 1)
  /-- INTERRUPT_ENTRY (R389). At an instruction boundary the core accepts the highest acceptable level, stacks a frame and enters its handler. -/
  | interruptEntry (core : BitVec 1)
  /-- INTC_CLAIM (R400). A write to INTC_CLAIM takes a presented source into service or fails with SPURIOUS. -/
  | intcClaim (m : Master) (t : BitVec 2) (v : Word)
  /-- INTC_DONE (R402). A write to INTC_DONE ends a source's service or sets DONE_BAD. -/
  | intcDone (m : Master) (t : BitVec 2) (v : Word)
  /-- INTC_SWI_SET (R404). A write to INTC_SWI_SET sets a software-interrupt latch of a core. -/
  | intcSwiSet (m : Master) (v : Word)
  /-- INTC_SWI_CLR (R404). A write to INTC_SWI_CLR clears a software-interrupt latch. -/
  | intcSwiClr (m : Master) (v : Word)
  /-- TMR_EXPIRE (R407). A core's private timer reaches zero, sets EXP and reloads or stops. -/
  | tmrExpire (core : BitVec 1)
  /-- WDG_KICK (R408). A write of WDG_KICK with the key reloads the watchdog, and otherwise sets BADKICK. -/
  | wdgKick (core : BitVec 1) (v : Word)
  /-- WDG_WARNING (R408). The watchdog count reaches WDG_WARN and WARNED is set. -/
  | wdgWarning (core : BitVec 1)
  /-- WDG_EXPIRY (R408). The watchdog count reaches 0, resets its core and reports a SEVERE fault. -/
  | wdgExpiry (core : BitVec 1)
  /-- HALT_REQ (R410). A write of DBG_CTL.HALT_REQ requests a debug halt. -/
  | haltReq (m : Master) (core : BitVec 1) (v : Word)
  /-- DEBUG_HALT (R410). A core enters debug halt at an instruction boundary with its REASON. -/
  | debugHalt (core : BitVec 1)
  /-- RESUME (R411). A write of DBG_CTL.RESUME restarts a halted core, optionally for one step. -/
  | resume (m : Master) (core : BitVec 1) (v : Word)
  /-- CORE_RESET (R584). A core reset drains and cleans the core's caches, resets its registers and restarts or holds it. -/
  | coreReset (core : BitVec 1) (flash : Bool)
  /-- REGISTRY_READ (R427). A member's READ request obtains a line from memory or a holder and moves the states. -/
  | registryRead (x : Nat) (line : Nat) (r : Nat) (streaming : Bool)
  /-- REGISTRY_OWN (R427). A member's OWN request obtains the line in M and invalidates other copies. -/
  | registryOwn (x : Nat) (line : Nat)
  /-- REGISTRY_UPGRADE (R427). A member's UPGRADE turns its S copy into M and invalidates the others. -/
  | registryUpgrade (x : Nat) (line : Nat)
  /-- REGISTRY_WRITEBACK (R427). A member's WRITEBACK writes a line to memory, leaving it retiring until done. -/
  | registryWriteback (x : Nat) (line : Nat) (evict : Bool)
  /-- CONTESTED_GRANT (R429). When a retiring line retires or requests collide, waiting requests are granted in rotating order. -/
  | contestedGrant (line : Nat) (reqs : List (Nat × RegReq))
  /-- TENURE_END (R431). A granted line's 16-cycle tenure ends and waiting snoops may be served. -/
  | tenureEnd (line : Nat)
  /-- WRITE_BUFFER_LEAVE (R423). The oldest write-buffer entry leaves into the data cache or onto the interconnect. -/
  | writeBufferLeave (core : BitVec 1)
  /-- COHERENT_READ (R434). A coherent read looks up the Registry and write buffers and returns the newest data. -/
  | coherentRead (m : Master) (addr : Nat) (size : Nat)
  /-- COHERENT_WRITE (R435). A coherent write invalidates every member's copy and is made in memory. -/
  | coherentWrite (m : Master) (addr : Nat) (data : List Byte)
  /-- REGY_CLEAN_ALL (R439). REGY_COREn_OP OP 1 cleans every M line of a core's data cache. -/
  | regyCleanAll (m : Master) (core : BitVec 1)
  /-- REGY_INVAL_ALL (R439). REGY_COREn_OP OP 2 invalidates every line of a core's data cache. -/
  | regyInvalAll (m : Master) (core : BitVec 1)
  /-- REGY_CLINV_ALL (R439). REGY_COREn_OP OP 3 cleans and invalidates every line of a core's data cache. -/
  | regyClinvAll (m : Master) (core : BitVec 1)
  /-- REGY_ICACHE_INVAL (R439). REGY_COREn_OP OP 4 invalidates every line of a core's instruction cache. -/
  | regyIcacheInval (m : Master) (core : BitVec 1)
  /-- REGY_OP_COMPLETE (R439). A whole-cache operation finishes and BUSY clears. -/
  | regyOpComplete (core : BitVec 1)
  /-- REGY_CORE_CFG_WRITE (R441). A write of REGY_COREn_CFG enables caches, or first cleans and invalidates when clearing an enable. -/
  | regyCoreCfgWrite (m : Master) (core : BitVec 1) (v : Word)
  /-- WCC_RANGE_CLEAN (R440). WCC_OP OP 1 writes back recorded bytes of M lines in the range. -/
  | wccRangeClean (m : Master)
  /-- WCC_RANGE_INVAL (R440). WCC_OP OP 2 discards wave-cache lines in the range. -/
  | wccRangeInval (m : Master)
  /-- WCC_RANGE_CLINV (R440). WCC_OP OP 3 cleans and then discards wave-cache lines in the range. -/
  | wccRangeClinv (m : Master)
  /-- WCC_OP_COMPLETE (R440). A wave-cache range operation finishes and BUSY clears. -/
  | wccOpComplete
  /-- LOCK_TIMEOUT (R461). A locked sequence not finished within 16 cycles loses its lock. -/
  | lockTimeout
  /-- MEMORY_INIT_COMPLETE (R465). Hardware initialisation of SRAM, queue RAM and delay RAM finishes and SYS_BUS_INIT.DONE is set. -/
  | memoryInitComplete
  /-- XMC_CONFIG_WRITE (R470). A write to xSPI device or SDRAM configuration is stored or refused with CFG_REFUSED. -/
  | xmcConfigWrite (m : Master) (addr : Nat) (v : Word)
  /-- DS_TIMEOUT (R471). An xSPI read with no strobe edge within 64 clocks ends with CAUSE 7 and a RECOVERABLE fault. -/
  | dsTimeout (m : Master) (addr : Nat)
  /-- XSPI_SEQUENCE (R472). A write of XMC_XSPI_SEQ.GO starts a command sequence to an xSPI device, or is refused. -/
  | xspiSequence (m : Master) (v : Word)
  /-- XSPI_SEQUENCE_COMPLETE (R472). A sequence ends and DONE is set, or polling begins. -/
  | xspiSequenceComplete (data : List Byte)
  /-- XSPI_POLL (R473). Every 1 µs the controller reads device status until the busy bit clears. -/
  | xspiPoll (status : Byte)
  /-- SDR_INIT (R478). A write of XMC_SDR_CTL.INIT starts SDRAM initialisation. -/
  | sdrInit (m : Master) (v : Word)
  /-- SDR_INIT_COMPLETE (R478). SDRAM initialisation finishes and READY reads 1. -/
  | sdrInitComplete
  /-- SDR_REFRESH (R476). Every REFI clocks the controller issues an AUTO REFRESH between two lines. -/
  | sdrRefresh
  /-- DMA_START (R487). CHn_CTL.START begins a register-mode copy or a program, or halts with BAD_PROG on a reserved mode. -/
  | dmaStart (m : Master) (ch : BitVec 4)
  /-- DMA_DISABLE (R504). CHn_CTL.DISABLE makes the channel IDLE at once with no record or interrupt. -/
  | dmaDisable (m : Master) (ch : BitVec 4)
  /-- DMA_ABORT (R505). CHn_CTL.ABORT finishes buffered writes, writes an ABORT record and makes the channel IDLE. -/
  | dmaAbort (m : Master) (ch : BitVec 4)
  /-- DMA_COPY_COMPLETE (R489). A register-mode copy's last byte completes and the channel becomes IDLE with DONE. -/
  | dmaCopyComplete (ch : BitVec 4)
  /-- DMA_END (R501). END ends the program under R489. -/
  | dmaEnd (ch : BitVec 4)
  /-- DMA_MOVE (R492). MOVE copies COUNT bytes between the address registers, optionally locked. -/
  | dmaMove (ch : BitVec 4)
  /-- DMA_MOVE2D (R493). MOVE2D copies ROWS rows of WIDTH bytes with strides. -/
  | dmaMove2d (ch : BitVec 4)
  /-- DMA_LOOP (R495). LOOP opens a program loop level. -/
  | dmaLoop (ch : BitVec 4)
  /-- DMA_ENDLOOP (R495). ENDLOOP decrements the innermost count and loops or closes the level. -/
  | dmaEndloop (ch : BitVec 4)
  /-- WAIT_BLOCK (R496). WAIT BLOCK holds the program for N block ticks or until a block-in-frame. -/
  | waitBlock (ch : BitVec 4)
  /-- WAIT_ABSBLOCK (R496). WAIT ABSBLOCK holds the program until a named block, or completes at once with WAIT_LATE. -/
  | waitAbsblock (ch : BitVec 4)
  /-- WAIT_SAMPLE (R496). WAIT SAMPLE holds the program for N sample ticks. -/
  | waitSample (ch : BitVec 4)
  /-- WAIT_LINE (R496). WAIT LINE holds the program until the beam reaches a line. -/
  | waitLine (ch : BitVec 4)
  /-- WAIT_QUEUE (R496). WAIT QUEUE holds the program until a queue holds a record. -/
  | waitQueue (ch : BitVec 4)
  /-- WAIT_EVENT (R496). WAIT EVENT holds the program until an event flag is set. -/
  | waitEvent (ch : BitVec 4)
  /-- DMA_WAIT_COMPLETE (R498). A pending WAIT's condition is met and the prefetched next instruction issues. -/
  | dmaWaitComplete (ch : BitVec 4)
  /-- SIGNAL_INT (R499). SIGNAL INT writes CHn_SIGVAL and sets SIG. -/
  | signalInt (ch : BitVec 4)
  /-- SIGNAL_QUEUE (R499). SIGNAL QUEUE posts a SIGNAL record to a queue, setting SIG_LOST if refused. -/
  | signalQueue (ch : BitVec 4)
  /-- SIGNAL_EVENT (R499). SIGNAL EVENT sets an event flag. -/
  | signalEvent (ch : BitVec 4)
  /-- DMA_SET (R500). SET writes a 32-bit value to an address. -/
  | dmaSet (ch : BitVec 4)
  /-- DMA_BUS_ERROR (R507). A channel access that ends with a bus error backs off and retries or halts with BUS. -/
  | dmaBusError (ch : BitVec 4) (cause : BitVec 4)
  /-- DMA_BACKOFF_END (R507). A back-off wait ends and the failed burst is reissued. -/
  | dmaBackoffEnd (ch : BitVec 4)
  /-- DMA_EVT_SET (R501). A write to DMA_EVT_SET sets event flags. -/
  | dmaEvtSet (m : Master) (v : Word)
  /-- DMA_EVT_CLR (R501). A write to DMA_EVT_CLR clears event flags. -/
  | dmaEvtClr (m : Master) (v : Word)
  /-- HOST_LEN_FAULT (R515). A received LEN above 1,024 forms a BAD_LENGTH reply and returns the parser to hunting. -/
  | hostLenFault (ch : Nat) (tag : BitVec 8)
  /-- HOST_GAP_TIMEOUT (R515). A frame with no byte for GAP_MS ms is abandoned with GAP_TO set. -/
  | hostGapTimeout (ch : Nat)
  /-- HOST_NOP (R516). A NOP frame is answered at once with STATUS and no cache entry. -/
  | hostNop (ch : Nat) (tag : BitVec 8) (payload : List Byte) (crc : BitVec 16) (dur : Nat)
  /-- FETCH (R530). FETCH returns the cached reply for a TAG, or BUSY or NO_ENTRY. -/
  | fetch (ch : Nat) (tag : BitVec 8) (payload : List Byte) (crc : BitVec 16) (dur : Nat)
  /-- READ32 (R527). READ32 reads 1 to 256 words by master 8, incrementing or FIXED. -/
  | read32 (ch : Nat) (tag : BitVec 8) (payload : List Byte) (crc : BitVec 16) (dur : Nat)
  /-- WRITE32 (R527). WRITE32 writes words by master 8, stopping at the first bus error. -/
  | write32 (ch : Nat) (tag : BitVec 8) (payload : List Byte) (crc : BitVec 16) (dur : Nat)
  /-- READ_MEM (R527). READ_MEM reads 1 to 1,024 bytes by master 8. -/
  | readMem (ch : Nat) (tag : BitVec 8) (payload : List Byte) (crc : BitVec 16) (dur : Nat)
  /-- WRITE_MEM (R527). WRITE_MEM writes bytes by master 8. -/
  | writeMem (ch : Nat) (tag : BitVec 8) (payload : List Byte) (crc : BitVec 16) (dur : Nat)
  /-- HOST_CHARTER (R528). CHARTER writes the loader registers and CHT_CMD and replies with the loader's result. -/
  | hostCharter (ch : Nat) (tag : BitVec 8) (payload : List Byte) (crc : BitVec 16) (dur : Nat)
  /-- HOST_MODE (R529). MODE requests a major mode and replies when it takes effect or is refused. -/
  | hostMode (ch : Nat) (tag : BitVec 8) (payload : List Byte) (crc : BitVec 16) (dur : Nat)
  /-- HOST_RUN (R529). RUN makes a boot ROM waiting for a host boot jump to ENTRY, or is denied. -/
  | hostRun (ch : Nat) (tag : BitVec 8) (payload : List Byte) (crc : BitVec 16) (dur : Nat)
  /-- HOST_UNASSIGNED_OP (R526). A frame with an unassigned opcode below 0x80 is answered with BAD_OP. -/
  | hostUnassignedOp (ch : Nat) (op : BitVec 7) (tag : BitVec 8) (payload : List Byte) (crc : BitVec 16) (dur : Nat)
  /-- HOST_FORWARDED_REQUEST (R532). A request of OP 0x80 or above is copied to HOST_REQBUFc and posted as a HOST record. -/
  | hostForwardedRequest (ch : Nat) (op : BitVec 7) (tag : BitVec 8) (payload : List Byte) (crc : BitVec 16) (dur : Nat)
  /-- HOST_SW_REPLY (R533). The port takes a reply record from the reply queue and forms the pending request's reply, or discards it as stray. -/
  | hostSwReply
  /-- HOST_SW_TIMEOUT (R534). A forwarded request without reply for SW_TIMEOUT blocks is answered with SW_TIMEOUT. -/
  | hostSwTimeout (ch : Nat)
  /-- HOST_REPLY_READ (R517). A host read returns the next byte of the current reply, or filler 0xFF. -/
  | hostReplyRead (ch : Nat) (a0 : Bool)
  /-- HOST_ABANDON (R535). A parallel A0 = 1 write of 0xC3 abandons the frame and discards the current reply. -/
  | hostAbandon
  /-- CACHE_CLR (R520). A write of HOST_CTL.CACHE_CLR clears a channel's replay cache. -/
  | cacheClr (m : Master) (mask : BitVec 3)
  /-- TIM_START (R543). TIMn_CTL.START applies any pending group, loads the count and starts the timer. -/
  | timStart (m : Master) (n : BitVec 4)
  /-- TIM_STOP (R543). TIMn_CTL.STOP clears RUNNING and keeps the count. -/
  | timStop (m : Master) (n : BitVec 4)
  /-- TIM_ZERO (R542). A timer's count reaches its zero instant, sets EXP and reloads with any pending group or stops. -/
  | timZero (n : BitVec 4)
  /-- RTC_TICK (R547). At each Vault-clock edge the RTC fraction advances with trim and compensation and carries into the seconds. -/
  | rtcTick (temp : BitVec 16)
  /-- ALARM_FIRE (R555). An enabled alarm whose value the seconds reach by a carry sets ALMn, posts a record and wakes the device. -/
  | alarmFire (n : BitVec 1) (temp : BitVec 16)
  /-- RTC_WRITE_TAKES_EFFECT (R550). An RTC register write takes effect at the second Vault-clock edge after it, or is refused under R551. -/
  | rtcWriteTakesEffect (temp : BitVec 16)
  /-- RTC_COMMIT (R554). RTC_CTL.COMMIT checks the staged date and time and sets the count, or sets INVALID. -/
  | rtcCommit (m : Master) (v : Word)
  /-- RTC_WINDOW_READ (R552). A read of the RTC read window captures a shadow set and begins a freeze. -/
  | rtcWindowRead (m : Master) (addr : Nat)
  /-- RTC_CAL_STATUS_READ (R552). A read of RTC_CAL_STATUS returns its shadow and releases the freeze. -/
  | rtcCalStatusRead (m : Master)
  /-- RTC_FREEZE_TIMEOUT (R552). A freeze not released within 33 Vault-clock periods ends and sets STALE. -/
  | rtcFreezeTimeout (temp : BitVec 16)
  /-- RNG_RAW_SAMPLE (R556). Every 256 cycles the generator forms a raw bit and runs its health tests and conditioner. -/
  | rngRawSample (b : Bool)
  /-- RNG_GENERATE_BLOCK (R560). When the output queue has room the DRBG generates a block of four words. -/
  | rngGenerateBlock
  /-- RNG_OUT_READ (R563). A read of RNG_OUT removes and returns the oldest word, or 0 with UNDER. -/
  | rngOutRead (m : Master)
  /-- RESTART (R559). RNG_CTL.RESTART discards 4,096 raw bits and reinstantiates the generator. -/
  | restart (m : Master)
  /-- MODE_REQUEST_CONFIGURE (R568). A request of MODE 0 starts a two-block mute ramp toward CONFIGURE and withdraws the HUSH request. -/
  | modeRequestConfigure (m : Master) (key : BitVec 16)
  /-- CONFIGURE_ENTERED (R568). At the tick after the ramp the mode becomes CONFIGURE, voices end and chimes key off. -/
  | configureEntered
  /-- MODE_REQUEST_PERFORM (R567). A request of MODE 1 withdraws the HUSH request in PERFORM and is refused in CONFIGURE. -/
  | modeRequestPerform (m : Master) (key : BitVec 16)
  /-- MODE_REQUEST_HUSH (R569). A request of MODE 2 sets the standing HUSH request, or is refused in CONFIGURE. -/
  | modeRequestHush (m : Master) (key : BitVec 16)
  /-- MODE_REQUEST_VAULT (R578). A request of MODE 3 with the key starts the VAULT entry sequence. -/
  | modeRequestVault (m : Master) (key : BitVec 16)
  /-- HUSH_WAKE (R576). A waking event or scheduled wake ends the sleep sub-state. -/
  | hushWake
  /-- HUSH_CLOCKS_RESUME (R576). After the wake-up time the clocks run again and the mode becomes PERFORM with WOKE set. -/
  | hushClocksResume
  /-- VAULT_ENTRY (R578). After pending NVM work the Ledger records entry, SYS_VAULT_SLOT is set, pins idle and PWR_EN falls. -/
  | vaultEntry
  /-- VAULT_WAKE (R579). A debounced VWAKE edge or an alarm wakes the device from VAULT and raises PWR_EN. -/
  | vaultWake (n : BitVec 1) (rising : Bool)
  /-- VAULT_POWER_UP (R580). After VDD_CORE has stood in range for PWRUP ms a warm chip reset runs. -/
  | vaultPowerUp
  /-- POWER_ON_RESET (R582). VDD_CORE rising or VDD_VAULT first applied causes a chip reset with cause POR. -/
  | powerOnReset (vaultApplied : Bool)
  /-- RST_N_RESET (R652). RST_N held low for 1 µs or more causes a chip reset with cause PIN. -/
  | rstNReset (ns : Nat)
  /-- BROWN_OUT_RESET (R648). VDD_CORE below V_BOR causes a chip reset with cause BOR. -/
  | brownOutReset
  /-- VAULT_SUPPLY_RESET (R549). VDD_VAULT below V_VRST resets the Vault domain and holds the chip in reset. -/
  | vaultSupplyReset
  /-- CHIP (R582). SYS_RST_REQ.CHIP with the key requests a chip reset with cause SW_CHIP. -/
  | chip (m : Master) (key : BitVec 16)
  /-- CORE0 (R582). SYS_RST_REQ.CORE0 with the key resets Core 0. -/
  | core0 (m : Master) (key : BitVec 16)
  /-- CORE1 (R582). SYS_RST_REQ.CORE1 with the key resets Core 1. -/
  | core1 (m : Master) (key : BitVec 16)
  /-- RESET_SEQUENCE (R585). After a chip reset is released straps are sampled, PLLs lock, memory is initialised and Core 0 starts the boot ROM. -/
  | resetSequence (boot : BitVec 2) (pads : BitVec 96) (lowB : Bool) (lowC : Bool) (edges : Bool) (flash : Bool)
  /-- RESET_CLOCK_SOURCE_TRY (R586). If the audio PLL has not locked within 500 µs the sequencer switches to the other clock source. -/
  | resetClockSourceTry
  /-- C1_RUN (R587). Setting SYS_CORE_CTL.C1_RUN starts Core 1 at SYS_C1_ENTRY. -/
  | c1Run (m : Master)
  /-- BOOT_CONFIGURATION_PROGRAM (R593). SYS_NVM_PROG OP 1 in CONFIGURE erases and programs the boot configuration. -/
  | bootConfigurationProgram (m : Master)
  /-- OTP_PROGRAM (R593). SYS_NVM_PROG OP 2 in CONFIGURE programs bits of an OTP word. -/
  | otpProgram (m : Master) (w : BitVec 8)
  /-- NVM_PROG_COMPLETE (R593). A SYS_NVM_PROG operation finishes and RESULT is set. -/
  | nvmProgComplete (ok : Bool)
  /-- RING_OSCILLATOR_MEASURE (R596). At each hour the Ledger measures the core and fabric ring oscillators for L0 and L1. -/
  | ringOscillatorMeasure (c0 : BitVec 32) (c1 : BitVec 32)
  /-- DAILY_SAMPLE (R601). At each RTC midnight the Ledger samples every indicator, stores history and updates predictions. -/
  | dailySample (margin : Nat) (verified : Bool)
  /-- LEDGER_INDICATOR_RESET (R600). A write of LDG_CTL with the key resets the named resettable indicators and refuses the others. -/
  | ledgerIndicatorReset (m : Master) (v : Word)
  /-- FATAL_MUTE (R614). The first output block computed after a FATAL fault is ramped to silence and later blocks carry 0. -/
  | fatalMute
  /-- FLT_ACK (R613). A write of FLT_ACK with the key clears the latched fault record and held states. -/
  | fltAck (m : Master) (v : Word)
  /-- UNMUTE (R615). FLT_CTL.UNMUTE while FATAL_HELD is 0 ramps the outputs back up from the next block. -/
  | unmute (m : Master)
  /-- RELEASE (R616). FLT_CTL.RELEASE from the host or debug releases cores held after repeated FATAL faults. -/
  | release (m : Master) (debug : Bool)
  /-- FLT_INJECT (R610). A write of FLT_INJECT with the key reports fault code 0x1F in the written class. -/
  | fltInject (m : Master) (v : Word)
  /-- PIN_MUX_WRITE (R630). A write to PINp_MUX that changes FUNC runs a keeper-held changeover, or applies pad controls, or is refused. -/
  | pinMuxWrite (m : Master) (p : Nat) (v : Word)
  /-- PIN_MASK_WINDOW_END (R631). After one full filter window of the new source the pin's mask lifts and BUSY clears. -/
  | pinMaskWindowEnd (p : Nat) (level : Bool)
  /-- PIN_SET (R635). A write to PIN_SETx sets bits of PIN_OUTx. -/
  | pinSet (m : Master) (x : Nat) (v : Word)
  /-- PIN_CLR (R635). A write to PIN_CLRx clears bits of PIN_OUTx. -/
  | pinClr (m : Master) (x : Nat) (v : Word)
  /-- PIN_FILT_WRITE (R637). A write to PINp_FILT restarts the pin's filter and clears its edge interrupt bit. -/
  | pinFiltWrite (m : Master) (p : Nat) (v : Word) (level : Option Bool)
  /-- PIN_FILTER_ACCEPT (R637). A pin's filter accepts a new level, stamps it, sets edge interrupts and posts a PIN record. -/
  | pinFilterAccept (p : Nat) (age : Nat)
  /-- ILLEGAL_INSTRUCTION (R341). A core executes a halfword or word with an unassigned major opcode, function code or operand field, or a non-zero reserved field, such as erased or zeroed memory, and raises ILLEGAL. -/
  | illegalInstruction (core : BitVec 1)
  /-- DMA_BAD_PROG (R491). A DMA program fetch meets an operation code of 8 to 15, or a reserved code or field, and the channel halts with reason BAD_PROG and writes a status record. -/
  | dmaBadProg (ch : BitVec 4)
  /-- JTAG_ACCESS (R664). A JTAG debugger drives the TAP through JTAG_TCK and JTAG_TMS: a boundary-scan instruction such as EXTEST or IDCODE, or an access to the DBG window such as writing DCC_RX, which sets RX_FULL and requests source 10. -/
  | jtagAccess (op : JtagOp)
  deriving DecidableEq, Repr

end Sys2Proof
end

