-- ==== Sys2Proof/Decode.lean ====
section
/-! DEFINITION. Decode.lean: the command that a word of the opcode table spells. -/

namespace Sys2Proof

/-- The command that a word spells by the opcode table's bits: no row of the table gives its command bits, so no word spells
one. A command reaches the device with its operands. -/
def decodeTableWord (_nbits _w : Nat) : Option Instr := none

end Sys2Proof
end

