-- ==== Sys2Proof/Machine/Flags.lean ====
section
/-! DEFINITION. Machine/Flags.lean: the flags of the Quire status word and their computation (R338, R344, R345). -/

namespace Sys2Proof.Machine

/-- Bits of PSW. -/
def pswV : Nat := 0
def pswC : Nat := 1
def pswZ : Nat := 2
def pswN : Nat := 3
def pswQ : Nat := 4
def pswIE : Nat := 8
def pswHND : Nat := 11

/-- Write one bit of a word. -/
def setBitTo (w : Word) (i : Nat) (b : Bool) : Word :=
  if b then w ||| BitVec.ofNat 32 (2 ^ i) else w &&& ~~~ BitVec.ofNat 32 (2 ^ i)

/-- The four arithmetic flags. -/
structure Nzcv where
  n : Bool
  z : Bool
  c : Bool
  v : Bool
  deriving DecidableEq, Repr

/-- Bit 31 of a word. -/
def signBit (w : Word) : Bool := w.getLsbD 31

/-- ra + rb + cin with its flags (R345). -/
def addFlags (a b : Word) (cin : Bool) : Word × Nzcv :=
  let exact := a.toNat + b.toNat + cin.toNat
  let r := BitVec.ofNat 32 exact
  (r, { n := signBit r, z := r == 0, c := decide (2 ^ 32 ≤ exact),
        v := signBit a == signBit b && signBit r != signBit a })

/-- ra − rb − (1 − cin) with its flags (R345): C is 1 when no borrow occurs. -/
def subFlags (a b : Word) (cin : Bool) : Word × Nzcv :=
  let take := b.toNat + (!cin).toNat
  let r := BitVec.ofNat 32 (a.toNat + 2 ^ 33 - take)
  (r, { n := signBit r, z := r == 0, c := decide (take ≤ a.toNat),
        v := signBit a != signBit b && signBit r != signBit a })

/-- N and Z of a result. -/
def withNZ (psw r : Word) : Word := setBitTo (setBitTo psw pswN (signBit r)) pswZ (r == 0)

/-- N, Z and C. -/
def withNZC (psw r : Word) (c : Bool) : Word := setBitTo (withNZ psw r) pswC c

/-- N, Z and V. -/
def withNZV (psw r : Word) (v : Bool) : Word := setBitTo (withNZ psw r) pswV v

/-- All four. -/
def withNzcv (psw : Word) (f : Nzcv) : Word :=
  setBitTo (setBitTo (setBitTo (setBitTo psw pswN f.n) pswZ f.z) pswC f.c) pswV f.v

/-- The last bit shifted out to the left by n, C where n = 0 (R345). -/
def sllCarry (a : Word) (n : Nat) (c : Bool) : Bool := if n = 0 then c else a.getLsbD (32 - n)

/-- The last bit shifted out to the right by n, C where n = 0 (R345). -/
def srCarry (a : Word) (n : Nat) (c : Bool) : Bool := if n = 0 then c else a.getLsbD (n - 1)

/-- The conditions of R357; COND 15 holds never (it raises ILLEGAL). -/
def condHolds (psw : Word) (cond : Nat) : Bool :=
  let n := psw.getLsbD pswN
  let z := psw.getLsbD pswZ
  let c := psw.getLsbD pswC
  let v := psw.getLsbD pswV
  match cond with
  | 0 => true
  | 1 => z
  | 2 => !z
  | 3 => n != v
  | 4 => n == v
  | 5 => z || n != v
  | 6 => !z && n == v
  | 7 => !c
  | 8 => c
  | 9 => !c || z
  | 10 => c && !z
  | 11 => n
  | 12 => !n
  | 13 => v
  | 14 => !v
  | _ => false

/-- Clamp to a signed range of `n` bits, with whether the clamp changed the value (R338). -/
def satS (n : Nat) (x : Int) : Int × Bool :=
  if x < -(2 ^ (n - 1)) then (-(2 ^ (n - 1)), true)
  else if (2 : Int) ^ (n - 1) - 1 < x then (2 ^ (n - 1) - 1, true) else (x, false)

/-- Clamp to 0 … 2^n − 1 (R349). -/
def satU (n : Nat) (x : Int) : Int × Bool :=
  if x < 0 then (0, true) else if (2 : Int) ^ n - 1 < x then (2 ^ n - 1, true) else (x, false)

/-- round(x >> s) of R339. -/
def roundShift (x : Int) (s : Nat) : Int := if s = 0 then x else (x + 2 ^ (s - 1)) / 2 ^ s

end Sys2Proof.Machine
end

