-- ==== Sys2Proof/Machine/Crypto.lean ====
section
/-! DEFINITION. Machine/Crypto.lean: the check and cipher functions the chapters name: CRC-32 (R54), the CRC of the
desk protocol (R513), SHA-256 and HMAC (R63), AES-128 (R558, R560). -/

namespace Sys2Proof.Machine

/-- One bit of the reflected CRC-32 with polynomial 0x04C1_1DB7 (R54). -/
def crc32Bit (r : BitVec 32) : BitVec 32 := if r.getLsbD 0 then (r >>> 1) ^^^ 0xEDB88320 else r >>> 1

/-- Eight bits of it. -/
def crc32Byte (r : BitVec 32) (b : Byte) : BitVec 32 :=
  crc32Bit (crc32Bit (crc32Bit (crc32Bit (crc32Bit (crc32Bit (crc32Bit (crc32Bit (r ^^^ b.setWidth 32))))))))

/-- CRC-32 of a string of bytes (R54). -/
def crc32 (bs : List Byte) : BitVec 32 := ~~~ bs.foldl crc32Byte 0xFFFFFFFF

/-- One bit of a CRC-16 with polynomial 0x1021, not reflected. -/
def crc16Bit (r : BitVec 16) : BitVec 16 := if r.getLsbD 15 then (r <<< 1) ^^^ 0x1021 else r <<< 1

/-- Eight bits of it. -/
def crc16Byte (r : BitVec 16) (b : Byte) : BitVec 16 :=
  crc16Bit (crc16Bit (crc16Bit (crc16Bit (crc16Bit (crc16Bit (crc16Bit (crc16Bit (r ^^^ (b.setWidth 16 <<< 8)))))))))

/-- CRC-16 with polynomial 0x1021 and initial value 0xFFFF. -/
def crc16 (bs : List Byte) : BitVec 16 := bs.foldl crc16Byte 0xFFFF

/-! ### SHA-256 and HMAC -/

/-- The round constants. -/
def shaK : List Word :=
  [0x428a2f98, 0x71374491, 0xb5c0fbcf, 0xe9b5dba5, 0x3956c25b, 0x59f111f1, 0x923f82a4, 0xab1c5ed5,
   0xd807aa98, 0x12835b01, 0x243185be, 0x550c7dc3, 0x72be5d74, 0x80deb1fe, 0x9bdc06a7, 0xc19bf174,
   0xe49b69c1, 0xefbe4786, 0x0fc19dc6, 0x240ca1cc, 0x2de92c6f, 0x4a7484aa, 0x5cb0a9dc, 0x76f988da,
   0x983e5152, 0xa831c66d, 0xb00327c8, 0xbf597fc7, 0xc6e00bf3, 0xd5a79147, 0x06ca6351, 0x14292967,
   0x27b70a85, 0x2e1b2138, 0x4d2c6dfc, 0x53380d13, 0x650a7354, 0x766a0abb, 0x81c2c92e, 0x92722c85,
   0xa2bfe8a1, 0xa81a664b, 0xc24b8b70, 0xc76c51a3, 0xd192e819, 0xd6990624, 0xf40e3585, 0x106aa070,
   0x19a4c116, 0x1e376c08, 0x2748774c, 0x34b0bcb5, 0x391c0cb3, 0x4ed8aa4a, 0x5b9cca4f, 0x682e6ff3,
   0x748f82ee, 0x78a5636f, 0x84c87814, 0x8cc70208, 0x90befffa, 0xa4506ceb, 0xbef9a3f7, 0xc67178f2]

/-- The initial state. -/
def shaH0 : List Word :=
  [0x6a09e667, 0xbb67ae85, 0x3c6ef372, 0xa54ff53a, 0x510e527f, 0x9b05688c, 0x1f83d9ab, 0x5be0cd19]

/-- The message schedule's next word from the last 16, newest first. -/
def shaSched (w : List Word) : Word :=
  let s0 := fun (x : Word) => x.rotateRight 7 ^^^ x.rotateRight 18 ^^^ x >>> 3
  let s1 := fun (x : Word) => x.rotateRight 17 ^^^ x.rotateRight 19 ^^^ x >>> 10
  s1 (w.getD 1 0) + w.getD 6 0 + s0 (w.getD 14 0) + w.getD 15 0

/-- `n` more words of the schedule, newest first. -/
def shaExtend : Nat → List Word → List Word
  | 0, w => w
  | n + 1, w => shaExtend n (shaSched w :: w)

/-- One round on the eight working words. -/
def shaRound (st : List Word) (kw : Word) : List Word :=
  match st with
  | [a, b, c, d, e, f, g, h] =>
    let t1 := h + (e.rotateRight 6 ^^^ e.rotateRight 11 ^^^ e.rotateRight 25) + ((e &&& f) ^^^ (~~~ e &&& g)) + kw
    let t2 := (a.rotateRight 2 ^^^ a.rotateRight 13 ^^^ a.rotateRight 22) + ((a &&& b) ^^^ (a &&& c) ^^^ (b &&& c))
    [t1 + t2, a, b, c, d + t1, e, f, g]
  | _ => st

/-- Four bytes as a big-endian word. -/
def be32 (bs : List Byte) : Word := bs.foldl (fun acc b => (acc <<< 8) ||| b.setWidth 32) 0

/-- A list in pieces of `k`, at most `fuel` of them. -/
def chunks {α : Type} (k : Nat) : Nat → List α → List (List α)
  | 0, _ => []
  | fuel + 1, l => if l.isEmpty then [] else l.take k :: chunks k fuel (l.drop k)

/-- One block of 64 bytes. -/
def shaBlock (h : List Word) (blk : List Byte) : List Word :=
  let w := (shaExtend 48 ((chunks 4 16 blk).map be32).reverse).reverse
  let st := (List.zipWith (· + ·) shaK w).foldl shaRound h
  List.zipWith (· + ·) h st

/-- The padding of a message of `n` bytes. -/
def shaPad (n : Nat) : List Byte :=
  0x80 :: (List.replicate ((119 - n % 64) % 64) 0
    ++ ((List.range 8).map (fun i => BitVec.ofNat 8 (8 * n / 256 ^ (7 - i)))))

/-- SHA-256 of a string of bytes. -/
def sha256 (bs : List Byte) : List Byte :=
  let m := bs ++ shaPad bs.length
  let h := (chunks 64 (m.length / 64) m).foldl shaBlock shaH0
  h.flatMap (fun w => [w.extractLsb' 24 8, w.extractLsb' 16 8, w.extractLsb' 8 8, w.extractLsb' 0 8])

/-- HMAC-SHA-256 with a key of at most 64 bytes (R63). -/
def hmac256 (key msg : List Byte) : List Byte :=
  let k := key ++ List.replicate (64 - key.length) 0
  sha256 (k.map (· ^^^ 0x5C) ++ sha256 (k.map (· ^^^ 0x36) ++ msg))

/-! ### AES-128 -/

/-- Multiplication by x in the field of AES. -/
def xtime (a : Byte) : Byte := if a.getLsbD 7 then (a <<< 1) ^^^ 0x1B else a <<< 1

/-- Multiplication in the field of AES, over the low `n` bits of `b`. -/
def gmulN : Nat → Byte → Byte → Byte
  | 0, _, _ => 0
  | n + 1, a, b => (if b.getLsbD 0 then a else 0) ^^^ gmulN n (xtime a) (b >>> 1)

/-- Multiplication in the field of AES. -/
def gmul (a b : Byte) : Byte := gmulN 8 a b

/-- The field's inverse, 0 for 0: the 254th power. -/
def ginv (a : Byte) : Byte :=
  let a2 := gmul a a
  let a4 := gmul a2 a2
  let a8 := gmul a4 a4
  let a16 := gmul a8 a8
  let a32 := gmul a16 a16
  let a64 := gmul a32 a32
  let a128 := gmul a64 a64
  gmul a2 (gmul a4 (gmul a8 (gmul a16 (gmul a32 (gmul a64 a128)))))

/-- The S-box. -/
def sbox (a : Byte) : Byte :=
  let i := ginv a
  i ^^^ i.rotateLeft 1 ^^^ i.rotateLeft 2 ^^^ i.rotateLeft 3 ^^^ i.rotateLeft 4 ^^^ 0x63

/-- The next round key from the last, with its round constant. -/
def aesNextKey (k : List Byte) (rc : Byte) : List Byte :=
  let g := fun i => k.getD i 0
  let t := [sbox (g 13) ^^^ rc, sbox (g 14), sbox (g 15), sbox (g 12)]
  let c0 := List.zipWith (· ^^^ ·) (k.take 4) t
  let c1 := List.zipWith (· ^^^ ·) ((k.drop 4).take 4) c0
  let c2 := List.zipWith (· ^^^ ·) ((k.drop 8).take 4) c1
  let c3 := List.zipWith (· ^^^ ·) ((k.drop 12).take 4) c2
  c0 ++ c1 ++ c2 ++ c3

/-- ShiftRows on the sixteen bytes, column by column. -/
def aesShiftRows (s : List Byte) : List Byte :=
  (List.range 16).map (fun i => s.getD ((i + 4 * (i % 4)) % 16) 0)

/-- MixColumns. -/
def aesMixColumns (s : List Byte) : List Byte :=
  (List.range 16).map (fun i =>
    let c := i / 4 * 4
    let a := fun j => s.getD (c + (i + j) % 4) 0
    gmul 2 (a 0) ^^^ gmul 3 (a 1) ^^^ a 2 ^^^ a 3)

/-- The rounds from the second to the last; the round constant runs along. -/
def aesRounds : Nat → Byte → List Byte → List Byte → List Byte
  | 0, _, _, s => s
  | n + 1, rc, k, s =>
    let k' := aesNextKey k rc
    let t := aesShiftRows (s.map sbox)
    let t := if n = 0 then t else aesMixColumns t
    aesRounds n (xtime rc) k' (List.zipWith (· ^^^ ·) t k')

/-- AES-128 encryption of one block. -/
def aes128 (key blk : List Byte) : List Byte := aesRounds 10 1 key (List.zipWith (· ^^^ ·) blk key)

end Sys2Proof.Machine
end

