-- ==== Sys2Proof/Config.lean ====
section
/-! DEFINITION. Config.lean: the free values. A value that the spec leaves open is one of these constants applied
to the model's own counter (and to what it depends on). None has a body, so no proof can rest on one. -/

namespace Sys2Proof.Config

/-- A 32-bit word the spec leaves open, one for each value of the model's counter (log entry 2). -/
opaque freeWord : Nat → BitVec 32

/-- A choice between two outcomes the spec allows and does not choose between (log entry 2). -/
opaque freeBool : Nat → Bool

/-- A number the spec leaves open; the caller reduces it to the range the spec gives (log entry 2). -/
opaque freeNat : Nat → Nat

/-- The bytes of the boot ROM, which the spec does not list (log entry 2). -/
opaque romByte : Nat → BitVec 8

/-- Whether an inexact quotient `num / den` is rounded up, where the spec states the quantity and not its rounding
(log entry 3). -/
opaque roundsUp : Int → Nat → Bool

/-- A signed sample the spec defines only up to the precision of an arithmetic it does not state, as a function of
the operands the arithmetic reads (log entry 3). -/
opaque openSample : Nat → Int → Int → Int

/-- Whether the constants a1, a2 and a3 of R145 come from the rounded g and k (log entry 12). -/
opaque filterRounded : Bool

end Sys2Proof.Config
end

