-- ==== Sys2Proof/Machine/RegTable.lean ====
section
/-! DEFINITION. Machine/RegTable.lean: the register tables of the chapters, one row a register: its address, its
arrays (stride and count), its reset word and, by access code (R16), the bits of its fields. A bit in no mask is
reserved (R13). A reset value that the tables give by a rule of its own (a strap, a per-index value, a value of the
reset queue map) stands in Machine/Ops.lean. -/

namespace Sys2Proof.Machine

/-- One register, or one array of registers, of a register table. -/
structure RegSpec where
  /-- the manual's name -/
  name : String
  /-- address of the first -/
  base : Nat
  /-- the array's strides and counts, the widest first -/
  dims : List (Nat × Nat) := []
  /-- value after power-on reset (R15) -/
  reset : Nat := 0
  ro : Nat := 0
  rw : Nat := 0
  wo : Nat := 0
  w1c : Nat := 0
  w1s : Nat := 0
  rc : Nat := 0
  rwa : Nat := 0
  deriving DecidableEq, Repr

/-- Registers of the Sys window, part 1 (00_scope.md, 01_metronome.md, 13_interconnect_and_memory.md, 17_modes_power_reset.md). -/
def regsSys1 : List RegSpec := [
  { name := "SYS_ID", base := 0x60000000, reset := 0x4f4d4c37, ro := 0xffffffff },
  { name := "SYS_PROFILE", base := 0x60000004, reset := 0x10000, ro := 0xffffffff },
  { name := "SYS_REV", base := 0x60000008, reset := 0x41, ro := 0xff },
  { name := "SYS_FEAT0", base := 0x60000010, reset := 0x4108100, ro := 0xf1ff1ff },
  { name := "SYS_FEAT1", base := 0x60000014, reset := 0x402f444c, ro := 0xff3fffff },
  { name := "SYS_PROFILE_LOCK", base := 0x60000020, reset := 0x10000, rw := 0xffffffff },
  { name := "SYS_CLK_CFG", base := 0x60000040, rw := 0x3 },
  { name := "SYS_CLK_STAT", base := 0x60000044, ro := 0x1f, w1c := 0x300 },
  { name := "SYS_CLK_MEAS", base := 0x60000048, ro := 0x1ffff },
  { name := "SYS_MODE", base := 0x60000080, ro := 0x80000303 },
  { name := "SYS_MODE_REQ", base := 0x60000084, wo := 0xffff0003 },
  { name := "SYS_PWR_CFG", base := 0x60000088, reset := 0x3, rw := 0x13 },
  { name := "SYS_PWR_STAT", base := 0x6000008c, ro := 0x1ff, w1c := 0x10000 },
  { name := "SYS_PWR_HORIZON", base := 0x60000090, ro := 0xffffffff },
  { name := "SYS_MODE_EVT", base := 0x60000094, w1c := 0xf },
  { name := "SYS_MODE_EVT_EN", base := 0x60000098, rw := 0xf },
  { name := "SYS_NAPS", base := 0x600000a0, rc := 0xffffffff },
  { name := "SYS_DOZES", base := 0x600000a4, rc := 0xffffffff },
  { name := "SYS_DROWSES", base := 0x600000a8, rc := 0xffffffff },
  { name := "SYS_RST_CAUSE", base := 0x600000b0, reset := 0x1, w1c := 0x1f1f }]

/-- Registers of the Sys window, part 2 (00_scope.md, 01_metronome.md, 13_interconnect_and_memory.md, 17_modes_power_reset.md). -/
def regsSys2 : List RegSpec := [
  { name := "SYS_RST_REQ", base := 0x600000b4, wo := 0xffff0007 },
  { name := "SYS_CORE_CTL", base := 0x600000b8, rw := 0x3 },
  { name := "SYS_C0_ENTRY", base := 0x600000bc, rw := 0xfffffffe },
  { name := "SYS_C1_ENTRY", base := 0x600000c0, rw := 0xfffffffe },
  { name := "SYS_BOOT_STAT", base := 0x600000c4, ro := 0xc03300ff },
  { name := "SYS_STRAPS", base := 0x600000c8, ro := 0xf },
  { name := "SYS_NVM_PROG", base := 0x600000d0, ro := 0x80ff0000, wo := 0xff3 },
  { name := "SYS_VAULT_CFG", base := 0x60000100, reset := 0xa000000, rw := 0xff000133 },
  { name := "SYS_VAULT_STAT", base := 0x60000104, w1c := 0x7 },
  { name := "SYS_VAULT_SLOT", base := 0x60000108, ro := 0x3 },
  { name := "SYS_VAULT_SCRATCHn", base := 0x60000120, dims := [(0x4, 8)], rw := 0xffffffff },
  { name := "SYS_BUS_ERR_ADDR", base := 0x60000200, ro := 0xffffffff },
  { name := "SYS_BUS_ERR_INFO", base := 0x60000204, ro := 0xf0f0f01, w1c := 0x80000000 },
  { name := "SYS_BUS_ERR_COUNT", base := 0x60000208, rc := 0xffffffff },
  { name := "SYS_ECC_CORR", base := 0x60000210, rc := 0xffffffff },
  { name := "SYS_ECC_UNCORR", base := 0x60000214, rc := 0xffffffff },
  { name := "SYS_ECC_LAST", base := 0x60000218, ro := 0xffffffff },
  { name := "SYS_BUS_INIT", base := 0x60000220, ro := 0x1 },
  { name := "SYS_BUS_WAITt", base := 0x60000240, dims := [(0x4, 9)], rc := 0xffff },
  { name := "SYS_WHEELi_w", base := 0x60000400, dims := [(0x40, 5), (0x4, 16)], reset := 0xffffffff, ro := 0xffffffff }]

/-- Registers of the Sys window, part 3 (00_scope.md, 01_metronome.md, 13_interconnect_and_memory.md, 17_modes_power_reset.md). -/
def regsSys3 : List RegSpec := [
  { name := "SYS_BOOTCFG_BUFw", base := 0x60000600, dims := [(0x4, 16)], rw := 0xffffffff }]

/-- Registers of the Sys window. -/
def regsSys : List RegSpec := regsSys1 ++ regsSys2 ++ regsSys3

/-- Registers of the Met window (01_metronome.md). -/
def regsMet : List RegSpec := [
  { name := "MET_COUNT_LO", base := 0x60010000, ro := 0xffffffff },
  { name := "MET_COUNT_HI", base := 0x60010004, ro := 0xffff },
  { name := "MET_EPOCH", base := 0x60010008, ro := 0xffffffff },
  { name := "MET_BLOCK", base := 0x6001000c, ro := 0xffffffff },
  { name := "MET_POS", base := 0x60010010, ro := 0x1ffffff },
  { name := "MET_FRAME", base := 0x60010014, ro := 0xffffffff },
  { name := "MET_TICK_CFG", base := 0x60010020, reset := 0x111, ro := 0x1f73 },
  { name := "MET_FRAME_CFG", base := 0x60010024, reset := 0x640320, ro := 0x1ff07ff },
  { name := "MET_STAT", base := 0x60010028, ro := 0x4, w1c := 0x1b }]

/-- Registers of the Cht window (02_charter.md). -/
def regsCht : List RegSpec := [
  { name := "CHT_CMD", base := 0x60020000, wo := 0x33f },
  { name := "CHT_SRC_ADDR", base := 0x60020004, rw := 0xfffffffc },
  { name := "CHT_STATE", base := 0x60020008, ro := 0x7ff, w1c := 0x800 },
  { name := "CHT_RESULT", base := 0x6002000c, ro := 0xffffffff },
  { name := "CHT_SWAP_BLOCK", base := 0x60020010, rw := 0xffffffff },
  { name := "CHT_XFADE", base := 0x60020014, rw := 0x7f },
  { name := "CHT_LIVE_SERIAL", base := 0x60020018, ro := 0xffffffff },
  { name := "CHT_CAND_SERIAL", base := 0x6002001c, ro := 0xffffffff },
  { name := "CHT_CALC_STK", base := 0x60020020, ro := 0xffffffff },
  { name := "CHT_CALC_FX", base := 0x60020024, ro := 0xffffffff },
  { name := "CHT_CALC_INTAKE", base := 0x60020028, ro := 0xffffffff },
  { name := "CHT_INT", base := 0x60020030, w1c := 0x1f },
  { name := "CHT_INT_EN", base := 0x60020034, rw := 0x1f }]

/-- Registers of the Que window, part 1 (03_queues_and_events.md). -/
def regsQue1 : List RegSpec := [
  { name := "QUE_UNROUTED", base := 0x60030000, rc := 0xffffffff },
  { name := "QUE_SKID_LOSS", base := 0x60030004, rc := 0xffffffff },
  { name := "QUE_ALLOC_LAST", base := 0x60030010, ro := 0xffffffff },
  { name := "QUE_ALLOC_PEAK", base := 0x60030014, rc := 0xffff },
  { name := "QUE_LATE_PLAYED", base := 0x60030018, rc := 0xffffffff },
  { name := "QUE_LATE_DISCARDED", base := 0x6003001c, rc := 0xffffffff },
  { name := "QUE_INT_SUM0", base := 0x60030020, ro := 0xffffffff },
  { name := "QUE_INT_SUM1", base := 0x60030024, ro := 0xffffffff },
  { name := "QUEn_CFG", base := 0x60031000, dims := [(0x80, 64)], ro := 0xffff0103 },
  { name := "QUEn_GEOM", base := 0x60031004, dims := [(0x80, 64)], ro := 0x7fff3fff },
  { name := "QUEn_WM", base := 0x60031008, dims := [(0x80, 64)], ro := 0xffffffff },
  { name := "QUEn_FILL", base := 0x6003100c, dims := [(0x80, 64)], ro := 0x7fff },
  { name := "QUEn_PEAK", base := 0x60031010, dims := [(0x80, 64)], rc := 0x7fff },
  { name := "QUEn_DROPS", base := 0x60031014, dims := [(0x80, 64)], rc := 0xffffffff },
  { name := "QUEn_LATES", base := 0x60031018, dims := [(0x80, 64)], rc := 0xffffffff },
  { name := "QUEn_COALESCED", base := 0x6003101c, dims := [(0x80, 64)], rc := 0xffffffff },
  { name := "QUEn_STAT", base := 0x60031020, dims := [(0x80, 64)], w1c := 0xff },
  { name := "QUEn_INT_EN", base := 0x60031024, dims := [(0x80, 64)], rw := 0xff },
  { name := "QUEn_PUSH1", base := 0x60031040, dims := [(0x80, 64)], wo := 0xffffffff },
  { name := "QUEn_PUSH2", base := 0x60031044, dims := [(0x80, 64)], wo := 0xffffffff }]

/-- Registers of the Que window, part 2 (03_queues_and_events.md). -/
def regsQue2 : List RegSpec := [
  { name := "QUEn_PUSH3", base := 0x60031048, dims := [(0x80, 64)], wo := 0xffffffff },
  { name := "QUEn_PUSH", base := 0x6003104c, dims := [(0x80, 64)], wo := 0xffffffff },
  { name := "QUEn_PUSH_T", base := 0x60031050, dims := [(0x80, 64)], wo := 0xffffffff },
  { name := "QUEn_POP", base := 0x60031060, dims := [(0x80, 64)], ro := 0xffffffff },
  { name := "QUEn_POP1", base := 0x60031064, dims := [(0x80, 64)], ro := 0xffffffff },
  { name := "QUEn_POP2", base := 0x60031068, dims := [(0x80, 64)], ro := 0xffffffff },
  { name := "QUEn_POP3", base := 0x6003106c, dims := [(0x80, 64)], ro := 0xffffffff },
  { name := "QUEn_PEEK", base := 0x60031070, dims := [(0x80, 64)], ro := 0xffffffff }]

/-- Registers of the Que window. -/
def regsQue : List RegSpec := regsQue1 ++ regsQue2

/-- Registers of the Stk window (04_voices.md). -/
def regsStk : List RegSpec := [
  { name := "STK_CFG", base := 0x60040000, reset := 0x7, rw := 0x107 },
  { name := "STK_VCMD", base := 0x60040004, wo := 0xff03 },
  { name := "STK_STAT", base := 0x60040008, w1c := 0x7f },
  { name := "STK_CHIME_CFG", base := 0x6004000c, rw := 0x3 },
  { name := "STK_STARTS", base := 0x60040010, rc := 0xffffffff },
  { name := "STK_STEALS", base := 0x60040014, rc := 0xffffffff },
  { name := "STK_UNPLAYED", base := 0x60040018, rc := 0xffffffff },
  { name := "STK_DEFERRED", base := 0x6004001c, rc := 0xffffffff },
  { name := "STK_MERGED", base := 0x60040020, rc := 0xffffffff },
  { name := "STK_IGNORED", base := 0x60040024, rc := 0xffffffff },
  { name := "STK_ACTIVEm", base := 0x60040040, dims := [(0x4, 8)], ro := 0xffffffff },
  { name := "STK_LANEl_PEAK", base := 0x60040060, dims := [(0x4, 8)], rc := 0xffffffff },
  { name := "STK_SHAPEi_w", base := 0x60048000, dims := [(32, 256), (4, 8)], rw := 0xffffffff },
  { name := "STK_PATCHi_w", base := 0x6004a000, dims := [(64, 128), (4, 16)], rw := 0xffffffff },
  { name := "STK_ZONEi_w", base := 0x6004c000, dims := [(16, 128), (4, 4)], rw := 0xffffffff },
  { name := "STK_PARTi_w", base := 0x6004c800, dims := [(16, 16), (4, 4)], rw := 0xffffffff }]

/-- Registers of the Fx window (05_effects_and_audio_ports.md). -/
def regsFx : List RegSpec := [
  { name := "FX_STAT", base := 0x60050000, w1c := 0x3 },
  { name := "FX_SILENCE", base := 0x60050004, ro := 0x8000ffff },
  { name := "FX_SILENCE_TH", base := 0x60050008, ro := 0xffffffff },
  { name := "FX_PEAK", base := 0x6005000c, rc := 0xffffffff },
  { name := "FXu_Pi", base := 0x60051000, dims := [(0x40, 12), (0x4, 7)], rwa := 0xffffffff },
  { name := "FXu_CTL", base := 0x6005101c, dims := [(0x40, 12)], rwa := 0x3 },
  { name := "FXu_STAT", base := 0x60051020, dims := [(0x40, 12)], w1c := 0x3 },
  { name := "FXu_METER", base := 0x60051024, dims := [(0x40, 12)], rc := 0x7fffffff },
  { name := "FXu_KIND", base := 0x60051028, dims := [(0x40, 12)], ro := 0xf }]

/-- Registers of the Sap window (05_effects_and_audio_ports.md). -/
def regsSap : List RegSpec := [
  { name := "SAPn_CFG", base := 0x60060000, dims := [(0x100, 4)], ro := 0x3f1f73 },
  { name := "SAPn_MAP", base := 0x60060004, dims := [(0x100, 4)], ro := 0x3f1f },
  { name := "SAPn_STAT", base := 0x60060008, dims := [(0x100, 4)], ro := 0x9, w1c := 0x12 },
  { name := "SAPn_PHASE", base := 0x6006000c, dims := [(0x100, 4)], ro := 0x3ff03ff },
  { name := "SAPn_FAULTS", base := 0x60060010, dims := [(0x100, 4)], rc := 0xffffffff },
  { name := "SAPn_INT_EN", base := 0x60060014, dims := [(0x100, 4)], rw := 0x1f },
  { name := "SPDIF_CS", base := 0x60060800, rw := 0xfff01 },
  { name := "SPDIF_STAT", base := 0x60060804, ro := 0x1, w1c := 0x2 },
  { name := "SPDIF_INT_EN", base := 0x60060808, rw := 0x3 }]

/-- Registers of the Key window (06_keys_and_controls.md). -/
def regsKey : List RegSpec := [
  { name := "KEY_CFG", base := 0x60070000, rw := 0xfcffff0f },
  { name := "KEY_MAP", base := 0x60070004, reset := 0x80000000, rw := 0xffff01ff },
  { name := "KEY_SCAN", base := 0x60070008, reset := 0x10, rw := 0xf3f },
  { name := "KEY_DEB", base := 0x6007000c, reset := 0x18, rw := 0xff },
  { name := "KEY_VEL", base := 0x60070010, reset := 0xe0, rw := 0x1ff },
  { name := "KEY_LAST", base := 0x60070014, ro := 0xffffffff },
  { name := "KEY_BOUNCE_OVR", base := 0x60070018, rc := 0xffffffff },
  { name := "KEY_STAT", base := 0x60070020, ro := 0x8, w1c := 0x17 },
  { name := "KEY_INT_EN", base := 0x60070024, rw := 0x1f },
  { name := "KEY_SWCCn", base := 0x60070030, dims := [(0x4, 4)], rw := 0x80ff017f },
  { name := "KEY_LEVELm", base := 0x60070040, dims := [(0x4, 8)], ro := 0xffffffff },
  { name := "KEY_BTOPi", base := 0x60070060, dims := [(0x4, 8)], ro := 0x80ffffff },
  { name := "KEY_VEL_TABLEi", base := 0x60070100, dims := [(0x4, 33)], rw := 0xffff },
  { name := "KEY_BAVGw", base := 0x60070400, dims := [(0x4, 128)], rw := 0xffffffff }]

/-- Registers of the Adc window (06_keys_and_controls.md). -/
def regsAdc : List RegSpec := [
  { name := "ADC_STAT", base := 0x60080000, w1c := 0x1 },
  { name := "ADC_INT_EN", base := 0x60080004, rw := 0x1 },
  { name := "ADCn_CFG", base := 0x60080100, dims := [(0x20, 16)], rw := 0xe37f0f07 },
  { name := "ADCn_RANGE", base := 0x60080104, dims := [(0x20, 16)], reset := 0xffff0000, rw := 0xffffffff },
  { name := "ADCn_STEP", base := 0x60080108, dims := [(0x20, 16)], reset := 0x100, rw := 0xffffffff },
  { name := "ADCn_CDB", base := 0x6008010c, dims := [(0x20, 16)], rw := 0xffff },
  { name := "ADCn_RAW", base := 0x60080110, dims := [(0x20, 16)], ro := 0xfff },
  { name := "ADCn_VALUE", base := 0x60080114, dims := [(0x20, 16)], ro := 0xffffffff }]

/-- Registers of the Mid window (07_midi_and_usb.md). -/
def regsMid : List RegSpec := [
  { name := "MID_INn_CFG", base := 0x60090000, dims := [(0x20, 4)], reset := 0x2100, rw := 0x80ff3f06 },
  { name := "MID_INn_STAT", base := 0x60090004, dims := [(0x20, 4)], ro := 0x1, w1c := 0x1e },
  { name := "MID_INn_BYTES", base := 0x60090008, dims := [(0x20, 4)], rc := 0xffffffff },
  { name := "MID_INn_ERRS", base := 0x6009000c, dims := [(0x20, 4)], rc := 0xffffffff },
  { name := "MID_INn_INT_EN", base := 0x60090010, dims := [(0x20, 4)], rw := 0x1f },
  { name := "MID_OUTn_CFG", base := 0x60090100, dims := [(0x20, 4)], reset := 0xa0000, rw := 0x80ff0007 },
  { name := "MID_OUTn_STAT", base := 0x60090104, dims := [(0x20, 4)], ro := 0x9, w1c := 0x6 },
  { name := "MID_OUTn_LATE_TX", base := 0x60090108, dims := [(0x20, 4)], rc := 0xffffffff },
  { name := "MID_OUTn_DS_MSG", base := 0x6009010c, dims := [(0x20, 4)], rwa := 0xc0ffffff },
  { name := "MID_OUTn_DS_AT_LO", base := 0x60090110, dims := [(0x20, 4)], rwa := 0xffffffff },
  { name := "MID_OUTn_DS_AT_HI", base := 0x60090114, dims := [(0x20, 4)], rwa := 0xffff },
  { name := "MID_OUTn_INT_EN", base := 0x60090118, dims := [(0x20, 4)], rw := 0x6 }]

/-- Registers of the Usb window (07_midi_and_usb.md). -/
def regsUsb : List RegSpec := [
  { name := "USB_CFG", base := 0x600a0000, reset := 0x40320202, rw := 0xf8ff0f0f },
  { name := "USB_ID", base := 0x600a0004, rw := 0xffffffff },
  { name := "USB_BCD", base := 0x600a0008, rw := 0xffff },
  { name := "USB_STR_ADDR", base := 0x600a000c, rw := 0xfffffffc },
  { name := "USB_STAT", base := 0x600a0010, ro := 0x3fffe },
  { name := "USB_EVT", base := 0x600a0014, w1c := 0xff },
  { name := "USB_INT_EN", base := 0x600a0018, rw := 0xff },
  { name := "USB_FB", base := 0x600a001c, ro := 0xffffffff },
  { name := "USB_RING", base := 0x600a0020, ro := 0xffffffff },
  { name := "USB_DROPS", base := 0x600a0024, rc := 0xffffffff }]

/-- Registers of the Disp window, part 1 (08_display.md). -/
def regsDisp1 : List RegSpec := [
  { name := "DISP_CTL", base := 0x600b0000, rw := 0xf3 },
  { name := "DISP_MODE", base := 0x600b0004, ro := 0x3f0f07 },
  { name := "DISP_BEAM", base := 0x600b0008, reset := 0xe7ff0000, ro := 0xe7ff0fff },
  { name := "DISP_GEOM", base := 0x600b000c, ro := 0xfff07ff },
  { name := "DISP_ORDER", base := 0x600b0010, reset := 0x2c688, rw := 0x3ffff },
  { name := "DISP_BG", base := 0x600b0014, rw := 0xffffff },
  { name := "DISP_LAYER_EN", base := 0x600b0018, reset := 0x3f, rw := 0x3f },
  { name := "DISP_STAT", base := 0x600b001c, ro := 0x100, w1c := 0x7f },
  { name := "DISP_SPR_OVF_LINE", base := 0x600b0020, ro := 0x7ff },
  { name := "DISP_UNDERRUNS", base := 0x600b0024, rc := 0xffffffff },
  { name := "DISP_SR", base := 0x600b0028, ro := 0x2, rw := 0x35 },
  { name := "DISP_Ff_MAP", base := 0x600b0100, dims := [(0x20, 4)], rw := 0xfffffffe },
  { name := "DISP_Ff_TILES", base := 0x600b0104, dims := [(0x20, 4)], rw := 0xfffffffe },
  { name := "DISP_Ff_SIZE", base := 0x600b0108, dims := [(0x20, 4)], rw := 0x133 },
  { name := "DISP_Ff_SCROLL", base := 0x600b010c, dims := [(0x20, 4)], rw := 0xffffffff },
  { name := "DISP_Ff_LSBASE", base := 0x600b0110, dims := [(0x20, 4)], rw := 0xfffffffc },
  { name := "DISP_Ff_CFG", base := 0x600b0114, dims := [(0x20, 4)], rw := 0xf3 },
  { name := "DISP_SURF_BASE", base := 0x600b0180, rw := 0xfffffffe },
  { name := "DISP_SURF_CFG", base := 0x600b0184, rw := 0x3 },
  { name := "DISP_SPR_CFG", base := 0x600b0188, rw := 0x3 }]

/-- Registers of the Disp window, part 2 (08_display.md). -/
def regsDisp2 : List RegSpec := [
  { name := "DISP_DBI_CFG", base := 0x600b0200, rw := 0x3f },
  { name := "DISP_DBI_TIME", base := 0x600b0204, reset := 0x344, rw := 0xfff },
  { name := "DISP_DBI_CMD", base := 0x600b0208, wo := 0x1ff },
  { name := "DISP_DIRTY_MARK", base := 0x600b020c, wo := 0xffffffff },
  { name := "DISP_DIRTY_ALL", base := 0x600b0210, wo := 0x1 },
  { name := "DISP_CHR_CFG", base := 0x600b0300, reset := 0x1001, rw := 0x13f03, wo := 0x20000 },
  { name := "DISP_CHR_TIME", base := 0x600b0304, reset := 0x280004, rw := 0xff00ff },
  { name := "DISP_CHR_BASE", base := 0x600b0308, reset := 0xa852000, rw := 0xfffffff },
  { name := "DISP_CHR_CMD", base := 0x600b030c, wo := 0x3ff },
  { name := "DISP_TEXTw", base := 0x600b0400, dims := [(0x4, 40)], reset := 0x20202020, rw := 0xffffffff },
  { name := "SPRs_POS", base := 0x600b0800, dims := [(0x10, 128)], rw := 0xfff0fff },
  { name := "SPRs_ATTR", base := 0x600b0804, dims := [(0x10, 128)], rw := 0xbf300770 },
  { name := "SPRs_IMG", base := 0x600b0808, dims := [(0x10, 128)], rw := 0xffffffff },
  { name := "DISP_PALp_i", base := 0x600b1000, dims := [(0x400, 4), (0x4, 256)], rw := 0xffffffff }]

/-- Registers of the Disp window. -/
def regsDisp : List RegSpec := regsDisp1 ++ regsDisp2

/-- Registers of the Scr window (09_scriptorium.md). -/
def regsScr : List RegSpec := [
  { name := "SCR_GO", base := 0x600c0000, wo := 0x3 },
  { name := "SCR_CTL", base := 0x600c0004, wo := 0x1 },
  { name := "SCR_STAT", base := 0x600c0008, ro := 0x7, w1c := 0x7f0 },
  { name := "SCR_ERR", base := 0x600c000c, ro := 0xff },
  { name := "SCR_LIST_ADDR", base := 0x600c0010, rw := 0xffffffe0 },
  { name := "SCR_PC", base := 0x600c0014, ro := 0xffffffe0 },
  { name := "SCR_FENCE", base := 0x600c0018, ro := 0x800007ff },
  { name := "SCR_FENCE_LAST", base := 0x600c001c, ro := 0x800007ff },
  { name := "SCR_FENCE_FRAME", base := 0x600c0020, ro := 0xffffffff },
  { name := "SCR_OVT_LINE", base := 0x600c0024, ro := 0x7ff },
  { name := "SCR_OVT_COUNT", base := 0x600c0028, rc := 0xffffffff },
  { name := "SCR_PACK_SIZE", base := 0x600c002c, ro := 0xffffffff },
  { name := "SCR_INT_EN", base := 0x600c0030, rw := 0x7 },
  { name := "SCR_CMDw", base := 0x600c0040, dims := [(0x4, 8)], rw := 0xffffffff },
  { name := "SCR_CLIPi_MIN", base := 0x600c0060, dims := [(0x8, 4)], rw := 0xffffffff },
  { name := "SCR_CLIPi_MAX", base := 0x600c0064, dims := [(0x8, 4)], rw := 0xffffffff },
  { name := "SCR_CLIP_CTL", base := 0x600c0080, rw := 0xff },
  { name := "SCR_TGT_ADDR", base := 0x600c0090, rw := 0xffffffff },
  { name := "SCR_TGT_FMT", base := 0x600c0094, rw := 0xffffffff },
  { name := "SCR_TGT_SIZE", base := 0x600c0098, rw := 0xffffffff }]

/-- Registers of the Dma window (14_dma.md). -/
def regsDma : List RegSpec := [
  { name := "DMA_ACTIVE", base := 0x600d0000, ro := 0xffff },
  { name := "DMA_EVT", base := 0x600d0004, ro := 0xffff },
  { name := "DMA_EVT_SET", base := 0x600d0008, wo := 0xffff },
  { name := "DMA_EVT_CLR", base := 0x600d000c, wo := 0xffff },
  { name := "DMA_INT_SUM", base := 0x600d0010, ro := 0xffff },
  { name := "CHn_CFG", base := 0x600d0100, dims := [(0x40, 16)], rw := 0xe7333000 },
  { name := "CHn_CTL", base := 0x600d0104, dims := [(0x40, 16)], wo := 0x7 },
  { name := "CHn_STAT", base := 0x600d0108, dims := [(0x40, 16)], ro := 0xe0000000, w1c := 0xf01e },
  { name := "CHn_INT_EN", base := 0x600d010c, dims := [(0x40, 16)], rw := 0xffff },
  { name := "CHn_SRC", base := 0x600d0110, dims := [(0x40, 16)], rw := 0xffffffff },
  { name := "CHn_DST", base := 0x600d0114, dims := [(0x40, 16)], rw := 0xffffffff },
  { name := "CHn_COUNT", base := 0x600d0118, dims := [(0x40, 16)], rw := 0xfffff },
  { name := "CHn_PROG", base := 0x600d011c, dims := [(0x40, 16)], rw := 0xfffffffc },
  { name := "CHn_PC", base := 0x600d0120, dims := [(0x40, 16)], ro := 0xfffffffc },
  { name := "CHn_SIGVAL", base := 0x600d0124, dims := [(0x40, 16)], ro := 0xffff },
  { name := "CHn_SREC_ADDR", base := 0x600d0128, dims := [(0x40, 16)], rw := 0xfffffff0 },
  { name := "CHn_STREAM", base := 0x600d012c, dims := [(0x40, 16)], ro := 0x8fffffff },
  { name := "CHn_SRi", base := 0x600d0130, dims := [(0x40, 16), (0x4, 4)], ro := 0xffffffff }]

/-- Registers of the Intc window (11_clerk_cores_and_interrupts.md). -/
def regsIntc : List RegSpec := [
  { name := "INTC_RAWk", base := 0x600e0000, dims := [(0x4, 7)], ro := 0xffffffff },
  { name := "INTC_INSVCk", base := 0x600e0040, dims := [(0x4, 7)], ro := 0xffffffff },
  { name := "INTC_SWI_SET", base := 0x600e0080, wo := 0x107 },
  { name := "INTC_SWI_CLR", base := 0x600e0084, wo := 0x107 },
  { name := "INTC_SRCn_CFG", base := 0x600e0400, dims := [(0x4, 224)], ro := 0x30000, rw := 0x7313 },
  { name := "INTC_PENDk", base := 0x600e1000, dims := [(0x100, 3), (0x4, 7)], ro := 0xffffffff },
  { name := "INTC_ENk", base := 0x600e1020, dims := [(0x100, 3), (0x4, 7)], rw := 0xffffffff },
  { name := "INTC_CLAIM", base := 0x600e1040, dims := [(0x100, 3)], reset := 0xff, rw := 0xff },
  { name := "INTC_DONE", base := 0x600e1044, dims := [(0x100, 3)], wo := 0xff },
  { name := "INTC_LEVELS", base := 0x600e1048, dims := [(0x100, 3)], ro := 0x10f },
  { name := "INTC_TSTAT", base := 0x600e104c, dims := [(0x100, 3)], w1c := 0x3 }]

/-- Registers of the Tim window (16_timers_clock_random.md). -/
def regsTim : List RegSpec := [
  { name := "TIM_EXP_SUM", base := 0x600f0000, ro := 0xffff },
  { name := "TIM_RUN_SUM", base := 0x600f0004, ro := 0xffff },
  { name := "TIMn_CFG", base := 0x600f0100, dims := [(0x20, 16)], reset := 0x30, rw := 0x137 },
  { name := "TIMn_PRESC", base := 0x600f0104, dims := [(0x20, 16)], rwa := 0xf },
  { name := "TIMn_RELOAD", base := 0x600f0108, dims := [(0x20, 16)], rwa := 0xffffffff },
  { name := "TIMn_COUNT", base := 0x600f010c, dims := [(0x20, 16)], ro := 0xffffffff },
  { name := "TIMn_CTL", base := 0x600f0110, dims := [(0x20, 16)], wo := 0x3 },
  { name := "TIMn_STAT", base := 0x600f0114, dims := [(0x20, 16)], ro := 0xa, w1c := 0x5 }]

/-- Registers of the Rtc window (16_timers_clock_random.md). -/
def regsRtc : List RegSpec := [
  { name := "RTC_FRAC", base := 0x60100000, rw := 0xffffff },
  { name := "RTC_SEC_LO", base := 0x60100004, rw := 0xffffffff },
  { name := "RTC_SEC_HI", base := 0x60100008, rw := 0xff },
  { name := "RTC_CAL_DATE", base := 0x6010000c, reset := 0x7d010105, ro := 0xffff1f07 },
  { name := "RTC_CAL_TIME", base := 0x60100010, ro := 0x1f3f3f },
  { name := "RTC_CAL_STATUS", base := 0x60100014, ro := 0x1, w1c := 0x2 },
  { name := "RTC_CTL", base := 0x60100020, reset := 0x1, rw := 0x1, wo := 0x2 },
  { name := "RTC_STAT", base := 0x60100024, reset := 0x40, ro := 0x8, w1c := 0x73 },
  { name := "RTC_INT_EN", base := 0x60100028, rw := 0x3 },
  { name := "RTC_SET_DATE", base := 0x6010002c, rw := 0xffff1f00 },
  { name := "RTC_SET_TIME", base := 0x60100030, rw := 0x1f3f3f },
  { name := "RTC_TRIM", base := 0x60100034, rw := 0xffff },
  { name := "RTC_TEMP", base := 0x60100038, ro := 0xffff },
  { name := "RTC_TCOMPi", base := 0x60100040, dims := [(0x4, 8)], rw := 0xffff },
  { name := "RTC_ALMn_LO", base := 0x60100060, dims := [(0x8, 2)], rw := 0xffffffff },
  { name := "RTC_ALMn_HI", base := 0x60100064, dims := [(0x8, 2)], rw := 0x800000ff }]

/-- Registers of the Rng window (16_timers_clock_random.md). -/
def regsRng : List RegSpec := [
  { name := "RNG_CTL", base := 0x60110000, reset := 0x1, rw := 0x1, wo := 0x2 },
  { name := "RNG_STAT", base := 0x60110004, ro := 0x13, w1c := 0xf2c },
  { name := "RNG_OUT", base := 0x60110008, ro := 0xffffffff },
  { name := "RNG_LEVEL", base := 0x6011000c, ro := 0x3f },
  { name := "RNG_BIAS", base := 0x60110010, ro := 0xffff },
  { name := "RNG_CORR", base := 0x60110014, ro := 0xffff },
  { name := "RNG_BIAS_LIM", base := 0x60110018, reset := 0x80, rw := 0xfff },
  { name := "RNG_CORR_LIM", base := 0x6011001c, reset := 0x80, rw := 0xfff },
  { name := "RNG_RCT_C", base := 0x60110020, reset := 0x29, rw := 0xff },
  { name := "RNG_APT_C", base := 0x60110024, reset := 0x320, rw := 0x3ff },
  { name := "RNG_RESEEDS", base := 0x60110028, rc := 0xffffffff },
  { name := "RNG_HEALTH_FAILS", base := 0x6011002c, rc := 0xffffffff },
  { name := "RNG_SINCE", base := 0x60110030, ro := 0x1ffff },
  { name := "RNG_INT_EN", base := 0x60110034, rw := 0xf }]

/-- Registers of the Ldg window (18_ledger_and_faults.md). -/
def regsLdg : List RegSpec := [
  { name := "LDG_CFG", base := 0x60120000, reset := 0xff016d, rw := 0xffffff },
  { name := "LDG_STAT", base := 0x60120004, ro := 0x1ff, w1c := 0x1e00 },
  { name := "LDG_EVT", base := 0x60120008, w1c := 0x7 },
  { name := "LDG_INT_EN", base := 0x6012000c, rw := 0x7 },
  { name := "LDG_CTL", base := 0x60120010, wo := 0xffff00ff },
  { name := "LDG_LOG_NEXT", base := 0x60120014, ro := 0x800003ff },
  { name := "LDG_DAY", base := 0x60120018, ro := 0xffffffff },
  { name := "LDG_HIST", base := 0x6012001c, ro := 0x7f },
  { name := "LDG_L2_MARGIN", base := 0x60120020, reset := 0xff, ro := 0xff },
  { name := "LDG_L2_MARGIN_WARN", base := 0x60120024, reset := 0x1e, rw := 0xff },
  { name := "LDG_INS0_CFG", base := 0x60120030, reset := 0x100, rw := 0x8000017f },
  { name := "LDG_INS1_CFG", base := 0x60120034, reset := 0x100, rw := 0x8000017f },
  { name := "LDG_BL_CFG", base := 0x60120038, reset := 0x100, rw := 0x8000017f },
  { name := "LDG_L6_BINb", base := 0x60120040, dims := [(0x4, 8)], ro := 0xffffffff },
  { name := "LDG_L3_TOPi", base := 0x60120060, dims := [(0x4, 8)], ro := 0xffffffff },
  { name := "LDG_Ln_VALUE", base := 0x60120100, dims := [(0x10, 8)], ro := 0xffffffff },
  { name := "LDG_Ln_WARN", base := 0x60120104, dims := [(0x10, 8)], rw := 0xffffffff },
  { name := "LDG_Ln_EOL", base := 0x60120108, dims := [(0x10, 8)], rw := 0xffffffff },
  { name := "LDG_Ln_DAYS", base := 0x6012010c, dims := [(0x10, 8)], reset := 0xfffe, ro := 0x8000ffff }]

/-- Registers of the Flt window (18_ledger_and_faults.md). -/
def regsFlt : List RegSpec := [
  { name := "FLT_FIRST_SRC", base := 0x60130000, ro := 0x83ff00ff },
  { name := "FLT_FIRST_ADDR", base := 0x60130004, ro := 0xffffffff },
  { name := "FLT_FIRST_TIME_LO", base := 0x60130008, ro := 0xffffffff },
  { name := "FLT_FIRST_TIME_HI", base := 0x6013000c, ro := 0xffff },
  { name := "FLT_MORE", base := 0x60130010, ro := 0xe },
  { name := "FLT_COUNT", base := 0x60130014, rc := 0xffffffff },
  { name := "FLT_CORRECTED", base := 0x60130018, rc := 0xffffffff },
  { name := "FLT_STAT", base := 0x6013001c, ro := 0xf, w1c := 0x30 },
  { name := "FLT_FATAL_SRC", base := 0x60130020, ro := 0xc0ff00ff },
  { name := "FLT_FATAL_TIME_LO", base := 0x60130024, ro := 0xffffffff },
  { name := "FLT_FATAL_TIME_HI", base := 0x60130028, ro := 0xffff },
  { name := "FLT_FATALS", base := 0x6013002c, ro := 0xff },
  { name := "FLT_OVERRUNS", base := 0x60130030, rc := 0xffffffff },
  { name := "FLT_OVR_LAST", base := 0x60130034, ro := 0xffffffff },
  { name := "FLT_OVR_LANES", base := 0x60130038, ro := 0x1ff },
  { name := "FLT_CFG", base := 0x60130040, reset := 0xe0804, rw := 0xf0f0f },
  { name := "FLT_ACK", base := 0x60130044, wo := 0xffff },
  { name := "FLT_CTL", base := 0x60130048, wo := 0x3 },
  { name := "FLT_INJECT", base := 0x6013004c, wo := 0xffff0003 },
  { name := "FLT_INT_EN", base := 0x60130050, rw := 0x30 }]

/-- Registers of the Pin window (19_pins_and_gpio.md). -/
def regsPin : List RegSpec := [
  { name := "PIN_IOV", base := 0x60140000, ro := 0xc, rw := 0x3 },
  { name := "PIN_STAT", base := 0x60140004, w1c := 0x1 },
  { name := "PIN_INx", base := 0x60140100, dims := [(0x40, 3)], ro := 0xffffffff },
  { name := "PIN_OUTx", base := 0x60140104, dims := [(0x40, 3)], rw := 0xffffffff },
  { name := "PIN_SETx", base := 0x60140108, dims := [(0x40, 3)], wo := 0xffffffff },
  { name := "PIN_CLRx", base := 0x6014010c, dims := [(0x40, 3)], wo := 0xffffffff },
  { name := "PIN_OEx", base := 0x60140110, dims := [(0x40, 3)], rw := 0xffffffff },
  { name := "PIN_LEVELx", base := 0x60140114, dims := [(0x40, 3)], ro := 0xffffffff },
  { name := "PIN_IRQx", base := 0x60140118, dims := [(0x40, 3)], w1c := 0xffffffff },
  { name := "PIN_BUSYx", base := 0x6014011c, dims := [(0x40, 3)], ro := 0xffffffff },
  { name := "PINp_MUX", base := 0x60141000, dims := [(0x4, 96)], reset := 0x40, ro := 0x80000000, rw := 0x3ff },
  { name := "PINp_FILT", base := 0x60141200, dims := [(0x4, 96)], reset := 0x10, rw := 0x170ff3 }]

/-- Registers of the Host window (15_host_port.md). -/
def regsHost : List RegSpec := [
  { name := "HOST_CFG", base := 0x60150000, reset := 0x17700a07, rw := 0xffffff07 },
  { name := "HOST_BUSY_CFG", base := 0x60150004, reset := 0x8, rw := 0xff },
  { name := "HOST_CTL", base := 0x60150008, wo := 0x7 },
  { name := "HOST_STAT", base := 0x6015000c, w1c := 0x1 },
  { name := "HOST_I2C_ADDR", base := 0x60150010, ro := 0x7f },
  { name := "HOST_CHc_STAT", base := 0x60150100, dims := [(0x20, 3)], ro := 0x1, w1c := 0xfe },
  { name := "HOST_CHc_PEND", base := 0x60150104, dims := [(0x20, 3)], ro := 0xffff },
  { name := "HOST_CHc_REQS", base := 0x60150108, dims := [(0x20, 3)], rc := 0xffffffff },
  { name := "HOST_CHc_BUSYS", base := 0x6015010c, dims := [(0x20, 3)], rc := 0xffffffff },
  { name := "HOST_CHc_REPLAYS", base := 0x60150110, dims := [(0x20, 3)], rc := 0xffffffff },
  { name := "HOST_CHc_ERRS", base := 0x60150114, dims := [(0x20, 3)], rc := 0xffffffff },
  { name := "HOST_REQBUFc_w", base := 0x60151000, dims := [(0x800, 3), (0x4, 256)], ro := 0xffffffff },
  { name := "HOST_RPLBUFc_w", base := 0x60151400, dims := [(0x800, 3), (0x4, 256)], rw := 0xffffffff }]

/-- Registers of the Xmc window (13_interconnect_and_memory.md). -/
def regsXmc : List RegSpec := [
  { name := "XMC_XSPI_CTL", base := 0x60160000, reset := 0x2, ro := 0x3 },
  { name := "XMC_XSPI_DEVn_CFG", base := 0x60160010, dims := [(0x10, 2)], ro := 0x200, rw := 0x1f3 },
  { name := "XMC_XSPI_DEVn_TIM", base := 0x60160014, dims := [(0x10, 2)], reset := 0x21f1f, rw := 0xf0f1f1f },
  { name := "XMC_XSPI_DEVn_CMD", base := 0x60160018, dims := [(0x10, 2)], rw := 0xffffffff },
  { name := "XMC_XSPI_DEVn_POLL", base := 0x6016001c, dims := [(0x10, 2)], reset := 0x10000000, rw := 0x171fffff },
  { name := "XMC_XSPI_SEQ", base := 0x60160040, rw := 0xffff7ff0, wo := 0x8000 },
  { name := "XMC_XSPI_SEQ_LEN", base := 0x60160044, rw := 0x7f },
  { name := "XMC_XSPI_SEQ_ADDR", base := 0x60160048, rw := 0xffffffff },
  { name := "XMC_XSPI_SEQ_STAT", base := 0x6016004c, ro := 0x1, w1c := 0x6 },
  { name := "XMC_XSPI_BUFw", base := 0x60160080, dims := [(0x4, 16)], rw := 0xffffffff },
  { name := "XMC_SDR_CFG", base := 0x60160100, rw := 0x33 },
  { name := "XMC_SDR_TIM", base := 0x60160104, reset := 0x3c00abf, rw := 0xfff0fff },
  { name := "XMC_SDR_CTL", base := 0x60160108, ro := 0x2, rw := 0x4, w1c := 0x8, w1s := 0x1 },
  { name := "XMC_STAT", base := 0x60160110, w1c := 0x3 }]

/-- Registers of the Regy window (12_caches_and_coherence.md). -/
def regsRegy : List RegSpec := [
  { name := "REGY_COREn_CFG", base := 0x60170000, dims := [(0x4, 2)], rw := 0x3 },
  { name := "REGY_COREn_OP", base := 0x60170010, dims := [(0x4, 2)], ro := 0x80000000, wo := 0x7 },
  { name := "REGY_PRIO", base := 0x60170020, ro := 0x3 },
  { name := "REGY_CONTESTED", base := 0x60170024, rc := 0xffffffff },
  { name := "REGY_RETIRE_WAITS", base := 0x60170028, rc := 0xffffffff },
  { name := "REGY_WAIT_PEAK", base := 0x6017002c, rc := 0xffff },
  { name := "WCC_MASKr", base := 0x60170100, dims := [(0x4, 6)], rw := 0xffff },
  { name := "WCC_RANGE_ADDR", base := 0x60170120, rw := 0xffffffe0 },
  { name := "WCC_RANGE_LEN", base := 0x60170124, rw := 0xffffffff },
  { name := "WCC_OP", base := 0x60170128, ro := 0x80000000, wo := 0x3 },
  { name := "WCC_STAT", base := 0x6017012c, w1c := 0x3 },
  { name := "WCC_HITSr", base := 0x60170140, dims := [(0x8, 6)], rc := 0xffffffff },
  { name := "WCC_MISSESr", base := 0x60170144, dims := [(0x8, 6)], rc := 0xffffffff }]

/-- Registers of the Voice window (04_voices.md). -/
def regsVoice : List RegSpec := [
  { name := "Vn_STATUS", base := 0x70000000, dims := [(0x40, 256)], ro := 0xfffffff7 },
  { name := "Vn_POS", base := 0x70000004, dims := [(0x40, 256)], ro := 0xffffffff },
  { name := "Vn_WAVE", base := 0x70000008, dims := [(0x40, 256)], rwa := 0xfffffffc },
  { name := "Vn_END", base := 0x7000000c, dims := [(0x40, 256)], rwa := 0xffffffff },
  { name := "Vn_LOOP_START", base := 0x70000010, dims := [(0x40, 256)], rwa := 0xffffffff },
  { name := "Vn_LOOP_END", base := 0x70000014, dims := [(0x40, 256)], rwa := 0xffffffff },
  { name := "Vn_WCFG", base := 0x70000018, dims := [(0x40, 256)], rwa := 0xff77 },
  { name := "Vn_PITCH", base := 0x7000001c, dims := [(0x40, 256)], rw := 0xfffff },
  { name := "Vn_AMP", base := 0x70000020, dims := [(0x40, 256)], reset := 0x800000, rw := 0xffffff },
  { name := "Vn_SENDS", base := 0x70000024, dims := [(0x40, 256)], rw := 0xffffffff },
  { name := "Vn_FILT", base := 0x70000028, dims := [(0x40, 256)], reset := 0xffff, rw := 0x83ffffff },
  { name := "Vn_ENV", base := 0x7000002c, dims := [(0x40, 256)], rw := 0xffffffff },
  { name := "Vn_LFO12", base := 0x70000030, dims := [(0x40, 256)], rw := 0xffffffff },
  { name := "Vn_LFO3", base := 0x70000034, dims := [(0x40, 256)], rw := 0x3fffff },
  { name := "Vn_PM", base := 0x70000038, dims := [(0x40, 256)], rw := 0xffff },
  { name := "Vn_MODSRC", base := 0x7000003c, dims := [(0x40, 256)], rw := 0xffffffff },
  { name := "CHMn_FREQ", base := 0x70004000, dims := [(0x10, 16)], rwa := 0xffff },
  { name := "CHMn_ENV", base := 0x70004004, dims := [(0x10, 16)], rwa := 0xffffffff },
  { name := "CHMn_CTL", base := 0x70004008, dims := [(0x10, 16)], rwa := 0x1fb },
  { name := "CHMn_STAT", base := 0x7000400c, dims := [(0x10, 16)], ro := 0x1 }]

/-- The registers of the 64 KiB window with number `w` (the address divided by 65,536). -/
def regWindow (w : Nat) : List RegSpec :=
  if w = 0x6000 then regsSys
  else if w = 0x6001 then regsMet
  else if w = 0x6002 then regsCht
  else if w = 0x6003 then regsQue
  else if w = 0x6004 then regsStk
  else if w = 0x6005 then regsFx
  else if w = 0x6006 then regsSap
  else if w = 0x6007 then regsKey
  else if w = 0x6008 then regsAdc
  else if w = 0x6009 then regsMid
  else if w = 0x600a then regsUsb
  else if w = 0x600b then regsDisp
  else if w = 0x600c then regsScr
  else if w = 0x600d then regsDma
  else if w = 0x600e then regsIntc
  else if w = 0x600f then regsTim
  else if w = 0x6010 then regsRtc
  else if w = 0x6011 then regsRng
  else if w = 0x6012 then regsLdg
  else if w = 0x6013 then regsFlt
  else if w = 0x6014 then regsPin
  else if w = 0x6015 then regsHost
  else if w = 0x6016 then regsXmc
  else if w = 0x6017 then regsRegy
  else if w = 0x7000 then regsVoice
  else []

end Sys2Proof.Machine
end

