-- ==== Sys2Proof/Machine/RegNames.lean ====
section
/-! DEFINITION. Machine/RegNames.lean: the addresses of the registers under the manual's names. The operands of an
array's name are its indices, in the order of the name. -/

namespace Sys2Proof.Machine.A

def SYS_PROFILE : Nat := 0x60000004
def SYS_REV : Nat := 0x60000008
def SYS_FEAT0 : Nat := 0x60000010
def SYS_FEAT1 : Nat := 0x60000014
def SYS_PROFILE_LOCK : Nat := 0x60000020
def SYS_CLK_CFG : Nat := 0x60000040
def SYS_CLK_STAT : Nat := 0x60000044
def SYS_CLK_MEAS : Nat := 0x60000048
def MET_COUNT_LO : Nat := 0x60010000
def MET_COUNT_HI : Nat := 0x60010004
def MET_EPOCH : Nat := 0x60010008
def MET_BLOCK : Nat := 0x6001000c
def MET_POS : Nat := 0x60010010
def MET_FRAME : Nat := 0x60010014
def MET_TICK_CFG : Nat := 0x60010020
def MET_FRAME_CFG : Nat := 0x60010024
def MET_STAT : Nat := 0x60010028
def CHT_CMD : Nat := 0x60020000
def CHT_SRC_ADDR : Nat := 0x60020004
def CHT_STATE : Nat := 0x60020008
def CHT_RESULT : Nat := 0x6002000c
def CHT_SWAP_BLOCK : Nat := 0x60020010
def CHT_XFADE : Nat := 0x60020014
def CHT_LIVE_SERIAL : Nat := 0x60020018
def CHT_CAND_SERIAL : Nat := 0x6002001c
def CHT_CALC_STK : Nat := 0x60020020
def CHT_CALC_FX : Nat := 0x60020024
def CHT_CALC_INTAKE : Nat := 0x60020028
def CHT_INT : Nat := 0x60020030
def CHT_INT_EN : Nat := 0x60020034
def QUE_UNROUTED : Nat := 0x60030000
def QUE_SKID_LOSS : Nat := 0x60030004
def QUE_ALLOC_LAST : Nat := 0x60030010
def QUE_ALLOC_PEAK : Nat := 0x60030014
def QUE_LATE_PLAYED : Nat := 0x60030018
def QUE_LATE_DISCARDED : Nat := 0x6003001c
def QUE_INT_SUM0 : Nat := 0x60030020
def QUE_INT_SUM1 : Nat := 0x60030024
def QUEn_CFG (i : Nat) : Nat := 0x60031000 + 0x80 * i
def QUEn_GEOM (i : Nat) : Nat := 0x60031004 + 0x80 * i
def QUEn_WM (i : Nat) : Nat := 0x60031008 + 0x80 * i
def QUEn_FILL (i : Nat) : Nat := 0x6003100c + 0x80 * i
def QUEn_PEAK (i : Nat) : Nat := 0x60031010 + 0x80 * i
def QUEn_DROPS (i : Nat) : Nat := 0x60031014 + 0x80 * i
def QUEn_LATES (i : Nat) : Nat := 0x60031018 + 0x80 * i
def QUEn_COALESCED (i : Nat) : Nat := 0x6003101c + 0x80 * i
def QUEn_STAT (i : Nat) : Nat := 0x60031020 + 0x80 * i
def QUEn_INT_EN (i : Nat) : Nat := 0x60031024 + 0x80 * i
def QUEn_PUSH1 (i : Nat) : Nat := 0x60031040 + 0x80 * i
def QUEn_PUSH2 (i : Nat) : Nat := 0x60031044 + 0x80 * i
def QUEn_PUSH3 (i : Nat) : Nat := 0x60031048 + 0x80 * i
def QUEn_PUSH (i : Nat) : Nat := 0x6003104c + 0x80 * i
def QUEn_PUSH_T (i : Nat) : Nat := 0x60031050 + 0x80 * i
def QUEn_POP (i : Nat) : Nat := 0x60031060 + 0x80 * i
def QUEn_POP1 (i : Nat) : Nat := 0x60031064 + 0x80 * i
def QUEn_POP2 (i : Nat) : Nat := 0x60031068 + 0x80 * i
def QUEn_POP3 (i : Nat) : Nat := 0x6003106c + 0x80 * i
def QUEn_PEEK (i : Nat) : Nat := 0x60031070 + 0x80 * i
def Vn_STATUS (i : Nat) : Nat := 0x70000000 + 0x40 * i
def Vn_POS (i : Nat) : Nat := 0x70000004 + 0x40 * i
def Vn_WAVE (i : Nat) : Nat := 0x70000008 + 0x40 * i
def Vn_END (i : Nat) : Nat := 0x7000000c + 0x40 * i
def Vn_LOOP_START (i : Nat) : Nat := 0x70000010 + 0x40 * i
def Vn_LOOP_END (i : Nat) : Nat := 0x70000014 + 0x40 * i
def Vn_WCFG (i : Nat) : Nat := 0x70000018 + 0x40 * i
def Vn_PITCH (i : Nat) : Nat := 0x7000001c + 0x40 * i
def Vn_AMP (i : Nat) : Nat := 0x70000020 + 0x40 * i
def Vn_SENDS (i : Nat) : Nat := 0x70000024 + 0x40 * i
def Vn_FILT (i : Nat) : Nat := 0x70000028 + 0x40 * i
def Vn_ENV (i : Nat) : Nat := 0x7000002c + 0x40 * i
def Vn_LFO12 (i : Nat) : Nat := 0x70000030 + 0x40 * i
def Vn_LFO3 (i : Nat) : Nat := 0x70000034 + 0x40 * i
def Vn_PM (i : Nat) : Nat := 0x70000038 + 0x40 * i
def Vn_MODSRC (i : Nat) : Nat := 0x7000003c + 0x40 * i
def CHMn_FREQ (i : Nat) : Nat := 0x70004000 + 0x10 * i
def CHMn_ENV (i : Nat) : Nat := 0x70004004 + 0x10 * i
def CHMn_CTL (i : Nat) : Nat := 0x70004008 + 0x10 * i
def CHMn_STAT (i : Nat) : Nat := 0x7000400c + 0x10 * i
def STK_CFG : Nat := 0x60040000
def STK_VCMD : Nat := 0x60040004
def STK_STAT : Nat := 0x60040008
def STK_CHIME_CFG : Nat := 0x6004000c
def STK_STARTS : Nat := 0x60040010
def STK_STEALS : Nat := 0x60040014
def STK_UNPLAYED : Nat := 0x60040018
def STK_DEFERRED : Nat := 0x6004001c
def STK_MERGED : Nat := 0x60040020
def STK_IGNORED : Nat := 0x60040024
def STK_ACTIVEm (i : Nat) : Nat := 0x60040040 + 0x4 * i
def STK_LANEl_PEAK (i : Nat) : Nat := 0x60040060 + 0x4 * i
def STK_SHAPEi_w (i j : Nat) : Nat := 0x60048000 + 0x20 * i + 0x4 * j
def STK_PATCHi_w (i j : Nat) : Nat := 0x6004a000 + 0x40 * i + 0x4 * j
def STK_ZONEi_w (i j : Nat) : Nat := 0x6004c000 + 0x10 * i + 0x4 * j
def STK_PARTi_w (i j : Nat) : Nat := 0x6004c800 + 0x10 * i + 0x4 * j
def FX_STAT : Nat := 0x60050000
def FX_SILENCE : Nat := 0x60050004
def FX_SILENCE_TH : Nat := 0x60050008
def FX_PEAK : Nat := 0x6005000c
def FXu_Pi (i : Nat) (j : Nat) : Nat := 0x60051000 + 0x40 * i + 0x4 * j
def FXu_CTL (i : Nat) : Nat := 0x6005101c + 0x40 * i
def FXu_STAT (i : Nat) : Nat := 0x60051020 + 0x40 * i
def FXu_METER (i : Nat) : Nat := 0x60051024 + 0x40 * i
def FXu_KIND (i : Nat) : Nat := 0x60051028 + 0x40 * i
def SAPn_CFG (i : Nat) : Nat := 0x60060000 + 0x100 * i
def SAPn_MAP (i : Nat) : Nat := 0x60060004 + 0x100 * i
def SAPn_STAT (i : Nat) : Nat := 0x60060008 + 0x100 * i
def SAPn_PHASE (i : Nat) : Nat := 0x6006000c + 0x100 * i
def SAPn_FAULTS (i : Nat) : Nat := 0x60060010 + 0x100 * i
def SAPn_INT_EN (i : Nat) : Nat := 0x60060014 + 0x100 * i
def SPDIF_CS : Nat := 0x60060800
def SPDIF_STAT : Nat := 0x60060804
def SPDIF_INT_EN : Nat := 0x60060808
def KEY_CFG : Nat := 0x60070000
def KEY_MAP : Nat := 0x60070004
def KEY_SCAN : Nat := 0x60070008
def KEY_DEB : Nat := 0x6007000c
def KEY_VEL : Nat := 0x60070010
def KEY_LAST : Nat := 0x60070014
def KEY_BOUNCE_OVR : Nat := 0x60070018
def KEY_STAT : Nat := 0x60070020
def KEY_INT_EN : Nat := 0x60070024
def KEY_SWCCn (i : Nat) : Nat := 0x60070030 + 0x4 * i
def KEY_LEVELm (i : Nat) : Nat := 0x60070040 + 0x4 * i
def KEY_BTOPi (i : Nat) : Nat := 0x60070060 + 0x4 * i
def KEY_VEL_TABLEi (i : Nat) : Nat := 0x60070100 + 0x4 * i
def KEY_BAVGw (i : Nat) : Nat := 0x60070400 + 0x4 * i
def ADC_STAT : Nat := 0x60080000
def ADC_INT_EN : Nat := 0x60080004
def ADCn_CFG (i : Nat) : Nat := 0x60080100 + 0x20 * i
def ADCn_RANGE (i : Nat) : Nat := 0x60080104 + 0x20 * i
def ADCn_STEP (i : Nat) : Nat := 0x60080108 + 0x20 * i
def ADCn_CDB (i : Nat) : Nat := 0x6008010c + 0x20 * i
def ADCn_RAW (i : Nat) : Nat := 0x60080110 + 0x20 * i
def ADCn_VALUE (i : Nat) : Nat := 0x60080114 + 0x20 * i
def MID_INn_CFG (i : Nat) : Nat := 0x60090000 + 0x20 * i
def MID_INn_STAT (i : Nat) : Nat := 0x60090004 + 0x20 * i
def MID_INn_BYTES (i : Nat) : Nat := 0x60090008 + 0x20 * i
def MID_INn_ERRS (i : Nat) : Nat := 0x6009000c + 0x20 * i
def MID_INn_INT_EN (i : Nat) : Nat := 0x60090010 + 0x20 * i
def MID_OUTn_CFG (i : Nat) : Nat := 0x60090100 + 0x20 * i
def MID_OUTn_STAT (i : Nat) : Nat := 0x60090104 + 0x20 * i
def MID_OUTn_LATE_TX (i : Nat) : Nat := 0x60090108 + 0x20 * i
def MID_OUTn_DS_MSG (i : Nat) : Nat := 0x6009010c + 0x20 * i
def MID_OUTn_DS_AT_LO (i : Nat) : Nat := 0x60090110 + 0x20 * i
def MID_OUTn_DS_AT_HI (i : Nat) : Nat := 0x60090114 + 0x20 * i
def MID_OUTn_INT_EN (i : Nat) : Nat := 0x60090118 + 0x20 * i
def USB_CFG : Nat := 0x600a0000
def USB_ID : Nat := 0x600a0004
def USB_BCD : Nat := 0x600a0008
def USB_STR_ADDR : Nat := 0x600a000c
def USB_STAT : Nat := 0x600a0010
def USB_EVT : Nat := 0x600a0014
def USB_INT_EN : Nat := 0x600a0018
def USB_FB : Nat := 0x600a001c
def USB_RING : Nat := 0x600a0020
def USB_DROPS : Nat := 0x600a0024
def DISP_CTL : Nat := 0x600b0000
def DISP_MODE : Nat := 0x600b0004
def DISP_BEAM : Nat := 0x600b0008
def DISP_GEOM : Nat := 0x600b000c
def DISP_ORDER : Nat := 0x600b0010
def DISP_BG : Nat := 0x600b0014
def DISP_LAYER_EN : Nat := 0x600b0018
def DISP_STAT : Nat := 0x600b001c
def DISP_SPR_OVF_LINE : Nat := 0x600b0020
def DISP_UNDERRUNS : Nat := 0x600b0024
def DISP_SR : Nat := 0x600b0028
def DISP_Ff_MAP (i : Nat) : Nat := 0x600b0100 + 0x20 * i
def DISP_Ff_TILES (i : Nat) : Nat := 0x600b0104 + 0x20 * i
def DISP_Ff_SIZE (i : Nat) : Nat := 0x600b0108 + 0x20 * i
def DISP_Ff_SCROLL (i : Nat) : Nat := 0x600b010c + 0x20 * i
def DISP_Ff_LSBASE (i : Nat) : Nat := 0x600b0110 + 0x20 * i
def DISP_Ff_CFG (i : Nat) : Nat := 0x600b0114 + 0x20 * i
def DISP_SURF_BASE : Nat := 0x600b0180
def DISP_SURF_CFG : Nat := 0x600b0184
def DISP_SPR_CFG : Nat := 0x600b0188
def DISP_DBI_CFG : Nat := 0x600b0200
def DISP_DBI_TIME : Nat := 0x600b0204
def DISP_DBI_CMD : Nat := 0x600b0208
def DISP_DIRTY_MARK : Nat := 0x600b020c
def DISP_DIRTY_ALL : Nat := 0x600b0210
def DISP_CHR_CFG : Nat := 0x600b0300
def DISP_CHR_TIME : Nat := 0x600b0304
def DISP_CHR_BASE : Nat := 0x600b0308
def DISP_CHR_CMD : Nat := 0x600b030c
def DISP_TEXTw (i : Nat) : Nat := 0x600b0400 + 0x4 * i
def SPRs_POS (i : Nat) : Nat := 0x600b0800 + 0x10 * i
def SPRs_ATTR (i : Nat) : Nat := 0x600b0804 + 0x10 * i
def SPRs_IMG (i : Nat) : Nat := 0x600b0808 + 0x10 * i
def DISP_PALp_i (i : Nat) (j : Nat) : Nat := 0x600b1000 + 0x400 * i + 0x4 * j
def SCR_GO : Nat := 0x600c0000
def SCR_CTL : Nat := 0x600c0004
def SCR_STAT : Nat := 0x600c0008
def SCR_ERR : Nat := 0x600c000c
def SCR_LIST_ADDR : Nat := 0x600c0010
def SCR_PC : Nat := 0x600c0014
def SCR_FENCE : Nat := 0x600c0018
def SCR_FENCE_LAST : Nat := 0x600c001c
def SCR_FENCE_FRAME : Nat := 0x600c0020
def SCR_OVT_LINE : Nat := 0x600c0024
def SCR_OVT_COUNT : Nat := 0x600c0028
def SCR_PACK_SIZE : Nat := 0x600c002c
def SCR_INT_EN : Nat := 0x600c0030
def SCR_CMDw (i : Nat) : Nat := 0x600c0040 + 0x4 * i
def SCR_CLIPi_MIN (i : Nat) : Nat := 0x600c0060 + 0x8 * i
def SCR_CLIPi_MAX (i : Nat) : Nat := 0x600c0064 + 0x8 * i
def SCR_CLIP_CTL : Nat := 0x600c0080
def SCR_TGT_ADDR : Nat := 0x600c0090
def SCR_TGT_FMT : Nat := 0x600c0094
def SCR_TGT_SIZE : Nat := 0x600c0098
def INTC_RAWk (i : Nat) : Nat := 0x600e0000 + 0x4 * i
def INTC_INSVCk (i : Nat) : Nat := 0x600e0040 + 0x4 * i
def INTC_SWI_SET : Nat := 0x600e0080
def INTC_SWI_CLR : Nat := 0x600e0084
def INTC_SRCn_CFG (i : Nat) : Nat := 0x600e0400 + 0x4 * i
def INTC_PENDk (i : Nat) (j : Nat) : Nat := 0x600e1000 + 0x100 * i + 0x4 * j
def INTC_ENk (i : Nat) (j : Nat) : Nat := 0x600e1020 + 0x100 * i + 0x4 * j
def INTC_CLAIM (i : Nat) : Nat := 0x600e1040 + 0x100 * i
def INTC_DONE (i : Nat) : Nat := 0x600e1044 + 0x100 * i
def INTC_LEVELS (i : Nat) : Nat := 0x600e1048 + 0x100 * i
def INTC_TSTAT (i : Nat) : Nat := 0x600e104c + 0x100 * i
def REGY_COREn_CFG (i : Nat) : Nat := 0x60170000 + 0x4 * i
def REGY_COREn_OP (i : Nat) : Nat := 0x60170010 + 0x4 * i
def REGY_PRIO : Nat := 0x60170020
def REGY_CONTESTED : Nat := 0x60170024
def REGY_RETIRE_WAITS : Nat := 0x60170028
def REGY_WAIT_PEAK : Nat := 0x6017002c
def WCC_MASKr (i : Nat) : Nat := 0x60170100 + 0x4 * i
def WCC_RANGE_ADDR : Nat := 0x60170120
def WCC_RANGE_LEN : Nat := 0x60170124
def WCC_OP : Nat := 0x60170128
def WCC_STAT : Nat := 0x6017012c
def WCC_HITSr (i : Nat) : Nat := 0x60170140 + 0x8 * i
def WCC_MISSESr (i : Nat) : Nat := 0x60170144 + 0x8 * i
def SYS_BUS_ERR_ADDR : Nat := 0x60000200
def SYS_BUS_ERR_INFO : Nat := 0x60000204
def SYS_BUS_ERR_COUNT : Nat := 0x60000208
def SYS_ECC_CORR : Nat := 0x60000210
def SYS_ECC_UNCORR : Nat := 0x60000214
def SYS_ECC_LAST : Nat := 0x60000218
def SYS_BUS_INIT : Nat := 0x60000220
def SYS_BUS_WAITt (i : Nat) : Nat := 0x60000240 + 0x4 * i
def SYS_WHEELi_w (i : Nat) (j : Nat) : Nat := 0x60000400 + 0x40 * i + 0x4 * j
def XMC_XSPI_CTL : Nat := 0x60160000
def XMC_XSPI_DEVn_CFG (i : Nat) : Nat := 0x60160010 + 0x10 * i
def XMC_XSPI_DEVn_TIM (i : Nat) : Nat := 0x60160014 + 0x10 * i
def XMC_XSPI_DEVn_CMD (i : Nat) : Nat := 0x60160018 + 0x10 * i
def XMC_XSPI_DEVn_POLL (i : Nat) : Nat := 0x6016001c + 0x10 * i
def XMC_XSPI_SEQ : Nat := 0x60160040
def XMC_XSPI_SEQ_LEN : Nat := 0x60160044
def XMC_XSPI_SEQ_ADDR : Nat := 0x60160048
def XMC_XSPI_SEQ_STAT : Nat := 0x6016004c
def XMC_XSPI_BUFw (i : Nat) : Nat := 0x60160080 + 0x4 * i
def XMC_SDR_CFG : Nat := 0x60160100
def XMC_SDR_TIM : Nat := 0x60160104
def XMC_SDR_CTL : Nat := 0x60160108
def XMC_STAT : Nat := 0x60160110
def CHn_CFG (i : Nat) : Nat := 0x600d0100 + 0x40 * i
def CHn_CTL (i : Nat) : Nat := 0x600d0104 + 0x40 * i
def CHn_STAT (i : Nat) : Nat := 0x600d0108 + 0x40 * i
def CHn_INT_EN (i : Nat) : Nat := 0x600d010c + 0x40 * i
def CHn_SRC (i : Nat) : Nat := 0x600d0110 + 0x40 * i
def CHn_DST (i : Nat) : Nat := 0x600d0114 + 0x40 * i
def CHn_COUNT (i : Nat) : Nat := 0x600d0118 + 0x40 * i
def CHn_PROG (i : Nat) : Nat := 0x600d011c + 0x40 * i
def CHn_PC (i : Nat) : Nat := 0x600d0120 + 0x40 * i
def CHn_SIGVAL (i : Nat) : Nat := 0x600d0124 + 0x40 * i
def CHn_SREC_ADDR (i : Nat) : Nat := 0x600d0128 + 0x40 * i
def CHn_STREAM (i : Nat) : Nat := 0x600d012c + 0x40 * i
def CHn_SRi (i : Nat) (j : Nat) : Nat := 0x600d0130 + 0x40 * i + 0x4 * j
def DMA_ACTIVE : Nat := 0x600d0000
def DMA_EVT : Nat := 0x600d0004
def DMA_EVT_SET : Nat := 0x600d0008
def DMA_EVT_CLR : Nat := 0x600d000c
def DMA_INT_SUM : Nat := 0x600d0010
def HOST_CFG : Nat := 0x60150000
def HOST_BUSY_CFG : Nat := 0x60150004
def HOST_CTL : Nat := 0x60150008
def HOST_STAT : Nat := 0x6015000c
def HOST_I2C_ADDR : Nat := 0x60150010
def HOST_CHc_STAT (i : Nat) : Nat := 0x60150100 + 0x20 * i
def HOST_CHc_PEND (i : Nat) : Nat := 0x60150104 + 0x20 * i
def HOST_CHc_REQS (i : Nat) : Nat := 0x60150108 + 0x20 * i
def HOST_CHc_BUSYS (i : Nat) : Nat := 0x6015010c + 0x20 * i
def HOST_CHc_REPLAYS (i : Nat) : Nat := 0x60150110 + 0x20 * i
def HOST_CHc_ERRS (i : Nat) : Nat := 0x60150114 + 0x20 * i
def HOST_REQBUFc_w (i : Nat) (j : Nat) : Nat := 0x60151000 + 0x800 * i + 0x4 * j
def HOST_RPLBUFc_w (i : Nat) (j : Nat) : Nat := 0x60151400 + 0x800 * i + 0x4 * j
def TIMn_CFG (i : Nat) : Nat := 0x600f0100 + 0x20 * i
def TIMn_PRESC (i : Nat) : Nat := 0x600f0104 + 0x20 * i
def TIMn_RELOAD (i : Nat) : Nat := 0x600f0108 + 0x20 * i
def TIMn_COUNT (i : Nat) : Nat := 0x600f010c + 0x20 * i
def TIMn_CTL (i : Nat) : Nat := 0x600f0110 + 0x20 * i
def TIMn_STAT (i : Nat) : Nat := 0x600f0114 + 0x20 * i
def TIM_EXP_SUM : Nat := 0x600f0000
def TIM_RUN_SUM : Nat := 0x600f0004
def RTC_FRAC : Nat := 0x60100000
def RTC_SEC_LO : Nat := 0x60100004
def RTC_SEC_HI : Nat := 0x60100008
def RTC_CAL_DATE : Nat := 0x6010000c
def RTC_CAL_TIME : Nat := 0x60100010
def RTC_CAL_STATUS : Nat := 0x60100014
def RTC_CTL : Nat := 0x60100020
def RTC_STAT : Nat := 0x60100024
def RTC_INT_EN : Nat := 0x60100028
def RTC_SET_DATE : Nat := 0x6010002c
def RTC_SET_TIME : Nat := 0x60100030
def RTC_TRIM : Nat := 0x60100034
def RTC_TEMP : Nat := 0x60100038
def RTC_TCOMPi (i : Nat) : Nat := 0x60100040 + 0x4 * i
def RTC_ALMn_LO (i : Nat) : Nat := 0x60100060 + 0x8 * i
def RTC_ALMn_HI (i : Nat) : Nat := 0x60100064 + 0x8 * i
def RNG_CTL : Nat := 0x60110000
def RNG_STAT : Nat := 0x60110004
def RNG_OUT : Nat := 0x60110008
def RNG_LEVEL : Nat := 0x6011000c
def RNG_BIAS : Nat := 0x60110010
def RNG_CORR : Nat := 0x60110014
def RNG_BIAS_LIM : Nat := 0x60110018
def RNG_CORR_LIM : Nat := 0x6011001c
def RNG_RCT_C : Nat := 0x60110020
def RNG_APT_C : Nat := 0x60110024
def RNG_RESEEDS : Nat := 0x60110028
def RNG_HEALTH_FAILS : Nat := 0x6011002c
def RNG_SINCE : Nat := 0x60110030
def RNG_INT_EN : Nat := 0x60110034
def SYS_MODE : Nat := 0x60000080
def SYS_MODE_REQ : Nat := 0x60000084
def SYS_PWR_CFG : Nat := 0x60000088
def SYS_PWR_STAT : Nat := 0x6000008c
def SYS_PWR_HORIZON : Nat := 0x60000090
def SYS_MODE_EVT : Nat := 0x60000094
def SYS_MODE_EVT_EN : Nat := 0x60000098
def SYS_NAPS : Nat := 0x600000a0
def SYS_DOZES : Nat := 0x600000a4
def SYS_DROWSES : Nat := 0x600000a8
def SYS_RST_CAUSE : Nat := 0x600000b0
def SYS_RST_REQ : Nat := 0x600000b4
def SYS_CORE_CTL : Nat := 0x600000b8
def SYS_C0_ENTRY : Nat := 0x600000bc
def SYS_C1_ENTRY : Nat := 0x600000c0
def SYS_BOOT_STAT : Nat := 0x600000c4
def SYS_STRAPS : Nat := 0x600000c8
def SYS_NVM_PROG : Nat := 0x600000d0
def SYS_BOOTCFG_BUFw (i : Nat) : Nat := 0x60000600 + 0x4 * i
def SYS_VAULT_CFG : Nat := 0x60000100
def SYS_VAULT_STAT : Nat := 0x60000104
def SYS_VAULT_SLOT : Nat := 0x60000108
def SYS_VAULT_SCRATCHn (i : Nat) : Nat := 0x60000120 + 0x4 * i
def LDG_CFG : Nat := 0x60120000
def LDG_STAT : Nat := 0x60120004
def LDG_EVT : Nat := 0x60120008
def LDG_INT_EN : Nat := 0x6012000c
def LDG_CTL : Nat := 0x60120010
def LDG_LOG_NEXT : Nat := 0x60120014
def LDG_DAY : Nat := 0x60120018
def LDG_HIST : Nat := 0x6012001c
def LDG_L2_MARGIN : Nat := 0x60120020
def LDG_L2_MARGIN_WARN : Nat := 0x60120024
def LDG_INS0_CFG : Nat := 0x60120030
def LDG_INS1_CFG : Nat := 0x60120034
def LDG_BL_CFG : Nat := 0x60120038
def LDG_L6_BINb (i : Nat) : Nat := 0x60120040 + 0x4 * i
def LDG_L3_TOPi (i : Nat) : Nat := 0x60120060 + 0x4 * i
def LDG_Ln_VALUE (i : Nat) : Nat := 0x60120100 + 0x10 * i
def LDG_Ln_WARN (i : Nat) : Nat := 0x60120104 + 0x10 * i
def LDG_Ln_EOL (i : Nat) : Nat := 0x60120108 + 0x10 * i
def LDG_Ln_DAYS (i : Nat) : Nat := 0x6012010c + 0x10 * i
def FLT_FIRST_SRC : Nat := 0x60130000
def FLT_FIRST_ADDR : Nat := 0x60130004
def FLT_FIRST_TIME_LO : Nat := 0x60130008
def FLT_FIRST_TIME_HI : Nat := 0x6013000c
def FLT_MORE : Nat := 0x60130010
def FLT_COUNT : Nat := 0x60130014
def FLT_CORRECTED : Nat := 0x60130018
def FLT_STAT : Nat := 0x6013001c
def FLT_FATAL_SRC : Nat := 0x60130020
def FLT_FATAL_TIME_LO : Nat := 0x60130024
def FLT_FATAL_TIME_HI : Nat := 0x60130028
def FLT_FATALS : Nat := 0x6013002c
def FLT_OVERRUNS : Nat := 0x60130030
def FLT_OVR_LAST : Nat := 0x60130034
def FLT_OVR_LANES : Nat := 0x60130038
def FLT_CFG : Nat := 0x60130040
def FLT_ACK : Nat := 0x60130044
def FLT_CTL : Nat := 0x60130048
def FLT_INJECT : Nat := 0x6013004c
def FLT_INT_EN : Nat := 0x60130050
def PIN_IOV : Nat := 0x60140000
def PIN_STAT : Nat := 0x60140004
def PIN_INx (i : Nat) : Nat := 0x60140100 + 0x40 * i
def PIN_OUTx (i : Nat) : Nat := 0x60140104 + 0x40 * i
def PIN_SETx (i : Nat) : Nat := 0x60140108 + 0x40 * i
def PIN_CLRx (i : Nat) : Nat := 0x6014010c + 0x40 * i
def PIN_OEx (i : Nat) : Nat := 0x60140110 + 0x40 * i
def PIN_LEVELx (i : Nat) : Nat := 0x60140114 + 0x40 * i
def PIN_IRQx (i : Nat) : Nat := 0x60140118 + 0x40 * i
def PIN_BUSYx (i : Nat) : Nat := 0x6014011c + 0x40 * i
def PINp_MUX (i : Nat) : Nat := 0x60141000 + 0x4 * i
def PINp_FILT (i : Nat) : Nat := 0x60141200 + 0x4 * i
def SYS_ID : Nat := 0x60000000

end Sys2Proof.Machine.A
end

