-- ==== Sys2Proof/Machine/State.lean ====
section
/-! DEFINITION. Machine/State.lean: everything the LK7 holds, as plain data. -/

namespace Sys2Proof.Machine

/-! ### Maps

A register file, a memory or a set of running voices is a list of (key, value) pairs with rising keys that lists no
entry equal to what an unlisted key reads as (Machine/Ops.lean gives the operations and the form). -/

/-- A sparse map from numbers. -/
abbrev SMap (α : Type) := List (Nat × α)

/-- Memory: (address, byte) pairs. -/
abbrev Mem := List Host.Cell

/-! ### The clock, the fuses and the one-time memory -/

/-- The Metronome's count and the number of its wraps (R26, R27). -/
structure Clock where
  count : Count
  epoch : Word
  deriving DecidableEq, Repr

/-- The grade of R1. -/
inductive Grade where
  | lk7_256
  | lk7_128
  deriving DecidableEq, Repr

/-- What is fixed when the chip is made, or can only ever be programmed one way (R1, R593). -/
structure Fuses where
  grade : Grade
  /-- programmed OTP words; an unlisted word is 0 -/
  otp : SMap Word
  deriving DecidableEq, Repr

/-! ### The Metronome (01_metronome.md) -/

/-- One master's shadow set (R48). -/
structure Shadow where
  hi : BitVec 16 := 0
  epoch : Word := 0
  block : Word := 0
  pos : Word := 0
  frame : Word := 0
  deriving DecidableEq, Repr

/-- The tick settings in force (R31 to R35): the codes of MET_TICK_CFG and the frame length. -/
structure Ticks where
  fs : Nat := 1
  blk : Nat := 1
  lat : Nat := 1
  fclass : Nat := 0
  deriving DecidableEq, Repr

/-- The Metronome's own state beside the count. -/
structure Metronome where
  ticks : Ticks := {}
  /-- absolute count of the block tick at which frame 0 began (R36) -/
  frame0 : Nat := 0
  /-- absolute counts of the last ticks that fired or were skipped -/
  lastSample : Option Nat := none
  lastBlock : Option Nat := none
  lastFrame : Option Nat := none
  /-- the last slow run: the last tick before it, and the count at which the ticks went on (R29, R508) -/
  gap : Nat × Nat := (0, 0)
  /-- the 3-bit counter of Vault-clock edges (R29) -/
  vaultEdges : BitVec 3 := 0
  /-- MCLK is stopped by a sleep sub-state (R29, R570) -/
  stopped : Bool := false
  /-- consecutive measurements within 1 % (R25) -/
  goodMeas : Nat := 0
  /-- shadow sets by master number -/
  shadows : SMap Shadow := []
  deriving DecidableEq, Repr

/-! ### The Charter (02_charter.md) -/

/-- A voice entry of FABRIC. -/
structure VoiceEntry where
  kind : Nat
  lane : Nat
  maxoct : Nat
  format : Nat
  deriving DecidableEq, Repr

/-- A node record of GRAPH. -/
structure Node where
  type : Nat
  index : Nat
  kind : Nat
  stereo : Bool
  delayBase : Nat
  delayBytes : Nat
  init : Word
  deriving DecidableEq, Repr

/-- An edge record of GRAPH. -/
structure Edge where
  src : Nat
  dst : Nat
  gain : BitVec 16
  fb : Bool
  deriving DecidableEq, Repr

/-- A queue entry (R91, R97, R98). -/
structure QEntry where
  policy : Nat
  producer : Nat
  consumer : Nat
  base : Nat
  depth : Nat
  wmLo : Nat
  wmHi : Nat
  deriving DecidableEq, Repr

/-- A source entry of QUEUES (R60). -/
structure SrcEntry where
  source : Nat
  late : Nat
  resv : Nat
  deriving DecidableEq, Repr

/-- A SAP entry of PORTS. -/
structure SapEntry where
  mode : Nat
  master : Bool
  outEn : Bool
  inEn : Bool
  slots : Nat
  width : Nat
  outBase : Nat
  inBase : Nat
  deriving DecidableEq, Repr

/-- The DISPLAY section. -/
structure DisplaySec where
  kind : Nat
  mode : Nat
  fclass : Nat
  layers : Nat
  folioFmt : List Nat
  surfFmt : Nat
  sprFmt : Nat
  w : Nat
  h : Nat
  fbTarget : Nat
  deriving DecidableEq, Repr

/-- A DMA stream entry of MEMORY. -/
structure StreamEntry where
  channel : Nat
  target : Nat
  bytes : Nat
  deriving DecidableEq, Repr

/-- A parsed Charter. -/
structure Charter where
  profile : Word
  serial : Word
  fs : Nat
  blk : Nat
  lat : Nat
  voices : List VoiceEntry
  lanes : Nat
  dispatch : Nat
  steal : Nat
  retrig : Nat
  chimes : Nat
  silence : Nat
  nodes : List Node
  edges : List Edge
  queues : List (Nat × QEntry)
  sources : List SrcEntry
  saps : List SapEntry
  spdifEn : Bool
  spdifBase : Nat
  display : DisplaySec
  xspiDiv : Nat
  waveTarget : Nat
  wheels : List (Nat × List Nat)
  streams : List StreamEntry
  /-- the QUEUES and PORTS bodies byte for byte (R78, condition 1) -/
  queueBytes : List Byte
  portBytes : List Byte
  /-- the BUDGET claims -/
  claims : List Nat
  deriving DecidableEq, Repr

/-- The loader's states (R74). -/
inductive LoaderState where
  | empty
  | verifying
  | admitted
  | planned
  | armed
  | xfade
  | refused
  deriving DecidableEq, Repr

/-- A planned swap (R80): s, X and the kind, with the absolute count of block s once armed. -/
structure Plan where
  s : Word
  x : Nat
  hard : Bool
  /-- absolute count of the tick of block s -/
  atAbs : Nat
  /-- computation of block s has begun (R78) -/
  begun : Bool
  deriving DecidableEq, Repr

/-- A PROGRAM or ERASE under way (R77). -/
structure NvmJob where
  erase : Bool
  slot : Nat
  data : List Byte
  deriving DecidableEq, Repr

/-- The loader. Source codes: 0 none, 1 slot A, 2 slot B, 3 RAM. -/
structure Loader where
  state : LoaderState := .empty
  cand : Option Charter := none
  candSrc : Nat := 0
  live : Option Charter := none
  liveSrc : Nat := 0
  /-- the old structure while a crossfade runs (R81) -/
  old : Option Charter := none
  oldSrc : Nat := 0
  plan : Option Plan := none
  /-- source code (0 A, 1 B, 2 RAM) and address of a running VERIFY -/
  job : Option (Nat × Nat) := none
  /-- a commit waiting for its tick: the absolute count of the COMMIT write (R40) -/
  commitAt : Option (Nat × Charter × Nat) := none
  /-- absolute count at which the hard-change ramp began -/
  ramp : Option Nat := none
  /-- absolute count of the tick of block s of a swap whose computation has begun, until that tick (R84) -/
  swapAt : Option Nat := none
  nvm : Option NvmJob := none
  /-- how often CHT_RESULT has been written (R528) -/
  results : Nat := 0
  deriving DecidableEq, Repr

/-! ### Queues (03_queues_and_events.md) -/

/-- An event record (R93). -/
structure Rec where
  source : Nat
  kind : Nat
  key : Nat
  flags : BitVec 8
  time : Count
  valueA : BitVec 16
  valueB : Word
  deriving DecidableEq, Repr

/-- A record held in a queue: when it was accepted (absolute count), its place in the order of acceptance, and the
place in the queue's region that holds its words (R92). -/
structure QItem where
  r : Rec
  accepted : Nat
  seq : Nat
  slot : Nat
  deriving DecidableEq, Repr

/-- A record in a skid buffer, or a commit that waits there (R103, R104, R109). -/
structure SkidItem where
  queue : Nat
  r : Rec
  /-- made by a bus master, which waits rather than loses it -/
  byMaster : Bool
  since : Nat
  deriving DecidableEq, Repr

/-- A master's push staging set (R110). -/
structure PushStage where
  w1 : Word := 0
  w2 : Word := 0
  w3 : Word := 0
  deriving DecidableEq, Repr

/-- The entry of the reset map with quarter watermarks (R101). -/
def resetEntry (producer consumer policy base depth : Nat) : QEntry :=
  { policy := policy, producer := producer, consumer := consumer, base := base, depth := depth,
    wmLo := depth / 4, wmHi := 3 * depth / 4 }

/-- The reset queue map (R101). -/
def resetMap : SMap QEntry :=
  [(0, resetEntry 0x01 0x08 0 0 1024), (1, resetEntry 0x02 0 2 1024 512)]
  ++ (List.range 4).map (fun i => (2 + i, resetEntry (0x10 + i) 0 0 (1536 + 512 * i) 512))
  ++ [(6, resetEntry 0xE0 0 0 3584 1024), (7, resetEntry 0x18 0 0 4608 1024), (8, resetEntry 0x19 0 0 5632 128),
      (9, resetEntry 0x20 0 1 5760 256), (10, resetEntry 0 0x08 3 6016 1024), (11, resetEntry 0x08 0 1 7040 1024),
      (12, resetEntry 0xE2 0 0 8064 512), (13, resetEntry 0 0xE2 3 8576 512)]
  ++ (List.range 4).map (fun i => (14 + i, resetEntry 0 (0x14 + i) 3 (9088 + 512 * i) 512))
  ++ [(18, resetEntry 0 0x1A 3 11136 512), (19, resetEntry 0xE1 0 0 11648 256), (20, resetEntry 0 0 3 11904 512),
      (21, resetEntry 0 0 3 12416 512)]
  ++ (List.range 16).map (fun i => (22 + i, resetEntry 0 0 0 (12928 + 64 * i) 64))

/-- The queues. -/
structure Queues where
  /-- the map in force, by queue number; an unlisted queue is disabled -/
  map : SMap QEntry := resetMap
  /-- source entries in force (R60) -/
  sources : List SrcEntry := []
  /-- contents by queue number, oldest first -/
  items : SMap (List QItem) := []
  skid : List SkidItem := []
  /-- staging sets and pop shadows by master number -/
  stage : SMap PushStage := []
  pop : SMap PushStage := []
  /-- records accepted so far, for the order of acceptance -/
  seq : Nat := 0
  deriving DecidableEq, Repr

/-! ### The Clerk cores (10_quire_instruction_set.md, 11_clerk_cores_and_interrupts.md) -/

/-- What a core is doing. -/
inductive RunState where
  /-- held in reset (R584, R585, R616) -/
  | held
  | running
  /-- in WFI (R409) -/
  | waiting
  /-- in debug halt (R410) -/
  | halted
  /-- in lockup (R386) -/
  | lockup
  deriving DecidableEq, Repr

/-- A write-buffer entry (R422): one store, or stores merged into one line. -/
structure WbEntry where
  /-- the store's address, or the line's -/
  addr : Nat
  /-- entry of a line of SRAM, the xSPI window or the SDRAM window, which further stores may join -/
  line : Bool
  /-- (address, byte), addresses rising -/
  bytes : List (Nat × Byte)
  deriving DecidableEq, Repr

/-- One Clerk core. -/
structure Core where
  run : RunState := .held
  /-- g1 to g31; an unlisted register holds 0 (g0 is never listed) -/
  g : SMap Word := []
  a0 : Acc := 0
  a1 : Acc := 0
  pc : Word := 0
  psw : Word := 0
  /-- LOOPSTAT.DEPTH -/
  depth : Nat := 0
  /-- LS0 to LS3, LE0 to LE3, LC0 to LC3 -/
  ls : SMap Word := []
  le : SMap Word := []
  lc : SMap Word := []
  /-- control registers 0x040 to 0x072, stored words by number -/
  cr : SMap Word := []
  /-- the write buffer, oldest first -/
  wb : List WbEntry := []
  /-- addresses of stores whose bus error is reported and not yet taken (R385) -/
  storeErr : List Word := []
  /-- cause and address of a fetch or a load of the core's that has ended with a bus error (R384) -/
  fault : Option (Nat × Word) := none
  /-- absolute count at which the private timer would reach 0, while it counts (R407) -/
  tmrZero : Option Nat := none
  /-- core cycles up to absolute count cycFrom (CYCLE_LO and CYCLE_HI) -/
  cyc : Nat := 0
  cycFrom : Nat := 0
  /-- a resume with STEP = 1 is running its one instruction (R411) -/
  stepping : Bool := false
  /-- an enabled watchpoint has matched: the core halts at the next boundary (R410) -/
  watchHit : Bool := false
  /-- the private-bank interrupt state: software-interrupt latches (R404) -/
  swi : BitVec 8 := 0
  deriving DecidableEq, Repr

/-! ### The interrupt controller (R395 to R406) -/

/-- The interrupt controller's own state beside its registers. -/
structure Intc where
  /-- shared sources in service: (source, target) with target 0 Core 0, 1 Core 1, 2 Host -/
  inService : List (Nat × Nat) := []
  /-- private sources in service: (source, core) -/
  privService : List (Nat × Nat) := []
  /-- PRIO of the private banks, by core × 32 + source -/
  priv : SMap Nat := []
  deriving DecidableEq, Repr

/-! ### Caches and the Registry (12_caches_and_coherence.md) -/

/-- The states of R426. -/
inductive LineState where
  | i
  | m
  | e
  | s
  deriving DecidableEq, Repr

/-- A way of a cache. -/
structure CLine where
  st : LineState := .i
  /-- byte address / 32 -/
  line : Nat := 0
  age : Nat := 0
  data : List Byte := []
  /-- the bytes a recording voice has written (R421), bit i for byte i -/
  mask : Nat := 0
  /-- absolute count at which the tenure ends (R431) -/
  tenure : Nat := 0
  deriving DecidableEq, Repr

/-- A request that waits at the Registry (R428, R431). Members: 0 Core 0, 1 Core 1, 2 wave cache. -/
structure RegWait where
  member : Nat
  line : Nat
  kind : RegReq
  requester : Nat
  /-- it has lost a contested grant (R429) -/
  contested : Bool
  deriving DecidableEq, Repr

/-- A line whose writeback has not reached memory (R428). -/
structure Retiring where
  line : Nat
  data : List Byte
  mask : Nat
  deriving DecidableEq, Repr

/-- The five caches and the Registry. A cache maps set × ways + way to its line; an unlisted way is invalid. -/
structure Caches where
  i0 : SMap CLine := []
  i1 : SMap CLine := []
  d0 : SMap CLine := []
  d1 : SMap CLine := []
  w : SMap CLine := []
  waits : List RegWait := []
  retiring : List Retiring := []
  /-- running whole-cache operation of Core 0 and Core 1 (R439); bit 8: it clears DC_EN when it ends (R441) -/
  op0 : Nat := 0
  op1 : Nat := 0
  /-- running range operation (R440) -/
  wop : Nat := 0
  deriving DecidableEq, Repr

/-! ### The interconnect (13_interconnect_and_memory.md) -/

/-- The account of a master at an external target (R456). -/
structure Account where
  units : Nat := 0
  /-- interconnect cycle (of the count) up to which the credit is counted -/
  asOf : Nat := 0
  deriving DecidableEq, Repr

/-- A held lock (R460, R461). -/
structure Lock where
  m : Master
  target : Nat
  beats : Nat
  since : Nat
  deriving DecidableEq, Repr

/-- The interconnect's own state beside its registers. -/
structure Bus where
  /-- the master that last won step 4 of R452, and the parked master, by target -/
  winner : SMap Nat := []
  parked : SMap Nat := []
  /-- accounts by target × 16 + master -/
  accounts : SMap Account := []
  lock : Option Lock := none
  /-- masters whose lock was released by the time limit: their next locked beat fails (R461) -/
  lostLock : List Master := []
  /-- accesses that a lock of another master keeps waiting, each with the absolute count at which it arrived -/
  waiting : List (BusAccess × Nat) := []
  /-- the wheels in force, by target: (target, 64 slots) (R454, R458) -/
  wheels : List (Nat × List Nat) := []
  /-- the sequence engine (R472): a sequence is on the bus -/
  seq : Bool := false
  deriving DecidableEq, Repr

/-! ### Modes, power and reset (17_modes_power_reset.md) -/

/-- The sub-states of HUSH (R572). -/
inductive Sub where
  | none
  | nap
  | doze
  | drowse
  deriving DecidableEq, Repr

/-- Where bring-up stands (R585 to R592). -/
inductive Boot where
  /-- a chip reset has happened and RESET_SEQUENCE has not run -/
  | inReset
  /-- the boot ROM waits for a RUN request (R588) -/
  | waitHost
  /-- the boot ROM offers USB DFU (R588, R262) -/
  | waitDfu
  /-- recovery: both (R592) -/
  | recovery
  /-- the firmware runs -/
  | handedOver
  /-- VDD_VAULT below V_VRST holds the chip in reset (R649) -/
  | noSupply
  deriving DecidableEq, Repr

/-- A SYS_NVM_PROG operation under way (R593). -/
structure ProgJob where
  /-- 1 boot configuration, 2 OTP -/
  op : Nat
  word : Nat
  data : List Word
  deriving DecidableEq, Repr

/-- A core reset that is due (R584). -/
structure ResetDue where
  core0 : Bool := false
  core1 : Bool := false
  /-- the reset is a watchdog's, which reloads its count (R408) -/
  reload0 : Bool := false
  reload1 : Bool := false
  /-- the FATAL action of R614 is due -/
  fatal : Bool := false
  /-- a chip reset is due: the bit of SYS_RST_CAUSE it sets -/
  chip : Option Nat := none
  deriving DecidableEq, Repr

/-- The power and reset logic beside its registers. -/
structure Power where
  boot : Boot := .inReset
  sub : Sub := .none
  /-- absolute count of the tick of the first of the two ramped blocks of R568 -/
  ramp : Option Nat := none
  /-- a VAULT entry is under way (R578) -/
  toVault : Bool := false
  /-- absolute count of the scheduled wake (R573) -/
  wakeAt : Option Nat := none
  /-- a wake has come and the clocks do not run again yet (R576) -/
  waking : Bool := false
  /-- computation has resumed after a wake (R576): the absolute count of the first block tick that may compute -/
  resumeAt : Nat := 0
  prog : Option ProgJob := none
  due : ResetDue := {}
  /-- the reset in progress initialises memory (R465) -/
  wipe : Bool := true
  /-- it followed a wake from VAULT (R581) -/
  warm : Bool := false
  /-- PWR_EN is high -/
  pwrEn : Bool := true
  /-- an alarm fired during the VAULT entry sequence (R594) -/
  wakeAtOnce : Bool := false
  deriving DecidableEq, Repr

/-! ### The Ledger and the fault unit (18_ledger_and_faults.md) -/

/-- What a snapshot holds beside the registers (R607). -/
structure LedgerCore where
  /-- daily samples of indicator n, (day, value), newest first (R602) -/
  hist : SMap (List (Nat × Nat)) := []
  /-- BASE and the baseline temperature of L0 and L1 (R596) -/
  base0 : Option (Nat × Int) := none
  base1 : Option (Nat × Int) := none
  /-- the day's kept measurements of L0 and L1: sum and number -/
  day0 : Nat × Nat := (0, 0)
  day1 : Nat × Nat := (0, 0)
  /-- Vault-clock periods at the backlight's active level (R598) -/
  backlight : Nat := 0
  /-- erases: slot A, slot B, boot configuration -/
  eraseA : Nat := 0
  eraseB : Nat := 0
  eraseBoot : Nat := 0
  /-- erases of the Ledger's own 4 KiB sectors -/
  eraseSector : SMap Nat := []
  /-- next daily record, and the log's sequence number -/
  ringNext : Nat := 0
  logSeq : Nat := 0
  snapSeq : Nat := 0
  /-- the state bank in use (R607) -/
  bank : Nat := 0
  deriving DecidableEq, Repr

/-- The Ledger. -/
structure Ledger where
  core : LedgerCore := {}
  /-- the header is valid (R606) -/
  header : Bool := false
  /-- the newest valid snapshot: Ledger registers and state (R607) -/
  snap : Option (SMap Word × LedgerCore) := none
  /-- the day whose sample a carry at midnight has made due (R601) -/
  sample : Option Nat := none
  /-- a carry at the hour has begun a measurement of L0, of L1 (R596) -/
  measure : Bool × Bool := (false, false)
  /-- L2 or KEY_BTOP0 has changed: values are to be compared (R604) -/
  recheck : Bool := false
  deriving DecidableEq, Repr

/-- Where the FATAL mute stands (R614, R615). -/
inductive Mute where
  | off
  /-- the next computed block takes the ramp to silence -/
  | due
  /-- the ramped block is being output; later blocks carry 0 -/
  | ramp
  | on
  /-- the next computed block ramps up -/
  | lifting
  /-- the ramp up is being output; then a FATAL fault has come meanwhile -/
  | rise
  | riseDue
  deriving DecidableEq, Repr

/-- The fault unit beside its registers. -/
structure Faults where
  mute : Mute := .off
  /-- the block tick at which the mute last moved on, and what it was before: the block that begins to play there is
  played by it -/
  muteAt : Option (Nat × Mute) := none
  /-- consecutive blocks with an overrun (R618) -/
  overrunRun : Nat := 0
  deriving DecidableEq, Repr

/-! ### Stacks (04_voices.md) -/

/-- The voice states. -/
inductive VState where
  | idle
  | pending
  | playing
  | released
  | stealing
  deriving DecidableEq, Repr

/-- Where an envelope stands (R138, R139). -/
inductive EnvMode where
  | run
  /-- holds at the TARGET of a SUSTAIN segment -/
  | sustain
  /-- holds at the last segment's TARGET -/
  | hold
  /-- the 64-sample release fall -/
  | fall
  /-- complete at level 0 -/
  | done
  deriving DecidableEq, Repr

/-- An envelope of a voice (R136 to R140). -/
structure EnvRun where
  mode : EnvMode := .done
  seg : Nat := 0
  /-- the segment word, read on entry -/
  word : Word := 0
  /-- the level at which the segment began -/
  start : Nat := 0
  /-- position in the segment, in 1/256 sample -/
  pos : Nat := 0
  released : Bool := false
  /-- the multiplier of R159 -/
  mult : Nat := 1
  deriving DecidableEq, Repr

/-- A start that the allocator has chosen and deferred (R161). -/
structure VStart where
  /-- patch to load; none for a start by STK_VCMD -/
  patch : Option Nat
  part : Nat
  zone : Nat
  source : Nat
  key : Nat
  port : Nat
  vel : Nat
  /-- TIME of the NOTE_ON -/
  time : Count
  /-- count of the onset, and OFFSET -/
  onset : Count
  offset : Nat
  late : Bool
  /-- a release that came before the onset (R120) -/
  off : Bool
  deriving DecidableEq, Repr

/-- A voice. -/
structure Voice where
  st : VState := .idle
  source : Nat := 0
  key : Nat := 0
  channel : Nat := 0
  part : Nat := 0
  held : Bool := false
  port : Nat := 0
  zone : Nat := 0
  /-- TIME of the NOTE_ON that started it (R163) -/
  time : Count := 0
  /-- absolute count of the onset (R160) -/
  born : Nat := 0
  vel : Nat := 0
  /-- the humanise word drawn, and the patch loaded -/
  draw : Word := 0x80008000
  patch : Option Nat := none
  /-- 48-bit phase (R128) -/
  phase : Nat := 0
  /-- a bidirectional loop runs backward; the loop has engaged; the loop was left at release -/
  rev : Bool := false
  engaged : Bool := false
  left : Bool := false
  /-- released (not merely held) -/
  rel : Bool := false
  e1 : EnvRun := {}
  e2 : EnvRun := {}
  /-- phases and random values of the three LFOs, and the LFSR (R141) -/
  lfo : List Nat := []
  rnd : List Int := []
  lfsr : BitVec 16 := 0
  /-- filter states by section × 2 + channel -/
  ic : List (Int × Int) := []
  /-- the amplitude factor at the end of the last computed block, × 2^125 -/
  amp : Int := 0
  /-- last sample of the last computed block, and the fade-in that follows an overrun (R617) -/
  lastOut : Int × Int × Int := (0, 0, 0)
  fade : Bool := false
  /-- first sample of a voice that has not sounded yet -/
  first : Nat := 0
  /-- STK_VCMD KILL or CONTROL 120 is ramping it out -/
  kill : Bool := false
  pend : Option VStart := none
  /-- the carrier's loop buffer and the loop it was filled from (R148) -/
  loopBuf : List (Int × Int) := []
  loopTag : List Nat := []
  /-- a stolen voice: samples of its ramp, and its own registers (R162) -/
  ramp : Nat := 0
  par : List Word := []
  deriving DecidableEq, Repr

/-- A chime channel that is keyed on (R170 to R173). -/
structure Chime where
  on : Bool := false
  /-- counts of output since the key-on -/
  elapsed : Nat := 0
  /-- noise generator, and its steps done -/
  lfsr : BitVec 15 := 0x4001
  steps : Nat := 0
  /-- blocks since VOL last changed -/
  blocks : Nat := 0
  /-- absolute counts of the ticks at which VOL and LENGTH were last counted -/
  volAt : Nat := 0
  lenAt : Nat := 0
  deriving DecidableEq, Repr

/-- A voice command waiting for its intake close (R168). -/
structure VCmd where
  op : Nat
  voice : Nat
  source : Nat
  deriving DecidableEq, Repr

/-- A plain write to a voice or chime register that has not applied (R125). -/
structure VWrite where
  addr : Nat
  at' : Nat
  v : Word
  deriving DecidableEq, Repr

/-- The Stacks. -/
structure Stacks where
  v : SMap Voice := []
  /-- stolen voices that ramp out in the block being computed -/
  dying : List (Nat × Voice) := []
  writes : List VWrite := []
  cmds : List VCmd := []
  /-- polyphonic pressure by part × 256 + key -/
  poly : SMap Nat := []
  /-- TIME and velocity of the last NOTE_ON by part × 256 + key (R163) -/
  ons : SMap (Count × Nat) := []
  /-- starts in the block being dispatched, by lane, and the voices chosen for it (R160, R161) -/
  starts : SMap Nat := []
  chosen : List Nat := []
  /-- the absolute count of the tick of the block whose intake was last closed -/
  closed : Option Nat := none
  /-- SEND sums of the block being computed: left, right and pre-pan, for the new and the old structure -/
  sends : SMap (List (Int × Int × Int)) := []
  oldSends : SMap (List (Int × Int × Int)) := []
  chimes : SMap Chime := []
  /-- the chime sum of the block being computed -/
  chimeSum : List Int := []
  deriving DecidableEq, Repr

/-! ### The effect fabric and the audio ports (05_effects_and_audio_ports.md) -/

/-- An effect unit's signal state (R182, R183). -/
structure UnitRun where
  /-- line positions written since the state was last cleared, and the next position -/
  age : Nat := 0
  pos : Nat := 0
  /-- what a DELAY with feedback edges will write for the last block, less its feedback inputs (R180) -/
  hold : List (Int × Int) := []
  /-- the samples last read, and the TIME they were read at (R186) -/
  last : Int × Int := (0, 0)
  time : Nat := 0
  /-- one-pole filter states -/
  lp : List Int := []
  /-- LFO phase -/
  phase : Nat := 0
  /-- the local buffer, newest first (R189) -/
  buf : List (Int × Int) := []
  /-- all-pass or biquad states by stage × 2 + channel -/
  st : List (Int × Int) := []
  /-- detectors and gains (R191) -/
  det : List Int := []
  isOpen : Bool := false
  held : Nat := 0
  /-- samples since the line last took one of magnitude TH or above (R193) -/
  calm : Nat := 0
  deriving DecidableEq, Repr

/-- The effect fabric. -/
structure Fx where
  units : SMap UnitRun := []
  /-- node outputs of the last computed block: node n of the new structure at n, of the old one at 256 + n -/
  prev : SMap (List (Int × Int)) := []
  /-- BUS outputs of the last computed block by INDEX -/
  bus : SMap (List (Int × Int)) := []
  /-- OUT channels whose next block fades in after an overrun (R617) -/
  fade : Bool := false
  /-- the last sample of each OUT channel -/
  lastOut : SMap Int := []
  /-- every unit resumes cleared at the next block tick (R194) -/
  clearAll : Bool := false
  deriving DecidableEq, Repr

/-- A clock slave port (R200 to R203). -/
structure SapRun where
  /-- consecutive good frames, and the phase of the first of them -/
  good : Nat := 0
  first : Nat := 0
  locked : Bool := false
  /-- inputs feed their IN channels (from the next block tick after the lock, to the next sample period after a fault) -/
  feeding : Bool := false
  /-- absolute count of the last frame start -/
  lastFrame : Nat := 0
  deriving DecidableEq, Repr

/-- The ports. -/
structure Audio where
  /-- the PORTS section in force: the ports, and the S/PDIF transmitter's enable and first channel -/
  saps : List SapEntry := []
  spdifEn : Bool := false
  spdifBase : Nat := 0
  /-- OUT channels of the block being played, by channel -/
  out : SMap (List Int) := []
  /-- input samples captured and not yet complete, by IN channel and absolute sample number, and those of the last
  complete interval, by IN channel and sample in the block -/
  inNow : SMap (SMap Int) := []
  inDone : SMap (SMap Int) := []
  /-- the slot words last sent by each port: port × 16 + slot -/
  sent : SMap Int := []
  sap : SMap SapRun := []
  /-- the block tick from which the ports frame after Doze or Drowse -/
  frameAt : Nat := 0
  /-- frame within the 192-frame S/PDIF block, the channel status in force, and the last pair sent -/
  spdifFrame : Nat := 0
  spdifAt : Option Nat := none
  spdifCs : Word := 0
  spdifSent : Int × Int := (0, 0)
  deriving DecidableEq, Repr

/-! ### Timers, real-time clock and random numbers (16_timers_clock_random.md) -/

/-- A general timer beside its registers (R542, R545): TIMn_COUNT and the prescaler stand as of an absolute count,
which in a slow run lies ahead of the present one. -/
structure Timer where
  pre : Nat := 0
  asOf : Nat := 0
  deriving DecidableEq, Repr

/-- The real-time clock (R547 to R555). -/
structure Rtc where
  secs : BitVec 40 := 0
  /-- the fraction with its 16 further bits -/
  frac : BitVec 40 := 0
  /-- the temperature correction in force -/
  tc : Int := 0
  /-- writes that have not taken effect: address, word, and Vault-clock edges to go (R550) -/
  writes : List (Nat × Word × Nat) := []
  /-- a freeze: the shadow set, and Vault-clock periods to go (R552) -/
  freeze : Option (List Word × Nat) := none
  /-- carries since the sensor was last read (R548) -/
  carries : Nat := 0
  deriving DecidableEq, Repr

/-- The random number generator (R556 to R564). -/
structure Rng where
  /-- the output queue, oldest first -/
  out : List Word := []
  /-- Key and V of the CTR_DRBG -/
  key : List Byte := []
  v : List Byte := []
  /-- the seed buffer, and the first half of the seed being collected -/
  seed : Option (List Byte) := none
  half : Option (List Byte) := none
  /-- raw bits still to be tested and discarded (R559) -/
  discard : Nat := 4096
  /-- the conditioner group's bits, newest first, and whether it is discarded -/
  group : List Bool := []
  groupBad : Bool := false
  /-- consecutive groups discarded -/
  lost : Nat := 0
  /-- repetition: the last bit and its run -/
  last : Bool := false
  run : Nat := 0
  /-- proportion: bits in the window, its first bit, how many equal it -/
  aptN : Nat := 0
  aptFirst : Bool := false
  aptSame : Nat := 0
  /-- bias and correlation: bits in the window, ones, bits equal to the bit before -/
  winN : Nat := 0
  ones : Nat := 0
  same : Nat := 0
  /-- bits of the window that fell in the bits discarded -/
  skip : Nat := 0
  /-- no window has ended since the start (R557) -/
  fresh : Bool := true
  deriving DecidableEq, Repr

/-! ### Keys and controls (06_keys_and_controls.md) -/

/-- A contact (R214, R215). -/
structure Contact where
  /-- last scan of its lockout, while one runs -/
  lock : Option Nat := none
  /-- the transition that began the lockout: absolute stamp, and whether it closed -/
  began : Nat := 0
  closing : Bool := false
  /-- absolute stamp of the last change sampled in the lockout, and the level last sampled -/
  change : Option Nat := none
  level : Bool := false
  /-- absolute stamp of the last reported transition -/
  lastAt : Option Nat := none
  deriving DecidableEq, Repr

/-- The states of R217. -/
inductive KeyState where
  | up
  | armed
  | down
  | lifting
  deriving DecidableEq, Repr

/-- A key, with the absolute stamp ta or tf. -/
structure KeyRun where
  st : KeyState := .up
  t : Nat := 0
  deriving DecidableEq, Repr

/-- A record in the scanner's buffer (R213): stamp, contact (256 + n for ADC channel n), when it was formed. -/
structure KeyRec where
  stamp : Nat
  contact : Nat
  formed : Nat
  r : Rec
  deriving DecidableEq, Repr

/-- The scanner. -/
structure Keys where
  contacts : SMap Contact := []
  keys : SMap KeyRun := []
  buf : List KeyRec := []
  /-- absolute count of the last scan -/
  lastScan : Option Nat := none
  /-- the next scan is the first after EN was set (R219), or after a wake (R225) -/
  fresh : Bool := false
  resume : Bool := false
  /-- sleep stamps by sense line (R224) -/
  sleep : SMap Nat := []
  /-- Vault-clock edges since the last sleep sample -/
  edges : Nat := 0
  deriving DecidableEq, Repr

/-- An ADC channel (R228 to R230). -/
structure AdcChan where
  sum : Nat := 0
  n : Nat := 0
  /-- RANGE, STEP and CDB of the group in progress (R233) -/
  range : Word := 0
  step : Word := 0
  cdb : Word := 0
  /-- direction of the last report -/
  up : Option Bool := none
  /-- the next m is reported whatever it is -/
  first : Bool := true
  deriving DecidableEq, Repr

/-- The ADC. -/
structure Adc where
  /-- channels still to be converted in the current cycle (R227) -/
  cycle : List Nat := []
  chans : SMap AdcChan := []
  /-- the absolute count at which the last conversion ended -/
  last : Option Nat := none
  deriving DecidableEq, Repr

/-! ### MIDI and USB (07_midi_and_usb.md) -/

/-- A MIDI byte parser: a DIN input, or a cable or group of the USB device (R237 to R241). -/
structure MidiIn where
  running : Option Nat := none
  /-- the message in progress: its status byte, its stamp, and its data so far -/
  msg : Option (Nat × Nat × List Nat) := none
  /-- a SysEx in progress: the bytes gathered for the next record, and the stamp of the first of them -/
  sysex : Option (List Nat × Nat) := none
  /-- banks by channel -/
  banks : SMap Nat := []
  /-- absolute count at which the last byte was complete (R242) -/
  lastByte : Nat := 0
  deriving DecidableEq, Repr

/-- A DIN output (R244 to R247). -/
structure MidiOut where
  /-- bytes of the message in progress that have not begun -/
  msg : List Nat := []
  /-- the byte last begun and its absolute count; the count at which the line is free after it -/
  last : Option Nat := none
  began : Nat := 0
  freeAt : Nat := 0
  /-- the running status in force on the line -/
  running : Option Nat := none
  /-- the direct slot: a message and its absolute send-at count -/
  slot : Option (List Nat × Nat) := none
  /-- a SysEx has begun on the line and not ended -/
  sysex : Bool := false
  deriving DecidableEq, Repr

/-- A requested descriptor or value of R250 to R252. -/
inductive UsbReply where
  | none
  | ack
  | stall
  | bytes (l : List Nat)
  /-- the boot ROM's DFU device: identity, alternates of interface 0, bcdDFUVersion, attributes and wTransferSize -/
  | dfu (vid pid alternates version attributes transfer : Nat)
  /-- a configuration: attributes, bMaxPower, Audio Class 1.0, and per interface its alternates -/
  | config (attributes maxPower : Nat) (uac1 : Bool) (interfaces : List (Nat × Nat)) (outCh inCh outMap inMap outMax inMax : Nat)
  deriving DecidableEq, Repr

/-- The USB device. -/
structure Usb where
  /-- the pull-up is presented; withdrawn until a count by R253 -/
  pullup : Bool := false
  reconnect : Option Nat := none
  /-- channel counts taken when CONNECT was set (R251) -/
  outCh : Nat := 0
  inCh : Nat := 0
  /-- the data toggle expected at endpoints 1 OUT and 2 OUT (R254) -/
  tog1 : Bool := false
  tog2 : Bool := false
  outRing : List (List Int) := []
  inRing : List (List Int) := []
  /-- the OUT ring has held 128 frames since the alternate was selected (R255) -/
  primed : Bool := false
  /-- part-formed messages by cable (alternate 0) or group (alternate 1) -/
  cables : SMap MidiIn := []
  /-- the cable whose SysEx is being forwarded, the cables whose held SysEx is open, and the held bytes: cable, byte
  (256 where the message was cut off), stamp (R257) -/
  active : Option Nat := none
  opened : List Nat := []
  held : List (Nat × Nat × Nat) := []
  /-- device to host: the cable of the SYSEX records that follow, and SysEx bytes not yet sent (R259) -/
  outCable : Nat := 0
  part : List Nat := []
  /-- feature-unit values last set: entity × 4 + control -/
  cur : SMap Nat := []
  address : Nat := 0
  /-- what the device last answered, last sent as MIDI words, and last sent as audio frames -/
  reply : UsbReply := .none
  midiSent : List Word := []
  audioSent : List (List Int) := []
  /-- DFU: the alternate selected and the bytes downloaded; the error reported (R262, R591) -/
  dfuAlt : Nat := 0
  dfuData : List Byte := []
  dfuError : Bool := false
  deriving DecidableEq, Repr

/-! ### The display (08_display.md) -/

/-- Where a standard mode stands in the self-refresh handshake (R298). -/
inductive SrState where
  | off
  | capture
  | active
  /-- frames sent since the exit began, with this one -/
  | resume (k : Nat)
  deriving DecidableEq, Repr

/-- A byte waiting for the panel or the character module (R293, R297). -/
structure DispByte where
  dc : Bool
  nibble : Bool
  byte : Nat
  deriving DecidableEq, Repr

/-- A push (KIND 2 and 3) or a refresh (KIND 4) in progress. -/
structure Push where
  /-- rectangles in tiles: x0, y0, x1, y1 -/
  rects : List (Nat × Nat × Nat × Nat) := []
  /-- characters of a refresh: line × 40 + column, and the absolute count at which each is sent -/
  chars : List (Nat × Nat) := []
  /-- the place after the character sent last -/
  after : Option Nat := none
  start : Nat
  finish : Nat
  deriving DecidableEq, Repr

/-- The display controller. -/
structure Disp where
  /-- the section in force for KIND, MODE, W and H, and one that waits for a frame tick (R301) -/
  sec : Option DisplaySec := none
  next : Option DisplaySec := none
  /-- absolute count of the last frame tick acted on -/
  frameAt : Option Nat := none
  /-- scan-out runs in this frame (R270) -/
  scan : Bool := false
  sr : SrState := .off
  /-- REQ has been 1 since the last frame tick (R303) -/
  srAsk : Bool := false
  /-- DISP_HOLD -/
  hold : Bool := false
  /-- absolute count of the last line started -/
  lineAt : Option Nat := none
  /-- the layers fetched for a line: the line, and for each layer its pixels (an index; 65,536 plus an ARGB1555
  colour; none where transparent) with the number of pixels that are complete -/
  fetched : Nat × List (List (Option Nat) × Nat) := (0, [])
  current : Nat × List (List (Option Nat) × Nat) := (0, [])
  /-- DISP_D for the pixels of the current line composed so far, and of the last whole line with its number -/
  row : List Nat := []
  shown : Nat × List Nat := (0, [])
  /-- marked tiles, row by row (R288) -/
  dirty : List Nat := []
  /-- a snapshot that waits for DISP_TE (R292), and the push in progress -/
  waitTe : Option (List (Nat × Nat × Nat × Nat)) := none
  push : Option Push := none
  /-- the command FIFO, and the count from which the bus is free (R293) -/
  fifo : List DispByte := []
  busFree : Nat := 0
  /-- what went out on the bus last: D/C or RS level and data -/
  sent : List (Bool × Nat) := []
  /-- the characters last sent, by line × 40 + column; an unlisted one is not valid (R296) -/
  shadow : SMap (Option Nat) := []
  deriving DecidableEq, Repr

/-! ### The Scriptorium (09_scriptorium.md) -/

/-- An armed fence (R325, R326): its line, its frame index, and whether it was reached between pushes. -/
structure Fence where
  line : Nat
  frame : Nat
  deriving DecidableEq, Repr

/-- The 2D engine. BUSY, WAITING and ARMED are bits of SCR_STAT. -/
structure Scr where
  /-- a list runs, and the address of its command; otherwise the register command -/
  list : Bool := false
  pc : Nat := 0
  /-- absolute count at which the current command began -/
  began : Nat := 0
  fence : Option Fence := none
  /-- the list is held by its own fence (and goes on when it fires), or by an earlier one (and then evaluates its own) -/
  own : Bool := false
  /-- frame index in which the last fence fired since the engine was started -/
  fired : Option Nat := none
  deriving DecidableEq, Repr

/-! ### DMA (14_dma.md) -/

/-- The conditions of R496; `from` is the absolute count at which the WAIT began. -/
inductive DmaWait where
  /-- the absolute count of the N-th tick -/
  | block (due : Nat)
  | bif (n : Nat)
  | abs (k : Word)
  | sample (due : Nat)
  | line (l : Nat)
  | queue (q : Nat)
  | event (f : Nat)
  deriving DecidableEq, Repr

/-- A copy in progress (R483, R487, R492, R493). -/
structure Xfer where
  src : Nat
  dst : Nat
  smode : Nat
  dmode : Nat
  width : Nat
  rows : Nat := 1
  sstride : Int := 0
  dstride : Int := 0
  lock : Bool := false
  /-- MOVE2D -/
  two : Bool := false
  /-- the row, and its bytes written; then bytes read and not written -/
  row : Nat := 0
  pos : Nat := 0
  buf : List Byte := []
  deriving DecidableEq, Repr

/-- A channel beside its registers. -/
structure DmaChan where
  /-- open loop levels, innermost first: the address after LOOP, iterations left, and whether it is endless -/
  loops : List (Nat × Nat × Bool) := []
  wait : Option DmaWait := none
  waitFrom : Nat := 0
  /-- the words of the instruction after a pending WAIT (R498), with their address -/
  pre : Option (Nat × List Word) := none
  x : Option Xfer := none
  /-- retries of the present access, and the absolute count at which a back-off ends (R507) -/
  tries : Nat := 0
  backoff : Nat := 0
  /-- bytes counted at the stream's target in this block, and the allowance in force (R502) -/
  used : Nat := 0
  allow : Nat := 0
  /-- a SIGNAL record waits in the skid buffer of a queue (R499) -/
  post : Option Nat := none
  deriving DecidableEq, Repr

/-- The engine. -/
structure Dma where
  chans : SMap DmaChan := []
  /-- round robins: the channel that last won, by port × 8 + level (level 4: streams) (R482) -/
  last : SMap Nat := []
  /-- aborts and status-record words that the channel's own accesses carry out within the command: channel; channel,
  address and word -/
  aborts : List Nat := []
  words : List (Nat × Nat × Word) := []
  deriving DecidableEq, Repr

/-! ### The host port (15_host_port.md) -/

/-- A reply as formed: its tag, code and payload, and the flags of R518 that belong to it. -/
structure HostReply where
  tag : Nat
  code : Nat
  payload : List Byte
  errf : Bool
  replay : Bool := false
  busy : Bool := false
  deriving DecidableEq, Repr

/-- A channel's current reply (R517). -/
inductive HostCurrent where
  | none
  /-- formed when the pending request with this tag is answered; `replay` for a repeated frame -/
  | waiting (tag : Nat) (replay : Bool)
  /-- a formed reply, the bytes of it already read, and the STATUS byte that was sent -/
  | ready (r : HostReply) (read status : Nat)
  deriving DecidableEq, Repr

/-- An entry of a replay cache (R520); no reply while it is pending. -/
structure HostEntry where
  tag : Nat
  crc : Nat
  reply : Option HostReply
  deriving DecidableEq, Repr

/-- What a pending request waits for (R516, R528, R529, R533). -/
inductive HostWait where
  /-- the loader's result for an operation, with the number of results written before -/
  | charter (op results : Nat)
  /-- a major mode -/
  | mode (m : Nat)
  | software
  deriving DecidableEq, Repr

/-- A pending request. -/
structure HostPending where
  op : Nat
  tag : Nat
  what : HostWait
  /-- absolute count of its acceptance -/
  since : Nat
  deriving DecidableEq, Repr

/-- A complete frame (R513): its OP, TAG, payload and CRC, and the count at which its SYNC byte began. -/
structure HostFrame where
  ch : Nat
  op : Nat
  tag : Nat
  payload : List Byte
  crc : Nat
  stamp : Nat
  deriving DecidableEq, Repr

/-- A host channel. -/
structure HostChan where
  cache : List HostEntry := []
  current : HostCurrent := .none
  pending : Option HostPending := none
  deriving DecidableEq, Repr

/-- The port. -/
structure HostPort where
  chans : SMap HostChan := []
  /-- frames received while the clocks were stopped (R539) -/
  held : List HostFrame := []
  /-- the byte a host last read -/
  byte : Nat := 0
  deriving DecidableEq, Repr

/-! ### Pins (19_pins_and_gpio.md) -/

/-- The general-purpose pins beside their registers. -/
structure Pins where
  /-- filtered levels by pin (log entry 41: the reset value is the level of the reset pulls of R626) -/
  level : BitVec 96 := 0x27000000000000000000
  /-- pins in a changeover or its mask window: absolute count of cycle 0, and Vault-clock edges to go (R631) -/
  mask : SMap (Nat × Nat) := []
  deriving DecidableEq, Repr

/-- The JTAG port (R664). -/
structure Jtag where
  /-- the instruction register (log entry 43) -/
  ins : JtagIns := .idcode
  /-- the word last shifted out: IDCODE, or a word read from the DBG window -/
  dr : Word := 0
  /-- the boundary cells of the GPIO pads -/
  cells : BitVec 96 := 0
  /-- the levels last captured from the GPIO pads -/
  captured : BitVec 96 := 0
  deriving DecidableEq, Repr

/-! ### The chip -/

/-- The major modes of R566 (VAULT leaves only the Vault domain powered). -/
inductive Mode where
  | configure
  | perform
  | hush
  | vault
  deriving DecidableEq, Repr

/-- Everything a command's effect may change beside the clock and the fuses. -/
structure Chip where
  mode : Mode := .configure
  /-- the stored words of the registers; an unlisted register holds its reset word -/
  regs : SMap Word := []
  /-- staging copies of RWA members (R85); an unlisted member's is its reset word -/
  staging : SMap Word := []
  /-- pending copies of armed groups: arming register, (absolute count of the arming, the copied words) (R85, R86) -/
  armed : List (Nat × Nat × SMap Word) := []
  mem : Mem := []
  /-- MODEL'S OWN: how many free values have been drawn (log entry 2) -/
  free : Nat := 0
  /-- the data last returned to each master by number -/
  readback : SMap Word := []
  met : Metronome := {}
  ldr : Loader := {}
  que : Queues := {}
  core0 : Core := {}
  core1 : Core := {}
  intc : Intc := {}
  caches : Caches := {}
  bus : Bus := {}
  pwr : Power := {}
  ldg : Ledger := {}
  flt : Faults := {}
  rtc : Rtc := {}
  rng : Rng := {}
  stk : Stacks := {}
  fx : Fx := {}
  aud : Audio := {}
  key : Keys := {}
  adc : Adc := {}
  midiIn : SMap MidiIn := []
  midiOut : SMap MidiOut := []
  usb : Usb := {}
  disp : Disp := {}
  scr : Scr := {}
  dma : Dma := {}
  host : HostPort := {}
  tims : SMap Timer := []
  pins : Pins := {}
  jtag : Jtag := {}
  deriving DecidableEq, Repr

/-- The whole state. -/
structure State where
  clock : Clock
  fuses : Fuses
  chip : Chip
  /-- commands waiting, first in first out -/
  pending : List Instr
  deriving DecidableEq, Repr

/-- No command of this model faults. -/
inductive Fault where
  /-- Raised by nobody: the LK7 turns every error into state (safe: it is never answered). -/
  | unreachable
  deriving DecidableEq, Repr

/-- Why a command has no meaning. -/
inductive Refusal where
  /-- Answered by Dispatch.lean for a command whose meaning is not written yet (safe: the machine stops). -/
  | notModelled (mnemonic : String)
  deriving DecidableEq, Repr

/-- The machine right after a power-on reset (R15, R28, R465, R582). -/
def State.reset : State :=
  { clock := { count := 0, epoch := 0 }, fuses := { grade := .lk7_256, otp := [] }, chip := {}, pending := [] }

end Sys2Proof.Machine
end

