-- ==== Sys2Proof/Machine/Ops.lean ====
section
/-! DEFINITION. Machine/Ops.lean: the named operations over bits, maps, registers, memory and time that every meaning
is written with. -/

namespace Sys2Proof.Machine

/-! ### Bits -/

/-- Bits [hi:lo] of a word, as a number. -/
def bits (w : Word) (hi lo : Nat) : Nat := (w.toNat >>> lo) % 2 ^ (hi + 1 - lo)

/-- A word with bits [hi:lo] replaced by the low bits of `v`. -/
def putFld (w : Word) (hi lo v : Nat) : Word :=
  BitVec.ofNat 32 (w.toNat - ((w.toNat >>> lo) % 2 ^ (hi + 1 - lo)) <<< lo + (v % 2 ^ (hi + 1 - lo)) <<< lo)

/-- A word from a number. -/
def word (n : Nat) : Word := BitVec.ofNat 32 n

/-- The low `n` bits of `v` as a signed number. -/
def sgn (n v : Nat) : Int := if v % 2 ^ n < 2 ^ (n - 1) then (v % 2 ^ n : Nat) else (v % 2 ^ n : Nat) - (2 ^ n : Nat)

/-- An integer clamped to [lo, hi]. -/
def clampI (lo hi x : Int) : Int := if x < lo then lo else if hi < x then hi else x

/-- A signed number as the low 32 bits. -/
def wordI (x : Int) : Word := BitVec.ofInt 32 x

/-- The bits of a list of indices for which `p` holds, as a word. -/
def bitsOf (n : Nat) (p : Nat → Bool) : Nat :=
  (List.range n).foldl (fun acc i => if p i then acc + 2 ^ i else acc) 0

/-- The quotient of a number by a positive one, rounded down. -/
def floorDiv (x : Int) (d : Nat) : Int := x / (d : Int)

/-- The quotient rounded to nearest, a tie upward. -/
def nearDiv (x : Int) (d : Nat) : Int := (2 * x + d) / (2 * (d : Int))

/-- The quotient rounded to nearest, where the spec does not say which way a tie goes (log entry 3). -/
def nearOpen (x : Int) (d : Nat) : Int :=
  if (2 * x) % (2 * (d : Int)) = d then (if Config.roundsUp x d then x / d + 1 else x / d) else (2 * x + d) / (2 * (d : Int))

/-- A quotient whose rounding the spec does not state: exact where it is exact, else one of the two neighbours
(log entry 3). -/
def openDiv (x : Int) (d : Nat) : Int :=
  if x % (d : Int) = 0 then x / d else if Config.roundsUp x d then x / d + 1 else x / d

/-! ### Maps -/

/-- The value at a key, `d` where none is listed. -/
def getS {α : Type} (d : α) : SMap α → Nat → α
  | [], _ => d
  | (k, v) :: m, i => if k = i then v else getS d m i

/-- Put a value at a key, keeping the keys rising and listing no default. -/
def putS {α : Type} [DecidableEq α] (d : α) : SMap α → Nat → α → SMap α
  | [], i, v => if v = d then [] else [(i, v)]
  | (k, w) :: m, i, v =>
    if i < k then (if v = d then (k, w) :: m else (i, v) :: (k, w) :: m)
    else if i = k then (if v = d then m else (k, v) :: m)
    else (k, w) :: putS d m i v

/-- Change the value at a key. -/
def modS {α : Type} [DecidableEq α] (d : α) (m : SMap α) (i : Nat) (f : α → α) : SMap α :=
  putS d m i (f (getS d m i))

/-- Drop the entries whose keys satisfy `p`. -/
def dropS {α : Type} (p : Nat → Bool) (m : SMap α) : SMap α := m.filter (fun e => !p e.1)

/-- Rising keys from `lo`, and no entry equal to the default that its key has. -/
def wfFrom {α : Type} [DecidableEq α] (d : Nat → α) : Nat → SMap α → Bool
  | _, [] => true
  | lo, (k, v) :: m => decide (lo ≤ k) && decide (v ≠ d k) && wfFrom d (k + 1) m

/-! ### Registers (R11 to R16) -/

/-- The indices at which `off` lies in an array with the given strides and counts. -/
def dimsAt : List (Nat × Nat) → Nat → Option (List Nat)
  | [], off => if off = 0 then some [] else none
  | (st, n) :: ds, off =>
    if off / st < n then (dimsAt ds (off % st)).map (off / st :: ·) else none

/-- Does the register (or array) hold the address, and at which indices. -/
def RegSpec.at (r : RegSpec) (a : Nat) : Option (List Nat) :=
  if a < r.base then none else dimsAt r.dims (a - r.base)

/-- The row of the register tables that holds an address, with its indices. -/
def regFindIn : List RegSpec → Nat → Option (RegSpec × List Nat)
  | [], _ => none
  | r :: rs, a => match r.at a with
    | some ix => some (r, ix)
    | none => regFindIn rs a

/-- The register at an address. -/
def regFind (a : Nat) : Option (RegSpec × List Nat) := regFindIn (regWindow (a / 65536)) a

/-- The reset word of PINp_MUX (R624, R626). -/
def pinMuxReset (p : Nat) : Nat :=
  let pull := if (72 ≤ p && p ≤ 74) || p = 77 then 2
    else if p = 75 || p = 76 || (78 ≤ p && p ≤ 83) then 0 else 1
  let func := if 64 ≤ p && p ≤ 81 then 1 else 0
  0x40 + pull * 16 + func

/-- The reset words of LDG_Ln_WARN and LDG_Ln_EOL (R595). -/
def ldgWarnReset (n : Nat) : Nat := [2000, 2000, 8000, 256, 1200, 4000, 157680, 25000].getD n 0

/-- The reset words of LDG_Ln_EOL (R595). -/
def ldgEolReset (n : Nat) : Nat := [3000, 3000, 10000, 384, 1500, 5000, 175200, 30000].getD n 0

/-- The reset masks of WCC_MASKr (12_caches_and_coherence.md, the table of reset masks). -/
def wccMaskReset (r : Nat) : Nat := [0x003F, 0x0FC0, 0x3000, 0x4000, 0x8000, 0x8000].getD r 0

/-- The reset words of a part entry (R155). -/
def partReset (w : Nat) : Nat := [0x20000, 0x8000].getD w 0

/-- The reset word of a row of the tables at given indices: the row's own, or the rule the row names. -/
def rowReset (r : RegSpec) (ix : List Nat) : Nat :=
  if r.base = A.PINp_MUX 0 then pinMuxReset (ix.getD 0 0)
  else if r.base = A.KEY_VEL_TABLEi 0 then (if ix.getD 0 0 = 0 then 0xFFFF else 65536 - 2048 * ix.getD 0 0)
  else if r.base = A.WCC_MASKr 0 then wccMaskReset (ix.getD 0 0)
  else if r.base = A.LDG_Ln_WARN 0 then ldgWarnReset (ix.getD 0 0)
  else if r.base = A.STK_PARTi_w 0 0 then partReset (ix.getD 1 0)
  else if r.base = A.LDG_Ln_EOL 0 then ldgEolReset (ix.getD 0 0)
  else r.reset

/-- What a register that nothing has changed since power-on holds; 0 where no register is (R14). -/
def regReset (a : Nat) : Word :=
  match regFind a with
  | none => 0
  | some (r, ix) => word (rowReset r ix)

/-- The stored word of a register. -/
def Chip.rd (c : Chip) (a : Nat) : Word := getS (regReset a) c.regs a

/-- Store a register's word. -/
def Chip.wr (c : Chip) (a : Nat) (v : Word) : Chip := { c with regs := putS (regReset a) c.regs a v }

/-- Bits [hi:lo] of a register. -/
def Chip.fld (c : Chip) (a hi lo : Nat) : Nat := bits (c.rd a) hi lo

/-- Store bits [hi:lo] of a register. -/
def Chip.setFld (c : Chip) (a hi lo v : Nat) : Chip := c.wr a (putFld (c.rd a) hi lo v)

/-- Bit `i` of a register. -/
def Chip.bit (c : Chip) (a i : Nat) : Bool := (c.rd a).getLsbD i

/-- Set bit `i` of a register. -/
def Chip.setBit (c : Chip) (a i : Nat) : Chip := c.wr a (c.rd a ||| word (2 ^ i))

/-- Clear bit `i` of a register. -/
def Chip.clrBit (c : Chip) (a i : Nat) : Chip := c.wr a (c.rd a &&& ~~~ word (2 ^ i))

/-- Store bit `i` of a register. -/
def Chip.putBit (c : Chip) (a i : Nat) (b : Bool) : Chip := if b then c.setBit a i else c.clrBit a i

/-- Add to a counter that stops at 0xFFFF_FFFF. -/
def Chip.addCount (c : Chip) (a n : Nat) : Chip := c.wr a (word (min 0xFFFFFFFF ((c.rd a).toNat + n)))

/-- Count one. -/
def Chip.inc (c : Chip) (a : Nat) : Chip := c.addCount a 1

/-- Raise a register's field to `v` if it is lower (the peak registers). -/
def Chip.peak (c : Chip) (a v : Nat) : Chip := if (c.rd a).toNat < v then c.wr a (word v) else c

/-- A word of a mask. -/
def m32 (n : Nat) : Word := BitVec.ofNat 32 n

/-- What a read of a register returns, write-only and reserved bits being 0 (R13, R16). -/
def readMask (r : RegSpec) : Word := m32 (r.ro ||| r.rw ||| r.w1c ||| r.w1s ||| r.rc ||| r.rwa)

/-- The stored word after a write under the access codes of R16; RWA bits go to staging and stay as they are. -/
def codedWrite (r : RegSpec) (old v : Word) : Word :=
  ((old &&& ~~~ m32 r.rw) ||| (v &&& m32 r.rw) ||| (v &&& m32 r.w1s)) &&& ~~~ (v &&& m32 r.w1c)

/-- A write that has no effect of its own beside the access codes (R16). -/
def Chip.writeCoded (c : Chip) (a : Nat) (v : Word) : Chip :=
  match regFind a with
  | none => c
  | some (r, _) => c.wr a (codedWrite r (c.rd a) v)

/-- A read that has no effect of its own beside the access codes: RC bits clear (R16). -/
def Chip.readCoded (c : Chip) (a : Nat) : Word × Chip :=
  match regFind a with
  | none => (0, c)
  | some (r, _) =>
    (c.rd a &&& readMask r, if r.rc = 0 then c else c.wr a (c.rd a &&& ~~~ m32 r.rc))

/-! ### Memory -/

/-- What a byte that nothing has written holds: NVM is erased to 0xFF (R593); every other memory reads 0
(SRAM, queue RAM and delay RAM by R465; Carrel RAM and external memory by log entry 5). -/
def memDefault (a : Nat) : Byte := if 0x22000000 ≤ a && a < 0x22100000 then 0xFF else 0

/-- The byte at an address. -/
def getB (m : Mem) (a : Nat) : Byte := getS (memDefault a) m a

/-- Write a byte. -/
def putB (m : Mem) (a : Nat) (b : Byte) : Mem := putS (memDefault a) m a b

/-- The canonical form of memory. -/
def memWf (m : Mem) : Bool := wfFrom memDefault 0 m

/-- `n` bytes from an address, the lowest first. -/
def getBytes (m : Mem) (a : Nat) : Nat → List Byte
  | 0 => []
  | n + 1 => getB m a :: getBytes m (a + 1) n

/-- Write bytes from an address up. -/
def putBytes (m : Mem) (a : Nat) : List Byte → Mem
  | [] => m
  | b :: bs => putBytes (putB m a b) (a + 1) bs

/-- Bytes as a number, the first the least significant (R12). -/
def leNat : List Byte → Nat
  | [] => 0
  | b :: bs => b.toNat + 256 * leNat bs

/-- A number as `n` bytes, the least significant first (R12). -/
def leBytes : Nat → Nat → List Byte
  | 0, _ => []
  | n + 1, v => BitVec.ofNat 8 v :: leBytes n (v / 256)

/-- The little-endian word at an address. -/
def Chip.memW (c : Chip) (a : Nat) : Word := word (leNat (getBytes c.mem a 4))

/-- Write a little-endian word. -/
def Chip.setMemW (c : Chip) (a : Nat) (v : Word) : Chip := { c with mem := putBytes c.mem a (leBytes 4 v.toNat) }

/-- Write bytes to memory. -/
def Chip.setMem (c : Chip) (a : Nat) (bs : List Byte) : Chip := { c with mem := putBytes c.mem a bs }

/-! ### Time and free values -/

/-- The absolute count: the wraps and the count as one 80-bit number (R27). -/
def Clock.abs (k : Clock) : Nat := k.epoch.toNat * 2 ^ 48 + k.count.toNat

/-- The clock at an absolute count. -/
def Clock.ofAbs (n : Nat) : Clock := { count := BitVec.ofNat 48 n, epoch := BitVec.ofNat 32 (n / 2 ^ 48) }

/-- What a meaning reads and does not change: the clock and the fuses. -/
structure Env where
  now : Nat
  fuses : Fuses

/-- The present count as a stamp (R96). -/
def Env.stamp (e : Env) : Count := BitVec.ofNat 48 e.now

/-- Take the next values of the model's counter of free values: the caller may use the 2^40 indices from it on. -/
def Chip.draw (c : Chip) : Nat × Chip := (c.free, { c with free := c.free + 2 ^ 40 })

/-- The first multiple of `m` at or after `t`. -/
def multAt (m t : Nat) : Nat := (t + m - 1) / m * m

/-- The first multiple of `m` after `t`. -/
def multAfter (m t : Nat) : Nat := (t / m + 1) * m

/-- The environment of a state. -/
def State.env (s : State) : Env := { now := s.clock.abs, fuses := s.fuses }

/-- Counts per sample (R31). -/
def Ticks.cs (t : Ticks) : Nat := if t.fs < 2 then 1024 else 512

/-- Samples per block (R32). -/
def Ticks.b (t : Ticks) : Nat := 4 * 2 ^ t.blk

/-- Counts per block (R32). -/
def Ticks.cb (t : Ticks) : Nat := t.b * t.cs

/-- Status of what the count passes from `a` to `b`: the wrap of the count (R27) and of the block index (R34). -/
def Chip.passed (c : Chip) (a b : Nat) : Chip :=
  let c := if b / 2 ^ 48 = a / 2 ^ 48 then c else c.setBit A.MET_STAT 0
  let w := 2 ^ 32 * c.met.ticks.cb
  if b / w = a / w then c else c.setBit A.MET_STAT 3

/-- Move the count on to absolute count `t` (it never steps back, R30); its wraps set MET_STAT.WRAP and KWRAP. -/
def State.advTo (s : State) (t : Nat) : State :=
  if t ≤ s.clock.abs then s
  else { s with clock := Clock.ofAbs t, chip := s.chip.passed s.clock.abs t }

/-- Apply an effect on the chip as at absolute count `t`. -/
def State.onAt (s : State) (t : Nat) (f : Env → Chip → Chip) : State := { s with chip := f { now := t, fuses := s.fuses } s.chip }

/-- Apply an effect on the chip. -/
def State.on (s : State) (f : Env → Chip → Chip) : State := { s with chip := f s.env s.chip }

end Sys2Proof.Machine
end

