-- ==== Sys2Proof/Machine/Metronome.lean ====
section
/-! DEFINITION. Machine/Metronome.lean: the tick arithmetic, the shadow sets and the clock registers
(01_metronome.md). The ticks themselves stand in Machine/Ticks.lean. -/

namespace Sys2Proof.Machine

/-- The frame length in samples (R35). -/
def frameLen (fs fclass blk : Nat) : Nat :=
  if fclass = 0 then
    match fs with
    | 0 => if blk = 4 then 768 else 736
    | 1 => if blk = 4 then 768 else 800
    | 2 => 1472
    | _ => 1600
  else
    match fs with
    | 0 => 896
    | 1 => 960
    | 2 => 1792
    | _ => 1920

/-- N of the settings in force. -/
def Ticks.n (t : Ticks) : Nat := frameLen t.fs t.fclass t.blk

/-- F of the settings in force (R35). -/
def Ticks.f (t : Ticks) : Nat := t.n / t.b

/-- fs in Hz. -/
def Ticks.hz (t : Ticks) : Nat := [44100, 48000, 88200, 96000].getD t.fs 48000

/-- Fabric cycles per lane and block (R65). -/
def Ticks.y (t : Ticks) : Nat := 4 * t.cb

/-- The block index of a count (R33). -/
def Ticks.block (t : Ticks) (now : Nat) : Nat := now / t.cb % 2 ^ 32

/-- How far block `b` lies ahead of block `k`, modulo 2^32 (R34). -/
def ahead (b k : Nat) : Nat := (b + 2 ^ 32 - k % 2 ^ 32) % 2 ^ 32

/-- `b` names a future block (R34). -/
def isFuture (b k : Nat) : Bool := decide (1 ≤ ahead b k ∧ ahead b k < 2 ^ 31)

/-- The count runs slow (R29): MCLK is stopped by a sleep sub-state, or a PLL is not locked. -/
def Chip.slow (c : Chip) : Bool := c.met.stopped || !(c.bit A.SYS_CLK_STAT 0 && c.bit A.SYS_CLK_STAT 1)

/-- The family of SYS_CLK_CFG: true for 44.1 kHz (R20). -/
def Chip.family441 (c : Chip) : Bool := c.bit A.SYS_CLK_CFG 1

/-- The present block index. -/
def Chip.block (e : Env) (c : Chip) : Nat := c.met.ticks.block e.now

/-- Blocks since frame 0 began (R36). -/
def Chip.sinceFrame0 (e : Env) (c : Chip) : Nat := (e.now - c.met.frame0) / c.met.ticks.cb

/-- The frame index (R48). -/
def Chip.frameIndex (e : Env) (c : Chip) : Nat := c.sinceFrame0 e / c.met.ticks.f % 2 ^ 32

/-- The block within the frame (R47). -/
def Chip.blockInFrame (e : Env) (c : Chip) : Nat := c.sinceFrame0 e % c.met.ticks.f

/-- MET_POS at the present count. -/
def Chip.pos (e : Env) (c : Chip) : Word :=
  word (c.blockInFrame e * 2 ^ 16 + (e.now / c.met.ticks.cs % c.met.ticks.b) * 2 ^ 10 + e.now % c.met.ticks.cs)

/-- The shadow set of a read at the present count (R48). -/
def Chip.shadowNow (e : Env) (c : Chip) : Shadow :=
  { hi := BitVec.ofNat 16 (e.now / 2 ^ 32)
    epoch := word (e.now / 2 ^ 48)
    block := word (c.block e)
    pos := c.pos e
    frame := word (c.frameIndex e) }

/-- A read of MET_COUNT_LO by master `p` (R48). -/
def readCountLo (p : Nat) (e : Env) (c : Chip) : Word × Chip :=
  (word e.now, { c with met := { c.met with shadows := putS {} c.met.shadows p (c.shadowNow e) } })

/-- The shadow set of master `p` (R49, R50). -/
def Chip.shadow (c : Chip) (p : Nat) : Shadow := getS {} c.met.shadows p

/-- MET_TICK_CFG: the settings in force. -/
def Chip.tickCfg (c : Chip) : Word :=
  let t := c.met.ticks
  word (t.fclass * 4096 + t.lat * 256 + t.blk * 16 + t.fs)

/-- MET_FRAME_CFG: F and N. -/
def Chip.frameCfg (c : Chip) : Word := word (c.met.ticks.f * 65536 + c.met.ticks.n)

/-- The count begins to run slow: SLOW_SEEN is set (R29). -/
def Chip.slowSeen (c : Chip) : Chip := c.setBit A.MET_STAT 1

/-- A write of SYS_CLK_CFG (R21, R22): in CONFIGURE both PLLs relock and the count runs slow meanwhile; in any other
mode the write is ignored. -/
def writeClkCfg (v : Word) (c : Chip) : Chip :=
  if c.mode = .configure then
    let c := (c.wr A.SYS_CLK_CFG (v &&& 3)).slowSeen
    { (c.wr A.SYS_CLK_STAT (c.rd A.SYS_CLK_STAT &&& ~~~ 7)) with met := { c.met with goodMeas := 0 } }
  else c.setBit A.SYS_CLK_STAT 9

/-- The ticks, the key scans and the conversions go on from `now`: those that the slow count has passed are skipped
(R29, R40). -/
def Chip.ticksFrom (c : Chip) (now : Nat) : Chip :=
  let l := some (now - 1)
  { c with
    met := { c.met with lastSample := l, lastBlock := l, lastFrame := l, gap := (max (c.met.lastSample.getD 0) (c.met.lastBlock.getD 0), now) }
    key := { c.key with lastScan := l }
    adc := { c.adc with last := l } }

/-- The PLLs lock to the selected source, or do not where MCLK_IN is selected and carries no edges (R22). -/
def pllLock (edges : Bool) (e : Env) (c : Chip) : Chip :=
  let c := c.putBit A.SYS_CLK_STAT 3 edges
  if c.bit A.SYS_CLK_CFG 0 && !edges then c
  else
    let was := c.slow
    let c := (c.setBit A.SYS_CLK_STAT 0).setBit A.SYS_CLK_STAT 1
    if was && !c.slow then c.ticksFrom e.now else c

/-- The nominal measurement of the family (R24). -/
def Chip.nominalMeas (c : Chip) : Nat := if c.family441 then 44100 else 48000

/-- A measurement of the clock monitor, which may end holdover (R24, R25). -/
def clockMeasurement (cycles : Nat) (c : Chip) : Chip :=
  let n := c.nominalMeas
  let bad := decide (100 * (cycles - n) > n) || decide (100 * (n - cycles) > n)
  let c := (c.setFld A.SYS_CLK_MEAS 16 0 cycles).putBit A.SYS_CLK_STAT 4 bad
  let good := if bad then 0 else c.met.goodMeas + 1
  let c := { c with met := { c.met with goodMeas := good } }
  if 4 ≤ good then c.clrBit A.SYS_CLK_STAT 2 else c

/-- Holdover may begin: MCLK_IN is selected and was locked (R25). -/
def Chip.canHoldover (c : Chip) : Bool :=
  c.bit A.SYS_CLK_CFG 0 && c.bit A.SYS_CLK_STAT 0 && !c.bit A.SYS_CLK_STAT 2

/-- The status a loss of MCLK_IN leaves (R25): HOLDOVER and LOSS_SEEN set, no edges. -/
def holdoverBits (c : Chip) : Chip :=
  let c := ((c.setBit A.SYS_CLK_STAT 2).setBit A.SYS_CLK_STAT 8).clrBit A.SYS_CLK_STAT 3
  { c with met := { c.met with goodMeas := 0 } }

/-- A wake is requested: the clocks of a sleeping device start again (R576). -/
def Chip.askWake (c : Chip) : Chip :=
  if c.pwr.sub = .none then c else { c with pwr := { c.pwr with waking := true } }

/-- What one Vault-clock edge adds to a slow count (R29). -/
def slowStep (f441 : Bool) (edges : BitVec 3) : Nat :=
  if f441 then (if edges = 7 then 1379 else 1378) else 1500

end Sys2Proof.Machine
end

