-- ==== Sys2Proof/Machine/Queues.lean ====
section
/-! DEFINITION. Machine/Queues.lean: the queues and their write ports, pushes and pops (03_queues_and_events.md). -/

namespace Sys2Proof.Machine

/-- A queue that no entry names: disabled (R91). -/
def qOff : QEntry := { policy := 0, producer := 0, consumer := 0, base := 0, depth := 0, wmLo := 0, wmHi := 0 }

/-- The entry of queue `n` in the map in force. -/
def Chip.qe (c : Chip) (n : Nat) : QEntry := getS qOff c.que.map n

/-- The records queue `n` holds, oldest first. -/
def Chip.qItems (c : Chip) (n : Nat) : List QItem := getS [] c.que.items n

/-- The fill of queue `n` in words (R105). -/
def Chip.qFill (c : Chip) (n : Nat) : Nat := 4 * (c.qItems n).length

/-- Replace the records of queue `n`. -/
def Chip.setItems (c : Chip) (n : Nat) (l : List QItem) : Chip :=
  { c with que := { c.que with items := putS [] c.que.items n l } }

/-- A record's four words (R93). -/
def Rec.w0 (r : Rec) : Word := word (r.source * 2 ^ 24 + r.kind * 2 ^ 16 + r.key * 2 ^ 8 + r.flags.toNat)
/-- Word 1: TIME[31:0]. -/
def Rec.w1 (r : Rec) : Word := word r.time.toNat
/-- Word 2: TIME[47:32] and VALUE_A. -/
def Rec.w2 (r : Rec) : Word := word (r.time.toNat / 2 ^ 32 * 65536 + r.valueA.toNat)
/-- Word `i` of a record. -/
def Rec.wordAt (r : Rec) : Nat → Word
  | 0 => r.w0
  | 1 => r.w1
  | 2 => r.w2
  | _ => r.valueB

/-- The record that four words spell. -/
def recOfWords (w0 w1 w2 w3 : Word) : Rec :=
  { source := bits w0 31 24, kind := bits w0 23 16, key := bits w0 15 8, flags := BitVec.ofNat 8 w0.toNat,
    time := BitVec.ofNat 48 (bits w2 31 16 * 2 ^ 32 + w1.toNat), valueA := BitVec.ofNat 16 w2.toNat, valueB := w3 }

/-- A record with one of its words replaced. -/
def Rec.setWord (r : Rec) (i : Nat) (v : Word) : Rec :=
  recOfWords (if i = 0 then v else r.w0) (if i = 1 then v else r.w1) (if i = 2 then v else r.w2)
    (if i = 3 then v else r.valueB)

/-- A NOTE_OFF in the sense of R107. -/
def Rec.isOff (r : Rec) : Bool := r.kind == 2 || (r.kind == 1 && r.valueA == 0)

/-- The continuous kinds (R94). -/
def Rec.continuous (r : Rec) : Bool := [3, 4, 5, 6, 0x11].contains r.kind

/-- A producer code names a source, directly or through a group other than 0xE0 (R97). -/
def producerNames (p src : Nat) : Bool :=
  p == src || (p == 0xE1 && 0x60 ≤ src && src ≤ 0x62) || (p == 0xE2 && 0x38 ≤ src && src ≤ 0x3A)

/-- The queue a hardware source's records go to (R99). -/
def Chip.route (c : Chip) (src kind : Nat) : Option Nat :=
  let on := c.que.map.filter (fun e => decide (0 < e.2.depth))
  let direct := (on.find? (fun e => e.2.producer ≠ 0 && producerNames e.2.producer src)).map (·.1)
  if kind = 9 && decide (0x10 ≤ src ∧ src ≤ 0x13) then
    match on.find? (fun e => e.2.producer = 0xE0) with
    | some e => some e.1
    | none => direct
  else direct

/-- Count one record in QUEn_DROPS and set OVF (R106). -/
def Chip.drop1 (c : Chip) (n : Nat) : Chip := (c.inc (A.QUEn_DROPS n)).setBit (A.QUEn_STAT n) 3

/-- Count `k` records in QUEn_DROPS; OVF is set when there is one (R106). -/
def Chip.dropN (c : Chip) (n k : Nat) : Chip :=
  if k = 0 then c else (c.addCount (A.QUEn_DROPS n) k).setBit (A.QUEn_STAT n) 3

/-- A free place in the region of queue `n`: which one is not specified (R92, log entry 2). -/
def Chip.freeSlot (c : Chip) (n : Nat) : Nat × Chip :=
  let (k, c') := c.draw
  let used := (c.qItems n).map (·.slot)
  let free := (List.range ((c.qe n).depth / 4)).filter (fun i => !used.contains i)
  (free.getD (Config.freeNat k % free.length) 0, c')

/-- Append a record to queue `n`, whose fill before acceptance counts as `before` (R105, R113). -/
def Chip.append (e : Env) (c : Chip) (n : Nat) (r : Rec) (before : Nat) : Chip :=
  let q := c.qe n
  let (slot, c) := c.freeSlot n
  let flags := if q.wmHi ≤ before then r.flags ||| 8 else r.flags
  let it : QItem := { r := { r with flags := flags }, accepted := e.now, seq := c.que.seq, slot := slot }
  let c := c.setItems n (c.qItems n ++ [it])
  let c := { c with que := { c.que with seq := c.que.seq + 1 } }
  let c := if before = 0 then c.setBit (A.QUEn_STAT n) 0 else c
  let c := if decide (before < q.wmHi) && decide (q.wmHi ≤ c.qFill n) then c.setBit (A.QUEn_STAT n) 1 else c
  c.peak (A.QUEn_PEAK n) (c.qFill n)

/-- Two records match for coalescing (R108). -/
def Rec.merges (a b : Rec) : Bool :=
  a.source == b.source && a.kind == b.kind && a.key == b.key && a.valueB.toNat % 256 == b.valueB.toNat % 256

/-- Merge `r` into the newest of the last `left` records that it matches, if any (R108). The list is newest first. -/
def mergeNewest (r : Rec) : Nat → List QItem → Option (List QItem)
  | 0, _ => none
  | _, [] => none
  | left + 1, it :: l =>
    if it.r.merges r then
      some ({ it with r := { it.r with time := r.time, valueA := r.valueA, valueB := r.valueB,
                                        flags := it.r.flags ||| 2 } } :: l)
    else (mergeNewest r left l).map (it :: ·)

/-- Remove the first record of a list for which `p` holds. -/
def eraseFirst (p : QItem → Bool) : List QItem → Option (List QItem)
  | [] => none
  | it :: l => if p it then some l else (eraseFirst p l).map (it :: ·)

/-- Remove the newest record that is not a NOTE_OFF (R107). -/
def eraseNewestOther (l : List QItem) : Option (List QItem) :=
  (eraseFirst (fun it => !it.r.isOff) l.reverse).map List.reverse

/-- A record meets a full queue that does not hold (R106, R107). -/
def Chip.acceptFull (e : Env) (c : Chip) (n : Nat) (r : Rec) : Chip :=
  let q := c.qe n
  let l := c.qItems n
  let take := fun (l' : List QItem) => ((c.setItems n l').append e n r q.depth).drop1 n
  if q.consumer = 8 then
    if r.isOff then
      match eraseNewestOther l with
      | some l' => take l'
      | none => (c.drop1 n).setBit (A.QUEn_STAT n) 7
    else if q.policy = 1 then
      match eraseFirst (fun it => !it.r.isOff) l with
      | some l' => take l'
      | none => c.drop1 n
    else c.drop1 n
  else if q.policy = 1 then take l.tail
  else c.drop1 n

/-- A record reaches the port of queue `n` (R105, R106, R108); HOLD queues are asked only when they have room. -/
def Chip.accept (e : Env) (c : Chip) (n : Nat) (r : Rec) : Chip :=
  let q := c.qe n
  let fill := c.qFill n
  let merged :=
    if q.policy = 2 && r.continuous && decide (q.wmHi ≤ fill) then mergeNewest r 16 (c.qItems n).reverse else none
  match merged with
  | some l => (c.setItems n l.reverse).inc (A.QUEn_COALESCED n)
  | none => if fill + 4 ≤ q.depth then c.append e n r fill else c.acceptFull e n r

/-- A hardware source forms a record: it enters its skid buffer, or is lost, or has no queue (R99, R103, R104). -/
def Chip.post (e : Env) (c : Chip) (r : Rec) : Chip :=
  match c.route r.source r.kind with
  | none => c.inc A.QUE_UNROUTED
  | some n =>
    let held := (c.que.skid.filter (fun i => i.queue == n && i.r.source == r.source && !i.byMaster)).length
    if held < 2 then
      { c with que := { c.que with skid := c.que.skid ++ [{ queue := n, r := r, byMaster := false, since := e.now }] } }
    else (c.drop1 n).inc A.QUE_SKID_LOSS

/-- Whether the skid buffer of a source in front of the queue it routes to has room (R103). -/
def Chip.skidRoom (c : Chip) (src kind : Nat) : Bool :=
  match c.route src kind with
  | none => true
  | some n => decide ((c.que.skid.filter (fun i => i.queue == n && i.r.source == src && !i.byMaster)).length < 2)

/-- The lowest source number waiting in front of queue `n`. -/
def lowestSource (n : Nat) : List SkidItem → Option Nat
  | [] => none
  | i :: l =>
    match lowestSource n l with
    | none => if i.queue = n then some i.r.source else none
    | some s => if i.queue = n then some (min i.r.source s) else some s

/-- Take the first item of a source out of the skid buffers of queue `n`. -/
def takeSkid (n src : Nat) : List SkidItem → Option (SkidItem × List SkidItem)
  | [] => none
  | i :: l =>
    if i.queue = n && i.r.source = src then some (i, l)
    else (takeSkid n src l).map (fun p => (p.1, i :: p.2))

/-- The record the port of queue `n` would accept next (R103). -/
def Chip.nextSkid (c : Chip) (n : Nat) : Option (SkidItem × List SkidItem) :=
  match lowestSource n c.que.skid with
  | none => none
  | some s => takeSkid n s c.que.skid

/-- Queue `n` is a full HOLD queue, so that commits wait (R109). -/
def Chip.holding (c : Chip) (n : Nat) : Bool :=
  (c.qe n).policy == 3 && decide ((c.qe n).depth < c.qFill n + 4)

/-- One cycle of the write port of queue `n` (R103). -/
def Chip.portCycle (e : Env) (c : Chip) (n : Nat) : Chip :=
  match c.nextSkid n with
  | none => c
  | some (i, l) =>
    if c.holding n then c
    else { c with que := { c.que with skid := l } }.accept e n i.r

/-- The port of the queue that a source's records go to accepts, for at most `fuel` cycles, until the source's skid buffer in
front of it has room (R103). -/
def Chip.makeRoom (e : Env) (src kind : Nat) : Nat → Chip → Chip
  | 0, c => c
  | fuel + 1, c =>
    if c.skidRoom src kind then c
    else match c.route src kind with
      | none => c
      | some q => Chip.makeRoom e src kind fuel (c.portCycle e q)

/-- Form several records in order, one in a cycle, while the ports accept (R103, log entry 36). -/
def Chip.posts (e : Env) (c : Chip) (rs : List Rec) : Chip :=
  rs.foldl (fun c r => (Chip.makeRoom e r.source r.kind c.que.skid.length c).post e r) c

/-- Remove the oldest record of queue `n` (R111, R117); the fill may fall to WM_LO (R113). -/
def Chip.popRec (c : Chip) (n : Nat) : Option (QItem × Chip) :=
  match c.qItems n with
  | [] => none
  | it :: l =>
    let before := c.qFill n
    let c := c.setItems n l
    let lo := (c.qe n).wmLo
    some (it, if decide (lo < before) && decide (c.qFill n ≤ lo) then c.setBit (A.QUEn_STAT n) 2 else c)

/-- Empty queue `n`, counting what it held in QUEn_DROPS (R102). -/
def Chip.emptyCounted (c : Chip) (n : Nat) : Chip := ((c.setItems n []).dropN n (c.qItems n).length)

/-! ### Pushes and pops by software (R110 to R112) -/

/-- The SOURCE a commit by a master carries (R110). -/
def masterSource : Master → Nat
  | .core n => 0x30 + n % 2
  | .dma ch => 0x40 + ch % 16
  | .host ch => 0x38 + ch % 3
  | _ => 0x38

/-- Write word `i` (1 to 3) of a master's staging set (R110). -/
def pushStage (m : Master) (i : Nat) (v : Word) (c : Chip) : Chip :=
  let st := getS {} c.que.stage m.port
  let st := if i = 1 then { st with w1 := v } else if i = 2 then { st with w2 := v } else { st with w3 := v }
  { c with que := { c.que with stage := putS {} c.que.stage m.port st } }

/-- Commit the staged record, stamped now or with its staged TIME (R110, R112). -/
def pushCommit (m : Master) (n : Nat) (timed : Bool) (w0 : Word) (e : Env) (c : Chip) : Chip :=
  let q := c.qe n
  if q.depth = 0 || q.producer ≠ 0 then c.setBit (A.QUEn_STAT n) 6
  else
    let st := getS {} c.que.stage m.port
    let r := recOfWords w0 st.w1 st.w2 st.w3
    let r := { r with
      source := masterSource m
      flags := r.flags &&& 0x04
      time := if timed then r.time else e.stamp }
    { c with que := { c.que with skid := c.que.skid ++ [{ queue := n, r := r, byMaster := true, since := e.now }] } }

/-- A read of QUEn_POP by a master (R111, R112). -/
def popRead (m : Master) (n : Nat) (c : Chip) : Word × Chip :=
  let q := c.qe n
  if q.depth = 0 || q.consumer ≠ 0 then (0, c.setBit (A.QUEn_STAT n) 6)
  else
    match c.popRec n with
    | none => (0, { c.setBit (A.QUEn_STAT n) 4 with que := { c.que with pop := putS {} c.que.pop m.port {} } })
    | some (it, c) =>
      (it.r.w0, { c with que := { c.que with
        pop := putS {} c.que.pop m.port { w1 := it.r.w1, w2 := it.r.w2, w3 := it.r.valueB } } })

/-- QUEn_PEEK (R111). -/
def peekRead (n : Nat) (c : Chip) : Word :=
  match c.qItems n with
  | [] => 0
  | it :: _ => it.r.w0

/-- A read of QUEn_PEAK: the peak, which then becomes the present fill (the register's table). -/
def peakRead (n : Nat) (c : Chip) : Word × Chip := (c.rd (A.QUEn_PEAK n), c.wr (A.QUEn_PEAK n) (word (c.qFill n)))

/-- QUEn_CFG, QUEn_GEOM and QUEn_WM of the entry in force. -/
def qCfgWord (q : QEntry) : Word :=
  word (q.consumer * 2 ^ 24 + q.producer * 2 ^ 16 + (if q.depth = 0 then 0 else 256) + q.policy)
/-- QUEn_GEOM. -/
def qGeomWord (q : QEntry) : Word := word (q.depth * 65536 + q.base)
/-- QUEn_WM. -/
def qWmWord (q : QEntry) : Word := word (q.wmHi * 65536 + q.wmLo)

/-- Interrupt source 48 + n is asserted (R113). -/
def Chip.qIrq (c : Chip) (n : Nat) : Bool := (c.rd (A.QUEn_STAT n) &&& c.rd (A.QUEn_INT_EN n)) ≠ 0

/-! ### Queue RAM inside an enabled queue's region (R92) -/

/-- The enabled queue whose region holds word `w` of queue RAM, with the word's place in the region. -/
def Chip.queueAt (c : Chip) (w : Nat) : Option (Nat × Nat) :=
  (c.que.map.find? (fun e => decide (e.2.base ≤ w ∧ w < e.2.base + e.2.depth))).map (fun e => (e.1, w - e.2.base))

/-- The record whose words stand at a place of a queue's region. -/
def Chip.recAt (c : Chip) (n off : Nat) : Option QItem := (c.qItems n).find? (fun it => it.slot == off / 4)

/-- A word of queue RAM as a read sees it (R92). -/
def Chip.queueRam (c : Chip) (w : Nat) : Word :=
  match c.queueAt w with
  | none => c.memW (0x20000000 + 4 * w)
  | some (n, off) =>
    match c.recAt n off with
    | none => c.memW (0x20000000 + 4 * w)
    | some it => it.r.wordAt (off % 4)

/-- A write of a word of queue RAM (R92): a record whose word it is is delivered with the word written. -/
def Chip.setQueueRam (c : Chip) (w : Nat) (v : Word) : Chip :=
  match c.queueAt w with
  | none => c.setMemW (0x20000000 + 4 * w) v
  | some (n, off) =>
    match c.recAt n off with
    | none => c.setMemW (0x20000000 + 4 * w) v
    | some it => c.setItems n ((c.qItems n).map (fun i => if i.slot = it.slot then { i with r := i.r.setWord (off % 4) v } else i))

/-! ### Structural changes (R102) -/

/-- The Charter's queue map: COUNT = 0 keeps the reset map (R101). -/
def mapOf (ch : Charter) : SMap QEntry :=
  if ch.queues.isEmpty then resetMap
  else ch.queues.foldl (fun m e => putS qOff m e.1 e.2) []

/-- A commit from CONFIGURE empties every queue, clears its counters and status, and discards what waits in skid
buffers (R102). -/
def Chip.commitQueues (c : Chip) (ch : Charter) : Chip :=
  let c := c.addCount A.QUE_SKID_LOSS c.que.skid.length
  let c := (List.range 64).foldl (fun c n =>
    ((((c.wr (A.QUEn_PEAK n) 0).wr (A.QUEn_DROPS n) 0).wr (A.QUEn_LATES n) 0).wr (A.QUEn_COALESCED n) 0).wr (A.QUEn_STAT n) 0) c
  { c with que := { c.que with map := mapOf ch, sources := ch.sources, items := [], skid := [] } }

/-- A swap keeps the queues whose entries are identical and empties the others (R102). -/
def Chip.swapQueues (c : Chip) (ch : Charter) : Chip :=
  let m := mapOf ch
  let changed := fun n => decide (c.qe n ≠ getS qOff m n)
  let c := (List.range 64).foldl (fun c n =>
    if changed n then
      let lost := (c.que.skid.filter (fun i => i.queue == n)).length
      (c.emptyCounted n).dropN n lost
    else c) c
  { c with que := { c.que with
      map := m
      sources := ch.sources
      skid := c.que.skid.filter (fun i => !changed i.queue) } }

end Sys2Proof.Machine
end

