-- ==== Sys2Proof/Machine/Charter.lean ====
section
/-! DEFINITION. Machine/Charter.lean: a Charter's sections, the ordered checks of R72 and the admission algorithm of
R70 (02_charter.md). Nothing here changes the state. -/

namespace Sys2Proof.Machine

/-- A check's outcome: a value, or a result code with its DETAIL (R73). -/
abbrev Chk (α : Type) := Except (Nat × Nat) α

/-- Refuse with a code and DETAIL where the condition fails. -/
def need (ok : Bool) (code detail : Nat) : Chk Unit := if ok then .ok () else .error (code, detail)

/-- Check the elements of a list in order, each with its index from `i`. -/
def needAll {α : Type} (f : Nat → α → Chk Unit) : Nat → List α → Chk Unit
  | _, [] => .ok ()
  | i, x :: l => match f i x with
    | .error e => .error e
    | .ok _ => needAll f (i + 1) l

/-- The byte at an offset of a string, as a number. -/
def byteAt (bs : List Byte) (o : Nat) : Nat := (bs.getD o 0).toNat
/-- The halfword at an offset (R12). -/
def halfAt (bs : List Byte) (o : Nat) : Nat := byteAt bs o + 256 * byteAt bs (o + 1)
/-- The word at an offset (R12). -/
def wordAt (bs : List Byte) (o : Nat) : Nat := halfAt bs o + 65536 * halfAt bs (o + 2)
/-- A list in records of `k` bytes. -/
def records (k : Nat) (bs : List Byte) : List (List Byte) := chunks k (bs.length / k) bs

/-- A section as the walk finds it (R54). -/
structure Section where
  off : Nat
  id : Nat
  ver : Nat
  res : Nat
  body : List Byte
  crcOk : Bool

/-- The section walk of check 4 (R673). -/
def walk (total : Nat) : Nat → Nat → List Byte → Chk (List Section)
  | 0, off, _ => if off = total then .ok [] else .error (0x02, off)
  | fuel + 1, off, bs =>
    if off = total then .ok []
    else if total < off + 12 then .error (0x02, off)
    else
      let len := wordAt bs 4
      if len % 4 ≠ 0 || total < off + 12 + len then .error (0x02, off)
      else
        let body := (bs.drop 8).take len
        let s : Section :=
          { off := off, id := byteAt bs 0, ver := byteAt bs 1, res := halfAt bs 2, body := body,
            crcOk := (crc32 (bs.take (8 + len))).toNat = wordAt bs (8 + len) }
        match walk total fuel (off + 12 + len) (bs.drop (12 + len)) with
        | .error e => .error e
        | .ok l => .ok (s :: l)

/-- Check 6 (R673): the frames and their order; `want` is the next section expected. -/
def frameOrder (total : Nat) : Nat → List Section → Chk Unit
  | want, [] => if want ≤ 9 then .error (0x03, total) else .ok ()
  | want, s :: l =>
    if s.id = want && s.ver = 1 && s.res = 0 && decide (want ≤ 10) then frameOrder total (want + 1) l
    else .error (0x03, s.off)

/-- The body of the section with an ID, empty where there is none. -/
def bodyOf (l : List Section) (id : Nat) : List Byte := ((l.find? (fun s => s.id = id)).map (·.body)).getD []

/-- The body length that R55 requires of a section. -/
def lenOk (s : Section) : Bool :=
  let n := s.body.length
  match s.id with
  | 1 => n = 24
  | 2 => n = 8
  | 3 => decide (8 ≤ n) && n = 8 + 4 * halfAt s.body 0
  | 4 => decide (8 ≤ n) && n = 8 + 16 * halfAt s.body 0 + 8 * halfAt s.body 2
  | 5 => decide (4 ≤ n) && n = 4 + 16 * halfAt s.body 0 + 4 * halfAt s.body 2
  | 6 => n = 40
  | 7 => n = 16
  | 8 => decide (8 ≤ n) && n = 8 + 68 * byteAt s.body 1 + 8 * byteAt s.body 2
  | 9 => n = 60
  | _ => n = 20

/-- Checks 2 to 7 of R673 on the bytes from the source, `limit` of which lie in its region. -/
def framing (limit : Nat) (bs : List Byte) : Chk (List Section) := do
  need (wordAt bs 8 = 0x48434B4C) 0x01 0
  let total := wordAt bs 16
  need (decide (total ≤ 393216 ∧ total ≤ limit)) 0x02 0
  let l ← walk total (total / 12 + 1) 0 (bs.take total)
  needAll (fun _ s => need s.crcOk 0x04 s.id) 0 l
  frameOrder total 1 l
  let flags := wordAt (bodyOf l 1) 16
  let auth := l.find? (fun s => s.id = 10)
  need (flags / 2 = 0) 0x03 0
  match auth with
  | some a => need (flags = 1) 0x03 a.off
  | none => need (flags = 0) 0x03 total
  needAll (fun _ s => need (lenOk s) 0x05 s.id) 0 l
  return l

/-- What the loader judges a Charter against beside its bytes. -/
structure LoadCtx where
  authReq : Bool
  keyValid : Bool
  key : List Byte
  profileLock : Nat
  family441 : Bool
  maxLanes : Nat
  maxVoices : Nat
  /-- XMC_XSPI_DEVn_CFG and _TIM of the two devices -/
  xspi : List (Word × Word)
  sdrTim : Word
  vioB18 : Bool

/-- Step 2 (R63, R64). Answers whether AUTH was skipped. -/
def authStep (x : LoadCtx) (bs : List Byte) (l : List Section) : Chk Bool := do
  let auth := l.find? (fun s => s.id = 10)
  need (!(x.authReq && !x.keyValid)) 0x08 0
  match auth with
  | none => need (!x.authReq) 0x07 0; return false
  | some a =>
    if x.keyValid then
      need (byteAt a.body 0 = 1 && byteAt a.body 1 = 0 && byteAt a.body 2 = 0 && byteAt a.body 3 = 0) 0x08 0
      need ((hmac256 x.key (bs.take a.off)).take 16 = (a.body.drop 4).take 16) 0x08 0
      return false
    else return true

/-! ### Step 4: fields -/

/-- The voice entries of FABRIC. -/
def parseVoices (b : List Byte) : List VoiceEntry :=
  (records 4 (b.drop 8)).map (fun r =>
    { kind := byteAt r 0, lane := byteAt r 1, maxoct := byteAt r 2, format := byteAt r 3 })

/-- A voice with no entry, or of kind NONE. -/
def vNone : VoiceEntry := { kind := 0, lane := 0, maxoct := 0, format := 0 }

/-- TICK (0x10). -/
def tickFields (b : List Byte) : Chk Unit := do
  need (byteAt b 0 ≤ 3) 0x10 0
  need (byteAt b 1 ≤ 4) 0x10 1
  need (decide (1 ≤ byteAt b 2 ∧ byteAt b 2 ≤ 8)) 0x10 2
  need ((b.drop 3).all (· = 0)) 0x10 3

/-- One voice entry: its own fields, then R56 and R675. -/
def voiceFields (lanes : Nat) (vs : List VoiceEntry) (v : Nat) (e : VoiceEntry) : Chk Unit := do
  need (e.kind ≤ 6) 0x21 v
  if e.kind = 0 then return ()
  need (e.lane < lanes) 0x22 (8 + 4 * v + 1)
  need (e.maxoct ≤ 3) 0x22 (8 + 4 * v + 2)
  need (e.format ≤ 5) 0x22 (8 + 4 * v + 3)
  if e.kind = 5 then
    let nx := vs.getD (v + 1) vNone
    need (v % 2 = 0 && decide (1 ≤ nx.kind ∧ nx.kind ≤ 4) && nx.lane = e.lane && decide (e.format ≤ 2)) 0x21 v

/-- FABRIC (0x21, 0x22). -/
def fabricFields (b : List Byte) : Chk Unit := do
  need (halfAt b 0 ≤ 256) 0x22 0
  need (decide (1 ≤ byteAt b 2 ∧ byteAt b 2 ≤ 8)) 0x22 2
  need (decide (1 ≤ byteAt b 3 ∧ byteAt b 3 ≤ 16)) 0x22 3
  need (byteAt b 4 ≤ 3) 0x22 4
  need (byteAt b 5 ≤ 1) 0x22 5
  let vs := parseVoices b
  needAll (voiceFields (byteAt b 2) vs) 0 vs

/-- The nodes of GRAPH. -/
def parseNodes (b : List Byte) : List Node :=
  (records 16 ((b.drop 8).take (16 * halfAt b 0))).map (fun r =>
    { type := byteAt r 0, index := byteAt r 1, kind := byteAt r 2, stereo := byteAt r 3 % 2 = 1,
      delayBase := wordAt r 4, delayBytes := wordAt r 8, init := word (wordAt r 12) })

/-- The edges of GRAPH. -/
def parseEdges (b : List Byte) : List Edge :=
  (records 8 (b.drop (8 + 16 * halfAt b 0))).map (fun r =>
    { src := halfAt r 0, dst := halfAt r 2, gain := BitVec.ofNat 16 (halfAt r 4), fb := halfAt r 6 % 2 = 1 })

/-- Indices a node type has. -/
def typeIndices (t : Nat) : Nat := [0, 4, 16, 12, 32, 64].getD t 0

/-- A UNIT node of kind DELAY or REVERB. -/
def Node.hasRegion (n : Node) : Bool := n.type == 3 && (n.kind == 1 || n.kind == 2)

/-- One node record (R676). -/
def nodeFields (r : List Byte) : Bool :=
  let t := byteAt r 0
  let k := byteAt r 2
  let region := t = 3 && (k = 1 || k = 2)
  decide (1 ≤ t ∧ t ≤ 5) && decide (byteAt r 1 < typeIndices t)
    && (if t = 3 then decide (1 ≤ k ∧ k ≤ 10) else k = 0) && byteAt r 3 / 2 = 0
    && (if region then wordAt r 4 % 4 = 0 && wordAt r 8 % 4 = 0 else wordAt r 4 = 0 && wordAt r 8 = 0)

/-- GRAPH under R676 (0x29). -/
def graphFields (b : List Byte) : Chk Unit := do
  let nodes := halfAt b 0
  need (nodes ≤ 256 && halfAt b 2 ≤ 1024 && decide (48 ≤ byteAt b 4 ∧ byteAt b 4 ≤ 144)
    && byteAt b 5 = 0 && byteAt b 6 = 0 && byteAt b 7 = 0) 0x29 0xFFFF
  needAll (fun n r => need (nodeFields r) 0x29 n) 0 (records 16 ((b.drop 8).take (16 * nodes)))
  needAll (fun e r => need (decide (halfAt r 0 < nodes) && decide (halfAt r 2 < nodes) && halfAt r 6 / 2 = 0)
    0x29 (0x4000 + e)) 0 (records 8 (b.drop (8 + 16 * nodes)))

/-- The SAP entries of PORTS. -/
def parseSaps (b : List Byte) : List SapEntry :=
  (records 8 (b.take 32)).map (fun r =>
    { mode := byteAt r 0, master := byteAt r 1 % 2 = 1, outEn := byteAt r 1 / 2 % 2 = 1,
      inEn := byteAt r 1 / 4 % 2 = 1, slots := byteAt r 2, width := byteAt r 3, outBase := byteAt r 4,
      inBase := byteAt r 5 })

/-- The IN channels an entry feeds. -/
def SapEntry.feeds (s : SapEntry) : List Nat :=
  if s.mode ≠ 0 && s.inEn then (List.range s.slots).map (s.inBase + ·) else []

/-- One SAP entry under R195, given the IN channels that earlier entries feed. -/
def sapOk (earlier : List Nat) (r : List Byte) (s : SapEntry) : Bool :=
  decide (s.mode ≤ 3) && byteAt r 1 / 8 = 0 && byteAt r 6 = 0 && byteAt r 7 = 0
    && (s.mode = 0 ||
      ((if s.mode = 3 then [2, 4, 8, 16].contains s.slots else s.slots = 2)
        && [16, 24, 32].contains s.width && decide (s.outBase ≤ 31)
        && s.feeds.all (fun i => decide (i ≤ 55) && !earlier.contains i)))

/-- The SAP entries in order (R195). -/
def sapsOk : Nat → List Nat → List (List Byte × SapEntry) → Chk Unit
  | _, _, [] => .ok ()
  | i, earlier, (r, s) :: l =>
    if sapOk earlier r s then sapsOk (i + 1) (earlier ++ s.feeds) l else .error (0x38, i)

/-- PORTS (0x38). -/
def portFields (b : List Byte) : Chk Unit := do
  sapsOk 0 [] ((records 8 (b.take 32)).zip (parseSaps b))
  let r := b.drop 32
  need (byteAt r 0 ≤ 1 && (r.drop 2).all (· = 0) && (byteAt r 0 = 0 || decide (byteAt r 1 ≤ 30))) 0x38 4

/-- The DISPLAY section. -/
def parseDisplay (b : List Byte) : DisplaySec :=
  { kind := byteAt b 0, mode := byteAt b 1, fclass := byteAt b 2, layers := byteAt b 3,
    folioFmt := ((b.drop 4).take 4).map (·.toNat), surfFmt := byteAt b 8, sprFmt := byteAt b 9,
    w := halfAt b 10, h := halfAt b 12, fbTarget := byteAt b 14 }

/-- W or H of a command-mode panel (R265). -/
def panelSize (n : Nat) : Bool := n % 16 = 0 && decide (16 ≤ n ∧ n ≤ 1024)

/-- Bit `i` of a number. -/
def nbit (n i : Nat) : Bool := n / 2 ^ i % 2 = 1

/-- DISPLAY (0x40), in ascending offset (R265, R55). -/
def displayFields (b : List Byte) : Chk Unit := do
  let d := parseDisplay b
  need (d.kind ≤ 4) 0x40 0
  need (if d.kind = 1 then decide (1 ≤ d.mode ∧ d.mode ≤ 8) else d.mode = 0) 0x40 1
  need (d.fclass ≤ 1 && (d.kind ≠ 1 || d.fclass = (if d.mode ≤ 4 then 0 else 1))) 0x40 2
  need (match d.kind with
    | 1 => decide (d.layers < 64)
    | 2 => d.layers = 0x10
    | 3 => d.layers = 0x10
    | _ => d.layers = 0) 0x40 3
  needAll (fun i f => need (f / 8 = 0 && !(nbit d.layers i && f % 4 = 3)) 0x40 (4 + i)) 0 d.folioFmt
  need (d.surfFmt % 16 / 4 = 0 && d.surfFmt / 32 = 0 && !(nbit d.layers 4 && d.surfFmt % 4 = 3)) 0x40 8
  need (d.sprFmt / 4 = 0 && !(nbit d.layers 5 && d.sprFmt % 4 = 3)) 0x40 9
  need (if d.kind = 2 || d.kind = 3 then panelSize d.w else d.w = 0) 0x40 10
  need (if d.kind = 2 || d.kind = 3 then panelSize d.h else d.h = 0) 0x40 12
  need (d.kind = 0 || d.kind = 4 || [1, 2, 5, 6].contains d.fbTarget) 0x40 14
  need (byteAt b 15 = 0) 0x40 15

/-- The wheel entries of MEMORY: target and 64 slots. -/
def parseWheels (b : List Byte) : List (Nat × List Nat) :=
  (records 68 ((b.drop 8).take (68 * byteAt b 1))).map (fun r => (byteAt r 0, (r.drop 4).map (·.toNat)))

/-- The stream entries of MEMORY. -/
def parseStreams (b : List Byte) : List StreamEntry :=
  (records 8 (b.drop (8 + 68 * byteAt b 1))).map (fun r =>
    { channel := byteAt r 0, target := byteAt r 1, bytes := wordAt r 4 })

/-- The masters R448 admits at a target. -/
def admits (t m : Nat) : Bool :=
  (match t with
   | 0 => [0, 1, 2, 3]
   | 1 => [0, 1, 2, 3, 4, 6, 7, 8]
   | 2 => [0, 1, 2, 3, 4, 6, 7, 8]
   | 3 => [0, 1, 2, 3, 8]
   | 4 => [0, 1, 2, 3, 5, 8]
   | 5 => [0, 1, 2, 3, 4, 6, 7, 8]
   | 6 => [0, 1, 2, 3, 4, 6, 7, 8]
   | 7 => [0, 1, 2, 3, 8]
   | 8 => [0, 1, 2, 3, 8]
   | _ => []).contains m

/-- The wheel entries in order (R677). -/
def wheelsOk : Nat → List Nat → List (List Byte × (Nat × List Nat)) → Chk Unit
  | _, _, [] => .ok ()
  | i, earlier, (r, w) :: l =>
    if [1, 2, 4, 5, 6].contains w.1 && !earlier.contains w.1
        && byteAt r 1 = 0 && byteAt r 2 = 0 && byteAt r 3 = 0
        && w.2.all (fun s => s = 0xFF || decide (2 ≤ s ∧ s ≤ 6))
    then wheelsOk (i + 1) (w.1 :: earlier) l else .error (0x48, i)

/-- The stream entries under the last two rules of R62. -/
def streamsOk : Nat → List Nat → List StreamEntry → Chk Unit
  | _, _, [] => .ok ()
  | i, earlier, s :: l =>
    if decide (s.target ≤ 8) && admits s.target 2 && admits s.target 3 && !earlier.contains s.channel
    then streamsOk (i + 1) (s.channel :: earlier) l else .error (0x48, 0x200 + i)

/-- xSPI line time in xSPI clocks (R469). -/
def xspiT (lat csh : Nat) : Nat := 19 + lat + csh

/-- R470 for one device: TYPE 0, or both line times at most 30. -/
def xspiFits (p : Word × Word) : Bool :=
  bits p.1 1 0 = 0 || (decide (xspiT (bits p.2 4 0) (bits p.2 19 16) ≤ 30)
    && decide (xspiT (bits p.2 12 8) (bits p.2 19 16) ≤ 30))

/-- A three-bit-or-less timing field that is 1 to 3: 0 counts as 1 (log entry 6). -/
def atLeast1 (n : Nat) : Nat := max 1 n

/-- The longer SDRAM line time (R476, R477). -/
def sdrLmax (t : Word) : Nat :=
  let rcd := atLeast1 (bits t 1 0)
  let rp := atLeast1 (bits t 5 4)
  max (rcd + max 2 (bits t 3 2) + 16 + rp) (rcd + 16 + atLeast1 (bits t 7 6) + rp)

/-- R477. -/
def sdrFits (t : Word) : Bool :=
  let lmax := sdrLmax t
  let refi := bits t 27 16
  decide (lmax ≤ 25) && decide (lmax * refi ≤ 26 * (refi - bits t 11 8))

/-- The entry number of the wheel of a target. -/
def wheelNo (ws : List (Nat × List Nat)) (t : Nat) : Option Nat := ws.findIdx? (fun w => w.1 = t)

/-- The external-memory timing checks (R470, R477, R661), made at VERIFY and again at COMMIT and PLAN_SWAP. -/
def memTiming (x : LoadCtx) (xspiDiv : Nat) (ws : List (Nat × List Nat)) : Chk Unit := do
  match wheelNo ws 5 with
  | some i => need (x.xspi.all xspiFits) 0x48 i
  | none => pure ()
  match wheelNo ws 6 with
  | some i => need (sdrFits x.sdrTim) 0x48 i
  | none => pure ()
  need (!(xspiDiv = 0 && !x.vioB18)) 0x48 0x300

/-- MEMORY (0x48): its fields, then R62, then the timing checks (R72). -/
def memoryFields (x : LoadCtx) (b : List Byte) : Chk Unit := do
  let ws := parseWheels b
  let ss := parseStreams b
  need (byteAt b 0 ≤ 2) 0x48 0x300
  need (byteAt b 1 ≤ 5) 0x48 5
  need (byteAt b 2 ≤ 16) 0x48 0x210
  need (byteAt b 4 = 0 && byteAt b 5 = 0 && byteAt b 6 = 0 && byteAt b 7 = 0) 0x48 0x300
  wheelsOk 0 [] ((records 68 ((b.drop 8).take (68 * byteAt b 1))).zip ws)
  needAll (fun i r => need (byteAt r 0 ≤ 15 && byteAt r 2 = 0 && byteAt r 3 = 0) 0x48 (0x200 + i)) 0
    (records 8 (b.drop (8 + 68 * byteAt b 1)))
  need ([1, 2, 5, 6].contains (byteAt b 3)) 0x48 0x100
  needAll (fun i w => need (w.2.all (fun s => s = 0xFF || admits w.1 s)) 0x48 i) 0 ws
  streamsOk 0 [] ss
  memTiming x (byteAt b 0) ws

/-! ### The parsed Charter -/

/-- The queue entries of QUEUES. -/
def parseQueues (b : List Byte) : List (Nat × QEntry) :=
  (records 16 ((b.drop 4).take (16 * halfAt b 0))).map (fun r =>
    (byteAt r 0, { policy := byteAt r 1, producer := byteAt r 2, consumer := byteAt r 3, base := halfAt r 4,
                   depth := halfAt r 6, wmLo := halfAt r 8, wmHi := halfAt r 10 }))

/-- The source entries of QUEUES. -/
def parseSources (b : List Byte) : List SrcEntry :=
  (records 4 (b.drop (4 + 16 * halfAt b 0))).map (fun r =>
    { source := byteAt r 0, late := byteAt r 1, resv := halfAt r 2 })

/-- The Charter that a list of sections spells. -/
def parseCharter (l : List Section) : Charter :=
  let h := bodyOf l 1
  let t := bodyOf l 2
  let f := bodyOf l 3
  let g := bodyOf l 4
  let q := bodyOf l 5
  let p := bodyOf l 6
  let m := bodyOf l 8
  let b := bodyOf l 9
  { profile := word (wordAt h 4), serial := word (wordAt h 12), fs := byteAt t 0, blk := byteAt t 1,
    lat := byteAt t 2, voices := parseVoices f, lanes := byteAt f 2, dispatch := byteAt f 3, steal := byteAt f 4,
    retrig := byteAt f 5, chimes := halfAt f 6, silence := byteAt g 4, nodes := parseNodes g, edges := parseEdges g,
    queues := parseQueues q, sources := parseSources q, saps := parseSaps p, spdifEn := byteAt p 32 = 1,
    spdifBase := byteAt p 33, display := parseDisplay (bodyOf l 7), xspiDiv := byteAt m 0,
    waveTarget := byteAt m 3, wheels := parseWheels m, streams := parseStreams m, queueBytes := q, portBytes := p,
    claims := (List.range 15).map (fun i => wordAt b (4 * i)) }

/-- The tick settings of a Charter. -/
def Charter.ticks (ch : Charter) : Ticks := { fs := ch.fs, blk := ch.blk, lat := ch.lat, fclass := ch.display.fclass }

/-! ### Steps 5 to 7 -/

/-- Step 5: the grade (R4) and the family (R20). -/
def gradeStep (x : LoadCtx) (ch : Charter) : Chk Unit := do
  need (ch.lanes ≤ x.maxLanes) 0x20 (0x8000 + x.maxLanes)
  needAll (fun v e => need (e.kind = 0 || decide (v < x.maxVoices)) 0x20 v) 0 ch.voices
  need ((ch.fs % 2 = 0) = x.family441) 0x11 0

/-- Whether an earlier node holds the same index. -/
def repeatsIndex (ns : List Node) (i : Nat) (n : Node) : Bool :=
  (ns.take i).any (fun m => m.type = n.type && m.index = n.index)

/-- R178 for one node. -/
def stereoOk (ns : List Node) (n : Node) : Bool :=
  !((n.type = 4 || n.type = 5) && n.stereo)
    || (decide (n.index ≤ (if n.type = 4 then 30 else 62))
      && ns.all (fun m => !(m.type = n.type && m.index = n.index + 1)))

/-- The edge rules of R58. -/
def edgeOk (ns : List Node) (e : Edge) : Bool :=
  let a := (ns.getD e.src { type := 0, index := 0, kind := 0, stereo := false, delayBase := 0, delayBytes := 0, init := 0 })
  let b := (ns.getD e.dst { type := 0, index := 0, kind := 0, stereo := false, delayBase := 0, delayBytes := 0, init := 0 })
  b.type ≠ 1 && b.type ≠ 5 && a.type ≠ 4 && (!e.fb || (b.type = 3 && b.kind = 1))

/-- Two delay regions overlap. -/
def regionsMeet (a b : Node) : Bool :=
  a.hasRegion && b.hasRegion && decide (a.delayBase < b.delayBase + b.delayBytes)
    && decide (b.delayBase < a.delayBase + a.delayBytes)

/-- The delay region of a node (R58): in range and clear of lower-numbered nodes' regions. -/
def regionOk (ns : List Node) (i : Nat) (n : Node) : Bool :=
  !n.hasRegion || (decide (n.delayBase + n.delayBytes ≤ 524288)
    && (n.delayBytes = 0 || (ns.take i).all (fun m => m.delayBytes = 0 || !regionsMeet m n)))

/-- The nodes reachable in one edge (FB edges removed) from a set, added to it. -/
def reachStep (es : List Edge) (seen : List Nat) : List Nat :=
  es.foldl (fun s e => if !e.fb && seen.contains e.src && !s.contains e.dst then e.dst :: s else s) seen

/-- Close a set under reachability, in at most `fuel` rounds. -/
def reachAll (es : List Edge) : Nat → List Nat → List Nat
  | 0, s => s
  | fuel + 1, s =>
    let s' := reachStep es s
    if s'.length = s.length then s else reachAll es fuel s'

/-- A node lies on a cycle of the edges without FB. -/
def onCycle (es : List Edge) (nodes i : Nat) : Bool :=
  let first := (es.filter (fun e => !e.fb && e.src = i)).map (·.dst)
  (reachAll es nodes first.eraseDups).contains i

/-- The lowest-numbered node on a cycle. -/
def firstCycle (nodes : Nat) (es : List Edge) : Option Nat := (List.range nodes).find? (onCycle es nodes)

/-- Step 6: R58 and R178 in the order of R676. -/
def graphStep (ns : List Node) (es : List Edge) : Chk Unit := do
  needAll (fun i n => need (!repeatsIndex ns i n) 0x29 i) 0 ns
  needAll (fun i e => need (edgeOk ns e) 0x29 (0x4000 + i)) 0 es
  needAll (fun i n => need (stereoOk ns n) 0x29 i) 0 ns
  needAll (fun i n => need (regionOk ns i n) 0x2A i) 0 ns
  match firstCycle ns.length es with
  | some i => .error (0x28, i)
  | none => .ok ()

/-- The sources that a PRODUCER code names, SysEx of the DIN inputs counting as 0xE0 (R97, R99). -/
def producerSources (p : Nat) : List Nat :=
  if p = 0 then [] else if p = 0xE1 then [0x60, 0x61, 0x62] else if p = 0xE2 then [0x38, 0x39, 0x3A] else [p]

/-- The PRODUCER codes of R97. -/
def producerCodes : List Nat :=
  [0, 1, 2, 8, 0x10, 0x11, 0x12, 0x13, 0x18, 0x19, 0x20, 0x38, 0x39, 0x3A, 0x60, 0x61, 0x62, 0xE0, 0xE1, 0xE2]

/-- The CONSUMER codes of R98. -/
def consumerCodes : List Nat := [0, 8, 0x14, 0x15, 0x16, 0x17, 0x1A, 0xE2]

/-- The source numbers of R95. -/
def sourceNumbers : List Nat :=
  [1, 2, 8, 0x10, 0x11, 0x12, 0x13, 0x18, 0x19, 0x20, 0x30, 0x31, 0x38, 0x39, 0x3A]
  ++ (List.range 16).map (0x40 + ·) ++ [0x60, 0x61, 0x62]

/-- One queue entry against the earlier ones (R100). -/
def queueOk (earlier : List (Nat × QEntry)) (r : List Byte) (n : Nat) (q : QEntry) : Bool :=
  let on := earlier.filter (fun e => decide (0 < e.2.depth))
  decide (n ≤ 63) && earlier.all (fun e => e.1 ≠ n) && (r.drop 12).all (· = 0)
    && decide (q.policy ≤ 3) && (q.policy ≠ 3 || q.producer = 0)
    && producerCodes.contains q.producer && consumerCodes.contains q.consumer
    && q.base % 4 = 0 && q.depth % 4 = 0 && q.wmLo % 4 = 0 && q.wmHi % 4 = 0
    && (q.depth = 0 || decide (16 ≤ q.depth ∧ q.depth ≤ 16384)) && decide (q.base + q.depth ≤ 16384)
    && (q.depth = 0 ||
      (on.all (fun e => decide (e.2.base + e.2.depth ≤ q.base ∨ q.base + q.depth ≤ e.2.base))
        && decide (q.wmLo < q.wmHi ∧ q.wmHi ≤ q.depth)
        && on.all (fun e => (producerSources q.producer).all (fun s => !(producerSources e.2.producer).contains s))
        && (q.consumer = 0 || q.consumer = 8 || on.all (fun e => e.2.consumer ≠ q.consumer))
        && (q.consumer ≠ 8 || decide ((on.filter (fun e => e.2.consumer = 8)).length < 16))))

/-- The queue entries in order. -/
def queuesOk : Nat → List (Nat × QEntry) → List (List Byte × (Nat × QEntry)) → Chk Unit
  | _, _, [] => .ok ()
  | i, earlier, (r, n, q) :: l =>
    if queueOk earlier r n q then queuesOk (i + 1) (earlier ++ [(n, q)]) l else .error (0x30, i)

/-- The source entries in order, against the queue map (R60, R100). -/
def sourcesOk (m : SMap QEntry) : Nat → List Nat → List SrcEntry → Chk Unit
  | _, _, [] => .ok ()
  | i, earlier, s :: l =>
    if sourceNumbers.contains s.source && !earlier.contains s.source && decide (s.late ≤ 1)
        && (s.resv = 0 || m.any (fun e => decide (0 < e.2.depth) && e.2.consumer = 8 && e.2.producer = s.source))
    then sourcesOk m (i + 1) (s.source :: earlier) l else .error (0x30, 0x100 + i)

/-- Step 7: the whole QUEUES section (R100). -/
def queueStep (ch : Charter) : Chk Unit := do
  let b := ch.queueBytes
  need (halfAt b 0 ≤ 64) 0x30 64
  need (halfAt b 2 ≤ 64) 0x30 (0x100 + 64)
  queuesOk 0 [] ((records 16 ((b.drop 4).take (16 * halfAt b 0))).zip ch.queues)
  sourcesOk (mapOf ch) 0 [] ch.sources

/-! ### Costs (R65 to R69) and admission (R70) -/

/-- Taps of a voice kind (R66). -/
def kindTaps (k : Nat) : Nat := [0, 4, 4, 8, 8, 4, 0].getD k 0

/-- Bytes of a sample frame in a wave format. -/
def formatW (f : Nat) : Nat := [1, 2, 3, 2, 4, 6].getD f 1

/-- The voice before `v` is a PMM, so that `v` is its carrier (R56). -/
def isCarrier (vs : List VoiceEntry) (v : Nat) : Bool := v % 2 = 1 && (vs.getD (v - 1) vNone).kind = 5

/-- A voice's cost in lane-cycles per block (R66). -/
def voiceCost (b : Nat) (e : VoiceEntry) (carrier : Bool) : Nat :=
  if e.kind = 0 then 0
  else
    let fixed := [0, 12, 12, 12, 12, 8, 16].getD e.kind 0
    let per := [0, 32, 44, 68, 80, 24, 20].getD e.kind 0
    let s := if e.format ≤ 2 then 0 else [0, 12, 20, 24, 32, 0, 8].getD e.kind 0
    fixed + b * (per + s + (if carrier then 8 else 0))

/-- The voices of a Charter that have a kind, with numbers. -/
def Charter.active (ch : Charter) : List (Nat × VoiceEntry) :=
  (ch.voices.zipIdx.map (fun p => (p.2, p.1))).filter (fun p => p.2.kind ≠ 0)

/-- Rounded-up quotient. -/
def ceilDiv (a d : Nat) : Nat := (a + d - 1) / d

/-- A voice's stream bytes per block (R68). -/
def voiceStream (b : Nat) (e : VoiceEntry) : Nat :=
  if e.kind = 6 then 32 * (ceilDiv (b * formatW e.format) 32 + 1)
  else 32 * (ceilDiv ((b * 2 ^ e.maxoct + kindTaps e.kind) * formatW e.format) 32 + 1)

/-- A node's cost in effect-fabric cycles per block (R67). -/
def nodeCost (b : Nat) (n : Node) : Nat :=
  let ch := if n.stereo then 2 else 1
  if n.type = 3 then
    [0, 16, 64, 24, 24, 24, 16, 24, 24, 16, 16].getD n.kind 0
      + b * ch * [0, 12, 180, 40, 36, 48, 60, 28, 32, 16, 24].getD n.kind 0
  else if n.type = 2 || n.type = 4 then b * ch
  else 0

/-- Delay-RAM bytes per block of a node (R67). -/
def nodeDram (b : Nat) (n : Node) : Nat :=
  if n.type = 3 then b * (if n.stereo then 2 else 1) * [0, 8, 64].getD n.kind 0 else 0

/-- A node that does not exist. -/
def nodeNone : Node := { type := 0, index := 0, kind := 0, stereo := false, delayBase := 0, delayBytes := 0, init := 0 }

/-- An edge's cost (R67). -/
def edgeCost (b : Nat) (ns : List Node) (e : Edge) : Nat :=
  2 * b * (if (ns.getD e.src nodeNone).stereo || (ns.getD e.dst nodeNone).stereo then 2 else 1)

/-- Bits per pixel of a format code. -/
def bppOf (code : Nat) : Nat := [4, 8, 16, 16].getD (code % 4) 16

/-- Active width, active height and V_TOTAL of a standard mode (R267). -/
def modeGeom (mode : Nat) : Nat × Nat × Nat :=
  [(320, 240, 256), (480, 272, 320), (800, 480, 512), (1024, 600, 640)].getD ((mode - 1) % 4) (320, 240, 256)

/-- Display stream bytes per block (R68). -/
def displayStream (t : Ticks) (d : DisplaySec) : Nat :=
  if d.kind = 1 then
    let (w, _, v) := modeGeom d.mode
    let folio := (List.range 4).foldl (fun acc i =>
      if nbit d.layers i then
        let f := d.folioFmt.getD i 0
        acc + w * bppOf f / 8 + 2 * (w / (if nbit f 2 then 16 else 8) + 1) + 4
      else acc) 0
    let surf := if nbit d.layers 4 then w * bppOf d.surfFmt / 8 + (if nbit d.surfFmt 4 then 64 else 0) else 0
    let spr := if nbit d.layers 5 then 32 * (64 * bppOf d.sprFmt / 8 + 8) else 0
    ceilDiv v t.f * (folio + surf + spr)
  else if d.kind = 2 || d.kind = 3 then ceilDiv (d.w * d.h * bppOf d.surfFmt / 8) t.f
  else 0

/-- What admission weighs: one Charter, or the union of two (R70, R78). -/
structure Load where
  ticks : Ticks
  /-- cost of all voices of each lane -/
  laneWork : List Nat
  /-- starts of each lane times its dearest voice -/
  laneNew : List Nat
  nodes : List Node
  edges : List Edge
  intake : Nat
  delayBytes : Nat
  /-- (master, target, bytes) -/
  streams : List (Nat × Nat × Nat)
  /-- wheels: (target, slots); the masters of the union's slots -/
  wheels : List (Nat × List Nat)
  xspiDiv : Nat

/-- Sum of a list. -/
def sumL (l : List Nat) : Nat := l.foldl (· + ·) 0
/-- Maximum of a list, 0 for none. -/
def maxL (l : List Nat) : Nat := l.foldl max 0

/-- Costs of the voices of a lane. -/
def laneCosts (ch : Charter) (l : Nat) : List Nat :=
  (ch.active.filter (fun p => p.2.lane = l)).map (fun p => voiceCost ch.ticks.b p.2 (isCarrier ch.voices p.1))

/-- Starts of a lane at most, times its dearest voice (R70). -/
def laneStarts (ch : Charter) (l : Nat) : Nat :=
  if l < ch.lanes then
    let cs := laneCosts ch l
    min ch.dispatch cs.length * maxL cs
  else 0

/-- The voice streams of a Charter. -/
def voiceStreams (ch : Charter) (vs : List (Nat × VoiceEntry)) : List (Nat × Nat × Nat) :=
  vs.map (fun p => (4, ch.waveTarget, voiceStream ch.ticks.b p.2))

/-- The unit streams of a list of nodes. -/
def unitStreams (b : Nat) (ns : List Node) : List (Nat × Nat × Nat) :=
  (ns.filter (·.hasRegion)).map (fun n => (5, 4, nodeDram b n))

/-- The display and DMA streams of a Charter. -/
def otherStreams (ch : Charter) : List (Nat × Nat × Nat) :=
  (6, ch.display.fbTarget, displayStream ch.ticks ch.display)
    :: ch.streams.map (fun s => (if s.channel < 8 then 2 else 3, s.target, s.bytes))

/-- The load of one Charter. -/
def Charter.load (ch : Charter) : Load :=
  { ticks := ch.ticks
    laneWork := (List.range ch.lanes).map (fun l => sumL (laneCosts ch l))
    laneNew := (List.range ch.lanes).map (laneStarts ch)
    nodes := ch.nodes
    edges := ch.edges
    intake := sumL (ch.sources.map (·.resv))
    delayBytes := sumL (ch.nodes.map (·.delayBytes))
    streams := voiceStreams ch ch.active ++ unitStreams ch.ticks.b ch.nodes ++ otherStreams ch
    wheels := ch.wheels
    xspiDiv := ch.xspiDiv }

/-- Fl[l] of each lane. -/
def Load.finish (k : Load) : List Nat := List.zipWith (fun w n => max (k.ticks.y / 4 + n) w) k.laneWork k.laneNew
/-- STK_TOTAL. -/
def Load.stkTotal (k : Load) : Nat := sumL k.laneWork
/-- STK_PEAK. -/
def Load.stkPeak (k : Load) : Nat := maxL k.finish
/-- FX_TOTAL. -/
def Load.fxTotal (k : Load) : Nat :=
  sumL (k.nodes.map (nodeCost k.ticks.b)) + sumL (k.edges.map (edgeCost k.ticks.b k.nodes))

/-- One round of the finish times of the nodes. -/
def doneRound (k : Load) (peak : Nat) (d : List Nat) : List Nat :=
  k.nodes.zipIdx.map (fun p =>
    let ready := if p.1.type = 1 then peak else 0
    maxL (ready :: (k.edges.filter (fun e => !e.fb && e.dst = p.2)).map
      (fun e => d.getD e.src 0 + edgeCost k.ticks.b k.nodes e)) + nodeCost k.ticks.b p.1)

/-- Rounds until nothing changes, at most `fuel` of them. -/
def doneAll (k : Load) (peak : Nat) : Nat → List Nat → List Nat
  | 0, d => d
  | fuel + 1, d =>
    let d' := doneRound k peak d
    if d' = d then d else doneAll k peak fuel d'

/-- FX_FINISH, for an acyclic graph. -/
def Load.fxFinish (k : Load) : Nat :=
  maxL (doneAll k k.stkPeak (k.nodes.length + 1) (k.nodes.map (fun _ => 0))) + ceilDiv k.fxTotal 4

/-- STREAM[t]. -/
def Load.streamTo (k : Load) (t : Nat) : Nat := sumL ((k.streams.filter (fun s => s.2.1 = t)).map (·.2.2))
/-- Bytes of master `m` to target `t`. -/
def Load.bytes (k : Load) (m t : Nat) : Nat :=
  sumL ((k.streams.filter (fun s => s.1 = m && s.2.1 = t)).map (·.2.2))
/-- Slots of master `m` at target `t`. -/
def Load.slots (k : Load) (m t : Nat) : Nat :=
  sumL ((k.wheels.filter (fun w => w.1 = t)).map (fun w => w.2.count m))

/-- Bytes one slot guarantees per block (R69). -/
def slotBytes (cb xspiDiv t : Nat) : Nat :=
  match t with
  | 5 => [68, 34, 17].getD xspiDiv 17 * cb / 1024
  | 6 => 49 * cb / 1024
  | _ => 320 * cb / 1024

/-- CEIL (R65). -/
def Load.ceil (k : Load) : Nat := k.ticks.y * 92 / 100
/-- E_MAX (R65). -/
def eMax (t : Ticks) : Nat := t.y / 512

/-- The ceiling checks, codes 0x51 to 0x55 (R70). -/
def Load.ceilings (k : Load) : Chk Unit := do
  needAll (fun l f => need (f ≤ k.ceil) 0x51 l) 0 k.finish
  need (k.fxFinish ≤ k.ceil) 0x52 0
  need (k.intake ≤ eMax k.ticks) 0x53 0
  needAll (fun _ t => needAll (fun m _ => need (k.bytes m t ≤ k.slots m t * slotBytes k.ticks.cb k.xspiDiv t)
    0x54 (t * 256 + m)) 0 (List.range 9)) 0 [1, 2, 4, 5, 6]
  need (k.delayBytes ≤ 524288) 0x55 0

/-- The computed values in the order of the BUDGET claims. -/
def Load.computed (k : Load) : List Nat :=
  [k.stkTotal, k.stkPeak, k.fxTotal, k.fxFinish, k.intake, k.delayBytes] ++ (List.range 9).map k.streamTo

/-- Step 8 (R70, R71). -/
def admission (ch : Charter) : Chk Unit := do
  let k := ch.load
  needAll (fun i p => need (p.1 = p.2) 0x50 i) 0 (ch.claims.zip k.computed)
  k.ceilings

/-- Steps 1 and 2 of R72, which PROGRAM makes too (R77). -/
def steps12 (x : LoadCtx) (limit : Nat) (bs : List Byte) : Chk (List Section × Bool) := do
  let l ← framing limit bs
  let skipped ← authStep x bs l
  return (l, skipped)

/-- Steps 3 to 7. -/
def steps37 (x : LoadCtx) (l : List Section) : Chk Charter := do
  let ch := parseCharter l
  need (ch.profile.toNat ≤ x.profileLock) 0x06 0
  tickFields (bodyOf l 2)
  fabricFields (bodyOf l 3)
  graphFields (bodyOf l 4)
  portFields (bodyOf l 6)
  displayFields (bodyOf l 7)
  memoryFields x (bodyOf l 8)
  gradeStep x ch
  graphStep ch.nodes ch.edges
  queueStep ch
  return ch

/-! ### The union of two Charters (R78) -/

/-- Entry of voice `v`. -/
def Charter.voice (ch : Charter) (v : Nat) : VoiceEntry := ch.voices.getD v vNone

/-- A voice is shared: identical entries, and a carrier in both or in neither (R78). -/
def sharedVoice (a b : Charter) (v : Nat) : Bool :=
  (a.voice v).kind ≠ 0 && a.voice v = b.voice v && isCarrier a.voices v = isCarrier b.voices v

/-- The node of an effect unit. -/
def Charter.unitNode (ch : Charter) (u : Nat) : Option Node := ch.nodes.find? (fun n => n.type = 3 && n.index = u)

/-- A unit is shared: identical node records. -/
def sharedUnit (a b : Charter) (u : Nat) : Bool := (a.unitNode u).isSome && a.unitNode u = b.unitNode u

/-- Conditions 1 to 5 of R78. -/
def unionFormed (live cand : Charter) : Bool :=
  live.queueBytes = cand.queueBytes && live.portBytes = cand.portBytes
    && (List.range 256).all (fun v => (live.voice v).kind = 0 || (cand.voice v).kind = 0 || sharedVoice live cand v)
    && (List.range 12).all (fun u => (live.unitNode u).isNone || (cand.unitNode u).isNone || sharedUnit live cand u)
    && live.nodes.all (fun n => cand.nodes.all (fun m =>
        n.delayBytes = 0 || m.delayBytes = 0 || n = m || !regionsMeet n m))
    && live.xspiDiv = cand.xspiDiv

/-- Reserved slots of a wheel's target. -/
def wheelUsed (ws : List (Nat × List Nat)) (t : Nat) : Nat :=
  sumL ((ws.filter (fun w => w.1 = t)).map (fun w => (w.2.filter (· ≠ 0xFF)).length))

/-- The wheel of a target, all slots free where there is none. -/
def wheelOf (ws : List (Nat × List Nat)) (t : Nat) : List Nat :=
  ((ws.find? (fun w => w.1 = t)).map (·.2)).getD (List.replicate 64 0xFF)

/-- Put a master into the lowest free slot. -/
def addSlot (m : Nat) : List Nat → List Nat
  | [] => []
  | s :: l => if s = 0xFF then m :: l else s :: addSlot m l

/-- The union wheel of one target (R458). -/
def unionWheel (live cand : List (Nat × List Nat)) (t : Nat) : List Nat :=
  (List.range 9).foldl (fun w m =>
    (List.range ((wheelOf cand t).count m)).foldl (fun w _ => addSlot m w) w) (wheelOf live t)

/-- The union's wheels. -/
def unionWheels (live cand : List (Nat × List Nat)) : List (Nat × List Nat) :=
  ([1, 2, 4, 5, 6].filter (fun t => live.any (·.1 = t) || cand.any (·.1 = t))).map (fun t => (t, unionWheel live cand t))

/-- Where a node of the live graph stands in the union: a shared unit at the candidate's node, any other after the
candidate's nodes. -/
def unionIndex (live cand : Charter) (i : Nat) : Nat :=
  let n := live.nodes.getD i nodeNone
  if n.type = 3 && sharedUnit live cand n.index then (cand.nodes.findIdx (fun m => m.type = 3 && m.index = n.index))
  else cand.nodes.length + i

/-- The union's nodes; the live graph's shared units keep a place that nothing refers to and that costs nothing. -/
def unionNodes (live cand : Charter) : List Node :=
  cand.nodes ++ live.nodes.map (fun n => if n.type = 3 && sharedUnit live cand n.index then nodeNone else n)

/-- The union's edges. -/
def unionEdges (live cand : Charter) : List Edge :=
  cand.edges ++ live.edges.map (fun e => { e with src := unionIndex live cand e.src, dst := unionIndex live cand e.dst })

/-- The union of two Charters as a load (R78). -/
def unionLoad (live cand : Charter) : Load :=
  let b := cand.ticks.b
  let onlyLive := live.active.filter (fun p => !sharedVoice live cand p.1)
  let shared := live.active.filter (fun p => sharedVoice live cand p.1)
  let lanes := max live.lanes cand.lanes
  { ticks := cand.ticks
    laneWork := (List.range lanes).map (fun l => sumL (laneCosts cand l) + sumL ((onlyLive.filter (fun p => p.2.lane = l)).map
      (fun p => voiceCost b p.2 (isCarrier live.voices p.1))))
    laneNew := (List.range lanes).map (laneStarts cand)
    nodes := unionNodes live cand
    edges := unionEdges live cand
    intake := sumL (live.sources.map (·.resv)) + sumL (cand.sources.map (·.resv))
    delayBytes := sumL ((unionNodes live cand).map (·.delayBytes))
    streams := voiceStreams cand cand.active ++ voiceStreams live onlyLive
      ++ (if live.waveTarget = cand.waveTarget then [] else voiceStreams live shared)
      ++ unitStreams b (unionNodes live cand) ++ otherStreams cand ++ otherStreams live
    wheels := unionWheels live.wheels cand.wheels
    xspiDiv := cand.xspiDiv }

/-- The kind PLAN_SWAP chooses, with the values of CHT_CALC_STK, _FX and _INTAKE (R78, R674). -/
def planKind (live cand : Charter) : Bool × Nat × Nat × Nat :=
  let own := cand.load
  if !unionFormed live cand then (true, own.stkPeak, own.fxFinish, own.intake)
  else
    let u := unionLoad live cand
    let fits6 := [1, 2, 4, 5, 6].all (fun t => decide (wheelUsed live.wheels t + wheelUsed cand.wheels t ≤ 64))
    let acyclic := (firstCycle u.nodes.length u.edges).isNone
    if !acyclic then (true, u.stkPeak, own.fxFinish, u.intake)
    else
      let ok := match u.ceilings with
        | .ok _ => true
        | .error _ => false
      (!(fits6 && ok), u.stkPeak, u.fxFinish, u.intake)

end Sys2Proof.Machine
end

