-- ==== Sys2Proof/Machine/Ledger.lean ====
section
/-! DEFINITION. Machine/Ledger.lean: the Ledger's records and log, its indicators and predictions, and the capture of
faults (18_ledger_and_faults.md, R595 to R613). -/

namespace Sys2Proof.Machine

/-! ### The Ledger's NVM region (R606 to R609) -/

/-- The Ledger's region. -/
def ldgBase : Nat := 0x220C0000

/-- L2: the largest erase count (R597). -/
def Chip.l2 (c : Chip) : Nat :=
  let k := c.ldg.core
  max (max k.eraseA k.eraseB) (max k.eraseBoot ((k.eraseSector.map (·.2)).foldl max 0))

/-- Erase one 4 KiB sector of the Ledger's region, by number; its erase counts for L2 (R597). -/
def Chip.ldgErase (c : Chip) (sector : Nat) : Chip :=
  let lo := ldgBase + 4096 * sector
  let c := { c with
    mem := dropS (fun a => decide (lo ≤ a ∧ a < lo + 4096)) c.mem
    ldg := { c.ldg with
      recheck := true
      core := { c.ldg.core with
        eraseSector := putS 0 c.ldg.core.eraseSector sector (getS 0 c.ldg.core.eraseSector sector + 1) } } }
  c.wr (A.LDG_Ln_VALUE 2) (word c.l2)

/-- The bytes of words, least significant byte first. -/
def wordsBytes (ws : List Word) : List Byte := (ws.map (fun w => leBytes 4 w.toNat)).flatten

/-- Words followed by their CRC-32 under R54. -/
def withCrc (ws : List Word) : List Byte := wordsBytes (ws ++ [crc32 (wordsBytes ws)])

/-- Write an event-log entry (R608): a sector is erased when the log enters it (log entry 7). -/
def Chip.logEntry (e : Env) (kind : Nat) (w2 w3 w6 : Word) (c : Chip) : Chip :=
  let i := c.fld A.LDG_LOG_NEXT 9 0
  let k := c.ldg.core
  let now := if c.mode = .vault then 0 else e.now
  let w0 := word (kind * 2 ^ 24 + (c.rtc.secs.toNat / 2 ^ 32) * 2 ^ 16 + k.logSeq % 65536)
  let ws := [w0, word c.rtc.secs.toNat, w2, w3, word now, word (now / 2 ^ 32 % 65536), w6]
  let c := if i % 128 = 0 then c.ldgErase (7 + i / 128) else c
  let c := c.setMem (ldgBase + 0x7000 + 32 * i) (withCrc ws)
  let c := { c with ldg := { c.ldg with core := { c.ldg.core with logSeq := k.logSeq + 1 } } }
  let c := c.setFld A.LDG_LOG_NEXT 9 0 (i + 1)
  if i = 1023 then c.setBit A.LDG_LOG_NEXT 31 else c

/-- A Ledger register (window 0x6012). -/
def isLedgerReg (a : Nat) : Bool := a / 65536 == 0x6012

/-- Write a state snapshot (R607): the bank's layout and the number of snapshots that fill it are not stated, so
whether the bank in use is now full is a free choice (log entry 8); a full bank is erased when the next is begun. -/
def Chip.snapshot (c : Chip) : Chip :=
  let (k, c) := c.draw
  let regs := c.regs.filter (fun r => isLedgerReg r.1)
  let core := { c.ldg.core with snapSeq := c.ldg.core.snapSeq + 1 }
  let c := { c with ldg := { c.ldg with core := core, snap := some (regs, core) } }
  if Config.freeBool k then
    let old := core.bank
    let c := (c.ldgErase (1 + 2 * old)).ldgErase (2 + 2 * old)
    { c with ldg := { c.ldg with core := { c.ldg.core with bank := 1 - old } } }
  else c

/-! ### Reporting a fault (R610 to R613) -/

/-- Fault classes. -/
def clsCorrected : Nat := 0
def clsRecoverable : Nat := 1
def clsSevere : Nat := 2
def clsFatal : Nat := 3

/-- Post a FAULT record if the class is posted (R612). -/
def Chip.postFault (e : Env) (cls code detail addr : Nat) (c : Chip) : Chip :=
  if (c.rd A.FLT_CFG).getLsbD (16 + cls) then
    c.post e { source := 0x62, kind := 0x62, key := cls, flags := 0, time := e.stamp,
               valueA := BitVec.ofNat 16 (code * 256 + detail % 256), valueB := word addr }
  else c

/-- A FATAL fault is taken (R611, R614 step 3, R616); the action of steps 1 and 2 is due. -/
def Chip.takeFatal (e : Env) (esc : Bool) (code detail : Nat) (c : Chip) : Chip :=
  let c := (c.setBit A.FLT_STAT 1).setBit A.FLT_STAT 5
  let c := c.wr A.FLT_FATAL_SRC (word (2 ^ 31 + (if esc then 2 ^ 30 else 0) + code * 65536 + detail % 256))
  let c := (c.wr A.FLT_FATAL_TIME_LO (word e.now)).wr A.FLT_FATAL_TIME_HI (word (e.now / 2 ^ 32 % 65536))
  let n := min 255 (c.fld A.FLT_FATALS 7 0 + 1)
  let c := c.setFld A.FLT_FATALS 7 0 n
  let c := c.setBit A.SYS_RST_CAUSE 10
  let c := c.logEntry e 1 (c.rd A.FLT_FIRST_SRC) (c.rd A.FLT_FIRST_ADDR) (c.rd A.FLT_FATAL_SRC)
  let c := c.snapshot
  let hold := c.fld A.FLT_CFG 3 0
  let c := if hold ≠ 0 && n = hold then c.setBit A.FLT_STAT 3 else c
  { c with
    pwr := { c.pwr with due := { c.pwr.due with fatal := true, core0 := true, core1 := true } }
    flt := { c.flt with
      mute := if c.bit A.FLT_STAT 2 then c.flt.mute
        else match c.flt.mute with
          | .off => .due
          | .lifting => .due
          | .rise => .riseDue
          | m => m } }

/-- Latch a fault that is not CORRECTED, or count it (R611). -/
def Chip.latchFault (e : Env) (code cls detail addr : Nat) (c : Chip) : Chip :=
  let c := c.setBit A.FLT_STAT 4
  if c.bit A.FLT_FIRST_SRC 31 then (c.inc A.FLT_COUNT).setBit A.FLT_MORE cls
  else
    let c := c.wr A.FLT_FIRST_SRC (word (2 ^ 31 + cls * 2 ^ 24 + code * 65536 + detail % 256))
    let c := c.wr A.FLT_FIRST_ADDR (word addr)
    (c.wr A.FLT_FIRST_TIME_LO (word e.now)).wr A.FLT_FIRST_TIME_HI (word (e.now / 2 ^ 32 % 65536))

/-- A fault is reported (R611, R612). -/
def Chip.report (e : Env) (code cls detail addr : Nat) (c : Chip) : Chip :=
  if cls = 0 then (c.inc A.FLT_CORRECTED).postFault e 0 code detail addr
  else
    let first := !c.bit A.FLT_FIRST_SRC 31
    let c := c.latchFault e code cls detail addr
    let c := c.postFault e cls code detail addr
    if cls = 1 then c
    else if cls = 3 then c.takeFatal e false code detail
    else if c.bit A.FLT_STAT 0 then
      let c := if first then c else c.setBit A.FLT_MORE 3
      (c.takeFatal e true code detail).postFault e 3 code detail addr
    else (c.setBit A.FLT_STAT 0).logEntry e 2 (c.rd A.FLT_FIRST_SRC) (c.rd A.FLT_FIRST_ADDR) 0

/-! ### The indicators (R595 to R605) -/

/-- The weights of R599. -/
def l6Weights : List Nat := [2, 8, 32, 90, 181, 362, 724, 1448]

/-- L6 of the bins (R599). -/
def Chip.l6 (c : Chip) : Nat :=
  (List.range 8).foldl (fun s b => s + (c.rd (A.LDG_L6_BINb b)).toNat * l6Weights.getD b 0) 0 / (256 * 3600)

/-- The bin of a junction temperature in 1/16 °C (R548, R599). -/
def l6Bin (t : Int) : Nat :=
  ([25, 45, 65, 75, 85, 95, 105].filter (fun b => decide (16 * (b : Int) ≤ t))).length

/-- The history of an indicator, newest first. -/
def Chip.histOf (c : Chip) (n : Nat) : List (Nat × Nat) := getS [] c.ldg.core.hist n

/-- LDG_Ln_DAYS from the samples (R603), newest first. -/
def daysOf (eol : Nat) (h : List (Nat × Nat)) : Nat :=
  match h with
  | [] => 0xFFFE
  | (day, v) :: _ =>
    if eol ≤ v then 0
    else if h.length < 8 then 0xFFFE
    else
      let n : Int := h.length
      let xs : List (Int × Int) := h.map (fun p => ((p.1 : Int) - day, (p.2 : Int)))
      let sum := fun (f : Int × Int → Int) => xs.foldl (fun a p => a + f p) 0
      let sx := sum (·.1)
      let sv := sum (·.2)
      let num := n * sum (fun p => p.1 * p.2) - sx * sv
      let den := n * sum (fun p => p.1 * p.1) - sx * sx
      if num ≤ 0 then 0xFFFF
      else min 65533 ((((eol : Int) - v) * den + num - 1) / num).toNat

/-- The comparison of an indicator's value, its days and, for L2, its margin with the thresholds (R604). -/
def Chip.inWarning (c : Chip) (n : Nat) : Bool :=
  decide ((c.rd (A.LDG_Ln_WARN n)).toNat ≤ (c.rd (A.LDG_Ln_VALUE n)).toNat)
    || decide (c.fld (A.LDG_Ln_DAYS n) 15 0 ≤ c.fld A.LDG_CFG 15 0)
    || (n == 2 && decide (c.fld A.LDG_L2_MARGIN 7 0 < c.fld A.LDG_L2_MARGIN_WARN 7 0))

/-- Re-judge the warning of an indicator; on entering warning the three things of R605 follow. -/
def Chip.judge (e : Env) (n : Nat) (c : Chip) : Chip :=
  let was := c.bit A.LDG_STAT n
  let is := c.inWarning n
  let c := c.putBit A.LDG_STAT n is
  if is && !was then
    let v := c.rd (A.LDG_Ln_VALUE n)
    let c := (c.setBit A.LDG_EVT 0).logEntry e 7 (word n) v 0
    if c.mode = .vault then c
    else c.post e { source := 0x61, kind := 0x61, key := n, flags := 0, time := e.stamp,
                    valueA := BitVec.ofNat 16 (c.fld (A.LDG_Ln_DAYS n) 15 0), valueB := v }
  else c

/-- An indicator's value changes (R604). -/
def Chip.setValue (e : Env) (n v : Nat) (c : Chip) : Chip :=
  if (c.rd (A.LDG_Ln_VALUE n)).toNat = v then c else (c.wr (A.LDG_Ln_VALUE n) (word v)).judge e n

/-- LDG_STAT as read: NO_TIME shows RTC_STAT.POWER_LOST (R601). -/
def Chip.ldgStat (c : Chip) : Word := putFld (c.rd A.LDG_STAT) 8 8 (c.fld A.RTC_STAT 6 6)

/-- STATUS.WEAR (R604). -/
def Chip.wear (c : Chip) : Bool := (c.rd A.LDG_STAT &&& (c.rd A.LDG_CFG >>> 16) &&& 0xFF) ≠ 0

/-- An NVM erase is counted for L2: 0 slot A, 1 slot B, 2 boot configuration (R77, R593, R597). -/
def Chip.countErase (e : Env) (which : Nat) (c : Chip) : Chip :=
  let k := c.ldg.core
  let k := if which = 0 then { k with eraseA := k.eraseA + 1 }
    else if which = 1 then { k with eraseB := k.eraseB + 1 } else { k with eraseBoot := k.eraseBoot + 1 }
  let c := { c with ldg := { c.ldg with core := k } }
  c.setValue e 2 c.l2

/-- One insertion is counted in L4 or L5 when the watched pin takes the level POL (R598). -/
def Chip.countInsertion (e : Env) (pin : Nat) (level : Bool) (c : Chip) : Chip :=
  (List.range 2).foldl (fun c i =>
    let cfg := c.rd (A.LDG_INS0_CFG + 4 * i)
    if cfg.getLsbD 31 && bits cfg 6 0 = pin && cfg.getLsbD 8 = level && c.mode ≠ .vault then
      c.setValue e (4 + i) ((c.rd (A.LDG_Ln_VALUE (4 + i))).toNat + 1)
    else c) c

/-- The backlight pin is sampled at a Vault-clock edge (R598). -/
def Chip.sampleBacklight (e : Env) (level : Nat → Bool) (c : Chip) : Chip :=
  let cfg := c.rd A.LDG_BL_CFG
  if cfg.getLsbD 31 && level (bits cfg 6 0) = cfg.getLsbD 8 && c.mode ≠ .vault then
    let n := c.ldg.core.backlight + 1
    { c with ldg := { c.ldg with core := { c.ldg.core with backlight := n } } }.setValue e 7 (n / 117964800)
  else c

/-- A temperature sample in 1/16 °C counts one second in its bin (R599). -/
def Chip.countStress (e : Env) (t : Int) (c : Chip) : Chip :=
  let a := A.LDG_L6_BINb (l6Bin t)
  let c := c.addCount a 1
  c.setValue e 6 c.l6

/-- A write of LDG_CTL (R600). -/
def ledgerReset (v : Word) (e : Env) (c : Chip) : Chip :=
  if bits v 31 16 = 0x4C47 then
    let c := if (v &&& 0x47) ≠ 0 then c.setBit A.LDG_STAT 10 else c
    [3, 4, 5, 7].foldl (fun c n =>
      if v.getLsbD n then
        let k := { c.ldg.core with
          hist := putS [] c.ldg.core.hist n []
          backlight := if n = 7 then 0 else c.ldg.core.backlight }
        let old := c.rd (A.LDG_Ln_VALUE n)
        let c := { c with ldg := { c.ldg with core := k } }
        let c := if n = 3 then c else c.wr (A.LDG_Ln_VALUE n) 0
        let c := c.wr (A.LDG_Ln_DAYS n) 0xFFFE
        (c.logEntry e 6 (word n) old 0).judge e n
      else c) c
  else c

/-- A write of a Ledger register: a new threshold is compared at once (R604, log entry 24). -/
def ledgerWrite (a : Nat) (v : Word) (e : Env) (c : Chip) : Chip :=
  if a = A.LDG_CTL then ledgerReset v e c
  else
    let c := c.writeCoded a v
    if a = A.LDG_CFG then (List.range 8).foldl (fun c n => c.judge e n) c
    else if a = A.LDG_L2_MARGIN_WARN then c.judge e 2
    else (List.range 8).foldl (fun c n => if a = A.LDG_Ln_WARN n then c.judge e n else c) c

/-- The source of an indicator has power (R596, R601): Drowse takes away L1's, VAULT also L0's and L3's. -/
def Chip.sourcePowered (c : Chip) (n : Nat) : Bool :=
  if n = 0 || n = 3 then c.mode ≠ .vault
  else if n = 1 then c.mode ≠ .vault && c.pwr.sub ≠ .drowse
  else true

/-- A day's kept measurements: their mean, or nothing (R596). -/
def dayMean (d : Nat × Nat) : Option Nat := if d.2 = 0 then none else some (d.1 / d.2)

/-- L3 as the key scanner shows it (R595). -/
def Chip.bounceTop (c : Chip) : Nat :=
  let t := c.rd (A.KEY_BTOPi 0)
  if t.getLsbD 31 then bits t 15 0 else 0

/-- What is compared when L2 or KEY_BTOP0 has changed (R604). -/
def ledgerFollow (e : Env) (c : Chip) : Chip :=
  if c.ldg.recheck then
    let c : Chip := { c with ldg := { c.ldg with recheck := false } }
    let c := if c.mode = .vault then c else c.setValue e 3 c.bounceTop
    c.judge e 2
  else c

/-- The value and the CARRIED flag of indicator n's daily sample (R595, R596, R601). -/
def Chip.dailyValue (c : Chip) (n : Nat) : Nat × Bool :=
  let prev := ((c.histOf n).head?.map (·.2)).getD (c.rd (A.LDG_Ln_VALUE n)).toNat
  if n = 0 || n = 1 then
    match dayMean (if n = 0 then c.ldg.core.day0 else c.ldg.core.day1) with
    | some v => if c.sourcePowered n then (v, false) else (prev, true)
    | none => (prev, true)
  else if n = 3 then (if c.sourcePowered 3 then (c.bounceTop, false) else (prev, true))
  else if n = 2 then (c.l2, false)
  else ((c.rd (A.LDG_Ln_VALUE n)).toNat, false)

/-- A Ledger NVM write that failed its verify: written again, and recorded (R609). -/
def Chip.ldgWriteFailed (e : Env) (sector addr : Nat) (c : Chip) : Chip :=
  ((c.setBit A.LDG_STAT 11).setBit A.LDG_EVT 2).report e 0x14 clsRecoverable sector addr

/-- Clear every indicator's history on a step back of the day (R602). -/
def Chip.timeStep (e : Env) (day : Nat) (c : Chip) : Chip :=
  let newest := (c.ldg.core.hist.map (fun h => (h.2.head?.map (·.1)).getD 0)).foldl max 0
  let held := c.ldg.core.hist.any (fun h => !h.2.isEmpty)
  if held && decide (day ≤ newest) then
    let c := { c with ldg := { c.ldg with core := { c.ldg.core with hist := [] } } }
    (c.setBit A.LDG_STAT 9).logEntry e 8 (c.rd A.FLT_FIRST_SRC) (c.rd A.FLT_FIRST_ADDR) 0
  else c

/-- Take indicator n's sample of a day, and judge it (R601 to R605). -/
def Chip.sampleOne (e : Env) (day n : Nat) (c : Chip) : Chip :=
  let (v, carried) := c.dailyValue n
  let h := ((day, v) :: c.histOf n).take 64
  let c := { c with ldg := { c.ldg with core := { c.ldg.core with hist := putS [] c.ldg.core.hist n h } } }
  let c := c.wr (A.LDG_Ln_VALUE n) (word v)
  let c := c.wr (A.LDG_Ln_DAYS n) (word ((if carried then 2 ^ 31 else 0) + daysOf (c.rd (A.LDG_Ln_EOL n)).toNat h))
  c.judge e n

/-- The daily record of R608. -/
def Chip.dailyRecord (c : Chip) (day : Nat) : List Word :=
  word day :: ((List.range 8).map (fun n => c.rd (A.LDG_Ln_VALUE n))
    ++ [word (bitsOf 8 (fun n => c.bit (A.LDG_Ln_DAYS n) 31))] ++ List.replicate 5 0)

/-- A carry into the seconds makes the hour's measurement due, of the domains that have power, and at midnight the daily
sample, unless the time is not valid (R596, R601). -/
def Chip.ledgerCarry (c : Chip) : Chip :=
  let t := c.rtc.secs.toNat
  if t % 3600 ≠ 0 then c
  else
    { c with ldg := { c.ldg with
        measure := (c.sourcePowered 0, c.sourcePowered 1)
        sample := if t % 86400 = 0 && !c.bit A.RTC_STAT 6 then some (t / 86400) else c.ldg.sample } }

/-- Write the next record of the daily ring (R606, R608); a sector is erased when the ring enters it. -/
def Chip.ringWrite (bytes : List Byte) (c : Chip) : Chip :=
  let i := c.ldg.core.ringNext
  let c := if i % 64 = 0 then c.ldgErase (5 + i / 64) else c
  let c := c.setMem (ldgBase + 0x5000 + 64 * i) bytes
  { c with ldg := { c.ldg with core := { c.ldg.core with ringNext := (i + 1) % 128 } } }

/-- The daily record is written; a write that fails its verify leaves its place with contents that are open, and is made
again in the next (R609). -/
def Chip.recordDay (e : Env) (day : Nat) (verified : Bool) (c : Chip) : Chip :=
  let bytes := withCrc (c.dailyRecord day)
  if verified then c.ringWrite bytes
  else
    let i := c.ldg.core.ringNext
    let (k, c) := c.draw
    let c := c.ringWrite ((List.range 64).map (fun j => BitVec.ofNat 8 (Config.freeNat (k + j))))
    (c.ringWrite bytes).ldgWriteFailed e (5 + i / 64) (ldgBase + 0x5000 + 64 * i)

/-- The daily sample, where one is due (R601 to R608). -/
def dailySample (margin : Nat) (verified : Bool) (e : Env) (c : Chip) : Chip :=
  match c.ldg.sample with
  | none => c
  | some day =>
    let c : Chip := { c with ldg := { c.ldg with sample := none } }
    let c := c.timeStep e day
    let c := if c.mode = .vault then c else c.setFld A.LDG_L2_MARGIN 7 0 (min 255 margin)
    let c := (List.range 8).foldl (fun c n => c.sampleOne e day n) c
    let c := if c.sourcePowered 3 then
        (List.range 8).foldl (fun c i => c.wr (A.LDG_L3_TOPi i) (c.rd (A.KEY_BTOPi i))) c
      else c
    let c := c.wr A.LDG_DAY (word day)
    let c := c.setFld A.LDG_HIST 6 0 ((c.ldg.core.hist.map (fun h => h.2.length)).foldl max 0)
    let c := c.recordDay e day verified
    let c := { c with ldg := { c.ldg with core := { c.ldg.core with day0 := (0, 0), day1 := (0, 0) } } }
    (c.setBit A.LDG_EVT 1).snapshot

/-- The slowdown of a ring oscillator from its baseline (R596). -/
def slowdown (base count : Nat) : Nat := if base ≤ count then 0 else (base - count) * 100000 / base

/-- One hourly measurement of a domain's ring oscillator, at a temperature in 1/16 °C: the first kept one fixes the
baseline, and one more than 8 °C from it is not kept (R596). -/
def measureOne (base : Option (Nat × Int)) (day : Nat × Nat) (temp : Int) (count : Nat) : Option (Nat × Int) × (Nat × Nat) :=
  match base with
  | none => (some (count, temp), (day.1, day.2 + 1))
  | some (b, t0) =>
    if decide (temp - t0 ≤ 128) && decide (t0 - temp ≤ 128) then (base, (day.1 + slowdown b count, day.2 + 1)) else (base, day)

/-- The header words (R606); the words' order after MAGIC and VERSION is the table's (log entry 8). -/
def Chip.ldgHeader (c : Chip) (day : Word) : List Word :=
  let b := fun (x : Option (Nat × Int)) => (x.getD (0, 0))
  [0x474C4B4C, 1, word (b c.ldg.core.base0).1, word (b c.ldg.core.base1).1, wordI (b c.ldg.core.base0).2,
   wordI (b c.ldg.core.base1).2, day]

/-- Write the header (R606). -/
def Chip.putHeader (day : Word) (c : Chip) : Chip := (c.ldgErase 0).setMem ldgBase (withCrc (c.ldgHeader day))

/-- The hourly measurement, of the domains for which one has begun (R596). A first measurement enters the header. -/
def ringMeasure (c0 c1 : Nat) (temp : Int) (c : Chip) : Chip :=
  let was := c.ldg.core
  let k := was
  let k := if c.ldg.measure.1 && c.sourcePowered 0 then
      let (b, d) := measureOne k.base0 k.day0 temp c0
      { k with base0 := b, day0 := d } else k
  let k := if c.ldg.measure.2 && c.sourcePowered 1 then
      let (b, d) := measureOne k.base1 k.day1 temp c1
      { k with base1 := b, day1 := d } else k
  let c : Chip := { c with ldg := { c.ldg with core := k, measure := (false, false) } }
  if c.ldg.header && (k.base0 != was.base0 || k.base1 != was.base1) then
    c.putHeader (word (leNat (getBytes c.mem (ldgBase + 24) 4)))
  else c

/-- VDD_VAULT is applied: restore the newest valid snapshot, or create the header and start from 0 (R607). -/
def ledgerRestore (e : Env) (c : Chip) : Chip :=
  let c := { c with regs := c.regs.filter (fun r => !isLedgerReg r.1) }
  match c.ldg.snap with
  | some (regs, core) =>
    let c := regs.foldl (fun c r => c.wr r.1 r.2) c
    let c := { c with ldg := { c.ldg with core := core, sample := none, measure := (false, false) } }
    (c.setBit A.LDG_STAT 12).logEntry e 5 (c.rd A.FLT_FIRST_SRC) (c.rd A.FLT_FIRST_ADDR) 0
  | none =>
    let c := { c with ldg := { core := {}, header := true, snap := none } }
    c.putHeader (word (c.rtc.secs.toNat / 86400))

/-! ### Acknowledgement and injection (R610, R613) -/

/-- A write of FLT_ACK (R613). -/
def faultAck (v : Word) (c : Chip) : Chip :=
  if bits v 15 0 = 0xA5C3 then
    (((c.clrBit A.FLT_FIRST_SRC 31).wr A.FLT_MORE 0).wr A.FLT_STAT (c.rd A.FLT_STAT &&& ~~~ 3)).wr A.FLT_FATALS 0
  else c

/-- A write of FLT_INJECT (R610). -/
def faultInject (v : Word) (e : Env) (c : Chip) : Chip :=
  if bits v 31 16 = 0x1E57 then c.report e 0x1F (bits v 1 0) 0 0 else c

/-- A write of FLT_CTL: UNMUTE while FATAL_HELD = 0 (R615); RELEASE by the host, USB or debug master (R616). -/
def faultUnmute (c : Chip) : Chip :=
  if c.bit A.FLT_STAT 1 then c
  else
    { c.clrBit A.FLT_STAT 2 with flt := { c.flt with
        mute := match c.flt.mute with
          | .off => .off
          | .due => .off
          | .lifting => .lifting
          | .rise => .rise
          | .riseDue => .rise
          | .ramp => .lifting
          | .on => .lifting } }

/-- STATUS.FAULT (R613). -/
def Chip.faultStatus (c : Chip) : Bool := c.bit A.FLT_STAT 0 || c.bit A.FLT_STAT 1

end Sys2Proof.Machine
end

