-- ==== Sys2Proof/Machine/Memory.lean ====
section
/-! DEFINITION. Machine/Memory.lean: the memory map, the checks an access meets, the capture of bus errors, ECC, the
arbitration of a target and the external memory controllers (13_interconnect_and_memory.md). -/

namespace Sys2Proof.Machine

/-! ### The map (R445, R446) -/

/-- A place of the address map. -/
inductive Region where
  | rom
  /-- the accessing core's own Carrel RAM -/
  | local
  /-- a core's Carrel RAM through its global alias -/
  | carrel (core : Nat)
  | sram (target : Nat)
  | queueRam
  | delayRam
  | nvm
  /-- an xSPI device's window and the offset in it -/
  | xspi (dev off : Nat)
  | sdram (off : Nat)
  | periph
  | voice
  | unmapped
  deriving DecidableEq, Repr

/-- The region of an address, as a core sees it (R379, R445). -/
def regionOf (a : Nat) : Region :=
  if a < 0x10000 then .rom
  else if 0x08000000 ≤ a && a < 0x08010000 then .local
  else if 0x08100000 ≤ a && a < 0x08110000 then .carrel 0
  else if 0x08200000 ≤ a && a < 0x08210000 then .carrel 1
  else if 0x10000000 ≤ a && a < 0x10100000 then .sram 1
  else if 0x10100000 ≤ a && a < 0x10200000 then .sram 2
  else if 0x20000000 ≤ a && a < 0x20010000 then .queueRam
  else if 0x21000000 ≤ a && a < 0x21080000 then .delayRam
  else if 0x22000000 ≤ a && a < 0x22100000 then .nvm
  else if 0x30000000 ≤ a && a < 0x50000000 then .xspi 0 (a - 0x30000000)
  else if 0x50000000 ≤ a && a < 0x60000000 then .xspi 1 (a - 0x50000000)
  else if 0x60000000 ≤ a && a < 0x60190000 then .periph
  else if 0x70000000 ≤ a && a < 0x70010000 then .voice
  else if 0x80000000 ≤ a && a < 0x84000000 then .sdram (a - 0x80000000)
  else .unmapped

/-- The target that serves a region (R445); none inside a core and where nothing is mapped. -/
def Region.target : Region → Option Nat
  | .rom => some 0
  | .local => none
  | .carrel _ => some 8
  | .sram t => some t
  | .queueRam => some 3
  | .delayRam => some 4
  | .nvm => some 7
  | .xspi _ _ => some 5
  | .sdram _ => some 6
  | .periph => some 8
  | .voice => some 8
  | .unmapped => none

/-- The Carrel RAM of core `n` is held at its global alias. -/
def carrelBase (n : Nat) : Nat := if n = 0 then 0x08100000 else 0x08200000

/-- Regions the data caches hold (R414). -/
def Region.cacheable : Region → Bool
  | .sram _ => true
  | .xspi _ _ => true
  | .sdram _ => true
  | _ => false

/-- Regions the instruction caches hold (R414). -/
def Region.icacheable (r : Region) : Bool := r == .rom || r.cacheable

/-! ### What an access may break (R448, R461, R468, R672) -/

/-- TYPE and OCTAL of an xSPI device. -/
def Chip.xspiType (c : Chip) (d : Nat) : Nat := c.fld (A.XMC_XSPI_DEVn_CFG d) 1 0
def Chip.xspiOctal (c : Chip) (d : Nat) : Bool := c.bit (A.XMC_XSPI_DEVn_CFG d) 8
def Chip.xspiBusy (c : Chip) (d : Nat) : Bool := c.bit (A.XMC_XSPI_DEVn_CFG d) 9
/-- The configured size of an xSPI device in bytes. -/
def Chip.xspiSize (c : Chip) (d : Nat) : Nat := 2 ^ (20 + c.fld (A.XMC_XSPI_DEVn_CFG d) 7 4)
/-- The configured size of the SDRAM in bytes (R475): 12 or 13 row bits, 8 to 10 column bits. -/
def Chip.sdrSize (c : Chip) : Nat := 2 ^ (12 + c.fld A.XMC_SDR_CFG 5 4 + (8 + c.fld A.XMC_SDR_CFG 1 0) + 3)
def Chip.sdrReady (c : Chip) : Bool := c.bit A.XMC_SDR_CTL 1

/-- The device of the region is absent, not in 8D-8D-8D, busy or not initialised: CAUSE 8 (R468, R478). -/
def Chip.notReady (c : Chip) (write : Bool) : Region → Bool
  | .xspi d _ => c.xspiType d == 0 || !c.xspiOctal d || (!write && c.xspiType d == 1 && c.xspiBusy d)
  | .sdram _ => !c.sdrReady
  | _ => false

/-- The region is not writable: CAUSE 3. -/
def Chip.notWritable (c : Chip) : Region → Bool
  | .rom => true
  | .nvm => true
  | .xspi d _ => c.xspiType d != 2
  | _ => false

/-- The access ends beyond the configured size of its device: CAUSE 1. -/
def Chip.beyond (c : Chip) (size : Nat) : Region → Bool
  | .xspi d off => decide (c.xspiSize d < off + size)
  | .sdram off => decide (c.sdrSize < off + size)
  | _ => false

/-- The width or the alignment breaks R11. -/
def badWidth (r : Region) (a size : Nat) : Bool :=
  match r with
  | .periph => size != 4 || a % 4 != 0
  | .voice => size != 4 || a % 4 != 0
  | _ => false

/-- A core reaches its local alias; nobody else does (R379). -/
def isCoreMaster : Master → Bool
  | .core _ => true
  | _ => false

/-- The first rule of R672 that an access breaks: its CAUSE and its TARGET. -/
def Chip.busCause (c : Chip) (m : Master) (write locked : Bool) (a size : Nat) : Option (Nat × Nat) :=
  let r := regionOf a
  match r.target with
  | none => if r = .local && isCoreMaster m then none else some (1, 15)
  | some t =>
    if !admits t m.port then some (2, t)
    else if badWidth r a size then some (4, t)
    else if locked && t ≠ 1 && t ≠ 2 then some (5, t)
    else if c.notReady write r then some (8, t)
    else if write && c.notWritable r then some (3, t)
    else if c.beyond size r then some (1, t)
    else none

/-- A bus error is counted and, if the capture is armed, latched (R450). -/
def Chip.busError (c : Chip) (m : Master) (target cause a : Nat) (write : Bool) : Chip :=
  let c := c.inc A.SYS_BUS_ERR_COUNT
  if c.bit A.SYS_BUS_ERR_INFO 31 then c
  else (c.wr A.SYS_BUS_ERR_ADDR (word a)).wr A.SYS_BUS_ERR_INFO
    (word (2 ^ 31 + m.port * 2 ^ 24 + target * 65536 + cause * 256 + (if write then 1 else 0)))

/-! ### ECC of the on-chip memories (R464) -/

/-- Targets 1 to 4 carry ECC (R463). -/
def hasEcc (t : Nat) : Bool := decide (1 ≤ t ∧ t ≤ 4)

/-- A corrected error is recorded (R464). -/
def Chip.eccCorrected (e : Env) (c : Chip) (t a : Nat) : Chip :=
  ((c.inc A.SYS_ECC_CORR).wr A.SYS_ECC_LAST (word a)).report e 0x01 clsCorrected t a

/-- An uncorrectable error is recorded (R464). -/
def Chip.eccLost (e : Env) (c : Chip) (m : Master) (a : Nat) : Chip :=
  ((c.inc A.SYS_ECC_UNCORR).wr A.SYS_ECC_LAST (word a)).report e 0x02 clsRecoverable m.port a

/-! ### Memory behind a target -/

/-- Bytes of a memory as a non-coherent master reads them: queue RAM shows its records, the boot ROM and unassigned
NVM are fixed (R92, R446). -/
def Chip.memByte (c : Chip) (a : Nat) : Byte :=
  match regionOf a with
  | .queueRam => BitVec.ofNat 8 ((c.queueRam ((a - 0x20000000) / 4)).toNat / 256 ^ (a % 4))
  | .rom => Config.romByte a
  | .nvm => if 0x220E0000 ≤ a then 0 else if 0x220DF000 ≤ a then 0 else getB c.mem a
  | _ => getB c.mem a

/-- `n` bytes as a non-coherent master reads them. -/
def Chip.memBytes (c : Chip) (a : Nat) : Nat → List Byte
  | 0 => []
  | n + 1 => c.memByte a :: c.memBytes (a + 1) n

/-- Write one byte of queue RAM. -/
def Chip.setQueueByte (c : Chip) (a : Nat) (b : Byte) : Chip :=
  let w := (a - 0x20000000) / 4
  c.setQueueRam w (putFld (c.queueRam w) (8 * (a % 4) + 7) (8 * (a % 4)) b.toNat)

/-- Write bytes to a memory as a non-coherent master writes them. -/
def Chip.setMemBytes (c : Chip) (a : Nat) (bs : List Byte) : Chip :=
  if regionOf a = .queueRam then
    (bs.foldl (fun (p : Nat × Chip) b => (p.1 + 1, p.2.setQueueByte p.1 b)) (a, c)).2
  else c.setMem a bs

/-- The OTP area of the NVM window (R593): CHARTER_KEY reads 0 (R64). -/
def otpByte (f : Fuses) (a : Nat) : Byte :=
  let w := (a - 0x220DF000) / 4
  if decide (4 ≤ w ∧ w ≤ 11) then 0 else BitVec.ofNat 8 ((getS 0 f.otp w).toNat / 256 ^ (a % 4))

/-- What a byte of the map holds for a reader of memory. -/
def Chip.fetchByte (e : Env) (c : Chip) (a : Nat) : Byte :=
  if 0x220DF000 ≤ a && a < 0x220E0000 then otpByte e.fuses a
  else c.memByte a

/-- Bytes of a memory region. -/
def Chip.fetchBytes (e : Env) (c : Chip) (a : Nat) : Nat → List Byte
  | 0 => []
  | n + 1 => c.fetchByte e a :: c.fetchBytes e (a + 1) n

/-! ### The reservation wheel and arbitration (R452 to R456) -/

/-- Interconnect cycles since count 0, two and a half a count. -/
def icCycle (now : Nat) : Nat := now * 5 / 2

/-- The wheel of a target, all free where it has no entry (R454). -/
def Chip.wheel (c : Chip) (t : Nat) : List Nat :=
  ((c.bus.wheels.find? (fun w => w.1 = t)).map (·.2)).getD (List.replicate 64 0xFF)

/-- The slot of the wheel `i` interconnect cycles after a count (R454). -/
def Chip.slotAt (e : Env) (c : Chip) (i : Nat) : Nat := (icCycle (e.now % c.met.ticks.cb) + i) % 64

/-- How many of master `m`'s slots the wheel passes in cycles (a, b]. -/
def slotsPassed (w : List Nat) (m a b : Nat) : Nat :=
  let upTo := fun n => n / 64 * (w.filter (· = m)).length + ((w.take (n % 64)).filter (· = m)).length
  upTo (b + 1) - upTo (a + 1)

/-- The line cost K of an external target (R456). -/
def Chip.lineCost (c : Chip) (t : Nat) : Nat :=
  if t = 6 then 104 else [75, 150, 300].getD (c.fld A.XMC_XSPI_CTL 1 0) 300

/-- The account of master `m` at target `t` now (R456). -/
def Chip.account (e : Env) (c : Chip) (t m : Nat) : Nat :=
  let a := getS {} c.bus.accounts (16 * t + m)
  min (2 * c.lineCost t) (a.units + 4 * slotsPassed (c.wheel t) m a.asOf (icCycle e.now))

/-- Take a line's cost from an account (R456). -/
def Chip.charge (e : Env) (c : Chip) (t m : Nat) : Chip :=
  let units := c.account e t m - c.lineCost t
  { c with bus := { c.bus with accounts := putS {} c.bus.accounts (16 * t + m) { units := units, asOf := icCycle e.now } } }

/-- How many slots master `m`'s account still needed when it was last charged, to reach K: the fewer, the earlier. -/
def Chip.reachOrder (e : Env) (c : Chip) (t m : Nat) : Nat :=
  let a := getS {} c.bus.accounts (16 * t + m)
  let cyc := icCycle e.now
  ((List.range (cyc - a.asOf + 1)).find? (fun d =>
    decide (c.lineCost t ≤ a.units + 4 * slotsPassed (c.wheel t) m a.asOf (a.asOf + d)))).map (· + a.asOf) |>.getD cyc

/-- The first master of a list in ascending order after `last` (step 4 of R452). -/
def roundRobin (last : Nat) (ms : List Nat) : Option Nat :=
  match (ms.filter (fun m => decide (last < m))).min? with
  | some m => some m
  | none => ms.min?

/-- How many cycles before a slot that master `m` held passed while it waited `n` cycles up to now: the beat it is owed
(R455). -/
def Chip.owedSince (e : Env) (c : Chip) (t m n : Nat) : Option Nat :=
  ((List.range n).map (n - ·)).find? (fun d => (c.wheel t).getD ((c.slotAt e 0 + 64 * n - d) % 64) 0xFF == m)

/-- The master a target grants among those waiting (R452), `i` cycles from now, with the step that chose it. A waiting
master stands with the cycles for which a lock has kept it waiting. -/
def Chip.arbitrate (e : Env) (c : Chip) (t i : Nat) (ws : List (Nat × Nat)) : Option (Nat × Nat) :=
  let ms := ws.map (·.1)
  match (c.bus.lock.filter (fun l => l.target == t)).map (·.m.port) with
  | some m => if ms.contains m then some (m, 1) else none
  | none =>
    let slot := (c.wheel t).getD (c.slotAt e i) 0xFF
    let timed := t = 1 || t = 2 || t = 4
    let owed := if timed then ws.filterMap (fun w => (c.owedSince e t w.1 w.2).map (fun d => (d, w.1))) else []
    let oldest := (owed.map (·.1)).max?
    match owed.find? (fun o => some o.1 = oldest) with
    | some o => some (o.2, 2)
    | none =>
    if timed && ms.contains slot then some (slot, 2)
    else
      let rich := if t = 5 || t = 6 then ms.filter (fun m => decide (c.lineCost t ≤ c.account e t m)) else []
      let earliest := (rich.map (fun m => c.reachOrder e t m)).min?
      match rich.filter (fun m => some (c.reachOrder e t m) = earliest) |>.min? with
      | some m => some (m, 3)
      | none => (roundRobin (getS 16 c.bus.winner t) ms).map (fun m => (m, 4))

/-- The state a grant leaves: the parked master, the round robin and the account (R452, R453, R456). -/
def Chip.granted (e : Env) (c : Chip) (t m step : Nat) : Chip :=
  let c := { c with bus := { c.bus with parked := putS 16 c.bus.parked t m } }
  if step = 4 then { c with bus := { c.bus with winner := putS 16 c.bus.winner t m } }
  else if step = 3 then c.charge e t m
  else c

/-! ### Memory initialisation (R465) -/

/-- SRAM, queue RAM and delay RAM read 0. -/
def initialised (a : Nat) : Bool :=
  (decide (0x10000000 ≤ a) && decide (a < 0x10200000)) || (decide (0x20000000 ≤ a) && decide (a < 0x20010000))
    || (decide (0x21000000 ≤ a) && decide (a < 0x21080000))

/-- Hardware has written 0 to every word of SRAM, queue RAM and delay RAM (R465). -/
def memoryInit (c : Chip) : Chip := ({ c with mem := dropS initialised c.mem }).setBit A.SYS_BUS_INIT 0

/-! ### The external memory controllers (R467 to R479) -/

/-- The live Charter has a wheel entry for target `t`. -/
def Chip.wheelLive (c : Chip) (t : Nat) : Bool :=
  match c.ldr.live with
  | none => false
  | some ch => ch.wheels.any (fun w => w.1 == t)

/-- CFG_REFUSED is set. -/
def Chip.xmcRefused (c : Chip) : Chip := c.setBit A.XMC_STAT 0

/-- A write of an xSPI device's CFG or TIM register (R470): TYPE 3 stores 0. -/
def xspiConfigWrite (a : Nat) (v : Word) (c : Chip) : Chip :=
  if c.wheelLive 5 then c.xmcRefused
  else
    let v := if (a = A.XMC_XSPI_DEVn_CFG 0 || a = A.XMC_XSPI_DEVn_CFG 1) && bits v 1 0 = 3 then putFld v 1 0 0 else v
    c.writeCoded a v

/-- A write of XMC_SDR_CFG or XMC_SDR_TIM (R475, R477 and the register table). -/
def sdrConfigWrite (a : Nat) (v : Word) (c : Chip) : Chip :=
  if c.sdrReady then c.xmcRefused
  else if a = A.XMC_SDR_CFG && (decide (2 ≤ bits v 5 4) || bits v 1 0 = 3) then c.xmcRefused
  else if a = A.XMC_SDR_TIM && c.wheelLive 6 then c.xmcRefused
  else c.writeCoded a v

/-- A configuration write of the external memory controllers (R470, R475, R477). -/
def xmcConfigWrite (a : Nat) (v : Word) (c : Chip) : Chip :=
  if a = A.XMC_SDR_CFG || a = A.XMC_SDR_TIM then sdrConfigWrite a v c
  else if a = A.XMC_XSPI_DEVn_CFG 0 || a = A.XMC_XSPI_DEVn_CFG 1 || a = A.XMC_XSPI_DEVn_TIM 0
      || a = A.XMC_XSPI_DEVn_TIM 1 then xspiConfigWrite a v c
  else c.writeCoded a v

/-- The contents of the SDRAM become undefined (R478, R479): every byte that memory lists becomes a free value; one that
nothing has written reads as before (log entries 5 and 9). -/
def Chip.sdramLost (c : Chip) : Chip :=
  let (k, c) := c.draw
  let lost := (c.mem.filter (fun e => decide (0x80000000 ≤ e.1))).map (fun e => (e.1, BitVec.ofNat 8 (Config.freeNat (k + e.1))))
  { c with mem := lost.foldl (fun m e => putB m e.1 e.2) c.mem }

/-- A write of XMC_SDR_CTL (R478): SLEEP_LOSE, LOST and INIT. -/
def sdrCtlWrite (v : Word) (c : Chip) : Chip :=
  if v.getLsbD 0 then
    if c.sdrReady && c.wheelLive 6 then c.xmcRefused.writeCoded A.XMC_SDR_CTL (v &&& ~~~ 1)
    else
      let c := if c.sdrReady then c.sdramLost else c
      (c.writeCoded A.XMC_SDR_CTL v).clrBit A.XMC_SDR_CTL 1
  else c.writeCoded A.XMC_SDR_CTL v

/-- Counts that SDRAM initialisation takes at least: 200.0 µs and TRP + 8 × TRFC + 2 interconnect cycles (R478). -/
def Chip.sdrInitCounts (c : Chip) : Nat :=
  let t := c.rd A.XMC_SDR_TIM
  let us := if c.family441 then 9032 else 9831
  us + (2 * (bits t 5 4 + 8 * bits t 11 8 + 2) + 4) / 5

/-- Initialisation ends: INIT clears and READY reads 1 (R478). -/
def sdrInitDone (c : Chip) : Chip :=
  if c.bit A.XMC_SDR_CTL 0 then (c.clrBit A.XMC_SDR_CTL 0).setBit A.XMC_SDR_CTL 1 else c

/-- Entry to Doze or Drowse with SLEEP_LOSE = 1 loses the SDRAM (R479). -/
def sdrSleep (c : Chip) : Chip :=
  if c.sdrReady then ((c.clrBit A.XMC_SDR_CTL 1).setBit A.XMC_SDR_CTL 3).sdramLost else c

/-! ### The sequence engine (R472 to R474) -/

/-- The length of the sequence in xSPI clocks under 8D-8D-8D: command, address, latency, data and CSH (R472, R469). -/
def Chip.seqClocks (c : Chip) (v : Word) : Nat :=
  let d := bits v 13 13
  1 + (if v.getLsbD 11 then 2 else 0) + bits v 8 4
    + (if bits v 10 9 = 0 then 0 else (min 64 (c.fld A.XMC_XSPI_SEQ_LEN 6 0) + 1) / 2) + c.fld (A.XMC_XSPI_DEVn_TIM d) 19 16

/-- A write of XMC_XSPI_SEQ (R472, R474). -/
def xspiSequence (v : Word) (c : Chip) : Chip :=
  if c.bit A.XMC_XSPI_SEQ_STAT 0 then c
  else
    let c := c.writeCoded A.XMC_XSPI_SEQ v
    if v.getLsbD 15 then
      if c.wheelLive 5 && (!v.getLsbD 12 || decide (60 < c.seqClocks v)) then c.setBit A.XMC_XSPI_SEQ_STAT 2
      else { c.setBit A.XMC_XSPI_SEQ_STAT 0 with bus := { c.bus with seq := true } }
    else c

/-- A sequence ends: the data of a read stand in the buffer; polling begins where POLL = 1 (R472, R473). -/
def xspiSequenceDone (data : List Byte) (c : Chip) : Chip :=
  if c.bus.seq then
    let v := c.rd A.XMC_XSPI_SEQ
    let c := { c with bus := { c.bus with seq := false } }
    let n := min 64 (c.fld A.XMC_XSPI_SEQ_LEN 6 0)
    let c := if bits v 10 9 = 1 then
        (List.range n).foldl (fun c i =>
          c.setFld (A.XMC_XSPI_BUFw (i / 4)) (8 * (i % 4) + 7) (8 * (i % 4)) (data.getD i 0).toNat) c
      else c
    if v.getLsbD 14 then c.setBit (A.XMC_XSPI_DEVn_CFG (bits v 13 13)) 9
    else (c.clrBit A.XMC_XSPI_SEQ_STAT 0).setBit A.XMC_XSPI_SEQ_STAT 1
  else c

/-- A status read of the polling (R473): polling ends when the bit differs from POL. -/
def xspiPoll (status : Byte) (c : Chip) : Chip :=
  let d := c.fld A.XMC_XSPI_SEQ 13 13
  if c.bit A.XMC_XSPI_SEQ_STAT 0 && !c.bus.seq && c.xspiBusy d then
    let p := c.rd (A.XMC_XSPI_DEVn_POLL d)
    if status.getLsbD (bits p 26 24) = p.getLsbD 28 then c
    else ((c.clrBit (A.XMC_XSPI_DEVn_CFG d) 9).clrBit A.XMC_XSPI_SEQ_STAT 0).setBit A.XMC_XSPI_SEQ_STAT 1
  else c

/-- A read whose strobe never moves (R471). -/
def strobeTimeout (m : Master) (a : Nat) (e : Env) (c : Chip) : Chip :=
  let d := match regionOf a with
    | .xspi d _ => d
    | _ => 0
  ((c.busError m 5 7 a false).setBit A.XMC_STAT 1).report e 0x0A clsRecoverable d a

end Sys2Proof.Machine
end

