-- ==== Sys2Proof/Machine/Operands.lean ====
section
/-! DEFINITION. Machine/Operands.lean: a Clerk core's registers and control registers, the addresses of its data
accesses and its loop-end step (10_quire_instruction_set.md, 11_clerk_cores_and_interrupts.md). -/

namespace Sys2Proof.Machine

/-! ### General registers and accumulators (R335, R336) -/

/-- A general register; g0 reads 0. -/
def Core.reg (k : Core) (r : Nat) : Word := if r = 0 then 0 else getS 0 k.g r

/-- Write a general register; g0 ignores writes. -/
def Core.setReg (k : Core) (r : Nat) (v : Word) : Core := if r = 0 then k else { k with g := putS 0 k.g r v }

/-- An accumulator. -/
def Core.acc (k : Core) (a : Nat) : Acc := if a = 0 then k.a0 else k.a1

/-- Write an accumulator. -/
def Core.setAcc (k : Core) (a : Nat) (v : Acc) : Core := if a = 0 then { k with a0 := v } else { k with a1 := v }

/-- PSW.Q is set where a clamp changed a value (R338). -/
def Core.stick (k : Core) (q : Bool) : Core := if q then { k with psw := setBitTo k.psw pswQ true } else k

/-- PSW.LEVEL. -/
def Core.level (k : Core) : Nat := bits k.psw 10 9

/-- Core `n` of the chip. -/
def Chip.core (c : Chip) (n : Nat) : Core := if n = 0 then c.core0 else c.core1

/-- Replace core `n`. -/
def Chip.setCore (c : Chip) (n : Nat) (k : Core) : Chip := if n = 0 then { c with core0 := k } else { c with core1 := k }

/-- Change core `n`. -/
def Chip.modCore (c : Chip) (n : Nat) (f : Core → Core) : Chip := c.setCore n (f (c.core n))

/-! ### Memory addresses (R353) -/

/-- Access size in bytes of SZ (R352). -/
def szBytes (sz : Nat) : Nat := if sz % 4 = 0 then 1 else if sz % 4 = 1 then 2 else 4

/-- A load's SZ that is assigned. -/
def loadSz (sz : Nat) : Bool := [0, 1, 2, 4, 5].contains sz

/-- The loaded value extended (R352). -/
def loadExt (sz v : Nat) : Word :=
  match sz with
  | 0 => wordI (sgn 8 v)
  | 1 => wordI (sgn 16 v)
  | _ => word v

/-- The address of LDX and STX and the updated base, if the mode updates it (R353). -/
def indexed (mode size : Nat) (base k : Word) : Word × Option Word :=
  match mode with
  | 0 => (base + k, none)
  | 1 => (base, some (base + word size))
  | 2 => (base - word size, some (base - word size))
  | 3 => (base, some (base + k))
  | _ => (base - k, some (base - k))

/-! ### The loop-end step (R359) -/

/-- The loop-end steps of an instruction whose sequential successor is `next`: the fuel is the depth. -/
def loopEnd : Nat → Word → Core → Word × Core
  | 0, next, k => (next, k)
  | d + 1, next, k =>
    if next = getS 0 k.le d then
      let n := getS 0 k.lc d
      if 1 < n.toNat then (getS 0 k.ls d, { k with lc := putS 0 k.lc d (n - 1), depth := d + 1 })
      else loopEnd d next { k with lc := putS 0 k.lc d 0, depth := d }
    else (next, k)

/-- An instruction of `size` bytes completes without transferring control (R359). -/
def Core.sequential (k : Core) (size : Nat) : Core :=
  let (pc, k) := loopEnd k.depth (k.pc + word size) k
  { k with pc := pc }

/-- An instruction completes that performs no loop-end step (R360). -/
def Core.plainNext (k : Core) (size : Nat) : Core := { k with pc := k.pc + word size }

/-! ### Control registers (R364, R370, R374; the register tables of chapters 10 and 11) -/

/-- Reset words of the control registers from 0x040. -/
def crReset (n : Nat) : Word :=
  if n = 0x50 then 4 else if n = 0x59 || n = 0x5B then 0xFFFFFF else 0

/-- A stored control register. -/
def Core.crw (k : Core) (n : Nat) : Word := getS (crReset n) k.cr n

/-- Store a control register. -/
def Core.setCrw (k : Core) (n : Nat) (v : Word) : Core := { k with cr := putS (crReset n) k.cr n v }

/-- The feature registers (R374). -/
def feat (core n : Nat) : Word :=
  match n with
  | 0 => 0x010001FE
  | 1 => 0x00482024
  | 2 => 0x54105410
  | 3 => 0x00440040
  | 4 => 0x00000324
  | 5 => 0x20 + word core
  | _ => 0

/-- The private timer counts: enabled, and not frozen by debug halt (R407). -/
def Core.tmrOn (k : Core) : Bool := (k.crw 0x50).getLsbD 0 && !(k.run = .halted && (k.crw 0x50).getLsbD 2)

/-- TMR_COUNT at absolute count `now`. -/
def Core.tmrCount (now : Nat) (k : Core) : Word :=
  match k.tmrZero with
  | some z => word (z - now)
  | none => k.crw 0x52

/-- Keep the timer's deadline, or its stopped count, in step with whether it counts. -/
def Core.tmrSync (now : Nat) (k : Core) : Core :=
  match k.tmrZero with
  | some z => if k.tmrOn then k else { k.setCrw 0x52 (word (z - now)) with tmrZero := none }
  | none => if k.tmrOn then { k with tmrZero := some (now + (k.crw 0x52).toNat) } else k

/-- A write of TMR_CTL: EN from 0 to 1 loads the count from RELOAD, 0 used as 1 (R407). -/
def Core.writeTmrCtl (now : Nat) (v : Word) (k : Core) : Core :=
  let was := (k.crw 0x50).getLsbD 0
  let k := if was && !v.getLsbD 0 then { k.setCrw 0x52 (k.tmrCount now) with tmrZero := none } else k
  let k := k.setCrw 0x50 (v &&& 7)
  let k := if !was && v.getLsbD 0 then k.setCrw 0x52 (word (max 1 (k.crw 0x51).toNat)) else k
  k.tmrSync now

/-- Core cycles up to `now`: five a count while the core is not in debug halt or held (log entry 10). -/
def Core.cycles (now : Nat) (k : Core) : Nat :=
  if k.run = .halted || k.run = .held then k.cyc else k.cyc + 5 * (now - k.cycFrom)

/-- DBG_STAT (R386, R410): LOCKUP, REASON (stored) and HALTED. -/
def Core.dbgStat (k : Core) : Word :=
  (if k.run = .lockup then 16 else 0) ||| (k.crw 0x61 &&& 14) ||| (if k.run = .halted then 1 else 0)

/-- MFC, or a read through the DBG window where `dbg` holds. -/
def crRead (e : Env) (n ctl : Nat) (dbg : Bool) (c : Chip) : Word × Chip :=
  let k := c.core n
  if ctl = 0 then (k.psw, c)
  else if ctl = 1 then (word k.depth, c)
  else if 4 ≤ ctl && ctl < 8 then (getS 0 k.ls (ctl - 4), c)
  else if 8 ≤ ctl && ctl < 12 then (getS 0 k.le (ctl - 8), c)
  else if 12 ≤ ctl && ctl < 16 then (getS 0 k.lc (ctl - 12), c)
  else if 0x20 ≤ ctl && ctl < 0x28 then (feat (n % 2) (ctl - 0x20), c)
  else if ctl = 0x44 then
    let (f, c) := c.draw
    let t := k.cycles e.now + Config.freeNat f % 5
    (word t, c.setCore n (k.setCrw 0x45 (word (t / 2 ^ 32))))
  else if ctl = 0x52 then (k.tmrCount e.now, c)
  else if ctl = 0x5C then (0, c)
  else if ctl = 0x60 then (k.crw 0x60 &&& 0x1F, c)
  else if ctl = 0x61 then (k.dbgStat, c)
  else if ctl = 0x70 then
    (k.crw 0x70, if dbg then c.setCore n (k.setCrw 0x72 (k.crw 0x72 &&& 1)) else c)
  else if ctl = 0x71 then
    (k.crw 0x71, if dbg then c else c.setCore n (k.setCrw 0x72 (k.crw 0x72 &&& 2)))
  else (k.crw ctl, c)

/-- A write of WDG_KICK (R408). -/
def Core.kick (v : Word) (k : Core) : Core :=
  if bits v 15 0 = 0xC1E4 then k.setCrw 0x5B (k.crw 0x59) else k.setCrw 0x5D (k.crw 0x5D ||| 2)

/-- MTC, or a write through the DBG window where `dbg` holds. RESUME is the debug unit's (Machine/Quire.lean). -/
def crWrite (e : Env) (n ctl : Nat) (dbg : Bool) (v : Word) (c : Chip) : Chip :=
  c.modCore n fun k =>
    if ctl = 0 then { k with psw := v &&& 0xF1F }
    else if ctl = 1 then { k with depth := min 4 (bits v 2 0) }
    else if 4 ≤ ctl && ctl < 8 then { k with ls := putS 0 k.ls (ctl - 4) (v &&& ~~~ 1) }
    else if 8 ≤ ctl && ctl < 12 then { k with le := putS 0 k.le (ctl - 8) (v &&& ~~~ 1) }
    else if 12 ≤ ctl && ctl < 16 then { k with lc := putS 0 k.lc (ctl - 12) v }
    else match ctl with
    | 0x40 => k.setCrw 0x40 (v &&& 0x3FF)
    | 0x41 => if v.getLsbD 31 then k.setCrw 0x41 (k.crw 0x41 &&& 0x7FFFFFFF) else k
    | 0x50 => k.writeTmrCtl e.now v
    | 0x51 => k.setCrw 0x51 v
    | 0x53 => k.setCrw 0x53 (k.crw 0x53 &&& ~~~ v)
    | 0x58 => k.setCrw 0x58 ((v &&& 2) ||| ((k.crw 0x58 ||| v) &&& 1))
    | 0x59 => if (k.crw 0x58).getLsbD 0 then k else k.setCrw 0x59 (v &&& 0xFFFFFF)
    | 0x5A => if (k.crw 0x58).getLsbD 0 then k else k.setCrw 0x5A (v &&& 0xFFFFFF)
    | 0x5C => k.kick v
    | 0x5D => k.setCrw 0x5D (k.crw 0x5D &&& ~~~ v)
    | 0x60 => k.setCrw 0x60 ((v &&& 0xF) ||| ((k.crw 0x60 ||| v) &&& 0x10))
    | 0x64 => k.setCrw 0x64 v
    | 0x65 => k.setCrw 0x65 v
    | 0x66 => k.setCrw 0x66 v
    | 0x67 => k.setCrw 0x67 v
    | 0x68 => k.setCrw 0x68 (v &&& ~~~ 3)
    | 0x69 => k.setCrw 0x69 (v &&& ~~~ 3)
    | 0x6A => k.setCrw 0x6A (v &&& 3)
    | 0x6B => k.setCrw 0x6B (v &&& 3)
    | 0x70 => (k.setCrw 0x70 v).setCrw 0x72 (if dbg then k.crw 0x72 else k.crw 0x72 ||| 2)
    | 0x71 => if dbg then (k.setCrw 0x71 v).setCrw 0x72 (k.crw 0x72 ||| 1) else k
    | _ => k

/-- Number of a control register that debug may use at any time (R412). -/
def anyTimeCr (ctl : Nat) : Bool := 0x60 ≤ ctl && ctl < 0x80

/-- A read of the DBG window (R412): the core, the offset in its region. -/
def dbgRead (e : Env) (n off : Nat) (c : Chip) : Word × Chip :=
  let halted := (c.core n).run = .halted
  if off < 0x80 then (if halted then (c.core n).reg (off / 4) else 0, c)
  else if off = 0x80 then (if halted then (c.core n).pc else 0, c)
  else if 0x800 ≤ off && off < 0x1000 then
    if anyTimeCr ((off - 0x800) / 4) || halted then crRead e n ((off - 0x800) / 4) true c else (0, c)
  else (0, c)

/-- A write of the DBG window (R412). -/
def dbgWrite (e : Env) (n off : Nat) (v : Word) (c : Chip) : Chip :=
  let halted := (c.core n).run = .halted
  if off < 0x80 then (if halted then c.modCore n (·.setReg (off / 4) v) else c)
  else if off = 0x80 then (if halted then c.modCore n (fun k => { k with pc := v &&& ~~~ 1 }) else c)
  else if 0x800 ≤ off && off < 0x1000 then
    if anyTimeCr ((off - 0x800) / 4) || halted then crWrite e n ((off - 0x800) / 4) true v c else c
  else c

/-! ### Timer, watchdog and debug halt (R407, R408, R410, R411) -/

/-- The private timer reaches zero (R407). -/
def tmrExpire (e : Env) (n : Nat) (c : Chip) : Chip :=
  c.modCore n fun k =>
    match k.tmrZero with
    | none => k
    | some z =>
      if z ≤ e.now then
        let k := k.setCrw 0x53 1
        if (k.crw 0x50).getLsbD 1 then { k with tmrZero := some (z + max 1 (k.crw 0x51).toNat) }
        else { (k.setCrw 0x50 (k.crw 0x50 &&& ~~~ 1)).setCrw 0x52 0 with tmrZero := none }
      else k

/-- A Vault-clock edge in a slow run, at which core `n`'s private timer takes the `a` counts of the slow period that begins
there: its zero lies at the edge, and requests a wake (R407, R545, R546). -/
def tmrSlowEdge (e : Env) (a n : Nat) (c : Chip) : Chip :=
  let k := c.core n
  match k.tmrZero with
  | none => c
  | some z =>
    if e.now + a < z then c
    else
      let k := k.setCrw 0x53 1
      let r := max 1 (k.crw 0x51).toNat
      (c.setCore n (if (k.crw 0x50).getLsbD 1 then { k with tmrZero := some (z + ((e.now + a - z) / r + 1) * r) }
        else { (k.setCrw 0x50 (k.crw 0x50 &&& ~~~ 1)).setCrw 0x52 0 with tmrZero := none })).askWake

/-- The watchdog counts: enabled, not in Doze or Drowse, and not in debug halt unless RUN_DBG (R408). -/
def Chip.wdgOn (c : Chip) (n : Nat) : Bool :=
  let k := c.core n
  (k.crw 0x58).getLsbD 0 && c.pwr.sub ≠ .doze && c.pwr.sub ≠ .drowse
    && (k.run ≠ .halted || (k.crw 0x58).getLsbD 1)

/-- The watchdog's count becomes `v`: the warning at WARN, the expiry at 0 (R408). -/
def wdgReach (e : Env) (n v : Nat) (c : Chip) : Chip :=
  if c.wdgOn n then
    let k := c.core n
    let old := (k.crw 0x5B).toNat
    let warn := (k.crw 0x5A).toNat
    let k := k.setCrw 0x5B (word v)
    let k := if v ≤ warn && decide (warn < old) then k.setCrw 0x5D (k.crw 0x5D ||| 1) else k
    let c := c.setCore n k
    if v = 0 then
      let c := c.modCore n (fun k => (k.setCrw 0x5D (k.crw 0x5D ||| 4)).setCrw 0x5B (k.crw 0x59))
      let c := c.setBit A.SYS_RST_CAUSE (8 + n % 2)
      let d := c.pwr.due
      let c := { c with pwr := { c.pwr with due :=
        if n = 0 then { d with core0 := true, reload0 := true } else { d with core1 := true, reload1 := true } } }
      c.report e 0x12 clsSevere (n % 2) 0
    else c
  else c

/-- One Vault-clock edge at the watchdog of core `n`. -/
def wdgEdge (e : Env) (n : Nat) (c : Chip) : Chip :=
  let v := ((c.core n).crw 0x5B).toNat
  if v = 0 then c else wdgReach e n (v - 1) c

/-- A core enters debug halt with a REASON (R410, R411); HALT_REQ clears. -/
def Core.halt (now reason : Nat) (k : Core) : Core :=
  let cyc := k.cycles now
  let k := (k.setCrw 0x61 (word (2 * reason))).setCrw 0x60 (k.crw 0x60 &&& ~~~ 0x10)
  ({ k with run := .halted, cyc := cyc, stepping := false, watchHit := false } : Core).tmrSync now

/-- A core that could halt does so, and the other with it where its XHALT says so (R410). -/
def haltCore (e : Env) (n reason : Nat) (c : Chip) : Chip :=
  let c := c.modCore n (·.halt e.now reason)
  let o := c.core (1 - n)
  if (o.crw 0x60).getLsbD 1 && (o.run = .running || o.run = .waiting) then c.modCore (1 - n) (·.halt e.now 5) else c

/-- A write of DBG_CTL.RESUME = 1 to a halted core (R411). -/
def resumeCore (e : Env) (n : Nat) (c : Chip) : Chip :=
  c.modCore n fun k =>
    if k.run = .halted then
      ({ k with run := .running, cycFrom := e.now, stepping := (k.crw 0x60).getLsbD 2 } : Core).tmrSync e.now
    else k

/-! ### The reset of a core's own state (R404, R406, R584) -/

/-- Control registers that a core reset leaves as they are. -/
def keptCr (n : Nat) : Bool :=
  n == 0x58 || n == 0x59 || n == 0x5A || n == 0x5D || n == 0x60 || (0x64 ≤ n && n ≤ 0x6B) || (0x70 ≤ n && n ≤ 0x72)

/-- A core's registers after a core reset that restarts it at `pc`, or holds it. WDG_STAT keeps EXPIRED only. -/
def Core.resetRegs (now : Nat) (pc : Option Word) (reload : Bool) (k : Core) : Core :=
  let cr := k.cr.filter (fun e => keptCr e.1)
  let k' : Core := { k with
    run := if pc.isSome then .running else .held
    pc := pc.getD 0, psw := 0, depth := 0, ls := [], le := [], lc := [], cr := cr, wb := [], storeErr := [], fault := none,
    tmrZero := none, cyc := 0, cycFrom := now, stepping := false, watchHit := false, swi := 0 }
  let k' := k'.setCrw 0x5D (k.crw 0x5D &&& 4)
  if reload then k'.setCrw 0x5B (k.crw 0x59) else k'

end Sys2Proof.Machine
end

