-- ==== Sys2Proof/Machine/Caches.lean ====
section
/-! DEFINITION. Machine/Caches.lean: the five caches, the Registry and the coherent accesses
(12_caches_and_coherence.md). -/

namespace Sys2Proof.Machine

/-! ### The arrays (R415) -/

/-- A cache by number: 0, 1 data caches, 2 wave cache, 3, 4 instruction caches. -/
def Chip.cache (c : Chip) : Nat → SMap CLine
  | 0 => c.caches.d0
  | 1 => c.caches.d1
  | 2 => c.caches.w
  | 3 => c.caches.i0
  | _ => c.caches.i1

/-- Replace a cache. -/
def Chip.setCache (c : Chip) (i : Nat) (m : SMap CLine) : Chip :=
  { c with caches :=
    match i with
    | 0 => { c.caches with d0 := m }
    | 1 => { c.caches with d1 := m }
    | 2 => { c.caches with w := m }
    | 3 => { c.caches with i0 := m }
    | _ => { c.caches with i1 := m } }

def cacheWays (i : Nat) : Nat := if i = 2 then 16 else 4
def cacheSets (i : Nat) : Nat := if i = 2 then 512 else 128

/-- The key of way `w` of the set of a line. -/
def wayKey (i line w : Nat) : Nat := line % cacheSets i * cacheWays i + w

/-- A way of a cache by key. -/
def Chip.way (c : Chip) (i k : Nat) : CLine := getS {} (c.cache i) k

/-- Write a way of a cache. -/
def Chip.setWay (c : Chip) (i k : Nat) (l : CLine) : Chip :=
  c.setCache i (putS {} (c.cache i) k (if l.st = .i then {} else l))

/-- The key at which a cache holds a line. -/
def Chip.findLine (c : Chip) (i line : Nat) : Option Nat :=
  ((List.range (cacheWays i)).map (wayKey i line)).find?
    (fun k => (c.way i k).st ≠ .i && (c.way i k).line == line)

/-- The state in which a cache holds a line. -/
def Chip.lineState (c : Chip) (i line : Nat) : LineState :=
  match c.findLine i line with
  | none => .i
  | some k => (c.way i k).st

/-- Age of a line hit by an access (R416). -/
def Chip.touch (c : Chip) (i k : Nat) (streaming : Bool) : Chip :=
  if streaming then c else c.setWay i k { c.way i k with age := 0 }

/-! ### Lines and memory -/

/-- A line's bytes in memory. -/
def Chip.memLine (e : Env) (c : Chip) (line : Nat) : List Byte := c.fetchBytes e (32 * line) 32

/-- Bytes of `upper` where the mask has a 1, else of `lower`. -/
def maskMerge (mask : Nat) (upper lower : List Byte) : List Byte :=
  (List.range 32).map (fun i => if mask / 2 ^ i % 2 = 1 then upper.getD i 0 else lower.getD i 0)

/-- A mask of all 32 bytes. -/
def fullMask : Nat := 2 ^ 32 - 1

/-- The whole line that a way holds: the bytes it does not hold come from memory (R421). -/
def Chip.wholeLine (e : Env) (c : Chip) (l : CLine) : List Byte :=
  if l.st = .m && l.mask ≠ fullMask then maskMerge l.mask l.data (c.memLine e l.line) else l.data

/-- Write the masked bytes of a line to memory. -/
def Chip.writeLine (c : Chip) (line mask : Nat) (data : List Byte) : Chip :=
  (List.range 32).foldl (fun c i =>
    if mask / 2 ^ i % 2 = 1 then { c with mem := putB c.mem (32 * line + i) (data.getD i 0) } else c) c

/-- Write an M line back; its state becomes `st`. -/
def Chip.writeBack (e : Env) (c : Chip) (i k : Nat) (st : LineState) : Chip :=
  let l := c.way i k
  if l.st = .m then
    let whole := c.wholeLine e l
    let c := c.writeLine l.line l.mask l.data
    c.setWay i k { l with st := st, data := whole, mask := 0 }
  else if st = .i then c.setWay i k {} else c

/-! ### Replacement (R416, R417) -/

/-- The way a fill takes among the permitted ones, after the ageing step if one is needed. A line within its tenure is
passed over; where every permitted way is, the fill waits for the first tenure to end. -/
def Chip.victim (e : Env) (c : Chip) (i line : Nat) (perm : List Nat) : Nat × Chip :=
  let keys := perm.map (wayKey i line)
  match keys.find? (fun k => (c.way i k).st = .i) with
  | some k => (k, c)
  | none =>
    let a := (keys.map (fun k => (c.way i k).age)).foldl max 0
    let c := if a = 3 then c
      else keys.foldl (fun c k => c.setWay i k { c.way i k with age := (c.way i k).age + (3 - a) }) c
    let idle := fun k => decide ((c.way i k).tenure ≤ e.now)
    match keys.find? (fun k => (c.way i k).age = 3 && idle k) with
    | some k => (k, c)
    | none =>
      match keys.find? idle with
      | some k => (k, c)
      | none =>
        let first := (keys.map (fun k => (c.way i k).tenure)).min?
        ((keys.find? (fun k => some (c.way i k).tenure = first)).getD (wayKey i line 0), c)

/-- Put a line into the way a fill takes, writing an M line that stood there back (R417). -/
def Chip.install (e : Env) (c : Chip) (i : Nat) (perm : List Nat) (l : CLine) : Chip :=
  let (k, c) := c.victim e i l.line perm
  (c.writeBack e i k .i).setWay i k l

/-- The ways a requester of the wave cache may fill (R419). -/
def Chip.maskWays (c : Chip) (r : Nat) : List Nat :=
  (List.range 16).filter (fun w => (c.rd (A.WCC_MASKr r)).getLsbD w)

/-- The ways a fill of cache `i` for requester `r` may use. -/
def Chip.permitted (c : Chip) (i r : Nat) : List Nat := if i = 2 then c.maskWays r else List.range 4

/-! ### The Registry (R427 to R431) -/

/-- The other members that hold a line, with their keys. -/
def Chip.holders (c : Chip) (x line : Nat) : List (Nat × Nat) :=
  (([0, 1, 2].filter (· ≠ x)).filterMap (fun h => (c.findLine h line).map (fun k => (h, k))))

/-- The absolute count at which a tenure that begins now ends: 16 interconnect cycles (R431). -/
def tenureEnd (now : Nat) : Nat := now + 7

/-- A writeback on its way reaches memory (R428). -/
def Chip.retire (c : Chip) (line : Nat) : Chip :=
  match c.caches.retiring.find? (fun r => r.line = line) with
  | none => c
  | some r =>
    let c := c.writeLine line r.mask r.data
    { c with caches := { c.caches with retiring := c.caches.retiring.filter (fun q => q.line ≠ line) } }

/-- The other members give up a line: to S with an M copy written back, or to I without (R427). -/
def Chip.downgrade (e : Env) (c : Chip) (hs : List (Nat × Nat)) (st : LineState) : Chip :=
  hs.foldl (fun c h =>
    if st = .s then
      let c := c.writeBack e h.1 h.2 .s
      c.setWay h.1 h.2 { c.way h.1 h.2 with st := .s }
    else c.setWay h.1 h.2 {}) c

/-- The data a holder in M or E supplies, whole (R427). -/
def Chip.holderData (e : Env) (c : Chip) (hs : List (Nat × Nat)) : Option (List Byte) :=
  (hs.find? (fun h => (c.way h.1 h.2).st = .m || (c.way h.1 h.2).st = .e)).map (fun h => c.wholeLine e (c.way h.1 h.2))

/-- Put a granted line into member `x`: where it already holds the line, or by a fill if it may allocate. -/
def Chip.place (e : Env) (c : Chip) (x r : Nat) (streaming : Bool) (l : CLine) : Chip :=
  match c.findLine x l.line with
  | some k => c.setWay x k { l with age := (c.way x k).age }
  | none =>
    let perm := c.permitted x r
    if perm.isEmpty then c else c.install e x perm { l with age := if streaming then 3 else 1 }

/-- A request is served (R427). `rec` marks a recording allocation, which reads nothing (R421). -/
def Chip.grant (e : Env) (c : Chip) (x : Nat) (kind : RegReq) (line r : Nat) (streaming rec : Bool) : Chip :=
  let c := c.retire line
  let hs := c.holders x line
  let ten := tenureEnd e.now
  match kind with
  | .read =>
    let data := (c.holderData e hs).getD (c.memLine e line)
    let c := c.downgrade e hs .s
    c.place e x r streaming { st := if hs.isEmpty then .e else .s, line := line, data := data, tenure := ten }
  | .own =>
    let dirty := hs.any (fun h => (c.way h.1 h.2).st = .m)
    let data := if rec && !dirty then [] else (c.holderData e hs).getD (c.memLine e line)
    let c := c.downgrade e hs .i
    c.place e x r streaming { st := .m, line := line, data := data, mask := if rec && !dirty then 0 else fullMask, tenure := ten }
  | .upgrade =>
    match c.findLine x line with
    | some k =>
      let c := c.downgrade e hs .i
      c.setWay x k { c.way x k with st := .m, mask := fullMask, tenure := ten }
    | none =>
      let data := (c.holderData e hs).getD (c.memLine e line)
      let c := c.downgrade e hs .i
      c.place e x r streaming { st := .m, line := line, data := data, mask := fullMask, tenure := ten }

/-- Would serving the request now change the state of another member's copy within its tenure (R431). -/
def Chip.tenureBlocks (e : Env) (c : Chip) (x line : Nat) (kind : RegReq) : Bool :=
  (c.holders x line).any (fun h =>
    decide (e.now < (c.way h.1 h.2).tenure) && (kind ≠ .read || (c.way h.1 h.2).st ≠ .s))

/-- The line is retiring. -/
def Chip.isRetiring (c : Chip) (line : Nat) : Bool := c.caches.retiring.any (fun r => r.line == line)

/-- The wait of a request with the target idle, in interconnect cycles (R432, log entry 11). -/
def Chip.requestWait (c : Chip) (x line : Nat) (kind : RegReq) : Nat :=
  if kind = .upgrade then 3
  else if (c.holders x line).any (fun h => (c.way h.1 h.2).st = .m || (c.way h.1 h.2).st = .e) then 7 else 8

/-- A member's request reaches the Registry: served, or waiting for a retirement or a tenure (R428, R431). -/
def registryRequest (x : Nat) (kind : RegReq) (line r : Nat) (streaming : Bool) (e : Env) (c : Chip) : Chip :=
  let wait : RegWait := { member := x, line := line, kind := kind, requester := r, contested := false }
  if c.isRetiring line then
    { c.inc A.REGY_RETIRE_WAITS with caches := { c.caches with waits := c.caches.waits ++ [wait] } }
  else if c.tenureBlocks e x line kind then { c with caches := { c.caches with waits := c.caches.waits ++ [wait] } }
  else (c.peak A.REGY_WAIT_PEAK (c.requestWait x line kind)).grant e x kind line r streaming false

/-- WRITEBACK: the line retires; I on eviction, E on CLEAN (R427, R428). -/
def registryWriteback (x line : Nat) (evict : Bool) (c : Chip) : Chip :=
  match c.findLine x line with
  | none => c
  | some k =>
    let l := c.way x k
    if l.st = .m then
      let others := c.caches.retiring.filter (fun q => q.line ≠ line)
      let c := { c with caches := { c.caches with
        retiring := others ++ [({ line := line, data := l.data, mask := l.mask } : Retiring)] } }
      c.setWay x k (if evict then {} else { l with st := .e })
    else if evict then c.setWay x k {} else c

/-- The waiting requests for a line in the rotating order from REGY_PRIO.NEXT (R429). -/
def Chip.rotation (c : Chip) (line : Nat) : Option RegWait :=
  let next := c.fld A.REGY_PRIO 1 0
  ((List.range 3).map (fun i => (next + i) % 3)).findSome?
    (fun m => c.caches.waits.find? (fun w => w.line == line && w.member == m))

/-- Serve one waiting request. -/
def Chip.serveWait (e : Env) (c : Chip) (w : RegWait) : Chip :=
  let c := { c with caches := { c.caches with waits := c.caches.waits.erase w } }
  c.grant e w.member w.kind w.line w.requester false false

/-- A contested grant: the retiring line has retired, or requests collided in one cycle (R429, R430). -/
def contestedGrant (line : Nat) (reqs : List (Nat × RegReq)) (e : Env) (c : Chip) : Chip :=
  let new := reqs.map (fun q => ({ member := q.1 % 3, line := line, kind := q.2, requester := if q.1 % 3 = 2 then 0 else 4 + q.1 % 3, contested := true } : RegWait))
  let c := c.retire line
  let waits := (c.caches.waits ++ new).map (fun (w : RegWait) => if w.line = line then { w with contested := true } else w)
  let c := { c with caches := { c.caches with waits := waits } }
  match c.rotation line with
  | none => c
  | some w =>
    let c := c.inc A.REGY_CONTESTED
    (c.setFld A.REGY_PRIO 1 0 ((w.member + 1) % 3)).serveWait e w

/-- The tenure of a line ends; the next waiting request is replayed (R430, R431). -/
def tenureEnds (line : Nat) (e : Env) (c : Chip) : Chip :=
  let c := [0, 1, 2].foldl (fun c i =>
    match c.findLine i line with
    | some k => c.setWay i k { c.way i k with tenure := 0 }
    | none => c) c
  if c.isRetiring line then c
  else
    match c.rotation line with
    | none => c
    | some w =>
      let c := if w.contested then (c.inc A.REGY_CONTESTED).setFld A.REGY_PRIO 1 0 ((w.member + 1) % 3) else c
      c.serveWait e w

/-! ### Core accesses through the data caches -/

/-- The data cache of core `n` is enabled (R441). -/
def Chip.dcOn (c : Chip) (n : Nat) : Bool := c.bit (A.REGY_COREn_CFG n) 1
/-- The instruction cache of core `n` is enabled. -/
def Chip.icOn (c : Chip) (n : Nat) : Bool := c.bit (A.REGY_COREn_CFG n) 0

/-- Lines of the external windows are filled through the wave cache (R414). -/
def throughWave (line : Nat) : Bool :=
  match regionOf (32 * line) with
  | .xspi _ _ => true
  | .sdram _ => true
  | _ => false

/-- A lookup of the wave cache by requester `r`, counted; a miss reads the line into its ways (R414, R419). -/
def Chip.waveLookup (e : Env) (c : Chip) (line r : Nat) (streaming : Bool) : Chip :=
  match c.findLine 2 line with
  | some k => (c.inc (A.WCC_HITSr r)).touch 2 k streaming
  | none =>
    let c := c.inc (A.WCC_MISSESr r)
    if (c.maskWays r).isEmpty then c else c.grant e 2 .read line r streaming false

/-- Core `n` obtains a line in its data cache for a load or a store. -/
def Chip.coreLine (e : Env) (c : Chip) (n line : Nat) (store : Bool) : Chip :=
  match c.findLine n line with
  | some k =>
    let c := c.touch n k false
    let l := c.way n k
    if store then
      if l.st = .s then (c.peak A.REGY_WAIT_PEAK 3).grant e n .upgrade line (4 + n) false false
      else c.setWay n k { l with st := .m, mask := fullMask }
    else c
  | none =>
    let c := if throughWave line then c.waveLookup e line (4 + n) false else c
    let kind := if store then RegReq.own else .read
    (c.peak A.REGY_WAIT_PEAK (c.requestWait n line kind)).grant e n kind line (4 + n) false false

/-- Bytes of a line that core `n`'s data cache holds. -/
def Chip.lineData (e : Env) (c : Chip) (n line : Nat) : List Byte :=
  match c.findLine n line with
  | some k => c.wholeLine e (c.way n k)
  | none => c.memLine e line

/-- A store's bytes are written into core `n`'s M line. -/
def Chip.storeLine (c : Chip) (n line : Nat) (bytes : List (Nat × Byte)) : Chip :=
  match c.findLine n line with
  | some k =>
    let l := c.way n k
    c.setWay n k { l with data := bytes.foldl (fun d b => d.set (b.1 - 32 * line) b.2) l.data }
  | none => c

/-- A fetch of core `n` through its instruction cache (R414, R416). -/
def Chip.fetchLine (e : Env) (c : Chip) (n line : Nat) : List Byte × Chip :=
  match c.findLine (3 + n) line with
  | some k => ((c.way (3 + n) k).data, c.touch (3 + n) k false)
  | none =>
    let c := if throughWave line then c.waveLookup e line (4 + n) false else c
    let data := match c.findLine 2 line with
      | some k => if throughWave line then c.wholeLine e (c.way 2 k) else c.memLine e line
      | none => c.memLine e line
    (data, c.install e (3 + n) (List.range 4) { st := .e, line := line, age := 1, data := data })

/-! ### Coherent reads and writes (R434, R435) -/

/-- The newest value of a byte outside the write buffers: a retiring line, a holder in M or E, or memory. -/
def Chip.coherentByte (e : Env) (c : Chip) (a : Nat) : Byte :=
  let line := a / 32
  match c.caches.retiring.find? (fun r => r.line = line && r.mask / 2 ^ (a % 32) % 2 = 1) with
  | some r => r.data.getD (a % 32) 0
  | none =>
    match [0, 1, 2].findSome? (fun i => (c.findLine i line).filter (fun k => (c.way i k).st = .m || (c.way i k).st = .e) |>.map (fun k => c.wholeLine e (c.way i k))) with
    | some d => d.getD (a % 32) 0
    | none => c.fetchByte e a

/-- The youngest store of a write buffer to a byte. -/
def wbByte (wb : List WbEntry) (a : Nat) : Option Byte :=
  wb.foldl (fun acc en => match en.bytes.find? (fun b => b.1 = a) with
    | some b => some b.2
    | none => acc) none

/-- A coherent read returns bytes of both write buffers merged over the line; where both hold the byte, one of the two
values (R434, R444). -/
def Chip.coherentBytes (e : Env) (c : Chip) (k a : Nat) : Nat → List Byte
  | 0 => []
  | n + 1 =>
    let b := match wbByte c.core0.wb a, wbByte c.core1.wb a with
      | some x, some y => if Config.freeBool k then x else y
      | some x, none => x
      | none, some y => y
      | none, none => c.coherentByte e a
    b :: c.coherentBytes e k (a + 1) n

/-- The lines that `size` bytes from `a` touch. -/
def linesOf (a size : Nat) : List Nat := (List.range ((a + size + 31) / 32 - a / 32)).map (· + a / 32)

/-- A coherent read (R434): the DMA engine's reads of the external windows allocate in its ways, streaming. -/
def coherentRead (m : Master) (a size : Nat) (e : Env) (c : Chip) : List Byte × Chip :=
  let (k, c) := c.draw
  let dma := match m with
    | .dma _ => true
    | _ => false
  let c := if dma then
      (linesOf a size).foldl (fun c l =>
        if throughWave l then c.waveLookup e l 3 true
        else match c.findLine 2 l with
          | some k => (c.inc (A.WCC_HITSr 3)).touch 2 k true
          | none => c.inc (A.WCC_MISSESr 3)) c
    else c
  (c.coherentBytes e k a size, c)

/-- Invalidate every member's copy of a line, an M copy written back first (R435). -/
def Chip.dropCopies (e : Env) (c : Chip) (line : Nat) : Chip :=
  let c := c.retire line
  [0, 1, 2].foldl (fun c i =>
    match c.findLine i line with
    | some k => (c.writeBack e i k .e).setWay i k {}
    | none => c) c

/-- A coherent write (R435). -/
def coherentWrite (a : Nat) (bs : List Byte) (e : Env) (c : Chip) : Chip :=
  let c := (linesOf a bs.length).foldl (fun c l => c.dropCopies e l) c
  c.setMem a bs

/-! ### Maintenance (R438 to R441) -/

/-- CLEAN: write back the line from whichever member holds it in M; that copy becomes E (R438). -/
def Chip.cleanLine (e : Env) (c : Chip) (line : Nat) : Chip :=
  [0, 1, 2].foldl (fun c i =>
    match c.findLine i line with
    | some k => if (c.way i k).st = .m then c.writeBack e i k .e else c
    | none => c) c

/-- INVAL: discard cache `i`'s copy in any state (R438). -/
def Chip.invalLine (c : Chip) (i line : Nat) : Chip :=
  match c.findLine i line with
  | some k => c.setWay i k {}
  | none => c

/-- CLEAN of every M line of a cache. -/
def Chip.cleanAll (e : Env) (c : Chip) (i : Nat) : Chip :=
  ((c.cache i).map (·.1)).foldl (fun c k => if (c.way i k).st = .m then c.writeBack e i k .e else c) c

/-- Discard every line of a cache. -/
def Chip.invalAll (c : Chip) (i : Nat) : Chip := c.setCache i []

/-- A whole-cache operation of core `n` (R439). -/
def Chip.wholeCacheOp (e : Env) (c : Chip) (n op : Nat) : Chip :=
  match op with
  | 1 => c.cleanAll e n
  | 2 => c.invalAll n
  | 3 => (c.cleanAll e n).invalAll n
  | 4 => c.invalAll (3 + n)
  | _ => c

/-- The running whole-cache operation of core `n`, 0 for none. -/
def Chip.cacheOp (c : Chip) (n : Nat) : Nat := if n = 0 then c.caches.op0 else c.caches.op1

/-- Set the running whole-cache operation of core `n`. -/
def Chip.setCacheOp (c : Chip) (n op : Nat) : Chip :=
  let c := c.putBit (A.REGY_COREn_OP n) 31 (op ≠ 0)
  { c with caches := if n = 0 then { c.caches with op0 := op } else { c.caches with op1 := op } }

/-- A write of REGY_COREn_OP (R439): ignored while BUSY. -/
def regyOpWrite (n op : Nat) (c : Chip) : Chip :=
  if c.bit (A.REGY_COREn_OP n) 31 || op = 0 || 4 < op then c else c.setCacheOp n op

/-- A whole-cache operation finishes (R439, R441). -/
def regyOpDone (n : Nat) (e : Env) (c : Chip) : Chip :=
  let op := c.cacheOp n
  let c := c.wholeCacheOp e n (op % 8)
  let c := if op / 8 % 2 = 1 then c.wholeCacheOp e n 4 else c
  let c := if op / 256 % 2 = 1 then c.clrBit (A.REGY_COREn_CFG n) 1 else c
  let c := if op / 512 % 2 = 1 then c.clrBit (A.REGY_COREn_CFG n) 0 else c
  c.setCacheOp n 0

/-- A write of REGY_COREn_CFG (R441): enabling acts at once; clearing DC_EN or IC_EN first performs operation 3 or 4, after
an operation that is still running. -/
def regyConfigWrite (n : Nat) (v : Word) (e : Env) (c : Chip) : Chip :=
  let old := c.rd (A.REGY_COREn_CFG n)
  let dc := old.getLsbD 1 && !v.getLsbD 1
  let ic := old.getLsbD 0 && !v.getLsbD 0
  let op := (if dc then 3 + 256 else 0) + (if ic then 512 + (if dc then 8 else 4) else 0)
  let c := if op = 0 then c else regyOpDone n e c
  let c := c.wr (A.REGY_COREn_CFG n) ((old ||| v) &&& 3)
  if op = 0 then c else c.setCacheOp n op

/-- A write of WCC_OP (R440). -/
def wccOpWrite (op : Nat) (c : Chip) : Chip :=
  if c.bit A.WCC_OP 31 then c.setBit A.WCC_STAT 0
  else if op % 4 = 0 then c
  else { c.setBit A.WCC_OP 31 with caches := { c.caches with wop := op % 4 } }

/-- A write of WCC_RANGE_ADDR or WCC_RANGE_LEN (R440). -/
def wccRangeWrite (a : Nat) (v : Word) (c : Chip) : Chip :=
  if c.bit A.WCC_OP 31 then c.setBit A.WCC_STAT 0 else c.writeCoded a v

/-- A range operation finishes (R440): the lines of the wave cache that overlap the range. -/
def wccOpDone (e : Env) (c : Chip) : Chip :=
  let lo := (c.rd A.WCC_RANGE_ADDR).toNat
  let n := (c.rd A.WCC_RANGE_LEN).toNat
  let inside := fun k => let l := (c.way 2 k).line; decide (32 * l < lo + n ∧ lo < 32 * l + 32 ∧ 0 < n)
  let keys := ((c.cache 2).map (·.1)).filter inside
  let op := c.caches.wop
  let c := keys.foldl (fun c k =>
    let c := if op = 1 || op = 3 then (if (c.way 2 k).st = .m then c.writeBack e 2 k .e else c) else c
    if op = 2 || op = 3 then c.setWay 2 k {} else c) c
  { c.clrBit A.WCC_OP 31 with caches := { c.caches with wop := 0 } }

/-! ### Errors (R443) -/

/-- An error found in a cache's copy of a line: corrected, discarded, or lost with its data. Answers whether the access
ends with a bus error. -/
def Chip.cacheError (e : Env) (c : Chip) (i line : Nat) (ev : EccEvent) : Bool × Chip :=
  match ev with
  | .clean => (false, c)
  | .single =>
    let c := if 3 ≤ i then c.invalLine i line else c
    (false, c.report e 0x05 clsCorrected i (32 * line))
  | .double =>
    let lost := c.lineState i line = .m && decide (i < 3)
    let c := c.invalLine i line
    if lost then
      let c := if i = 2 then c.setBit A.WCC_STAT 1 else c
      (true, c.report e 0x06 clsSevere i (32 * line))
    else (false, c.report e 0x05 clsCorrected i (32 * line))

end Sys2Proof.Machine
end

