-- ==== Sys2Proof/Machine/Loader.lean ====
section
/-! DEFINITION. Machine/Loader.lean: the Charter loader's operations, the NVM slots, and coupled groups
(02_charter.md, R73 to R89). -/

namespace Sys2Proof.Machine

/-! ### What the loader judges by -/

/-- Bit `i` of OTP word 0 (R593). -/
def otpBit (f : Fuses) (i : Nat) : Bool := (getS 0 f.otp 0).getLsbD i

/-- CHARTER_KEY: byte i in word 4 + i / 4 (R593). -/
def charterKey (f : Fuses) : List Byte :=
  (List.range 32).map (fun i => BitVec.ofNat 8 ((getS 0 f.otp (4 + i / 4)).toNat / 256 ^ (i % 4)))

/-- The loader's context (R4, R9, R20, R64, R470, R477, R661). -/
def Chip.loadCtx (e : Env) (c : Chip) : LoadCtx :=
  { authReq := otpBit e.fuses 0
    keyValid := otpBit e.fuses 1
    key := charterKey e.fuses
    profileLock := (c.rd A.SYS_PROFILE_LOCK).toNat
    family441 := c.family441
    maxLanes := if e.fuses.grade = .lk7_256 then 8 else 4
    maxVoices := if e.fuses.grade = .lk7_256 then 256 else 128
    xspi := [(c.rd (A.XMC_XSPI_DEVn_CFG 0), c.rd (A.XMC_XSPI_DEVn_TIM 0)),
             (c.rd (A.XMC_XSPI_DEVn_CFG 1), c.rd (A.XMC_XSPI_DEVn_TIM 1))]
    sdrTim := c.rd A.XMC_SDR_TIM
    vioB18 := c.bit A.PIN_IOV 0 }

/-- Base address of a slot: 0 A, 1 B (R446). -/
def slotBase (slot : Nat) : Nat := if slot = 0 then 0x22000000 else 0x22060000

/-- Bytes in a slot. -/
def slotSize : Nat := 393216

/-- The source's first address and how many bytes of it lie in its region (R673): 0 A, 1 B, 2 RAM. -/
def Chip.sourceRegion (c : Chip) (src addr : Nat) : Option (Nat × Nat) :=
  if src = 0 || src = 1 then some (slotBase src, slotSize)
  else if addr % 4 ≠ 0 then none
  else match regionOf addr with
    | .sram _ => some (addr, 0x10200000 - addr)
    | .xspi d off => some (addr, c.xspiSize d - off)
    | _ => none

/-- The loader reads its source through the host/USB master (R75); an error is captured (R673). -/
def Chip.readSource (e : Env) (c : Chip) (src addr n : Nat) : Option (List Byte) × Chip :=
  if src = 0 || src = 1 then (some (c.fetchBytes e addr n), c)
  else match c.busCause (.host 0) false false addr n with
    | some (cause, t) => (none, c.busError (.host 0) t cause addr false)
    | none => let (bs, c) := coherentRead (.host 0) addr n e c; (some bs, c)

/-- The bytes a check needs: the header's 36, and TOTAL_LEN bytes where those lie in the region (R673). -/
def Chip.sourceBytes (e : Env) (c : Chip) (src addr : Nat) : Chk (Nat × List Byte) × Chip :=
  match c.sourceRegion src addr with
  | none => (.error (0x02, 0), c)
  | some (a, limit) =>
    if limit < 36 then (.error (0x02, 0), c)
    else match c.readSource e src a 36 with
      | (none, c) => (.error (0x02, 0), c)
      | (some head, c) =>
        let total := wordAt head 16
        if slotSize < total || limit < total then (.ok (limit, head), c)
        else match c.readSource e src a (max 36 total) with
          | (none, c) => (.error (0x02, 0), c)
          | (some bs, c) => (.ok (limit, bs), c)

/-! ### Results and states (R73, R74) -/

/-- Change the loader. -/
def Chip.ldrDo (c : Chip) (f : Loader → Loader) : Chip := { c with ldr := f c.ldr }

/-- CHT_RESULT. -/
def Chip.result (c : Chip) (op code detail : Nat) : Chip :=
  (c.ldrDo fun l => { l with results := l.results + 1 }).wr A.CHT_RESULT (word (detail % 65536 * 65536 + op % 256 * 256 + code % 256))

/-- The value of a loader state (R74). -/
def LoaderState.value : LoaderState → Nat
  | .empty => 0
  | .verifying => 1
  | .admitted => 2
  | .planned => 3
  | .armed => 4
  | .xfade => 5
  | .refused => 6

/-- CHT_STATE as read. -/
def Chip.chtState (c : Chip) : Word :=
  let l := c.ldr
  (c.rd A.CHT_STATE &&& 0xD00)
    ||| word ((if l.nvm.isSome then 512 else 0) + l.candSrc % 4 * 64
      + (if l.state = .xfade then l.oldSrc else l.liveSrc) % 4 * 16 + l.state.value)

/-- An operation issued where the table of R74 gives none: code 0x60, nothing changes. -/
def Chip.refuseOp (c : Chip) (op : Nat) : Chip := c.result op 0x60 op

/-- VERIFY and the others run in CONFIGURE and PERFORM only. -/
def Chip.opMode (c : Chip) : Bool := c.mode = .configure || c.mode = .perform

/-- VERIFY (OP 1, R74). -/
def verifyStart (src : Nat) (c : Chip) : Chip :=
  if c.opMode && decide (src ≤ 2) && (c.ldr.state = .empty || c.ldr.state = .admitted || c.ldr.state = .refused) then
    let addr := if src = 2 then (c.rd A.CHT_SRC_ADDR).toNat else slotBase src
    (c.ldrDo fun l => { l with state := .verifying, cand := none, candSrc := 0, job := some (src, addr), plan := none }).wr
      A.CHT_CAND_SERIAL 0
  else c.refuseOp 1

/-- Steps 1 to 7 of R72. -/
def checkTo7 (x : LoadCtx) (src : Chk (Nat × List Byte)) : Chk (Charter × Bool) := do
  let (limit, bs) ← src
  let (l, skipped) ← steps12 x limit bs
  let ch ← steps37 x l
  return (ch, skipped)

/-- Did the check of steps 1 and 2 skip AUTH. -/
def skippedAuth (x : LoadCtx) (src : Chk (Nat × List Byte)) : Bool :=
  match (do let (limit, bs) ← src; steps12 x limit bs) with
  | .ok (_, s) => s
  | .error _ => false

/-- The check of VERIFY on a source (R72): the chip it leaves and the code and DETAIL (code 0: admitted). -/
def Chip.verifySource (e : Env) (c : Chip) (src addr : Nat) : Chip × Nat × Nat :=
  let (bytes, c) := c.sourceBytes e src addr
  let x := c.loadCtx e
  let c := c.putBit A.CHT_STATE 10 (skippedAuth x bytes)
  match checkTo7 x bytes with
  | .error (code, detail) => (c.ldrDo fun l => { l with state := .refused }, code, detail)
  | .ok (ch, _) =>
    let k := ch.load
    let c := ((c.wr A.CHT_CALC_STK (word k.stkPeak)).wr A.CHT_CALC_FX (word k.fxFinish)).wr A.CHT_CALC_INTAKE (word k.intake)
    match admission ch with
    | .error (code, detail) => (c.ldrDo fun l => { l with state := .refused }, code, detail)
    | .ok _ =>
      ((c.ldrDo fun l => { l with state := .admitted, cand := some ch, candSrc := src + 1 }).wr A.CHT_CAND_SERIAL ch.serial, 0, 0)

/-- The verification finishes (R72, R74). -/
def verifyComplete (e : Env) (c : Chip) : Chip :=
  match c.ldr.job with
  | none => c
  | some (src, addr) =>
    let (c, code, detail) := c.verifySource e src addr
    (c.ldrDo fun l => { l with job := none }).result 1 code detail |>.setBit A.CHT_INT 0

/-- The timing checks that COMMIT and PLAN_SWAP make again (R470, R477, R661). -/
def Chip.timingCode (e : Env) (c : Chip) (ch : Charter) : Option (Nat × Nat) :=
  match memTiming (c.loadCtx e) ch.xspiDiv ch.wheels with
  | .ok _ => none
  | .error x => some x

/-- COMMIT (OP 2, R76): the candidate waits for its commit tick, and the loader is EMPTY. -/
def commitOp (e : Env) (c : Chip) : Chip :=
  match c.ldr.cand with
  | none => c.refuseOp 2
  | some ch =>
    if c.mode = .configure && c.ldr.state = .admitted then
      match c.timingCode e ch with
      | some (code, detail) => c.result 2 code detail
      | none => (c.ldrDo fun l => { l with
          state := .empty, cand := none, candSrc := 0, commitAt := some (e.now, ch, l.candSrc) }).wr A.CHT_CAND_SERIAL 0
    else c.refuseOp 2

/-- PLAN_SWAP (OP 3, R78, R80, R674). -/
def planSwap (e : Env) (c : Chip) : Chip :=
  match c.ldr.cand, c.ldr.live with
  | some ch, some live =>
    if c.mode = .perform && c.ldr.state = .admitted then
      match c.timingCode e ch with
      | some (code, detail) => (c.result 3 code detail).setBit A.CHT_INT 0
      | none =>
        if ch.fs ≠ live.fs || ch.blk ≠ live.blk || ch.lat ≠ live.lat then (c.result 3 0x12 0).setBit A.CHT_INT 0
        else
          let (hard, stk, fx, intake) := planKind live ch
          let c := ((c.wr A.CHT_CALC_STK (word stk)).wr A.CHT_CALC_FX (word fx)).wr A.CHT_CALC_INTAKE (word intake)
          let p : Plan := { s := c.rd A.CHT_SWAP_BLOCK, x := c.fld A.CHT_XFADE 6 0, hard := hard, atAbs := 0, begun := false }
          (((c.ldrDo fun l => { l with state := .planned, plan := some p }).putBit A.CHT_STATE 8 hard).result 3 0 0).setBit A.CHT_INT 0
    else c.refuseOp 3
  | _, _ => c.refuseOp 3

/-- ARM_SWAP (OP 4, R79): the swap block is 4 or more blocks ahead, less than half the range. -/
def armSwap (e : Env) (c : Chip) : Chip :=
  match c.ldr.plan with
  | some p =>
    if c.mode = .perform && c.ldr.state = .planned then
      let d := ahead p.s.toNat (c.block e)
      if decide (4 ≤ d ∧ d < 2 ^ 31) then
        let at' := (e.now / c.met.ticks.cb + d) * c.met.ticks.cb
        (c.ldrDo fun l => { l with state := .armed, plan := some { p with atAbs := at' } }).result 4 0 0
      else c.result 4 0x62 0
    else c.refuseOp 4
  | none => c.refuseOp 4

/-- An armed swap is cancelled by a mode change or a FATAL fault (R73 code 0x63). -/
def Chip.cancelArmed (c : Chip) (op cause : Nat) : Chip :=
  if c.ldr.state = .armed then
    ((c.ldrDo fun l => { l with state := .admitted, plan := none, ramp := none }).result op 0x63 cause).setBit A.CHT_INT 3
  else c

/-- CANCEL (OP 5, R74). -/
def cancelOp (c : Chip) : Chip :=
  if c.opMode then
    match c.ldr.state with
    | .armed => c.cancelArmed 5 0
    | .planned => (c.ldrDo fun l => { l with state := .admitted, plan := none }).result 5 0x63 0
    | .admitted =>
      ((c.ldrDo fun l => { l with state := .empty, cand := none, candSrc := 0 }).wr A.CHT_CAND_SERIAL 0).result 5 0 0
    | .refused =>
      ((c.ldrDo fun l => { l with state := .empty, cand := none, candSrc := 0 }).wr A.CHT_CAND_SERIAL 0).result 5 0 0
    | _ => c.refuseOp 5
  else c.refuseOp 5

/-! ### PROGRAM and ERASE (R77) -/

/-- The slot is the one a running structure was loaded from. -/
def Chip.slotLive (c : Chip) (slot : Nat) : Bool :=
  c.ldr.liveSrc == slot + 1 || (c.ldr.old.isSome && c.ldr.oldSrc == slot + 1)

/-- Erase a whole slot and count it (R77). -/
def Chip.eraseSlot (e : Env) (c : Chip) (slot : Nat) : Chip :=
  let lo := slotBase slot
  ({ c with mem := dropS (fun a => decide (lo ≤ a ∧ a < lo + slotSize)) c.mem }).countErase e slot

/-- Steps 1 and 2 of R72 on a Charter's bytes, then the slot is erased and programming begins (R77). -/
def programBytes (slot : Nat) (bytes : Chk (Nat × List Byte)) (e : Env) (c : Chip) : Chip :=
  match (do let (limit, bs) ← bytes; let (l, _) ← steps12 (c.loadCtx e) limit bs; return (l, bs)) with
  | .error (code, detail) => (c.result 6 code detail).setBit A.CHT_INT 4
  | .ok (_, bs) => (c.eraseSlot e slot).ldrDo fun l => { l with nvm := some { erase := false, slot := slot, data := bs } }

/-- The programmer is free and the slot may be written; code 0x61 otherwise. -/
def Chip.slotRefused (c : Chip) (slot : Nat) : Bool :=
  decide (2 ≤ slot) || c.slotLive slot || c.ldr.nvm.isSome || c.pwr.prog.isSome

/-- PROGRAM (OP 6) of the RAM Charter. -/
def programSlot (slot : Nat) (e : Env) (c : Chip) : Chip :=
  if !c.opMode then c.refuseOp 6
  else if c.slotRefused slot then c.result 6 0x61 slot
  else
    let (bytes, c) := c.sourceBytes e 2 (c.rd A.CHT_SRC_ADDR).toNat
    programBytes slot bytes e c

/-- ERASE (OP 7). -/
def eraseOp (slot : Nat) (e : Env) (c : Chip) : Chip :=
  if !c.opMode then c.refuseOp 7
  else if c.slotRefused slot then c.result 7 0x61 slot
  else (c.eraseSlot e slot).ldrDo fun l => { l with nvm := some { erase := true, slot := slot, data := [] } }

/-- A PROGRAM or ERASE finishes, or fails its verify; what a failed slot then holds is open (R77, log entry 2). -/
def nvmDone (ok : Bool) (c : Chip) : Chip :=
  match c.ldr.nvm with
  | none => c
  | some j =>
    let op := if j.erase then 7 else 6
    let (k, c) := c.draw
    let data := if ok then j.data else (List.range j.data.length).map (fun i => BitVec.ofNat 8 (Config.freeNat (k + i)))
    let c := (c.setMem (slotBase j.slot) data).ldrDo fun l => { l with nvm := none }
    (if ok then c.result op 0 0 else c.result op 0x64 j.slot).setBit A.CHT_INT 4

/-- A write of CHT_SWAP_BLOCK or CHT_XFADE (R80). -/
def swapParamWrite (xfade : Bool) (v : Word) (c : Chip) : Chip :=
  if c.ldr.state = .planned || c.ldr.state = .armed then c.setBit A.CHT_STATE 11
  else if xfade then c.wr A.CHT_XFADE (word (min 64 (bits v 6 0)))
  else c.wr A.CHT_SWAP_BLOCK v

/-! ### Coupled groups (R85 to R89) -/

/-- The members of the coupled group that holds a register, the arming register last. -/
def groupOf (a : Nat) : Option (List Nat) :=
  if 0x60051000 ≤ a && a < 0x60051300 && a % 64 < 32 && a % 4 = 0 then
    some ((List.range 8).map (fun i => a / 64 * 64 + 4 * i))
  else if 0x70000000 ≤ a && a < 0x70004000 && 8 ≤ a % 64 && a % 64 ≤ 0x18 && a % 4 = 0 then
    some ((List.range 5).map (fun i => a / 64 * 64 + 8 + 4 * i))
  else if 0x70004000 ≤ a && a < 0x70004100 && a % 16 ≤ 8 && a % 4 = 0 then
    some ((List.range 3).map (fun i => a / 16 * 16 + 4 * i))
  else if 0x60090100 ≤ a && a < 0x60090180 && 0xC ≤ a % 32 && a % 32 ≤ 0x14 && a % 4 = 0 then
    some ((List.range 3).map (fun i => a / 32 * 32 + 0xC + 4 * i))
  else if 0x600F0100 ≤ a && a < 0x600F0300 && (a % 32 = 4 || a % 32 = 8) then
    some [a / 32 * 32 + 4, a / 32 * 32 + 8]
  else none

/-- The RWA bits of a register. -/
def rwaMask (a : Nat) : Word :=
  match regFind a with
  | none => 0
  | some (r, _) => m32 r.rwa

/-- The staged word of a member. -/
def Chip.staged (c : Chip) (a : Nat) : Word := getS (regReset a &&& rwaMask a) c.staging a

/-- A write to a member goes to staging; a write to the arming register also copies staging to pending (R85, R87). -/
def groupWrite (a : Nat) (v : Word) (e : Env) (c : Chip) : Chip :=
  match groupOf a with
  | none => c
  | some ms =>
    let c := { c with staging := putS (regReset a &&& rwaMask a) c.staging a (v &&& rwaMask a) }
    if ms.getLast? = some a then
      let copy := ms.map (fun m => (m, c.staged m))
      { c with armed := c.armed.filter (fun g => g.1 ≠ a) ++ [(a, e.now, copy)] }
    else c

/-- The pending copy of a group, if it is armed. -/
def Chip.pendingGroup (c : Chip) (arm : Nat) : Option (Nat × SMap Word) :=
  (c.armed.find? (fun g => g.1 = arm)).map (·.2)

/-- A pending copy becomes the applied set (R86). -/
def Chip.applyGroup (c : Chip) (arm : Nat) : Chip :=
  match c.pendingGroup arm with
  | none => c
  | some (_, copy) =>
    let c := { c with armed := c.armed.filter (fun g => g.1 ≠ arm) }
    copy.foldl (fun c w => c.wr w.1 ((c.rd w.1 &&& ~~~ rwaMask w.1) ||| (w.2 &&& rwaMask w.1))) c

/-- Staging and pending copies of a group return to the reset values (R89). -/
def Chip.resetGroup (c : Chip) (arm : Nat) : Chip :=
  match groupOf arm with
  | none => c
  | some ms => { c with
      staging := dropS (fun a => ms.contains a) c.staging
      armed := c.armed.filter (fun g => g.1 ≠ arm) }

end Sys2Proof.Machine
end

