-- ==== Sys2Proof/Machine/Numeric.lean ====
section
/-! DEFINITION. Machine/Numeric.lean: the functions of real numbers that the manual's formulas name, in fixed point
with 60 fractional bits (log entry 13), and the fixed tables that are rounded from them. -/

namespace Sys2Proof.Machine

/-- One, in the fixed point of this file. -/
def fx1 : Int := 2 ^ 60
/-- π and ln 2 in that fixed point. -/
def piFx : Int := 3622009729038561421
def ln2Fx : Int := 799144290325165979

/-- Terms of the exponential series. -/
def serExp : Nat → Int → Int → Int → Int → Int
  | 0, _, _, _, acc => acc
  | n + 1, x, k, term, acc =>
    let t := term * x / (fx1 * k)
    serExp n x (k + 1) t (acc + t)

/-- exp x for 0 ≤ x < 1. -/
def expSmall (x : Int) : Int := serExp 26 x 1 fx1 fx1

/-- 2^(num / den). -/
def exp2Fx (num : Int) (den : Nat) : Int :=
  let q := num / (den : Int)
  let e := expSmall (num % (den : Int) * ln2Fx / den)
  if 0 ≤ q then e * 2 ^ q.toNat else e / 2 ^ (-q).toNat

/-- exp (-x) for x ≥ 0: a power of 2. -/
def expNeg (x : Int) : Int := exp2Fx (-(x * fx1 / ln2Fx)) (2 ^ 60)

/-- Terms of the sine series. -/
def serSin : Nat → Int → Int → Int → Int → Int
  | 0, _, _, _, acc => acc
  | n + 1, x, k, term, acc =>
    let t := -(term * x / fx1 * x / (fx1 * (2 * k * (2 * k + 1))))
    serSin n x (k + 1) t (acc + t)

/-- sin x for |x| ≤ π. -/
def sinFx (x : Int) : Int := serSin 18 x 1 x x

/-- The sine of num / den turns. -/
def sinTurn (num : Int) (den : Nat) : Int :=
  let r := num % (den : Int)
  let r := if (den : Int) < 2 * r then r - den else r
  sinFx (2 * piFx * r / den)

/-- The cosine of num / den turns. -/
def cosTurn (num : Int) (den : Nat) : Int := sinTurn (4 * num + den) (4 * den)

/-- EXP of R142: round(65,536 × 2^(m / 1200)). -/
def expCents (m : Int) : Nat := (nearDiv (65536 * exp2Fx m 1200) (2 ^ 60)).toNat

/-- The phase increment of a rate code (R141). -/
def lfoInc (r hz : Nat) : Nat := (nearDiv (exp2Fx r 16 * 2 ^ 32) (100 * hz * 2 ^ 60)).toNat

/-- log2 10, with 60 fractional bits. -/
def log210Fx : Int := 3829922337353294528

/-- Bits of a binary logarithm of a number in [1, 2), most significant first. -/
def logBits : Nat → Int → Int → Int
  | 0, _, acc => acc
  | n + 1, m, acc =>
    let q := m * m / fx1
    if 2 * fx1 ≤ q then logBits n (q / 2) (2 * acc + 1) else logBits n q (2 * acc)

/-- log2 x for x > 0. -/
def log2Fx (x : Int) : Int :=
  let k := x.toNat.log2
  let m := if 60 ≤ k then x / 2 ^ (k - 60) else x * 2 ^ (60 - k)
  ((k : Int) - 60) * fx1 + logBits 60 m 0

/-- 10^(db / 20) for a number of decibels. -/
def dbGain (db : Int) : Int := exp2Fx (db * log210Fx / (20 * fx1)) (2 ^ 60)

/-- 20 log10 x for x > 0. -/
def dbOf (x : Int) : Int := 20 * fx1 * log2Fx x / log210Fx

/-! ### Interpolation kernels (R132) -/

/-- The cubic Hermite kernel at u = φ / 256, in units of 2^-15 before rounding, over 1,024. -/
def hermite (f : Int) : List Int :=
  [-(f * f * f) + 512 * f * f - 65536 * f, 3 * f * f * f - 1280 * f * f + 2 * 16777216,
   -(3 * f * f * f) + 1024 * f * f + 65536 * f, f * f * f - 256 * f * f]

/-- The windowed sinc at d = D / 256, with 60 fractional bits. -/
def sincWin (D : Int) : Int :=
  if D = 0 then fx1
  else
    let s := sinTurn D 512 * 256 * fx1 / (piFx * D)
    let w := 42 * fx1 / 100 + cosTurn D 2048 / 2 + 8 * cosTurn D 1024 / 100
    s * w / fx1

/-- The place of the coefficient of largest magnitude; which of two equal ones is open (log entry 3). -/
def largestAt (cs : List Int) : Nat :=
  let m := (cs.map Int.natAbs).foldl max 0
  let i := (cs.findIdx? (fun c => c.natAbs = m)).getD 0
  if ((cs.drop (i + 1)).any (fun c => c.natAbs = m)) && Config.roundsUp m 8 then i + 1 else i

/-- Adjust the largest coefficient so that the sum is 32,768. -/
def adjustSum (cs : List Int) : List Int :=
  let i := largestAt cs
  cs.set i (cs.getD i 0 + 32768 - cs.foldl (· + ·) 0)

/-- The 4-point coefficients of a phase. -/
def kernel4 (phi : Nat) : List Int := adjustSum ((hermite phi).map (fun n => nearOpen n 1024))

/-- The 8-point coefficients of a phase. -/
def kernel8 (phi : Nat) : List Int :=
  adjustSum ((List.range 8).map (fun (j : Nat) => nearDiv (sincWin (256 * ((j : Int) - 3) - (phi : Int)) * 32768) (2 ^ 60)))

/-! ### Filter constants (R145) -/

/-- fc of the cut-off index, limited to 0.45 × fs. -/
def cutoffFx (c : Int) (hz : Nat) : Int := min (81758 * exp2Fx c 4096 / 10000) (45 * hz * fx1 / 100)

/-- tan(π × fc / fs). -/
def tanFx (fc : Int) (hz : Nat) : Int :=
  let x := piFx * fc / (hz * fx1)
  sinFx x * fx1 / sinFx (piFx / 2 - x)

/-- A constant rounded to the nearest multiple of 2^-30; one that Q2.30 cannot hold is open (log entry 12). -/
def q230 (x : Int) : Int :=
  let r := nearDiv (x * 2 ^ 30) (2 ^ 60)
  if -(2 ^ 31) ≤ r && r < 2 ^ 31 then r else Config.openSample 1 r 0

/-- k, a1, a2 and a3 in units of 2^-30 for a cut-off index and a resonance. -/
def svfConstants (c : Int) (res hz : Nat) : Int × Int × Int × Int :=
  let g := tanFx (cutoffFx c hz) hz
  let k := (512 - 2 * (res : Int)) * 2 ^ 52
  let (g', k') := if Config.filterRounded then (q230 g * 2 ^ 30, q230 k * 2 ^ 30) else (g, k)
  let a1 := fx1 * fx1 / (fx1 + g' * (g' + k') / fx1)
  let a2 := g' * a1 / fx1
  let a3 := g' * a2 / fx1
  (q230 k, q230 a1, q230 a2, q230 a3)

end Sys2Proof.Machine
end

