-- ==== Sys2Proof/Machine/Random.lean ====
section
/-! DEFINITION. Machine/Random.lean: the random number generator (16_timers_clock_random.md, R556 to R564). -/

namespace Sys2Proof.Machine

/-- Change the generator. -/
def Chip.rngDo (c : Chip) (f : Rng → Rng) : Chip := { c with rng := f c.rng }

/-! ### The generator (R559 to R561) -/

/-- A block plus one, as a 128-bit big-endian number. -/
def incBlock (v : List Byte) : List Byte :=
  let n := v.foldl (fun acc b => acc * 256 + b.toNat) 0 + 1
  (leBytes 16 n).reverse

/-- The update of SP 800-90A on a key, a V and 32 bytes. -/
def drbgUpdate (key v seed : List Byte) : List Byte × List Byte :=
  let v1 := incBlock v
  let v2 := incBlock v1
  let t := List.zipWith (· ^^^ ·) (aes128 key v1 ++ aes128 key v2) seed
  (t.take 16, t.drop 16)

/-- Blocks since the last seeding, m of R561. -/
def Chip.rngSince (c : Chip) : Nat := c.fld A.RNG_SINCE 16 0

/-- Instantiate or reseed where R559 and R561 say so. -/
def Chip.rngSeed (c : Chip) : Chip :=
  match c.rng.seed with
  | none => c
  | some s =>
    if c.bit A.RNG_STAT 1 then c
    else if !c.bit A.RNG_STAT 0 then
      let (k, v) := drbgUpdate (List.replicate 16 0) (List.replicate 16 0) s
      (((c.rngDo fun r => { r with key := k, v := v, seed := none }).setBit A.RNG_STAT 0).wr A.RNG_SINCE 0).clrBit A.RNG_STAT 4
    else if 1024 ≤ c.rngSince then
      let (k, v) := drbgUpdate c.rng.key c.rng.v s
      (((c.rngDo fun r => { r with key := k, v := v, seed := none }).wr A.RNG_SINCE 0).inc A.RNG_RESEEDS).clrBit A.RNG_STAT 4
    else c

/-- RNG_LEVEL. -/
def Chip.rngLevel (c : Chip) : Word := word c.rng.out.length

/-- A block can be generated: seeded, enabled, clocked, room for four words and m below the limit (R560, R561, R564). -/
def Chip.rngReady (c : Chip) : Bool :=
  c.pwr.sub != .doze && c.pwr.sub != .drowse && c.bit A.RNG_CTL 0 && c.bit A.RNG_STAT 0 && !c.bit A.RNG_STAT 1 && decide (c.rng.out.length ≤ 28)
    && decide (c.rngSince < 65536)

/-- RNG_GENERATE_BLOCK (R560, R561). -/
def rngBlock (c : Chip) : Chip :=
  let c := c.rngSeed
  if c.rngReady then
    let v1 := incBlock c.rng.v
    let blk := aes128 c.rng.key v1
    let (k, v) := drbgUpdate c.rng.key v1 (List.replicate 32 0)
    let ws := (chunks 4 4 blk).map (fun b => word (leNat b))
    let m := c.rngSince + 1
    let c := (c.rngDo fun r => { r with out := r.out ++ ws, key := k, v := v }).setFld A.RNG_SINCE 16 0 m
    let c := if 1024 ≤ m && m < 65536 && c.rng.seed.isNone then c.setBit A.RNG_STAT 5 else c
    let c := if m = 65536 && c.rng.seed.isNone then c.setBit A.RNG_STAT 4 else c
    c.rngSeed
  else c

/-! ### Output (R166, R563) -/

/-- The voice allocator takes a word (R166). -/
def Chip.rngTake (c : Chip) : Option Word × Chip :=
  match c.rng.out with
  | [] => (none, c)
  | w :: l => (some w, c.rngDo fun r => { r with out := l })

/-- A read of RNG_OUT (R563). -/
def rngRead (c : Chip) : Word × Chip :=
  match c.rng.out with
  | [] => (0, c.setBit A.RNG_STAT 3)
  | w :: l => (w, c.rngDo fun r => { r with out := l })

/-! ### Raw bits: tests and conditioning (R557, R558, R562) -/

/-- A test fails: HEALTH and its bit are set and the failure counted. -/
def Chip.rngFail (bit : Nat) (c : Chip) : Chip := ((c.setBit A.RNG_STAT 2).setBit A.RNG_STAT bit).inc A.RNG_HEALTH_FAILS

/-- The repetition test; answers whether this bit fails. -/
def rngRct (b : Bool) (c : Chip) : Bool × Chip :=
  let r := c.rng
  let run := if r.run ≠ 0 && r.last = b then r.run + 1 else 1
  let lim := max 2 (c.fld A.RNG_RCT_C 7 0)
  let bad := run = lim
  let c := c.rngDo fun r => { r with run := if bad then 0 else run }
  (bad, if bad then c.rngFail 8 else c)

/-- The proportion test. -/
def rngApt (b : Bool) (c : Chip) : Bool × Chip :=
  let r := c.rng
  let first := if r.aptN = 0 then b else r.aptFirst
  let same := if b = first then (if r.aptN = 0 then 0 else r.aptSame) + 1 else r.aptSame
  let lim := max 513 (c.fld A.RNG_APT_C 9 0)
  let bad := b = first && same = lim
  let n := if r.aptN + 1 = 1024 then 0 else r.aptN + 1
  let c := c.rngDo fun r => { r with aptN := n, aptFirst := first, aptSame := same }
  (bad, if bad then c.rngFail 9 else c)

/-- S smoothed from a window's count (R557). -/
def smooth (fresh : Bool) (s x : Nat) : Nat :=
  if fresh then 16 * x else ((s : Int) + floorDiv (16 * (x : Int) - s) 16).toNat

/-- S lies outside its limit. -/
def outside (s lim : Nat) : Bool := decide (16 * lim < ((s : Int) - 32768).natAbs)

/-- The bias and correlation windows; answers whether a window fails at this bit. -/
def rngWindow (b : Bool) (c : Chip) : Bool × Chip :=
  let r := c.rng
  let ones := r.ones + (if b then 1 else 0)
  let same := r.same + (if b = r.last then 1 else 0)
  if r.winN + 1 < 4096 then
    (false, c.rngDo fun r => { r with winN := r.winN + 1, ones := ones, same := same, last := b })
  else
    let s := smooth r.fresh (c.fld A.RNG_BIAS 15 0) ones
    let sc := smooth r.fresh (c.fld A.RNG_CORR 15 0) same
    let c := ((c.setFld A.RNG_BIAS 15 0 s).setFld A.RNG_CORR 15 0 sc).rngDo
      fun r => { r with winN := 0, ones := 0, same := 0, last := b, fresh := false }
    let badB := outside s (c.fld A.RNG_BIAS_LIM 11 0)
    let badC := outside sc (c.fld A.RNG_CORR_LIM 11 0)
    let c := if badB then c.rngFail 10 else c
    (badB || badC, if badC then c.rngFail 11 else c)

/-- The four blocks of a group's 512 bits, given newest first: the first bit is bit 0 of byte 0. -/
def groupBlocks (bits : List Bool) : List (List Byte) :=
  chunks 16 4 ((chunks 8 64 bits.reverse).map (fun bs =>
    BitVec.ofNat 8 (bs.reverse.foldl (fun acc b => 2 * acc + (if b then 1 else 0)) 0)))

/-- The CBC-MAC of R558. -/
def conditioner (bits : List Bool) : List Byte :=
  let key := (List.range 16).map (BitVec.ofNat 8)
  (groupBlocks bits).foldl (fun acc b => aes128 key (List.zipWith (· ^^^ ·) acc b)) (List.replicate 16 0)

/-- Eight groups lost in a row: error (R562). -/
def Chip.rngError (e : Env) (c : Chip) : Chip :=
  let c := c.rngDo fun r => { r with out := [], seed := none, half := none }
  ((c.clrBit A.RNG_STAT 0).setBit A.RNG_STAT 1).report e 0x0D clsRecoverable 0 0

/-- A bias or correlation window fails: the groups that end in it are discarded, and the present one with them (R558). -/
def Chip.windowLost (c : Chip) : Chip :=
  c.rngDo fun r => { r with groupBad := true, half := none, seed := none
                            lost := max r.lost ((4096 - r.skip) / 512 - (if r.group.length = 512 then 1 else 0)) }

/-- A group ends: it is discarded, or forms half a seed (R558, R561). -/
def Chip.groupEnd (e : Env) (c : Chip) : Chip :=
  let r := c.rng
  if r.groupBad then
    let lost := r.lost + 1
    let c := c.rngDo fun r => { r with group := [], groupBad := false, lost := lost }
    if 8 ≤ lost && !c.bit A.RNG_STAT 1 then c.rngError e else c
  else
    let out := conditioner r.group
    let c := c.rngDo fun r => { r with group := [], lost := 0 }
    if c.bit A.RNG_STAT 1 || c.rng.seed.isSome then c
    else
      match c.rng.half with
      | none => c.rngDo fun r => { r with half := some out }
      | some h => (c.rngDo fun r => { r with half := none, seed := some (h ++ out) }).rngSeed

/-- RNG_RAW_SAMPLE: one raw bit (R556 to R559, R564). -/
def rngSample (b : Bool) (e : Env) (c : Chip) : Chip :=
  if !c.bit A.RNG_CTL 0 || c.pwr.sub = .doze || c.pwr.sub = .drowse then c
  else
    let (bad1, c) := rngRct b c
    let (bad2, c) := rngApt b c
    let (win, c) := rngWindow b c
    let c :=
      if 0 < c.rng.discard then c.rngDo fun r => { r with discard := r.discard - 1, skip := r.skip + 1 }
      else
        let c := c.rngDo fun r => { r with group := b :: r.group, groupBad := r.groupBad || bad1 || bad2 }
        let c := if win then c.windowLost else c
        if c.rng.group.length = 512 then c.groupEnd e else c
    if c.rng.winN = 0 then c.rngDo fun r => { r with skip := 0 } else c

/-- RESTART (R559, R562). -/
def rngRestart (c : Chip) : Chip :=
  let c := c.rngDo fun r => { ({} : Rng) with out := r.out }
  (c.clrBit A.RNG_STAT 0).clrBit A.RNG_STAT 1

/-- Sampling stops: the partly filled windows and group are discarded (R564). -/
def Chip.rngPause (c : Chip) : Chip :=
  c.rngDo fun r => { r with
    group := [], groupBad := false, run := 0, aptN := 0, aptSame := 0, winN := 0, ones := 0, same := 0, skip := 0 }

/-- A write of RNG_CTL (R559, R564). -/
def rngCtlWrite (v : Word) (c : Chip) : Chip :=
  let c := if v.getLsbD 0 then c else c.rngPause
  let c := c.writeCoded A.RNG_CTL v
  if v.getLsbD 1 then rngRestart c else c

/-- Source 129 (the RNG register table). -/
def Chip.rngIrq (c : Chip) : Bool :=
  let en := c.rd A.RNG_INT_EN
  (en.getLsbD 3 && c.bit A.RNG_STAT 3) || (en.getLsbD 2 && c.bit A.RNG_STAT 2) || (en.getLsbD 1 && c.bit A.RNG_STAT 1)
    || (en.getLsbD 0 && decide (c.rng.out.length < 8))

end Sys2Proof.Machine
end

