-- ==== Sys2Proof/Machine/Voices.lean ====
section
/-! DEFINITION. Machine/Voices.lean: what a voice is and how a block of it is computed (04_voices.md, R123 to R154). -/

namespace Sys2Proof.Machine

/-! ### Structure (R124, R78) -/

/-- A voice's entry in a structure. -/
def entryIn (ch : Option Charter) (v : Nat) : VoiceEntry :=
  match ch with
  | none => vNone
  | some ch => ch.voices.getD v vNone

/-- The structure that owns voice `v`: the live one, or the old one in a crossfade (R78, R81). -/
def Chip.owner (c : Chip) (v : Nat) : Option Charter :=
  if (entryIn c.ldr.live v).kind ≠ 0 then c.ldr.live
  else if (entryIn c.ldr.old v).kind ≠ 0 then c.ldr.old
  else c.ldr.live

/-- A voice's FABRIC entry (R124). -/
def Chip.vEntry (c : Chip) (v : Nat) : VoiceEntry := entryIn (c.owner v) v

/-- Voice `v` is the carrier of a PMM pair. -/
def Chip.vCarrier (c : Chip) (v : Nat) : Bool :=
  match c.owner v with
  | none => false
  | some ch => isCarrier ch.voices v

/-- Voice `v`, idle where nothing has started it. -/
def Chip.voice (c : Chip) (v : Nat) : Voice := getS {} c.stk.v v

/-- Change the Stacks. -/
def Chip.stkDo (c : Chip) (f : Stacks → Stacks) : Chip := { c with stk := f c.stk }

/-- Replace voice `v`. -/
def Chip.setVoice (c : Chip) (v : Nat) (x : Voice) : Chip := c.stkDo fun k => { k with v := putS {} k.v v x }

/-- A word of a voice's registers: its own copy where it is being stolen (R162). -/
def Chip.vReg (c : Chip) (v : Nat) (x : Voice) (off : Nat) : Word :=
  if x.par.isEmpty then c.rd (0x70000000 + 64 * v + off) else x.par.getD (off / 4) 0

/-- The registers of voice `v`. -/
def Chip.vRegs (c : Chip) (v : Nat) : List Word := (List.range 16).map (fun i => c.rd (0x70000000 + 64 * v + 4 * i))

/-! ### Part entries (R155) -/

def Chip.partW (c : Chip) (p w : Nat) : Word := c.rd (A.STK_PARTi_w p w)
def Chip.damper (c : Chip) (p : Nat) : Nat := bits (c.partW p 2) 15 0

/-! ### Envelopes (R136 to R140) -/

/-- A word of an envelope shape. -/
def Chip.shape (c : Chip) (s k : Nat) : Word := c.rd (A.STK_SHAPEi_w s k)

/-- Duration of a segment word in samples (R136). -/
def segLen (w : Word) : Nat := (bits w 23 16 + 1) * 2 ^ bits w 27 24

/-- Duration of the present segment, in 1/256 sample. -/
def EnvRun.total (n : EnvRun) : Nat := 256 * n.mult * (if n.mode = .fall then 64 else segLen n.word)

/-- The curve value of R137. -/
def curve (kind u : Nat) : Nat :=
  if kind = 1 then 65536 - (65536 - u) * (65536 - u) / 65536
  else if kind = 2 then u * u / 65536
  else u

/-- An envelope's level (R137, R138). -/
def EnvRun.level (n : EnvRun) : Nat :=
  let target := if n.mode = .fall then 0 else bits n.word 15 0
  match n.mode with
  | .done => 0
  | .sustain => target
  | .hold => target
  | _ =>
    let u := min 65536 (65536 * n.pos / n.total)
    let c := if n.mode = .fall then u else curve (bits n.word 29 28) u
    ((n.start : Int) + floorDiv (((target : Int) - n.start) * c) 65536).toNat

/-- The segment ends the shape (R138). -/
def EnvRun.last (n : EnvRun) : Bool := n.word.getLsbD 31 || n.seg == 7

/-- An envelope reaches the end of its segment (R137 to R140): `rd` reads the shape's words. -/
def segEnd (rd : Nat → Word) (n : EnvRun) : EnvRun :=
  let target := bits n.word 15 0
  let excess := n.pos - n.total
  match n.mode with
  | .fall => { n with mode := .done, pos := 0 }
  | .run =>
    if n.last && target = 0 then { n with mode := .done, pos := 0 }
    else if n.word.getLsbD 30 && !n.released then { n with mode := .sustain, pos := 0 }
    else if n.last then { n with mode := .hold, pos := 0 }
    else { n with seg := n.seg + 1, word := rd (n.seg + 1), start := target, pos := excess }
  | _ => n

/-- An envelope advances by `d` / 256 sample; at most one segment ends. -/
def EnvRun.adv (rd : Nat → Word) (n : EnvRun) (d : Nat) : EnvRun :=
  match n.mode with
  | .run => let n := { n with pos := n.pos + d }
            if n.total ≤ n.pos then segEnd rd n else n
  | .fall => let n := { n with pos := n.pos + d }
             if n.total ≤ n.pos then segEnd rd n else n
  | _ => n

/-- An envelope at its start (R138). -/
def envStart (rd : Nat → Word) (pos : Nat) : EnvRun := EnvRun.adv rd { mode := .run, word := rd 0 } pos

/-- The first SUSTAIN segment of a shape, looked for among `left` segments from `k`. -/
def firstSustain (rd : Nat → Word) : Nat → Nat → Option Nat
  | 0, _ => none
  | left + 1, k =>
    if (rd k).getLsbD 30 then some k
    else if (rd k).getLsbD 31 then none
    else firstSustain rd left (k + 1)

/-- Release of an envelope (R138, R159). -/
def EnvRun.release (rd : Nat → Word) (n : EnvRun) (mult : Nat) : EnvRun :=
  if n.released || n.mode = .done then n
  else
    match firstSustain rd 8 0 with
    | none => n
    | some k =>
      let lev := n.level
      if (rd k).getLsbD 31 || k = 7 then { n with mode := .fall, start := lev, pos := 0, released := true, mult := mult }
      else { n with mode := .run, seg := k + 1, word := rd (k + 1), start := lev, pos := 0, released := true, mult := mult }

/-! ### LFOs (R141) -/

/-- One step of the Galois LFSR. -/
def galois (x : BitVec 16) : BitVec 16 := if x.getLsbD 0 then (x >>> 1) ^^^ 0xB400 else x >>> 1

/-- An LFO's output, × 2^60. -/
def lfoOut (shape phase : Nat) (rnd : Int) : Int :=
  let p : Int := phase
  if shape = 0 then sinTurn p (2 ^ 32)
  else if shape = 1 then
    (if phase < 2 ^ 30 then 4 * p else if phase < 3 * 2 ^ 30 then 2 ^ 33 - 4 * p else 4 * p - 2 ^ 34) * 2 ^ 28
  else if shape = 2 then (if phase < 2 ^ 31 then fx1 else -fx1)
  else rnd * 2 ^ 45

/-- Shape and rate code of LFO `i`. -/
def lfoShape (l3 : Word) (i : Nat) : Nat := bits l3 (17 + 2 * i) (16 + 2 * i)
def lfoRate (l12 l3 : Word) (i : Nat) : Nat := if i = 0 then bits l12 7 0 else if i = 1 then bits l12 23 16 else bits l3 7 0

/-- LFO `i` advances by one sample; at a cycle start a random shape takes the LFSR's next value. -/
def lfoStep (l12 l3 : Word) (hz : Nat) (x : Voice) (i : Nat) : Voice :=
  let p := x.lfo.getD i 0 + lfoInc (lfoRate l12 l3 i) hz
  if p < 2 ^ 32 then { x with lfo := x.lfo.set i p }
  else
    let x := { x with lfo := x.lfo.set i (p % 2 ^ 32) }
    if lfoShape l3 i = 3 then
      let y := galois x.lfsr
      { x with lfsr := y, rnd := x.rnd.set i ((y.toNat : Int) - 32768) }
    else x

/-! ### Wave data (R127, R133) -/

/-- Bytes of a frame and whether it is stereo; codes 6 and 7 name no format. -/
def fmtStereo (f : Nat) : Bool := decide (3 ≤ f)

/-- A sample of `n` bytes as Q1.31. -/
def sampleQ31 (n : Nat) (bs : List Byte) : Int := sgn (8 * n) (leNat bs) * 2 ^ (32 - 8 * n)

/-- The byte address of a frame. -/
def frameAddr (wave : Word) (fmt i : Nat) : Nat := ((wave &&& ~~~ 3).toNat + i * formatW fmt) % 2 ^ 32

/-- The frame at an address, left and right; a line that a bus error ended reads 0 (R471). -/
def Chip.frameAt (e : Env) (c : Chip) (bad : List Nat) (wave : Word) (fmt i : Nat) : Int × Int :=
  let a := frameAddr wave fmt i
  let byte := fun a => if bad.contains (a / 32) then 0 else c.coherentByte e a
  let n := [1, 2, 3].getD (fmt % 3) 2
  let l := sampleQ31 n ((List.range n).map (fun j => byte (a + j)))
  if fmtStereo fmt then (l, sampleQ31 n ((List.range n).map (fun j => byte (a + n + j)))) else (l, l)

/-- The frame index a tap reads (R133): none reads 0. -/
def tapIndex (mode : Nat) (engaged : Bool) (ls le last : Nat) (i : Int) : Option Nat :=
  let j :=
    if !engaged || mode = 0 then i
    else
      let n : Int := (le : Int) - ls
      if mode = 1 then (if (ls : Int) ≤ i && i < le then i else ls + (i - ls) % n)
      else
        let t := (i - ls) % (2 * n)
        if t ≤ n then ls + t else ls + 2 * n - t
  if 0 ≤ j && j < last then some j.toNat else none

/-- Kernel and first tap of a voice kind (R131). -/
def kernelOf (kind phi : Nat) : List Int := if kind = 3 || kind = 4 then kernel8 phi else kernel4 phi
def kernelBack (kind : Nat) : Nat := if kind = 3 || kind = 4 then 3 else 1

/-! ### The filter (R145) -/

/-- Clamp to Q1.31. -/
def sat31 (x : Int) : Int := clampI (-(2 ^ 31)) (2 ^ 31 - 1) x

/-- One section on one sample: the output of the mode and the new states. -/
def svf (co : Int × Int × Int × Int) (mode : Nat) (s : Int × Int) (x : Int) : Int × (Int × Int) :=
  let (k, a1, a2, a3) := co
  let v3 := sat31 (x - s.2)
  let v1 := sat31 (nearOpen (a1 * s.1 + a2 * v3) (2 ^ 30))
  let v2 := sat31 (nearOpen (s.2 * 2 ^ 30 + a2 * s.1 + a3 * v3) (2 ^ 30))
  let st := (sat31 (2 * v1 - s.1), sat31 (2 * v2 - s.2))
  let y := if mode = 0 then v2 else if mode = 1 then v1
    else if mode = 2 then sat31 (nearOpen ((x - v2) * 2 ^ 30 - k * v1) (2 ^ 30))
    else sat31 (nearOpen (x * 2 ^ 30 - k * v1) (2 ^ 30))
  (y, st)

/-- The filter of a voice on one channel: `n` sections in cascade. -/
def filterChan (co : Int × Int × Int × Int) (mode ch : Nat) : Nat → Nat → List (Int × Int) → Int → Int × List (Int × Int)
  | 0, _, ic, x => (x, ic)
  | n + 1, s, ic, x =>
    let (y, st) := svf co mode (ic.getD (2 * s + ch) (0, 0)) x
    filterChan co mode ch n (s + 1) (ic.set (2 * s + ch) st) y

/-! ### What holds for a voice through one block -/

/-- The settings a block of a voice is computed with. -/
structure VSet where
  kind : Nat
  hz : Nat
  b : Nat
  fmt : Nat
  silent : Bool
  mode : Nat
  regLoop : Nat
  ls : Nat
  le : Nat
  last : Nat
  inc : Nat
  maxoct : Nat
  level : Nat
  env : Word
  lfo12 : Word
  lfo3 : Word
  mods : Word
  /-- pressure, bend × 32,768 in cents, CC_A and CC_B -/
  press : Nat
  bend : Int
  cca : Nat
  ccb : Nat
  filt : Option (Nat × Nat × (Int × Int × Int × Int))
  /-- loop length for the modulator's offset, and INDEX × y of each sample -/
  pm : List Int
  rd1 : Nat → Word
  rd2 : Nat → Word

/-- The pressure of a voice (R142). -/
def Chip.pressure (c : Chip) (x : Voice) : Nat :=
  max (bits (c.partW x.part 1) 31 16) (getS 0 c.stk.poly (256 * x.part + x.key))

/-- The pitch offset in cents (R142). -/
def centsNow (s : VSet) (x : Voice) : Int :=
  let env2 : Int := x.e2.level
  let l1 := lfoOut (lfoShape s.lfo3 0) (x.lfo.getD 0 0) (x.rnd.getD 0 0)
  let depth : Int := 65536 * bits s.lfo12 15 8 + bits s.mods 15 8 * s.press
  let sum := 25 * sgn 8 (bits s.env 23 16) * env2 * fx1 + depth * l1 + s.bend * 2 * fx1
  clampI (-4800) 4800 (sum.tdiv (65536 * fx1))

/-- INC_eff before and after the clamp of R129. -/
def incNow (s : VSet) (x : Voice) : Nat × Bool :=
  let i := s.inc * expCents (centsNow s x) / 65536
  let lim := 2 ^ s.maxoct * 65536
  if lim < i then (lim, true) else (i, false)

/-- The cut-off index (R143). -/
def cutoffNow (s : VSet) (filt : Word) (x : Voice) : Int :=
  let l2 := lfoOut (lfoShape s.lfo3 1) (x.lfo.getD 1 0) (x.rnd.getD 1 0)
  let part := (sgn 8 (bits s.env 31 24) * (x.e2.level : Int) + sgn 8 (bits s.mods 7 0) * (s.press : Int)
    + sgn 8 (bits s.mods 23 16) * (s.cca : Int)) * fx1 + (bits s.lfo12 31 24 : Nat) * l2 * 65536
  clampI 0 65535 (openDiv ((bits filt 15 0 : Nat) * 256 * fx1 + part) (256 * 2 ^ 60))

/-- The amplitude factor, × 2^125 (R144). -/
def ampNow (s : VSet) (x : Voice) : Int :=
  let l3 := lfoOut (lfoShape s.lfo3 2) (x.lfo.getD 2 0) (x.rnd.getD 2 0)
  (s.level : Int) * x.e1.level * (512 * fx1 - (bits s.lfo3 15 8 : Nat) * (fx1 + l3))
    * (2 ^ 24 - (bits s.mods 31 24 : Nat) * (65536 - (s.ccb : Int)))

/-! ### The phase (R128 to R135) -/

/-- The loop is engaged and not left. -/
def Voice.looping (x : Voice) (mode : Nat) : Bool := mode ≠ 0 && !x.left && x.engaged

/-- The phase advances by `inc`. -/
def advPhase (s : VSet) (x : Voice) (inc : Nat) : Voice :=
  let ls := s.ls * 65536
  let le := s.le * 65536
  if s.mode = 0 || x.left then { x with phase := (x.phase + inc) % 2 ^ 48 }
  else if !x.engaged || x.phase < ls then
    let p := (x.phase + inc) % 2 ^ 48
    let x := { x with phase := p }
    if p < le then x
    else if s.mode = 1 then { x with engaged := true, phase := ls + (p - ls) % (le - ls) }
    else
      let n := le - ls
      let u := (p - ls) % (2 * n)
      if u < n then { x with engaged := true, rev := false, phase := ls + u }
      else { x with engaged := true, rev := true, phase := ls + 2 * n - u }
  else if s.mode = 1 then
    let p := x.phase + inc
    { x with phase := if p < le then p else ls + (p - ls) % (le - ls) }
  else
    let n := le - ls
    let u0 := if x.rev then 2 * n - (x.phase - ls) % (2 * n) else x.phase - ls
    let u := (u0 + inc) % (2 * n)
    if u < n then { x with rev := false, phase := ls + u } else { x with rev := true, phase := ls + 2 * n - u }

/-! ### One sample -/

/-- What the computation of a block has reached. -/
structure VRun where
  x : Voice
  /-- left, right and pre-pan signal of each sample, newest first -/
  out : List (Int × Int × Int)
  /-- the end: cause and sample (R169) -/
  ended : Option (Nat × Nat)
  clamped : Bool

/-- The interpolated frame at a phase (R131). -/
def interpolate (s : VSet) (rd : Nat → Int × Int) (looping : Bool) (phase : Nat) : Int × Int :=
  let i : Int := phase / 65536
  let cs := kernelOf s.kind (phase / 256 % 256)
  let taps := cs.zipIdx.map (fun p =>
    match tapIndex s.mode looping s.ls s.le s.last (i + p.2 - kernelBack s.kind) with
    | none => (0, 0)
    | some j => let f := rd j; (p.1 * f.1, p.1 * f.2))
  (sat31 (openDiv (taps.foldl (fun a t => a + t.1) 0) 32768), sat31 (openDiv (taps.foldl (fun a t => a + t.2) 0) 32768))

/-- The phase a carrier reads at (R147, R148). -/
def pmPhase (s : VSet) (x : Voice) (n : Nat) : Nat :=
  let len := s.le - s.ls
  if s.pm.isEmpty || !x.looping s.mode || 256 < len then x.phase
  else
    let off := openDiv (s.pm.getD n 0 * len) (2 ^ 27)
    let ls := s.ls * 65536
    (ls + ((x.phase : Int) - ls + off) % (len * 65536 : Nat)).toNat

/-- The factor of a ramp at sample `n`, as a fraction: a kill over the block, or a steal (R162, R168). -/
def rampAt (b : Nat) (x : Voice) (n : Nat) : Int × Nat :=
  if x.ramp ≠ 0 then (if n < x.ramp then ((x.ramp - n : Nat), x.ramp) else (0, 1))
  else if x.kill then ((b - 1 - n : Nat), b - 1)
  else (1, 1)

/-- Pan, × 2^60 for left and right (R150). -/
def panOf (pan : Nat) (stereo : Bool) : Int × Int :=
  if stereo then (min 1024 (2048 - 8 * (pan : Int)) * 2 ^ 50, min 1024 (8 * (pan : Int)) * 2 ^ 50)
  else (cosTurn pan 1024, sinTurn pan 1024)

/-- Sample `n` of a voice that plays. -/
def voiceSample (s : VSet) (rd : Nat → Int × Int) (pan : Int × Int) (stereo : Bool) (r : VRun) (n : Nat) : VRun :=
  let x := r.x
  if r.ended.isSome || n < x.first then { r with out := (0, 0, 0) :: r.out }
  else if x.e1.mode = .done then { r with out := (0, 0, 0) :: r.out, ended := some (0, n) }
  else if !(s.mode ≠ 0 && !x.left) && s.last ≤ x.phase / 65536 then
    { r with out := (0, 0, 0) :: r.out, ended := some (1, n) }
  else
    let raw := if s.silent then (0, 0) else interpolate s rd (x.looping s.mode) (pmPhase s x n)
    let (l, ic) := match s.filt with
      | none => (raw.1, x.ic)
      | some (k, m, co) => filterChan co m 0 k 0 x.ic raw.1
    let (rt, ic) := match s.filt with
      | none => (raw.2, ic)
      | some (k, m, co) => if stereo then filterChan co m 1 k 0 ic raw.2 else (l, ic)
    let amp := ampNow s x
    let (rn, rdn) := rampAt s.b x n
    let scale := fun (y g : Int) => sat31 (openDiv (y * amp * rn * g) (2 ^ 185 * rdn))
    let mono := if stereo then sat31 (openDiv ((l + rt) * amp * rn) (2 ^ 126 * rdn)) else sat31 (openDiv (l * amp * rn) (2 ^ 125 * rdn))
    let out := if s.silent then (0, 0, 0) else (scale l pan.1, scale rt pan.2, mono)
    let (inc, cl) := incNow s x
    let x := { x with ic := ic, amp := amp }
    let x := advPhase s x inc
    let x := { x with e1 := x.e1.adv s.rd1 256, e2 := x.e2.adv s.rd2 256 }
    let x := [0, 1, 2].foldl (lfoStep s.lfo12 s.lfo3 s.hz) x
    { r with x := x, out := out :: r.out, clamped := r.clamped || cl }

/-! ### One block -/

/-- The settings of a voice for a block, with the status bits they set (R129, R135, R148). -/
def Chip.vSet (c : Chip) (v : Nat) (x : Voice) (pm : List Int) : VSet × Nat :=
  let t := c.met.ticks
  let en := c.vEntry v
  let w := fun off => c.vReg v x off
  let fmt := bits (w 0x18) 2 0
  let silent := decide (6 ≤ fmt) || decide (formatW en.format < formatW fmt) || (fmtStereo fmt && !fmtStereo en.format)
  let loop := bits (w 0x18) 5 4
  let wanted := loop = 1 || loop = 2
  let ls := (w 0x10).toNat
  let le := (w 0x14).toNat
  let last := (w 0x0C).toNat
  let good := decide (ls < le ∧ le ≤ last)
  let mode := if wanted && good then loop else 0
  let part := c.partW x.part
  let pmLong := !pm.isEmpty && (mode = 0 || decide (256 < le - ls))
  let filt := w 0x28
  let rd1 := c.shape (bits (w 0x2C) 7 0)
  let s : VSet :=
    { kind := en.kind, hz := t.hz, b := t.b, fmt := fmt, silent := silent, mode := mode, regLoop := loop, ls := ls,
      le := le, last := last, inc := bits (w 0x1C) 19 0, maxoct := en.maxoct, level := bits (w 0x20) 15 0,
      env := w 0x2C, lfo12 := w 0x30, lfo3 := w 0x34, mods := w 0x3C, press := c.pressure x,
      bend := ((bits (part 1) 15 0 : Nat) - 32768 : Int) * (bits (part 0) 21 16 : Nat) * 100,
      cca := bits (part 3) 15 0, ccb := bits (part 3) 31 16, filt := none, pm := pm, rd1 := rd1,
      rd2 := c.shape (bits (w 0x2C) 15 8) }
  let sections := if en.kind = 1 || en.kind = 3 then 1 else if en.kind = 2 || en.kind = 4 then 2 else 0
  let s := if sections = 0 || filt.getLsbD 31 then s
    else { s with filt := some (sections, bits filt 25 24, svfConstants (cutoffNow s filt x) (bits filt 23 16) t.hz) }
  (s, (if silent then 2 else 0) + (if wanted && !good then 4 else 0) + (if pmLong then 8 else 0))

/-- The phases of a block's samples, for the frames it reads. -/
def phasesOf (s : VSet) : Nat → Voice → List (Nat × Bool)
  | 0, _ => []
  | n + 1, x =>
    let (inc, _) := incNow s x
    let x' := advPhase s x inc
    let x' := { x' with e1 := x'.e1.adv s.rd1 256, e2 := x'.e2.adv s.rd2 256 }
    (x.phase, x.looping s.mode) :: phasesOf s n ([0, 1, 2].foldl (lfoStep s.lfo12 s.lfo3 s.hz) x')

/-- The lines of memory that a block of a voice reads. -/
def linesRead (s : VSet) (wave : Word) (n : Nat) (x : Voice) : List Nat :=
  let w := formatW s.fmt
  let taps := fun (p : Nat × Bool) =>
    ((List.range (kernelOf s.kind 0).length).filterMap (fun (j : Nat) =>
      tapIndex s.mode p.2 s.ls s.le s.last ((p.1 / 65536 : Nat) + (j : Int) - kernelBack s.kind)))
  let frames := ((phasesOf s n x).map taps).flatten.eraseDups
  ((frames.map (fun i => let a := frameAddr wave s.fmt i; [a / 32, (a + w - 1) / 32])).flatten).eraseDups

/-- The wave cache's requester for a voice's lane (R419). -/
def laneGroup (lane : Nat) : Nat := if lane < 4 then 0 else 1

/-- Look up the lines a voice reads; those that end in a bus error read 0 (R419, R471, R672). -/
def Chip.readLines (e : Env) (c : Chip) (r : Nat) (streaming : Bool) (ls : List Nat) : List Nat × Chip :=
  ls.foldl (fun (p : List Nat × Chip) line =>
    match p.2.busCause .wave false false (32 * line) 32 with
    | some (cause, t) => (line :: p.1, p.2.busError .wave t cause (32 * line) false)
    | none => (p.1, p.2.waveLookup e line r streaming)) ([], c)

/-- Fill a carrier's loop buffer when its loop has engaged, and again when its loop changes (R148). -/
def Chip.fillLoop (e : Env) (c : Chip) (bad : List Nat) (wave : Word) (s : VSet) (x : Voice) : Voice :=
  let tag := [wave.toNat, s.ls, s.le, s.fmt]
  if s.pm.isEmpty || s.mode = 0 || 256 < s.le - s.ls || x.loopTag = tag then x
  else { x with
    loopTag := tag
    loopBuf := (List.range (s.le - s.ls)).map (fun i => c.frameAt e bad wave s.fmt (s.ls + i)) }

/-- A block of a voice that plays: its samples, the voice after it, the end and the chip (R131 to R150). A phase that lies
beyond the loop as it now stands wraps first (R133, R135). -/
def Chip.playBlock (e : Env) (c : Chip) (v : Nat) (x : Voice) (pm : List Int) : VRun × Chip :=
  let (s, flags) := c.vSet v x pm
  let x := advPhase s x 0
  let wave := c.vReg v x 0x08
  let en := c.vEntry v
  let streaming := bits (c.vReg v x 0x18) 5 4 = 0 || x.left
  let ls := if s.silent then [] else linesRead s wave (s.b - x.first) x
  let ls := if s.pm.isEmpty || s.mode = 0 || 256 < s.le - s.ls then ls
    else (ls ++ (List.range (s.le - s.ls)).map (fun i => frameAddr wave s.fmt (s.ls + i) / 32)).eraseDups
  let (bad, c) := c.readLines e (laneGroup en.lane) streaming ls
  let x := c.fillLoop e bad wave s x
  let rd := fun i => if x.loopBuf.isEmpty || s.pm.isEmpty || i < s.ls || s.le ≤ i then c.frameAt e bad wave s.fmt i
    else x.loopBuf.getD (i - s.ls) (0, 0)
  let stereo := fmtStereo s.fmt
  let pan := panOf (bits (c.vReg v x 0x20) 23 16) stereo
  let r := (List.range s.b).foldl (voiceSample s rd pan stereo) { x := x, out := [], ended := none, clamped := false }
  let flags := flags + (if r.clamped then 1 else 0)
  ({ r with x := { r.x with first := r.x.first - s.b }, out := r.out.reverse },
    c.wr A.STK_STAT (c.rd A.STK_STAT ||| word flags))

/-- What the modulator feeds its carrier: y × INDEX of each sample (R147). -/
def Chip.pmFeed (c : Chip) (v : Nat) (x : Voice) (r : VRun) : List Int :=
  r.out.map (fun o => o.2.2 * (bits (c.vReg v x 0x38) 15 0 : Nat))

end Sys2Proof.Machine
end

