-- ==== Sys2Proof/Machine/Allocator.lean ====
section
/-! DEFINITION. Machine/Allocator.lean: the voice allocator: its intake, its starts, releases and records, and the
computation of the voices of a block (03_queues_and_events.md, R115 to R120; 04_voices.md, R151 to R169). -/

namespace Sys2Proof.Machine

/-! ### Records (R169) -/

/-- The absolute count of sample `n` of the block that begins at `t`. -/
def Chip.sampleTime (c : Chip) (t n : Nat) : Count := BitVec.ofNat 48 (t + n * c.met.ticks.cs)

/-- Post a voice-state record if STK_CFG enables it: `which` 0 started, 1 stolen, 2 ended. -/
def Chip.voiceRecord (e : Env) (c : Chip) (which v : Nat) (x : Voice) (time : Count) (late : Bool) (cause : Nat) : Chip :=
  if c.bit A.STK_CFG which then
    let c := Chip.makeRoom e 8 (0x48 + which) c.que.skid.length c
    c.post e { source := 8, kind := 0x48 + which, key := x.key, flags := if late then 1 else 0, time := time,
               valueA := BitVec.ofNat 16 v, valueB := word (cause * 2 ^ 24 + x.zone * 65536 + x.source * 256 + x.port) }
  else c

/-- Voice `v` ends: VOICE_ENDED with a cause; it is IDLE. -/
def Chip.endVoice (e : Env) (c : Chip) (v cause : Nat) (time : Count) : Chip :=
  let x := c.voice v
  if x.st = .idle then c
  else
    let c := if x.st = .pending then c else c.voiceRecord e 2 v x time false cause
    c.setVoice v { x with st := .idle, pend := none, kill := false, held := false }

/-! ### Patches (R164 to R166) -/

/-- A 16-bit saturation of a level. -/
def sat16u (x : Int) : Nat := (clampI 0 65535 x).toNat

/-- LEVEL of R165. -/
def patchLevel (w0 w1 : Word) (pLevel v : Nat) (d : Word) : Nat :=
  let v2 := v * v / 65536
  let gvel := 65536 - bits w0 23 16 * (65536 - v2) / 256
  let lvl := pLevel * gvel / 65536
  let hl : Int := (bits d 31 16 : Nat) - 32768
  sat16u (lvl + floorDiv ((lvl : Int) * hl * (bits w1 15 8 : Nat)) (2 ^ 23))

/-- INC of R165; one that the 20 bits of Vn_PITCH cannot hold is held as the largest (log entry 14). -/
def patchInc (w0 w1 : Word) (pInc key : Nat) (d : Word) : Nat :=
  let m := (((key : Int) - (bits w0 7 0 : Nat)) * 100 * (bits w0 15 8 : Nat)).tdiv 128
  let hp := floorDiv (((bits d 15 0 : Nat) - 32768 : Int) * (bits w1 7 0 : Nat)) (2 ^ 15)
  min 0xFFFFF (pInc * expCents (clampI (-4800) 4800 (m + hp)) / 65536)

/-- The humanise draw for a voice (R166). -/
def Chip.humanise (c : Chip) (w1 : Word) : Word × Chip :=
  if c.bit A.STK_CFG 8 && bits w1 15 0 ≠ 0 then
    match c.rngTake with
    | (some w, c) => (w, c)
    | (none, c) => (0x80008000, c.setBit A.STK_STAT 4)
  else (0x80008000, c)

/-- Load patch `p` into voice `v`'s applied and staging copies and drop what waits to apply (R126, R165). -/
def Chip.loadPatch (c : Chip) (v p key vel : Nat) : Word × Chip :=
  let w := fun i => c.rd (A.STK_PATCHi_w p i)
  let (d, c) := c.humanise (w 1)
  let base := 0x70000000 + 64 * v
  let arm := base + 0x18
  let c := { c with armed := c.armed.filter (fun g => g.1 ≠ arm) }
  let c := c.stkDo fun k => { k with writes := k.writes.filter (fun q => q.addr / 64 ≠ base / 64) }
  let put := fun (c : Chip) (i : Nat) (x : Word) =>
    let a := base + 4 * i
    let c := c.wr a (match regFind a with
      | some (r, _) => x &&& (m32 r.rw ||| m32 r.rwa)
      | none => 0)
    if (rwaMask a) ≠ 0 then { c with staging := putS (regReset a &&& rwaMask a) c.staging a (x &&& rwaMask a) } else c
  let c := (List.range 14).foldl (fun c i =>
    let x := w (i + 2)
    let x := if i + 2 = 7 then word (patchInc (w 0) (w 1) (bits x 19 0) key d)
      else if i + 2 = 8 then putFld x 15 0 (patchLevel (w 0) (w 1) (bits x 15 0) vel d) else x
    put c (i + 2) x) c
  (d, c)

/-! ### Starting a voice (R130, R161, R162, R168) -/

/-- A voice at its onset (R130, R138, R141, R146): `f` is the fraction of OFFSET. -/
def Chip.onsetVoice (c : Chip) (v : Nat) (s : VStart) (d : Word) (t : Nat) : Voice :=
  let sm := s.offset / 256
  let f := s.offset % 256
  let frac := if f = 0 then 0 else 256 - f
  let w := fun off => c.rd (0x70000000 + 64 * v + off)
  let hz := c.met.ticks.hz
  let rd1 := c.shape (bits (w 0x2C) 7 0)
  let rd2 := c.shape (bits (w 0x2C) 15 8)
  let rnd := [0, 1, 2].foldl (fun (p : BitVec 16 × List Int) i =>
    if lfoShape (w 0x34) i = 3 then (galois p.1, p.2 ++ [((galois p.1).toNat : Int) - 32768]) else (p.1, p.2 ++ [0]))
    (BitVec.ofNat 16 (v + 1), [])
  let x : Voice :=
    { st := .playing, source := s.source, key := s.key, channel := s.port % 16, part := s.part, port := s.port,
      zone := s.zone, time := s.time, born := t + s.offset * c.met.ticks.cs / 256, vel := s.vel, draw := d,
      patch := s.patch, e1 := envStart rd1 frac, e2 := envStart rd2 frac,
      lfo := [0, 1, 2].map (fun i => lfoInc (lfoRate (w 0x30) (w 0x34) i) hz * frac / 256), rnd := rnd.2, lfsr := rnd.1,
      ic := List.replicate 4 (0, 0), first := if f = 0 then sm else sm + 1 }
  let (set, _) := c.vSet v x []
  { x with phase := (incNow set x).1 * frac / 256 }

/-- Release of a voice (R134, R138, R159). -/
def Chip.releaseVoice (c : Chip) (v : Nat) (x : Voice) : Voice :=
  if x.rel then { x with held := false }
  else
    let w := c.vReg v x 0x2C
    let dmp := c.damper x.part
    let mult := if 0x1000 ≤ dmp && dmp < 0x4000 then 1 + 7 * (dmp - 0x1000) / 0x3000 else 1
    let exit := (c.vReg v x 0x18).getLsbD 6
    { x with
      st := .released, held := false, rel := true
      e1 := x.e1.release (c.shape (bits w 7 0)) mult
      e2 := x.e2.release (c.shape (bits w 15 8)) 1
      left := x.left || exit, rev := x.rev && !exit }

/-- Release by a NOTE_OFF: held while the damper is down (R159). -/
def Chip.noteOffVoice (c : Chip) (v : Nat) (x : Voice) : Voice :=
  match x.pend with
  | some s => { x with pend := some { s with off := true } }
  | none =>
    if x.rel then x
    else if 0x4000 ≤ c.damper x.part then { x with st := .released, held := true }
    else c.releaseVoice v x

/-- Starts a voice takes of its lane's limit: a PMM pair counts two (R161). -/
def startCost (kind : Nat) : Nat := if kind = 5 then 2 else 1

/-- The dispatch limit of the structure that owns `v`. -/
def Chip.dispatchLimit (c : Chip) (v : Nat) : Nat := ((c.owner v).map (·.dispatch)).getD 0

/-- Voice `v`'s lane can still start it in this block. -/
def Chip.laneFits (c : Chip) (v : Nat) : Bool :=
  let en := c.vEntry v
  decide (getS 0 c.stk.starts en.lane + startCost en.kind ≤ c.dispatchLimit v)

/-- One voice begins at an onset, with a patch or with its present registers. -/
def Chip.beginOne (e : Env) (c : Chip) (v : Nat) (s : VStart) (patch : Option Nat) (t : Nat) : Chip :=
  let (d, c) := match patch with
    | none => (0x80008000, c)
    | some p => c.loadPatch v p s.key s.vel
  let x := c.onsetVoice v s d t
  let x := if s.off then c.noteOffVoice v x else x
  let c := (c.setVoice v { x with patch := patch }).inc A.STK_STARTS
  c.voiceRecord e 0 v x s.onset s.late 0

/-- A start takes place: the voice, and the carrier of a PMM (R149, R164). -/
def Chip.beginVoice (e : Env) (c : Chip) (v : Nat) (s : VStart) (t : Nat) : Chip :=
  let en := c.vEntry v
  let c := c.stkDo fun k => { k with
    starts := modS 0 k.starts en.lane (· + startCost en.kind)
    chosen := if en.kind = 5 then v :: (v + 1) :: k.chosen else v :: k.chosen }
  let c := c.beginOne e v s s.patch t
  if en.kind = 5 then c.beginOne e (v + 1) s (s.patch.map (fun p => (p + 1) % 128)) t else c

/-- A sounding voice is stolen: it ramps over `n` samples of the block at `t`, and its records are posted (R162, R169). -/
def Chip.stealOne (e : Env) (c : Chip) (v n t : Nat) : Chip :=
  let x := c.voice v
  let time := c.sampleTime t n
  let c := c.inc A.STK_STEALS
  let c := (c.voiceRecord e 1 v x time false 0).voiceRecord e 2 v x time false 2
  let old : Voice := { x with st := .stealing, ramp := n, par := c.vRegs v }
  let c := if n = 0 then c else c.stkDo fun k => { k with dying := k.dying ++ [(v, old)] }
  c.setVoice v { x with st := .idle }

/-- Steal a voice, and the carrier of a PMM. -/
def Chip.stealVoice (e : Env) (c : Chip) (v n t : Nat) : Chip :=
  let c := c.stealOne e v n t
  if (c.vEntry v).kind = 5 then c.stealOne e (v + 1) n t else c

/-- Start a chosen voice now, or defer it to the next block (R161). -/
def Chip.startVoice (e : Env) (c : Chip) (v : Nat) (s : VStart) (stolen : Bool) (t : Nat) : Chip :=
  let fits := c.laneFits v
  let c := if stolen then c.stealVoice e v (if fits then s.offset / 256 else c.met.ticks.b) t else c
  if fits then c.beginVoice e v s t
  else
    let c := c.stkDo fun k => { k with chosen := v :: k.chosen }
    let x : Voice := { st := .pending, source := s.source, key := s.key, channel := s.port % 16, part := s.part,
                       port := s.port, zone := s.zone, time := s.time, vel := s.vel, pend := some s }
    (c.setVoice v x).inc A.STK_DEFERRED

/-- The deferred starts take place at OFFSET 0 of the next block, ahead of its new starts (R161). -/
def Chip.startDeferred (e : Env) (c : Chip) (t : Nat) : Chip :=
  (c.stk.v.map (·.1)).foldl (fun c v =>
    match (c.voice v).pend with
    | none => c
    | some s =>
      if c.laneFits v then
        c.beginVoice e v { s with offset := 0, onset := BitVec.ofNat 48 t, late := true } t
      else c) c

/-! ### Choosing a voice (R160) -/

/-- The sounding states a steal may choose. -/
def Voice.sounds (x : Voice) : Bool := x.st = .playing || x.st = .released

/-- The candidates of a zone. -/
def Chip.candidates (c : Chip) (vf vl : Nat) : List Nat :=
  ((List.range 256).filter (fun v => decide (vf ≤ v ∧ v ≤ vl))).filter (fun v =>
    let k := (entryIn c.ldr.live v).kind
    decide (1 ≤ k ∧ k ≤ 5) && !((c.ldr.live.map (fun ch => isCarrier ch.voices v)).getD false)
      && (c.voice v).st ≠ .pending && !c.stk.chosen.contains v)

/-- The first of a list that is least by a key. -/
def leastBy (f : Nat → Int × Int) : List Nat → Option Nat
  | [] => none
  | v :: l =>
    match leastBy f l with
    | none => some v
    | some w => if (f v).1 < (f w).1 || ((f v).1 = (f w).1 && (f v).2 ≤ (f w).2) then some v else some w

/-- The RELEASED candidate that is least, or failing that the PLAYING one. -/
def Chip.stealBy (c : Chip) (f : Nat → Int × Int) (cs : List Nat) : Option Nat :=
  match leastBy f (cs.filter (fun v => (c.voice v).st = .released)) with
  | some v => some v
  | none => leastBy f (cs.filter (fun v => (c.voice v).st = .playing))

/-- Step 4 of R160. -/
def Chip.stealChoice (c : Chip) (steal part key : Nat) (cs : List Nat) : Option Nat :=
  let born := fun v => (((c.voice v).born : Int), (0 : Int))
  let oldest := c.stealBy born cs
  match steal with
  | 0 => none
  | 1 => oldest
  | 2 => c.stealBy (fun v => ((c.voice v).amp, ((c.voice v).born : Int))) cs
  | _ =>
    match cs.find? (fun v => (c.voice v).sounds && (c.voice v).part == part && (c.voice v).key == key) with
    | some v => some v
    | none => oldest

/-- The voice for a zone, and whether it is stolen (R160). -/
def Chip.choose (c : Chip) (sameKey : Bool) (src chan key part vf vl : Nat) : Option (Nat × Bool) :=
  let cs := c.candidates vf vl
  let same := if sameKey then cs.find? (fun v => let x := c.voice v
      x.sounds && x.source == src && x.channel == chan && x.key == key) else none
  match same with
  | some v => some (v, true)
  | none =>
    let idle := cs.filter (fun v => (c.voice v).st = .idle)
    match idle.find? (fun v => c.laneFits v) with
    | some v => some (v, false)
    | none =>
      match idle with
      | v :: _ => some (v, false)
      | [] => (c.stealChoice ((c.ldr.live.map (·.steal)).getD 0) part key cs).map (fun v => (v, true))

/-! ### What each record does (R155 to R159, R163) -/

/-- The part that handles a record (R155). -/
def Chip.partFor (c : Chip) (src chan : Nat) : Option Nat :=
  (List.range 16).find? (fun p =>
    let w := c.partW p 0
    w.getLsbD 31 && (bits w 7 0 = src || bits w 7 0 = 0xFF) && (w.getLsbD 12 || bits w 11 8 = chan))

/-- The zones that a note matches (R156). -/
def Chip.zonesFor (c : Chip) (part key vel : Nat) : List Nat :=
  (List.range 128).filter (fun z =>
    let w0 := c.rd (A.STK_ZONEi_w z 0)
    let w1 := c.rd (A.STK_ZONEi_w z 1)
    let w2 := c.rd (A.STK_ZONEi_w z 2)
    w0.getLsbD 31 && bits w0 19 16 = part && decide (bits w0 7 0 ≤ key ∧ key ≤ bits w0 15 8)
      && decide (bits w1 15 0 ≤ vel ∧ vel ≤ bits w1 31 16) && decide (bits w2 7 0 ≤ bits w2 15 8))

/-- The first voices take the LEVEL of a higher velocity (R163). -/
def Chip.mergeOn (c : Chip) (part key vel : Nat) (time : Count) : Chip :=
  let c := c.inc A.STK_MERGED
  let old := getS (0, 0) c.stk.ons (256 * part + key)
  if vel ≤ old.2 then c
  else
    let c := c.stkDo fun k => { k with ons := putS (0, 0) k.ons (256 * part + key) (time, vel) }
    c.stk.v.foldl (fun c p =>
      let x := c.voice p.1
      if x.st ≠ .idle && x.part = part && x.key = key && x.time = time then
        match x.pend with
        | some s => c.setVoice p.1 { x with vel := vel, pend := some { s with vel := vel } }
        | none =>
          match x.patch with
          | none => c
          | some q =>
            let w := fun i => c.rd (A.STK_PATCHi_w q i)
            let lev := patchLevel (w 0) (w 1) (bits (w 8) 15 0) vel x.draw
            (c.setVoice p.1 { x with vel := vel }).setFld (A.Vn_AMP p.1) 15 0 lev
      else c) c

/-- One zone of a NOTE_ON: answers whether a voice was chosen. -/
def Chip.noteZone (e : Env) (c : Chip) (r : Rec) (part z offset : Nat) (onset : Count) (late : Bool) (t : Nat) : Bool × Chip :=
  let w2 := c.rd (A.STK_ZONEi_w z 2)
  let port := r.valueB.toNat % 256
  match c.choose ((c.partW part 0).getLsbD 13) r.source (port % 16) r.key part (bits w2 7 0) (bits w2 15 8) with
  | none => (false, c)
  | some (v, stolen) =>
    let s : VStart := { patch := some (bits w2 22 16), part := part, zone := z, source := r.source, key := r.key,
                        port := port, vel := r.valueA.toNat, time := r.time, onset := onset, offset := offset,
                        late := late, off := false }
    (true, c.startVoice e v s stolen t)

/-- NOTE_ON with a velocity (R157, R163). -/
def Chip.noteOn (e : Env) (c : Chip) (r : Rec) (part offset : Nat) (onset : Count) (late : Bool) (t : Nat) : Chip :=
  let at' := 256 * part + r.key
  let seen := (c.stk.ons.find? (fun p => p.1 = at')).map (·.2)
  if ((c.ldr.live.map (·.retrig)).getD 0) = 1 && (seen.map (·.1)) = some r.time then c.mergeOn part r.key r.valueA.toNat r.time
  else
    let c := c.stkDo fun k => { k with ons := putS (0, 0) k.ons at' (r.time, r.valueA.toNat) }
    let zs := c.zonesFor part r.key r.valueA.toNat
    let c := if 4 < zs.length then c.setBit A.STK_STAT 6 else c
    let (n, c) := (zs.take 4).foldl (fun (p : Nat × Chip) z =>
      let (ok, c) := p.2.noteZone e r part z offset onset late t
      (if ok then p.1 + 1 else p.1, c)) (0, c)
    if n = 0 then c.inc A.STK_UNPLAYED else c

/-- Act on every voice for which `p` holds. -/
def Chip.eachVoice (c : Chip) (p : Voice → Bool) (f : Chip → Nat → Voice → Voice) : Chip :=
  (c.stk.v.map (·.1)).foldl (fun c v => if p (c.voice v) then c.setVoice v (f c v (c.voice v)) else c) c

/-- NOTE_OFF (R120, R158, R159). -/
def Chip.noteOff (c : Chip) (r : Rec) : Chip :=
  c.eachVoice (fun x => (x.sounds || x.st = .pending) && x.source == r.source && x.channel == r.valueB.toNat % 16 && x.key == r.key)
    (fun c v x => c.noteOffVoice v x)

/-- Replace a halfword of a part's word. -/
def Chip.setPart (c : Chip) (p w hi lo v : Nat) : Chip := c.setFld (A.STK_PARTi_w p w) hi lo v

/-- A voice is killed: the ramp of R168; a deferred start is dropped. -/
def Chip.killVoice (c : Chip) (v : Nat) : Chip :=
  let x := c.voice v
  if x.st = .pending then c.setVoice v { x with st := .idle, pend := none }
  else if x.st = .idle then c
  else c.setVoice v { x with kill := true, st := .stealing }

/-- Kill a voice and the carrier of a PMM (R149). -/
def Chip.killPair (c : Chip) (v : Nat) : Chip :=
  let c := c.killVoice v
  if (c.vEntry v).kind = 5 then c.killVoice (v + 1) else c

/-- Set CC_A and CC_B where their numbers name the controller (R158): whether one does. -/
def Chip.setCc (c : Chip) (p key val : Nat) : Bool × Chip :=
  let w := c.partW p 2
  let a := bits w 23 16 = key
  let b := bits w 31 24 = key
  let c := if a then c.setPart p 3 15 0 val else c
  (a || b, if b then c.setPart p 3 31 16 val else c)

/-- CONTROL (R158, R159). -/
def Chip.control (c : Chip) (r : Rec) (p : Nat) : Chip :=
  let val := r.valueA.toNat
  if r.key = 64 then
    let c := c.setPart p 2 15 0 val
    let c := if val < 0x4000 then c.eachVoice (fun x => x.held && x.part == p) (fun c v x => c.releaseVoice v x) else c
    (c.setCc p r.key val).2
  else if r.key = 120 then
    ((((c.stk.v.map (·.1)).foldl (fun c v => if (c.voice v).part = p then c.killVoice v else c) c)).setCc p r.key val).2
  else if r.key = 123 then
    let c := c.eachVoice (fun x => x.part == p && (x.sounds || x.st = .pending)) (fun c v x =>
      match x.pend with
      | some s => { x with pend := some { s with off := true } }
      | none => c.releaseVoice v x)
    (c.setCc p r.key val).2
  else
    let (known, c) := c.setCc p r.key val
    if known then c else c.inc A.STK_IGNORED

/-- The allocator acts on a dispatched record (R155, R158). -/
def Chip.dispatch (e : Env) (c : Chip) (r : Rec) (offset : Nat) (onset : Count) (late : Bool) (t : Nat) : Chip :=
  match c.partFor r.source (r.valueB.toNat % 16) with
  | none => c.inc A.STK_IGNORED
  | some p =>
    let val := r.valueA.toNat
    if r.kind = 1 && val ≠ 0 then c.noteOn e r p offset onset late t
    else if r.kind = 1 || r.kind = 2 then c.noteOff r
    else if r.kind = 3 then c.stkDo fun k => { k with poly := putS 0 k.poly (256 * p + r.key) val }
    else if r.kind = 5 then c.setPart p 1 31 16 val
    else if r.kind = 6 then c.setPart p 1 15 0 val
    else if r.kind = 4 then c.control r p
    else c.inc A.STK_IGNORED

/-! ### The intake (R115 to R119) -/

/-- The place of a record in the order of R115. -/
def QItem.before (a b : QItem) : Bool :=
  decide (a.r.time.toNat < b.r.time.toNat) || (a.r.time == b.r.time &&
    (decide (a.r.source < b.r.source) || (a.r.source == b.r.source &&
      (decide (a.r.key < b.r.key) || (a.r.key == b.r.key && decide (a.seq < b.seq))))))

/-- Target count of a record (R44). -/
def Chip.targetCount (c : Chip) (r : Rec) : Nat :=
  let t := c.met.ticks
  (r.time.toNat + (t.lat + 1) * t.b * t.cs) % 2 ^ 48

/-- How many blocks the record's target lies before block `k` (negative where it lies after). -/
def Chip.blocksLate (c : Chip) (r : Rec) (k : Nat) : Int :=
  let nb := (2 ^ 48 : Nat) / c.met.ticks.cb
  let kt := c.targetCount r / c.met.ticks.cb
  let d := (k % nb + nb - kt) % nb
  if d < nb / 2 then d else (d : Int) - nb

/-- The source entry of a source in force (R60). -/
def Chip.srcEntry (c : Chip) (s : Nat) : SrcEntry :=
  (c.que.sources.find? (fun x => x.source = s)).getD { source := s, late := 0, resv := 0 }

/-- The input queues of the allocator. -/
def Chip.inputQueues (c : Chip) : List Nat :=
  (c.que.map.filter (fun e => e.2.consumer = 8 && decide (0 < e.2.depth))).map (·.1)

/-- The heads that may be taken at the intake close of block `k` at absolute count `close` (R115 to R117). -/
def Chip.heads (c : Chip) (close k : Nat) (pass : Nat) (got : SMap Nat) : List (Nat × QItem) :=
  (c.inputQueues.filterMap (fun q => (c.qItems q).head?.map (fun it => (q, it)))).filter (fun p =>
    decide (p.2.accepted < close) && decide (0 ≤ c.blocksLate p.2.r k)
      && (pass = 1 || decide (getS 0 got p.2.r.source < (c.srcEntry p.2.r.source).resv)))

/-- The first of the heads in the order of R115. -/
def firstHead : List (Nat × QItem) → Option (Nat × QItem)
  | [] => none
  | p :: l =>
    match firstHead l with
    | none => some p
    | some q => if p.2.before q.2 then some p else some q

/-- One pass of R117, at most `fuel` records; `k` is the block index of the absolute numbering, `t` its tick. -/
def Chip.intakePass (e : Env) (close k t pass : Nat) : Nat → Nat → SMap Nat → Chip → Nat × SMap Nat × Chip
  | 0, used, got, c => (used, got, c)
  | fuel + 1, used, got, c =>
    if c.met.ticks.y / 512 ≤ used then (used, got, c)
    else
      match firstHead (c.heads close k pass got) with
      | none => (used, got, c)
      | some (q, it) =>
        match c.popRec q with
        | none => (used, got, c)
        | some (_, c) =>
          let due := it.r
          let lateBy := c.blocksLate due k
          let dueClose := t - lateBy.toNat * c.met.ticks.cb - c.met.ticks.cb + c.met.ticks.cb / 4
          let late := decide (0 < lateBy) || decide (dueClose ≤ it.accepted)
          let s := c.srcEntry due.source
          if late then
            let c := c.inc (A.QUEn_LATES q)
            if s.late = 1 then Chip.intakePass e close k t pass fuel used got (c.inc A.QUE_LATE_DISCARDED)
            else
              let c := c.inc A.QUE_LATE_PLAYED
              let c := c.dispatch e due 0 (BitVec.ofNat 48 t) true t
              Chip.intakePass e close k t pass fuel (used + 1) (modS 0 got due.source (· + 1)) c
          else
            let tc := c.targetCount due
            let off := tc % c.met.ticks.cb * 256 / c.met.ticks.cs
            let c := c.dispatch e due off (BitVec.ofNat 48 tc) false t
            Chip.intakePass e close k t pass fuel (used + 1) (modS 0 got due.source (· + 1)) c

/-! ### Voice commands (R168) -/

/-- STK_VCMD by a master whose source number is `src`: it waits for the next intake close. -/
def vcmdWrite (op v src : Nat) (c : Chip) : Chip :=
  if op = 0 then c else c.stkDo fun k => { k with cmds := k.cmds ++ [{ op := op, voice := v, source := src }] }

/-- A voice command takes effect at the intake close for the block at `t`. -/
def Chip.runCmd (e : Env) (c : Chip) (m : VCmd) (t : Nat) : Chip :=
  let v := m.voice
  let kind := (c.vEntry v).kind
  let refuse := c.setBit A.STK_STAT 5
  if kind = 0 || c.vCarrier v then refuse
  else if m.op = 1 then
    if (c.voice v).st = .idle then
      let s : VStart := { patch := none, part := 0, zone := 0x7F, source := m.source, key := 0xFF, port := 0, vel := 0,
                          time := BitVec.ofNat 48 t, onset := BitVec.ofNat 48 t, offset := 0, late := false, off := false }
      c.startVoice e v s false t
    else refuse
  else if m.op = 2 then
    let rel := fun (c : Chip) v =>
      let x := c.voice v
      match x.pend with
      | some s => c.setVoice v { x with pend := some { s with off := true } }
      | none => if x.sounds then c.setVoice v (c.releaseVoice v x) else c
    let c := rel c v
    if kind = 5 then rel c (v + 1) else c
  else c.killPair v

/-- The intake close of the block whose tick is at absolute count `t` (R117, R161, R168). -/
def Chip.intakeClose (e : Env) (c : Chip) (t : Nat) : Chip :=
  let cb := c.met.ticks.cb
  let close := t - cb + cb / 4
  let c := c.stkDo fun k => { k with starts := [], chosen := [], closed := some t }
  let c := c.startDeferred e t
  let cmds := c.stk.cmds
  let c := c.stkDo fun k => { k with cmds := [] }
  let c := cmds.foldl (fun c m => c.runCmd e m t) c
  let fuel := (c.inputQueues.map (fun q => (c.qItems q).length)).foldl (· + ·) 0
  let k := t / cb % ((2 ^ 48 : Nat) / cb)
  let (used, got, c) := Chip.intakePass e close k t 0 fuel 0 [] c
  let (used, _, c) := Chip.intakePass e close k t 1 fuel used got c
  let left := (c.inputQueues.map (fun q => (c.qItems q).length)).foldl (· + ·) 0
  (c.wr A.QUE_ALLOC_LAST (word ((fuel - left - used) * 65536 + used))).peak A.QUE_ALLOC_PEAK used

/-! ### Recording (R151 to R154) -/

/-- A bus's value at a sample of the last computed block. -/
def Chip.busSample (c : Chip) (n m : Nat) : Int :=
  let f := (getS [] c.fx.bus n).getD m (0, 0)
  openDiv (f.1 + f.2) 2

/-- The source of a recording voice at sample `m` (R151, R152). -/
def Chip.recSample (c : Chip) (src m : Nat) : Int :=
  if src < 0x10 then c.busSample src m
  else if 0x40 ≤ src && src < 0x80 then getS 0 (getS [] c.aud.inDone (src - 0x40)) m
  else 0

/-- A recorded value's bytes. -/
def recBytes (n : Nat) (level : Nat) (y : Int) : List Byte :=
  let x := clampI (-(2 ^ (8 * n - 1))) (2 ^ (8 * n - 1) - 1) (openDiv (y * level) (65536 * 2 ^ (32 - 8 * n)))
  leBytes n (x % (2 ^ (8 * n) : Nat)).toNat

/-- Write bytes of a line through the wave cache without reading it (R154, R419, R421). -/
def Chip.recLine (e : Env) (c : Chip) (line : Nat) (bs : List (Nat × Byte)) : Chip :=
  match c.busCause .wave true false (32 * line) 32 with
  | some (cause, t) => c.busError .wave t cause (32 * line) true
  | none =>
    let held := c.findLine 2 line
    if held.isNone && (c.maskWays 2).isEmpty then bs.foldl (fun c b => coherentWrite b.1 [b.2] e c) c
    else
      let c := c.inc (if held.isSome then A.WCC_HITSr 2 else A.WCC_MISSESr 2)
      let c := if c.lineState 2 line = .m then c else c.grant e 2 .own line 2 false true
      match c.findLine 2 line with
      | none => bs.foldl (fun c b => coherentWrite b.1 [b.2] e c) c
      | some k =>
        let l := c.way 2 k
        let data := if l.data.length = 32 then l.data else List.replicate 32 0
        c.setWay 2 k { l with
          data := bs.foldl (fun d b => d.set (b.1 % 32) b.2) data
          mask := bs.foldl (fun m b => m ||| 2 ^ (b.1 % 32)) l.mask
          age := 0 }

/-- A block of a recording voice: the voice after it, its end and the chip (R151 to R153). -/
def Chip.recBlock (e : Env) (c : Chip) (v : Nat) (x : Voice) : Voice × Option (Nat × Nat) × Chip :=
  let w := fun off => c.vReg v x off
  let fmt := bits (w 0x18) 2 0
  let en := c.vEntry v
  let silent := decide (6 ≤ fmt) || decide (formatW en.format < formatW fmt) || (fmtStereo fmt && !fmtStereo en.format)
  let c := if silent then c.setBit A.STK_STAT 1 else c
  let ls := (w 0x10).toNat
  let le := (w 0x14).toNat
  let last := (w 0x0C).toNat
  let wanted := bits (w 0x18) 5 4 = 1 || bits (w 0x18) 5 4 = 2
  let good := decide (ls < le ∧ le ≤ last)
  let c := if wanted && !good then c.setBit A.STK_STAT 2 else c
  let loop := wanted && good
  let src := bits (w 0x18) 15 8
  let level := bits (w 0x20) 15 0
  let n := [1, 2, 3].getD (fmt % 3) 2
  let (frame, done, bytes) := (List.range c.met.ticks.b).foldl
    (fun (p : Nat × Option (Nat × Nat) × List (Nat × Byte)) m =>
      let (f, done, bytes) := p
      if done.isSome then p
      else if !loop && last ≤ f then (f, some (1, m), bytes)
      else
        let one := recBytes n level (c.recSample src m)
        let bs := if fmtStereo fmt then one ++ recBytes n level (c.recSample (src + 1) m) else one
        let a := frameAddr (w 0x08) fmt f
        let f' := if loop && f + 1 = le then ls else f + 1
        (f', none, bytes ++ bs.zipIdx.map (fun q => (a + q.2, q.1)))) (x.phase / 65536, none, [])
  let lines := (bytes.map (fun b => b.1 / 32)).eraseDups
  let c := if silent then c else lines.foldl (fun c l => c.recLine e l (bytes.filter (fun b => b.1 / 32 = l))) c
  let done := match done with
    | some d => some d
    | none => if x.kill then some (3, c.met.ticks.b) else if x.rel then some (0, c.met.ticks.b) else none
  ({ x with phase := frame * 65536 }, done, c)

/-! ### The voices of a block (R43, R150, R617) -/

/-- Add a voice's samples, times its sends, into the SEND sums of a structure (R150). -/
def addSends (sends : Word) (out : List (Int × Int × Int)) (m : SMap (List (Int × Int × Int))) : SMap (List (Int × Int × Int)) :=
  [0, 1, 2, 3].foldl (fun m i =>
    let g : Int := (bits sends (8 * i + 7) (8 * i) : Nat)
    if g = 0 then m
    else
      let old := getS [] m i
      let add := out.zipIdx.map (fun p =>
        let o := old.getD p.2 (0, 0, 0)
        (o.1 + openDiv (p.1.1 * g) 128, o.2.1 + openDiv (p.1.2.1 * g) 128, o.2.2 + openDiv (p.1.2.2 * g) 128))
      putS [] m i add) m

/-- Add a voice's samples to the structures that own it (R81). -/
def Chip.mixVoice (c : Chip) (v : Nat) (x : Voice) (out : List (Int × Int × Int)) : Chip :=
  let s := c.vReg v x 0x24
  let c := if (entryIn c.ldr.live v).kind ≠ 0 then c.stkDo fun k => { k with sends := addSends s out k.sends } else c
  if (entryIn c.ldr.old v).kind ≠ 0 then c.stkDo fun k => { k with oldSends := addSends s out k.oldSends } else c

/-- What an overrun substitutes for a block (R617). -/
def fadeOut (b : Nat) (y : Int × Int × Int) : List (Int × Int × Int) :=
  (List.range b).map (fun m =>
    let g : Int := ((b - 1 - m : Nat) : Int)
    (openDiv (y.1 * g) b, openDiv (y.2.1 * g) b, openDiv (y.2.2 * g) b))

/-- The fade-in of the block after an overrun (R617). -/
def fadeIn (b : Nat) (out : List (Int × Int × Int)) : List (Int × Int × Int) :=
  out.zipIdx.map (fun p =>
    let g : Int := p.2 + 1
    (openDiv (p.1.1 * g) b, openDiv (p.1.2.1 * g) b, openDiv (p.1.2.2 * g) b))

/-- Compute a voice's block and mix it: the samples it feeds a carrier, its end and the chip. `lost` is an overrun. -/
def Chip.voiceBlock (e : Env) (c : Chip) (v : Nat) (x : Voice) (pm : List Int) (lost : Bool) :
    List Int × Voice × Option (Nat × Nat) × Chip :=
  if (c.vEntry v).kind = 6 then
    let (x, done, c) := c.recBlock e v x
    ([], x, done, c)
  else
    let (r, c) := c.playBlock e v x pm
    let b := c.met.ticks.b
    let out := if lost then fadeOut b x.lastOut else if x.fade then fadeIn b r.out else r.out
    let feed := c.pmFeed v x { r with out := out }
    let c := if (c.vEntry v).kind = 5 then c else c.mixVoice v x out
    let y := { r.x with lastOut := r.out.getLast?.getD (0, 0, 0), fade := lost, ic := if lost then x.ic else r.x.ic }
    let done := match r.ended with
      | some d => some d
      | none => if x.kill then some (3, b) else none
    (feed, y, done, c)

/-- The stolen voices ramp out (R162). -/
def Chip.dyingBlocks (e : Env) (c : Chip) : Chip :=
  let l := c.stk.dying
  let c := c.stkDo fun k => { k with dying := [] }
  (l.foldl (fun (p : List (Nat × List Int) × Chip) d =>
    let pm := ((p.1.find? (fun q => q.1 + 1 = d.1)).map (·.2)).getD []
    let (feed, _, _, c) := p.2.voiceBlock e d.1 d.2 pm false
    (if (c.vEntry d.1).kind = 5 then (d.1, feed) :: p.1 else p.1, c)) ([], c)).2

/-- Which voices of a late lane are incomplete is not stated (log entry 2). -/
def Chip.incomplete (c : Chip) (late : Nat) (v : Nat) : Bool × Chip :=
  if nbit late (c.vEntry v).lane then let (k, c) := c.draw; (Config.freeBool k, c) else (false, c)

/-- Latest finish of each lane (R43): continuing voices, then new ones from a quarter block on. -/
def Chip.lanePeaks (c : Chip) : Chip :=
  let b := c.met.ticks.b
  let live := (c.stk.v.filter (fun p => p.2.st ≠ .idle && p.2.st ≠ .pending)).map (·.1)
  let cost := fun v => voiceCost b (c.vEntry v) (c.vCarrier v)
  (List.range 8).foldl (fun c l =>
    let mine := live.filter (fun v => (c.vEntry v).lane = l)
    let new := (mine.filter (fun v => c.stk.chosen.contains v)).map cost
    let old := sumL ((mine.filter (fun v => !c.stk.chosen.contains v)).map cost)
    c.peak (A.STK_LANEl_PEAK l) (if new.isEmpty then old else max (c.met.ticks.y / 4) old + sumL new)) c

/-- Compute the voices of the block whose tick is at `t`; `late` has a bit for each lane that did not finish. -/
def Chip.computeVoices (e : Env) (c : Chip) (t late : Nat) : Chip :=
  let c := c.lanePeaks
  let c := c.stkDo fun k => { k with sends := [], oldSends := [] }
  let c := c.dyingBlocks e
  let vs := (c.stk.v.filter (fun p => p.2.st ≠ .idle && p.2.st ≠ .pending)).map (·.1)
  (vs.foldl (fun (p : List (Nat × (List Int × Option (Nat × Nat))) × Chip) v =>
    let c := p.2
    let up := (p.1.find? (fun q => q.1 + 1 = v)).map (·.2)
    let x := c.voice v
    let (lost, c) := c.incomplete late v
    let (feed, y, done, c) := c.voiceBlock e v x ((up.map (·.1)).getD []) lost
    let done := match up.bind (·.2) with
      | some d => some d
      | none => done
    let c := c.setVoice v y
    let c := match done with
      | some (cause, n) => c.endVoice e v cause (c.sampleTime t n)
      | none => c
    (if (c.vEntry v).kind = 5 then (v, feed, done) :: p.1 else p.1, c)) ([], c)).2

/-- The records of the block are accepted before its tick (R169). -/
def Chip.drainVoiceRecords (e : Env) : Nat → Chip → Chip
  | 0, c => c
  | n + 1, c =>
    match c.que.skid.find? (fun i => i.r.source = 8 && !i.byMaster) with
    | none => c
    | some i => Chip.drainVoiceRecords e n (c.portCycle e i.queue)

/-- Every voice for which `p` holds ends with cause 4 (R82, R83, R568). -/
def Chip.endVoices (e : Env) (c : Chip) (p : Nat → Bool) (time : Count) : Chip :=
  (c.stk.v.map (·.1)).foldl (fun c v => if p v then c.endVoice e v 4 time else c) c

/-! ### Register views -/

/-- Vn_STATUS. -/
def Chip.voiceStatus (c : Chip) (v : Nat) : Word :=
  let x := c.voice v
  let st := if c.stk.dying.any (fun d => d.1 = v) then 4
    else match x.st with
      | .idle => 0
      | .pending => 1
      | .playing => 2
      | .released => 3
      | .stealing => 4
  word (x.source * 2 ^ 24 + x.key * 65536 + x.channel * 4096 + x.part * 256 + (if x.held then 128 else 0)
    + x.e1.seg * 16 + st)

/-- Vn_POS. -/
def Chip.voicePos (c : Chip) (v : Nat) : Word := word ((c.voice v).phase / 65536)

/-- STK_ACTIVEm. -/
def Chip.activeWord (c : Chip) (m : Nat) : Word := word (bitsOf 32 (fun j => decide ((c.voice (32 * m + j)).st ≠ .idle)))

/-! ### Plain writes (R125) -/

/-- A plain write to a voice register waits for its block tick. -/
def voiceWrite (a : Nat) (v : Word) (e : Env) (c : Chip) : Chip :=
  c.stkDo fun k => { k with writes := k.writes ++ [{ addr := a, at' := e.now, v := v }] }

/-- The waiting writes that came before absolute count `t` apply. -/
def Chip.applyVoiceWrites (c : Chip) (t : Nat) : Chip :=
  let now := c.stk.writes.filter (fun w => decide (w.at' < t))
  let c := c.stkDo fun k => { k with writes := k.writes.filter (fun w => !decide (w.at' < t)) }
  now.foldl (fun c w => c.writeCoded w.addr w.v) c

/-! ### Steps that end a segment or a wave -/

/-- ENVELOPE_SEGMENT_END: the envelope reaches the end of its segment; ENV1 may end the voice (R137 to R139). -/
def envelopeEnd (v env : Nat) (e : Env) (c : Chip) : Chip :=
  let x := c.voice v
  if x.st = .playing || x.st = .released || x.st = .stealing then
    let w := c.vReg v x 0x2C
    let go := fun (n : EnvRun) s => if n.mode = .run || n.mode = .fall then segEnd (c.shape s) { n with pos := n.total } else n
    let x := if env = 0 then { x with e1 := go x.e1 (bits w 7 0) } else { x with e2 := go x.e2 (bits w 15 8) }
    let c := c.setVoice v x
    if env = 0 && x.e1.mode = .done then
      let c := c.endVoice e v 0 e.stamp
      if (c.vEntry v).kind = 5 then c.endVoice e (v + 1) 0 e.stamp else c
    else c
  else c

/-- WAVE_END: the frame index of a voice with no loop to follow reaches END (R134). -/
def waveEnd (v : Nat) (e : Env) (c : Chip) : Chip :=
  let x := c.voice v
  let loop := bits (c.vReg v x 0x18) 5 4
  let last := c.vReg v x 0x0C
  let good := decide ((c.vReg v x 0x10).toNat < (c.vReg v x 0x14).toNat ∧ (c.vReg v x 0x14).toNat ≤ last.toNat)
  if (x.st = .playing || x.st = .released || x.st = .stealing) && (!(loop = 1 || loop = 2) || !good || x.left) then
    let c := c.setVoice v { x with phase := last.toNat * 65536 }
    let c := c.endVoice e v 1 e.stamp
    if (c.vEntry v).kind = 5 then c.endVoice e (v + 1) 1 e.stamp else c
  else c

end Sys2Proof.Machine
end

