-- ==== Sys2Proof/Machine/Chimes.lean ====
section
/-! DEFINITION. Machine/Chimes.lean: the chime channels (04_voices.md, R170 to R173). -/

namespace Sys2Proof.Machine

/-- Chime channel `n`. -/
def Chip.chime (c : Chip) (n : Nat) : Chime := getS {} c.stk.chimes n

/-- Replace a chime channel. -/
def Chip.setChime (c : Chip) (n : Nat) (x : Chime) : Chip := c.stkDo fun k => { k with chimes := putS {} k.chimes n x }

/-- A chime group has applied at the tick at absolute count `t`: it keys the channel on or off (R173). -/
def Chip.chimeKey (c : Chip) (n t : Nat) : Chip :=
  if c.bit (A.CHMn_CTL n) 8 then c.setChime n { on := true, volAt := t, lenAt := t }
  else c.setChime n { c.chime n with on := false }

/-- The channel is enabled by FABRIC.CHIMES (R170). -/
def Chip.chimeEnabled (c : Chip) (n : Nat) : Bool := ((c.ldr.live.map (fun ch => nbit ch.chimes n)).getD false)

/-- One step of the noise generator (R171). -/
def noiseStep (cycle : Bool) (x : Chime) : Chime :=
  let n := x.steps + 1
  let y := (x.lfsr >>> 1) ||| (if x.lfsr.getLsbD 0 != x.lfsr.getLsbD 4 then 0x4000 else 0)
  { x with steps := n, lfsr := if cycle && n % 127 = 0 then 0x4001 else y }

/-- The noise generator run on to step `n`. -/
def noiseTo (cycle : Bool) (n : Nat) (x : Chime) : Chime := (List.range (n - x.steps)).foldl (fun x _ => noiseStep cycle x) x

/-- A channel's waveform value over 31 at the present place (R170, R171). -/
def chimeValue (ty width : Nat) (step : Nat) (x : Chime) : Int :=
  if ty = 1 then (if step % 16 < (if width = 0 then 8 else width) then 31 else -31)
  else if ty = 2 then
    let s := step % 64
    2 * (if s < 32 then (s : Int) else 63 - s) - 31
  else if ty = 3 then (if x.lfsr.getLsbD 0 then 31 else -31)
  else 0

/-- The samples of a channel for one block, and the channel after them (R170, R172). -/
def Chip.chimeChannel (c : Chip) (n : Nat) : List Int × Chime :=
  let ctl := c.rd (A.CHMn_CTL n)
  let period := 32 * (bits (c.rd (A.CHMn_FREQ n)) 15 0 + 1)
  let vol : Int := (bits (c.rd (A.CHMn_ENV n)) 7 0 : Nat)
  (List.range c.met.ticks.b).foldl (fun (p : List Int × Chime) _ =>
    let step := p.2.elapsed / period
    let x := if bits ctl 1 0 = 3 then noiseTo (ctl.getLsbD 3) step p.2 else p.2
    let y := openDiv (chimeValue (bits ctl 1 0) (bits ctl 7 4) step x * vol * 2 ^ 20) 31
    (p.1 ++ [y], { x with elapsed := x.elapsed + c.met.ticks.cs })) ([], c.chime n)

/-- The chime sum of the block whose computation begins (R172). -/
def Chip.chimeBlock (c : Chip) : Chip :=
  let on := (List.range 16).filter (fun n => (c.chime n).on && c.chimeEnabled n)
  let (sum, c) := on.foldl (fun (p : List Int × Chip) n =>
    let (ys, x) := p.2.chimeChannel n
    (List.zipWith (· + ·) p.1 ys, p.2.setChime n x)) (List.replicate c.met.ticks.b 0, c)
  c.stkDo fun k => { k with chimeSum := sum.map sat31 }

/-- VOL decreases by 1 (R173). -/
def Chip.chimeDecay (c : Chip) (n t : Nat) : Chip :=
  let v := c.fld (A.CHMn_ENV n) 7 0
  (c.setFld (A.CHMn_ENV n) 7 0 (v - 1)).setChime n { c.chime n with blocks := 0, volAt := t }

/-- LENGTH reaches 0 and the channel is keyed off (R173). -/
def Chip.chimeExpire (c : Chip) (n t : Nat) : Chip :=
  (c.setFld (A.CHMn_ENV n) 31 16 0).setChime n { c.chime n with on := false, lenAt := t }

/-- A block of channel `n` has passed at the tick at `t`: decay and length are counted once (R173). -/
def Chip.chimePass (n t : Nat) (c : Chip) : Chip :=
  let env := c.rd (A.CHMn_ENV n)
  let c :=
    if (c.chime n).on && decide ((c.chime n).volAt < t) && bits env 15 8 ≠ 0 then
      if bits env 15 8 ≤ (c.chime n).blocks + 1 then c.chimeDecay n t
      else c.setChime n { c.chime n with blocks := (c.chime n).blocks + 1, volAt := t }
    else c
  if (c.chime n).on && decide ((c.chime n).lenAt < t) && bits env 31 16 ≠ 0 then
    if bits env 31 16 = 1 then c.chimeExpire n t
    else (c.setFld (A.CHMn_ENV n) 31 16 (bits env 31 16 - 1)).setChime n { c.chime n with lenAt := t }
  else c

/-- The tick at which the next uncounted block of a channel passes, `next` being the next block tick. -/
def Chip.chimeTick (c : Chip) (next last : Nat) : Nat := if next ≤ last then last + c.met.ticks.cb else next

/-- When the next decay step of channel `n` is due, if any; `next` is the next block tick. -/
def Chip.decayDue (c : Chip) (n next : Nat) : Option Nat :=
  let d := bits (c.rd (A.CHMn_ENV n)) 15 8
  if (c.chime n).on && d ≠ 0 then some (c.chimeTick next (c.chime n).volAt + (d - 1 - (c.chime n).blocks) * c.met.ticks.cb) else none

/-- When LENGTH of channel `n` reaches 0, if it does. -/
def Chip.lengthDue (c : Chip) (n next : Nat) : Option Nat :=
  let l := bits (c.rd (A.CHMn_ENV n)) 31 16
  if (c.chime n).on && l ≠ 0 then some (c.chimeTick next (c.chime n).lenAt + (l - 1) * c.met.ticks.cb) else none

/-- Every chime channel is keyed off (R568). -/
def Chip.chimesOff (c : Chip) : Chip :=
  (List.range 16).foldl (fun c n => if (c.chime n).on then c.setChime n { c.chime n with on := false } else c) c

/-- Some chime channel is keyed on (R193). -/
def Chip.anyChime (c : Chip) : Bool := (List.range 16).any (fun n => (c.chime n).on)

end Sys2Proof.Machine
end

