-- ==== Sys2Proof/Machine/Effects.lean ====
section
/-! DEFINITION. Machine/Effects.lean: the effect units (05_effects_and_audio_ports.md, R180 to R194). -/

namespace Sys2Proof.Machine

/-- A sample of a node: left and right; a mono node carries its value in both. -/
abbrev Pair := Int × Int

/-- Unit `u`'s signal state. -/
def Chip.unit (c : Chip) (u : Nat) : UnitRun := getS {} c.fx.units u

/-- Replace a unit's signal state. -/
def Chip.setUnit (c : Chip) (u : Nat) (x : UnitRun) : Chip := { c with fx := { c.fx with units := putS {} c.fx.units u x } }

/-- Parameter word `i` of unit `u`. -/
def Chip.unitP (c : Chip) (u i : Nat) : Word := c.rd (A.FXu_Pi u i)

/-! ### Parameter codes (R184) -/

/-- TIMEC: the one-pole coefficient in units of 2^-30. -/
def timeCoef (t hz : Nat) : Int := q230 (fx1 - expNeg (10000 * fx1 * fx1 / (hz * exp2Fx t 16)))

/-- A one-pole low-pass filter at FREQ, in units of 2^-30 (log entry 15). -/
def poleCoef (code hz : Nat) : Int := q230 (fx1 - expNeg (2 * piFx * cutoffFx code hz / (hz * fx1)))

/-- One step of a one-pole filter. -/
def onePole (a y x : Int) : Int := sat31 (y + openDiv (a * (x - y)) (2 ^ 30))

/-- MIX. -/
def mixOf (m : Nat) (dry wet : Int) : Int := sat31 (openDiv (dry * (255 - (m : Int)) + wet * m) 255)

/-- A signed Q1.15 field. -/
def q15 (w : Word) (hi lo : Nat) : Int := sgn 16 (bits w hi lo)

/-! ### Delay regions (R186, R187, log entry 16) -/

/-- The address of position `p` of a line that starts `off` bytes into the region and holds `len` samples. -/
def linePos (n : Node) (off len p : Nat) : Nat := 0x21000000 + n.delayBase + off + 4 * (p % len)

/-- A line's sample at absolute position `p`: 0 where it has not been written since the last clear (R183). -/
def Chip.lineAt (c : Chip) (n : Node) (x : UnitRun) (off len : Nat) (p : Int) : Int :=
  if (x.pos : Int) - x.age ≤ p && p < x.pos && 0 ≤ p then sgn 32 (c.memW (linePos n off len p.toNat)).toNat else 0

/-- Write a line's sample. -/
def Chip.lineWrite (c : Chip) (n : Node) (off len p : Nat) (v : Int) : Chip := c.setMemW (linePos n off len p) (wordI v)

/-- A sample of magnitude TH or above restarts the silence count of a line (R193). -/
def Chip.calmAfter (c : Chip) (calm : Nat) (v : Pair) : Nat :=
  let th := (c.rd A.FX_SILENCE_TH).toNat
  if th ≤ v.1.natAbs || th ≤ v.2.natAbs then 0 else calm + 1

/-! ### DELAY (R180, R185, R186) -/

/-- Ld of a DELAY node. -/
def lineLen (n : Node) : Nat := if n.stereo then n.delayBytes / 8 else n.delayBytes / 4

/-- A DELAY whose region holds no value in range. -/
def delayDead (n : Node) (b : Nat) (fb : Bool) : Bool := decide (lineLen n < 3) || (fb && decide (lineLen n < b + 2))

/-- TIME in use, Q17.8. -/
def delayTime (n : Node) (b : Nat) (fb : Bool) (p0 : Word) : Nat :=
  let t := bits p0 24 0
  max (256 * (if fb then b else 1)) (min (256 * (lineLen n - 2)) t)

/-- A DELAY with feedback edges writes the positions of the last block (R180). -/
def Chip.delayFeed (c : Chip) (n : Node) (x : UnitRun) (fbin : List Pair) : Chip × UnitRun :=
  let ld := lineLen n
  x.hold.zipIdx.foldl (fun (p : Chip × UnitRun) h =>
    let f := fbin.getD h.2 (0, 0)
    let v : Pair := (sat31 (h.1.1 + f.1), sat31 (h.1.2 + f.2))
    let c := p.1.lineWrite n 0 ld p.2.pos v.1
    let c := if n.stereo then c.lineWrite n (4 * ld) ld p.2.pos v.2 else c
    (c, { p.2 with pos := p.2.pos + 1, age := p.2.age + 1, calm := c.calmAfter p.2.calm v })) (c, { x with hold := [] })

/-- A block of a DELAY. -/
def Chip.delayBlock (c : Chip) (u : Nat) (n : Node) (fb : Bool) (fbin ins : List Pair) : List Pair × Chip × UnitRun :=
  let t := c.met.ticks
  if delayDead n t.b fb then (ins.map (fun _ => (0, 0)), c, c.unit u)
  else
    let ld := lineLen n
    let time := delayTime n t.b fb (c.unitP u 0)
    let w1 := c.unitP u 1
    let damp := bits w1 31 16
    let coef := poleCoef damp t.hz
    let gain := q15 w1 15 0
    let cross := n.stereo && (c.unitP u 2).getLsbD 0
    let (c, x) := c.delayFeed n (c.unit u) fbin
    let (out, c, x) := ins.zipIdx.foldl (fun (p : List Pair × Chip × UnitRun) i =>
      let (out, c, x) := p
      let here : Nat := if fb then x.pos + i.2 else x.pos
      let d := time / 256
      let f : Int := (time % 256 : Nat)
      let read := fun off =>
        let a := c.lineAt n x off ld ((here : Int) - d)
        let b := c.lineAt n x off ld ((here : Int) - d - 1)
        (a, b)
      let (la, lb) := read 0
      let (ra, rb) := if n.stereo then read (4 * ld) else (la, lb)
      let moved := x.time ≠ time && i.2 = 0
      let lb := if moved then x.last.1 else lb
      let rb := if moved then x.last.2 else rb
      let y : Pair := (sat31 (openDiv (la * (256 - f) + lb * f) 256), sat31 (openDiv (ra * (256 - f) + rb * f) 256))
      let l0 := if damp = 0 then y.1 else onePole coef (x.lp.getD 0 0) y.1
      let l1 := if damp = 0 then y.2 else onePole coef (x.lp.getD 1 0) y.2
      let (g0, g1) := if cross then (l1, l0) else (l0, l1)
      let v : Pair := (i.1.1 + openDiv (gain * g0) 32768, i.1.2 + openDiv (gain * g1) 32768)
      let x := { x with lp := [l0, l1], last := (la, ra), time := time }
      if fb then (out ++ [y], c, { x with hold := x.hold ++ [v] })
      else
        let v : Pair := (sat31 v.1, sat31 v.2)
        let c := c.lineWrite n 0 ld x.pos v.1
        let c := if n.stereo then c.lineWrite n (4 * ld) ld x.pos v.2 else c
        (out ++ [y], c, { x with pos := x.pos + 1, age := x.age + 1, calm := c.calmAfter x.calm v })) ([], c, x)
    (out, c, x)

/-! ### REVERB (R187, R188) -/

/-- Base lengths of the eight lines. -/
def reverbBase : List Nat := [1031, 1327, 1523, 1787, 1993, 2251, 2467, 2707]

/-- Line lengths for a SIZE at a rate. -/
def reverbLens (size fs extra : Nat) : List Nat := reverbBase.map (fun l => l * size * (if fs < 2 then 1 else 2) / 128 + extra)

/-- Bytes the region needs (R187). -/
def reverbBytes (n : Node) (size fs : Nat) : Nat :=
  let s := sumL (reverbLens size fs 0)
  if n.stereo then 4 * (2 * s + 136) else 4 * s

/-- SIZE in use: the largest that fits, none where 1 does not (R185). -/
def reverbSize (n : Node) (fs : Nat) (p0 : Word) : Option Nat :=
  let want := max 1 (bits p0 7 0)
  (List.range want).reverse.map (· + 1) |>.find? (fun s => decide (reverbBytes n s fs ≤ n.delayBytes))

/-- The gain of a line in units of 2^-30. -/
def reverbGain (decay len : Nat) : Int :=
  if decay = 0 then 0
  else q230 (exp2Fx (log2Fx ((decay : Int) * 2 ^ 44) * len / 1024) (2 ^ 60))

/-- One sample of one network: `offs` are the lines' offsets, `lps` their filter states. -/
def Chip.reverbNet (c : Chip) (n : Node) (x : UnitRun) (lens offs : List Nat) (gains : List Int) (damp : Nat) (coef : Int)
    (lps : List Int) (inp : Int) : Int × List Int × List Int × Chip :=
  let s := (lens.zip offs).map (fun p => c.lineAt n x p.2 p.1 ((x.pos : Int) - p.1))
  let f := (s.zip lps).map (fun p => if damp = 0 then p.1 else onePole coef p.2 p.1)
  let v := List.zipWith (· * ·) gains f
  let sum := v.foldl (· + ·) 0
  let ws := v.map (fun vj => sat31 (openDiv (inp * 2 ^ 31 + 4 * vj - sum) (2 ^ 32)))
  let y := (s.zipIdx.map (fun p => if p.2 % 2 = 0 then p.1 else -p.1)).foldl (· + ·) 0
  let c := ((lens.zip offs).zip ws).foldl (fun c p => c.lineWrite n p.1.2 p.1.1 x.pos p.2) c
  (openDiv y 4, f, ws, c)

/-- Offsets of lines that follow one another from `base`. -/
def offsetsFrom : Nat → List Nat → List Nat
  | _, [] => []
  | base, l :: ls => base :: offsetsFrom (base + 4 * l) ls

/-- A block of a REVERB. -/
def Chip.reverbBlock (c : Chip) (u : Nat) (n : Node) (ins : List Pair) : List Pair × Chip × UnitRun :=
  let t := c.met.ticks
  match reverbSize n t.fs (c.unitP u 0) with
  | none => (ins.map (fun _ => (0, 0)), c, c.unit u)
  | some size =>
    let decay := bits (c.unitP u 0) 31 16
    let damp := bits (c.unitP u 1) 15 0
    let coef := poleCoef damp t.hz
    let l0 := reverbLens size t.fs 0
    let l1 := reverbLens size t.fs 17
    let o0 := offsetsFrom 0 l0
    let o1 := offsetsFrom (4 * sumL l0) l1
    let g0 := l0.map (reverbGain decay)
    let g1 := l1.map (reverbGain decay)
    ins.foldl (fun (p : List Pair × Chip × UnitRun) i =>
      let (out, c, x) := p
      let lp := if x.lp.length = 16 then x.lp else List.replicate 16 0
      let (y0, f0, w0, c) := c.reverbNet n x l0 o0 g0 damp coef (lp.take 8) i.1
      let (y1, f1, w1, c) := if n.stereo then c.reverbNet n x l1 o1 g1 damp coef (lp.drop 8) i.2
        else (y0, List.replicate 8 0, [], c)
      let loud := (w0 ++ w1).foldl (fun k v => if (c.rd A.FX_SILENCE_TH).toNat ≤ v.natAbs then 0 else k) (x.calm + 1)
      (out ++ [(y0, y1)], c, { x with pos := x.pos + 1, age := x.age + 1, lp := f0 ++ f1, calm := loud })) ([], c, c.unit u)

/-! ### CHORUS, FLANGER and PHASER (R189) -/

/-- Samples in the local buffer. -/
def bufLen : Nat := 4096

/-- Read the buffer at a delay in units of 2^-32 sample, with linear interpolation. -/
def bufRead (buf : List Pair) (right : Bool) (d : Nat) : Int :=
  let at' := fun i => let p := buf.getD i (0, 0); if right then p.2 else p.1
  let f : Int := (d % 2 ^ 32 : Nat)
  sat31 (openDiv (at' (d / 2 ^ 32) * (2 ^ 32 - f) + at' (d / 2 ^ 32 + 1) * f) (2 ^ 32))

/-- A delay limited to the buffer, in units of 2^-32 sample. -/
def bufDelay (lo : Nat) (d : Int) : Nat := (clampI (lo * 2 ^ 32) (4094 * 2 ^ 32) (d / 2 ^ 28)).toNat

/-- A block of a CHORUS. -/
def Chip.chorusBlock (c : Chip) (u : Nat) (n : Node) (ins : List Pair) : List Pair × UnitRun :=
  let hz := c.met.ticks.hz
  let w := c.unitP u 0
  let base : Int := (min 160 (bits w 23 16) : Nat)
  let depth : Int := (bits w 15 8 : Nat)
  let inc := lfoInc (bits w 7 0) hz
  ins.foldl (fun (p : List Pair × UnitRun) i =>
    let x := p.2
    let buf := (i :: x.buf).take bufLen
    let tap := fun (right : Bool) (k : Int) =>
      let ph : Int := 6 * (x.phase : Int) + 2 ^ 32 * (2 * k + (if right && n.stereo then 1 else 0))
      bufRead buf right (bufDelay 0 ((base * 8 * fx1 + depth * sinTurn ph (6 * 2 ^ 32)) * hz / 32000))
    let wet := fun right => openDiv (tap right 0 + tap right 1 + tap right 2) 3
    let y : Pair := (mixOf (bits w 31 24) i.1 (wet false), mixOf (bits w 31 24) i.2 (wet true))
    (p.1 ++ [y], { x with buf := buf, phase := (x.phase + inc) % 2 ^ 32 })) ([], c.unit u)

/-- A block of a FLANGER. -/
def Chip.flangerBlock (c : Chip) (u : Nat) (ins : List Pair) : List Pair × UnitRun :=
  let hz := c.met.ticks.hz
  let w := c.unitP u 0
  let fbk := q15 (c.unitP u 1) 15 0
  let inc := lfoInc (bits w 7 0) hz
  ins.foldl (fun (p : List Pair × UnitRun) i =>
    let x := p.2
    let tri := lfoOut 1 x.phase 0
    let d := bufDelay 1 (((bits w 23 16 : Nat) * fx1 + (bits w 15 8 : Nat) * tri) * hz / 64000) - 2 ^ 32
    let t : Pair := (bufRead x.buf false d, bufRead x.buf true d)
    let v : Pair := (sat31 (i.1 + openDiv (fbk * t.1) 32768), sat31 (i.2 + openDiv (fbk * t.2) 32768))
    let y : Pair := (mixOf (bits w 31 24) i.1 t.1, mixOf (bits w 31 24) i.2 t.2)
    (p.1 ++ [y], { x with buf := (v :: x.buf).take bufLen, phase := (x.phase + inc) % 2 ^ 32 })) ([], c.unit u)

/-- All-pass stages of a PHASER on one channel: `a` in units of 2^-30, states (last input, last output). -/
def allPass (a : Int) (ch : Nat) : Nat → Nat → List (Int × Int) → Int → Int × List (Int × Int)
  | 0, _, st, v => (v, st)
  | k + 1, s, st, v =>
    let (x1, y1) := st.getD (2 * s + ch) (0, 0)
    let y := sat31 (x1 + openDiv (a * (v - y1)) (2 ^ 30))
    allPass a ch k (s + 1) (st.set (2 * s + ch) (v, y)) y

/-- A block of a PHASER. -/
def Chip.phaserBlock (c : Chip) (u : Nat) (ins : List Pair) : List Pair × UnitRun :=
  let hz := c.met.ticks.hz
  let w := c.unitP u 0
  let w1 := c.unitP u 1
  let stages := [4, 6, 8, 12].getD (bits w 17 16) 4
  let fbk := q15 w1 31 16
  let inc := lfoInc (bits w 7 0) hz
  ins.foldl (fun (p : List Pair × UnitRun) i =>
    let x := p.2
    let st := if x.st.length = 24 then x.st else List.replicate 24 (0, 0)
    let code := clampI 0 65535 ((bits w1 15 0 : Nat) + floorDiv ((bits w 15 8 : Nat) * 256 * lfoOut 0 x.phase 0) (2 ^ 60))
    let g := tanFx (cutoffFx code hz) hz
    let a := nearDiv ((g - fx1) * 2 ^ 30) (fx1 + g).toNat
    let v0 := sat31 (i.1 + openDiv (fbk * x.lp.getD 0 0) 32768)
    let v1 := sat31 (i.2 + openDiv (fbk * x.lp.getD 1 0) 32768)
    let (y0, st) := allPass a 0 stages 0 st v0
    let (y1, st) := allPass a 1 stages 0 st v1
    let y : Pair := (mixOf (bits w 31 24) i.1 y0, mixOf (bits w 31 24) i.2 y1)
    (p.1 ++ [y], { x with st := st, lp := [y0, y1], phase := (x.phase + inc) % 2 ^ 32 })) ([], c.unit u)

/-! ### EQ6 (R190) -/

/-- GAIN of a band in half decibels, limited to 18 dB (R185). -/
def eqGain (w : Word) : Int := clampI (-36) 36 (sgn 7 (bits w 28 22))

/-- Product and quotient in the fixed point of Numeric.lean. -/
def fm (a b : Int) : Int := a * b / fx1
def fd (a b : Int) : Int := a * fx1 / b

/-- b0, b1, b2, a1, a2 of a band in units of 2^-30; none where it is off. -/
def biquad (w : Word) (hz : Nat) : Option (List Int) :=
  let ty := bits w 31 29
  let fc := cutoffFx (bits w 15 0) hz
  let turn := fc / 2 ^ 20
  let cs := cosTurn turn (hz * 2 ^ 40)
  let sn := sinTurn turn (hz * 2 ^ 40)
  let q := exp2Fx (bits w 21 16 : Nat) 8 / 4
  let al := fd sn (2 * q)
  let A := exp2Fx (eqGain w * log210Fx) (80 * 2 ^ 60)
  let root := exp2Fx (eqGain w * log210Fx) (160 * 2 ^ 60)
  let norm := fun (b0 b1 b2 a0 a1 a2 : Int) => some ([b0, b1, b2, a1, a2].map (fun x => q230 (fd x a0)))
  let shelf := fun (sg : Int) =>
    let m := sg * (A - fx1)
    let p := A + fx1
    let r := 2 * fm root al
    norm (fm A (p - fm m cs + r)) (sg * 2 * fm A (A - fx1 - sg * fm p cs)) (fm A (p - fm m cs - r))
      (p + fm m cs + r) (-(sg * 2 * (A - fx1 + sg * fm p cs))) (p + fm m cs - r)
  match ty with
  | 1 => norm (fx1 + fm al A) (-2 * cs) (fx1 - fm al A) (fx1 + fd al A) (-2 * cs) (fx1 - fd al A)
  | 2 => shelf 1
  | 3 => shelf (-1)
  | 4 => norm ((fx1 - cs) / 2) (fx1 - cs) ((fx1 - cs) / 2) (fx1 + al) (-2 * cs) (fx1 - al)
  | 5 => norm ((fx1 + cs) / 2) (-(fx1 + cs)) ((fx1 + cs) / 2) (fx1 + al) (-2 * cs) (fx1 - al)
  | _ => none

/-- Clamp to a 40-bit state. -/
def sat40 (x : Int) : Int := clampI (-(2 ^ 39)) (2 ^ 39 - 1) x

/-- One band on one sample in transposed direct form II (log entry 15). -/
def biquadStep (k : List Int) (s : Int × Int) (x : Int) : Int × (Int × Int) :=
  let g := fun i => k.getD i 0
  let y := sat40 (openDiv (g 0 * x) (2 ^ 30) + s.1)
  (y, (sat40 (openDiv (g 1 * x - g 3 * y) (2 ^ 30) + s.2), sat40 (openDiv (g 2 * x - g 4 * y) (2 ^ 30))))

/-- Every band in series on one channel. -/
def eqBands (ch : Nat) : List (Option (List Int)) → Nat → List (Int × Int) → Int → Int × List (Int × Int)
  | [], _, st, x => (x, st)
  | none :: bs, i, st, x => eqBands ch bs (i + 1) st x
  | some k :: bs, i, st, x =>
    let (y, s) := biquadStep k (st.getD (2 * i + ch) (0, 0)) x
    eqBands ch bs (i + 1) (st.set (2 * i + ch) s) y

/-- A block of an EQ6. -/
def Chip.eqBlock (c : Chip) (u : Nat) (ins : List Pair) : List Pair × UnitRun :=
  let hz := c.met.ticks.hz
  let bands := (List.range 6).map (fun i => biquad (c.unitP u i) hz)
  let og : Int := (bits (c.unitP u 6) 15 0 : Nat)
  ins.foldl (fun (p : List Pair × UnitRun) i =>
    let x := p.2
    let st := if x.st.length = 12 then x.st else List.replicate 12 (0, 0)
    let (y0, st) := eqBands 0 bands 0 st i.1
    let (y1, st) := eqBands 1 bands 0 st i.2
    let y : Pair := (openDiv (y0 * og) 16384, openDiv (y1 * og) 16384)
    (p.1 ++ [y], { x with st := st })) ([], c.unit u)

/-! ### COMP, LIMIT and GATE (R191) -/

/-- The larger magnitude of a unit's channels. -/
def loudest (i : Pair) : Int := (max i.1.natAbs i.2.natAbs : Nat)

/-- A level in dB relative to full scale; −400 dB stands for silence. -/
def levelDb (x : Int) : Int := if x ≤ 0 then -400 * fx1 else dbOf (x * 2 ^ 29)

/-- The reduction of a compressor (R191). -/
def compCurve (excess : Int) (knee ratio : Nat) : Int :=
  let k : Int := (knee : Int) * fx1 / 2
  let slope : Int := -(ratio : Int)
  let den : Int := 16 + ratio
  if k < 2 * excess then slope * excess / den
  else if 2 * excess.natAbs ≤ k ∧ 0 < k then slope * fd (fm (excess + k / 2) (excess + k / 2)) (2 * k) / den
  else 0

/-- Move a value toward a target with a one-pole coefficient in units of 2^-30. -/
def toward (a y x : Int) : Int := y + a * (x - y) / 2 ^ 30

/-- A sample times a gain in the fixed point of Numeric.lean. -/
def gained (g : Int) (i : Pair) : Pair := (openDiv (i.1 * g) (2 ^ 60), openDiv (i.2 * g) (2 ^ 60))

/-- A block of a COMP. -/
def Chip.compBlock (c : Chip) (u : Nat) (ins : List Pair) : List Pair × UnitRun :=
  let hz := c.met.ticks.hz
  let w := c.unitP u 0
  let w1 := c.unitP u 1
  let att := timeCoef (bits w 23 16) hz
  let rel := timeCoef (bits w 31 24) hz
  let makeup : Int := (min 96 (bits w1 15 8) : Nat) * fx1 / 2
  ins.foldl (fun (p : List Pair × UnitRun) i =>
    let x := p.2
    let m := loudest i
    let ms := toward att (x.det.getD 0 0) (m * m / 4)
    let level := if w1.getLsbD 16 then (if ms ≤ 0 then -400 * fx1 else dbOf ms / 2) else levelDb m
    let d := compCurve (level + (bits w 7 0 : Nat) * fx1 / 2) (bits w1 7 0) (bits w 15 8)
    let d0 := x.det.getD 1 0
    let dn := toward (if d < d0 then att else rel) d0 d
    (p.1 ++ [gained (dbGain (dn + makeup)) i], { x with det := [ms, dn] })) ([], c.unit u)

/-- A block of a LIMIT. -/
def Chip.limitBlock (c : Chip) (u : Nat) (ins : List Pair) : List Pair × UnitRun :=
  let hz := c.met.ticks.hz
  let w := c.unitP u 0
  let rel := timeCoef (bits w 31 24) hz
  let ceil := dbGain (-((bits w 7 0 : Nat) * fx1 / 2)) / 2 ^ 29
  ins.foldl (fun (p : List Pair × UnitRun) i =>
    let x := p.2
    let m := loudest i
    let need := if m ≤ ceil then 0 else fx1 - ceil * fx1 / m
    let r0 := x.det.getD 0 0
    let r := if r0 < need then need else max need (toward rel r0 need)
    (p.1 ++ [gained (fx1 - r) i], { x with det := [r] })) ([], c.unit u)

/-- A block of a GATE. -/
def Chip.gateBlock (c : Chip) (u : Nat) (ins : List Pair) : List Pair × UnitRun :=
  let hz := c.met.ticks.hz
  let w := c.unitP u 0
  let w1 := c.unitP u 1
  let att := timeCoef (bits w 23 16) hz
  let rel := timeCoef (bits w 31 24) hz
  let open' : Int := -((bits w 7 0 : Nat) * fx1 / 2)
  let close : Int := open' - (bits w 15 8 : Nat) * fx1 / 2
  let floor := if bits w1 15 8 = 255 then 0 else dbGain (-((bits w1 15 8 : Nat) * fx1))
  let hold := bits w1 7 0 * hz / 1000
  ins.foldl (fun (p : List Pair × UnitRun) i =>
    let x := p.2
    let lev := levelDb (loudest i)
    let below := if lev < close then x.held + 1 else 0
    let op := if open' ≤ lev then true else if x.isOpen then decide (below ≤ hold) && (lev ≥ close || below ≤ hold) else false
    let o := toward (if op then att else rel) (x.det.getD 0 0) (if op then fx1 else 0)
    (p.1 ++ [gained (floor + fm (fx1 - floor) o) i], { x with det := [o], isOpen := op, held := below })) ([], c.unit u)

/-! ### SHAPER (R192) -/

/-- The shaped value of u = v / 2^43, over 2^130. -/
def shaped (kind : Nat) (v : Int) : Int :=
  let one : Int := 2 ^ 43
  if kind = 1 then
    if v.natAbs < 2 ^ 43 then 3 * v * 2 ^ 86 - v * v * v
    else (if 0 ≤ v then 2 else -2) * 2 ^ 129
  else if kind = 2 then
    let m := (v + one) % (4 * one) - 2 * one
    (one - (m.natAbs : Int)) * 2 ^ 87
  else clampI (-one) one v * 2 ^ 87

/-- A block of a SHAPER. -/
def Chip.shaperBlock (c : Chip) (u : Nat) (ins : List Pair) : List Pair × UnitRun :=
  let w := c.unitP u 0
  let w1 := c.unitP u 1
  let m : Int := (bits w 31 24 : Nat)
  let out : Int := (bits w1 31 16 : Nat)
  let one := fun (x : Int) =>
    let s := shaped (bits w 17 16) (x * (bits w 15 0 : Nat) + q15 w1 15 0 * 2 ^ 28)
    openDiv (out * (x * (255 - m) * 2 ^ 99 + s * m)) (255 * 2 ^ 113)
  (ins.map (fun i => (one i.1, one i.2)), c.unit u)

/-! ### One unit, one block (R183) -/

/-- A block of a unit: `fb` says whether it is the destination of a feedback edge. -/
def Chip.unitBlock (c : Chip) (n : Node) (fb : Bool) (fbin ins : List Pair) : List Pair × Chip :=
  let u := n.index
  let (out, c, x) :=
    match n.kind with
    | 1 => c.delayBlock u n fb fbin ins
    | 2 => c.reverbBlock u n ins
    | 3 => let (o, x) := c.chorusBlock u n ins; (o, c, x)
    | 4 => let (o, x) := c.flangerBlock u ins; (o, c, x)
    | 5 => let (o, x) := c.phaserBlock u ins; (o, c, x)
    | 6 => let (o, x) := c.eqBlock u ins; (o, c, x)
    | 7 => let (o, x) := c.compBlock u ins; (o, c, x)
    | 8 => let (o, x) := c.limitBlock u ins; (o, c, x)
    | 9 => let (o, x) := c.gateBlock u ins; (o, c, x)
    | _ => let (o, x) := c.shaperBlock u ins; (o, c, x)
  let c := c.setUnit u x
  let out := if (c.rd (A.FXu_CTL u)).getLsbD 0 then ins else out
  let sat := out.any (fun o => o.1 ≠ sat31 o.1 || o.2 ≠ sat31 o.2)
  let out := out.map (fun o => (sat31 o.1, sat31 o.2))
  let c := if sat then (c.setBit (A.FXu_STAT u) 0).setBit A.FX_STAT 0 else c
  let top := (out.map (fun o => max o.1.natAbs o.2.natAbs)).foldl max 0
  (out, c.peak (A.FXu_METER u) (min top (2 ^ 31 - 1)))

/-- The positions of a block that the fabric did not complete read 0 until they are written again (R617). -/
def Chip.zeroBlock (c : Chip) (u : Nat) (n : Node) (lines : List (Nat × Nat)) (x : UnitRun) : Chip :=
  let b := c.met.ticks.b
  let c := lines.foldl (fun c l => (List.range b).foldl (fun c i => c.lineWrite n l.2 l.1 (x.pos + i) 0) c) c
  c.setUnit u { x with pos := x.pos + b, age := x.age + b, calm := x.calm + b }

/-- A unit with a region has not completed the block: it keeps its state, and the line of the block reads 0 (R617). -/
def Chip.unitLost (c : Chip) (n : Node) (fb : Bool) (fbin : List Pair) : Chip :=
  let u := n.index
  let t := c.met.ticks
  if n.kind = 1 then
    let ld := lineLen n
    if delayDead n t.b fb then c
    else
      let (c, x) := if fb then c.delayFeed n (c.unit u) fbin else (c, c.unit u)
      c.zeroBlock u n ((ld, 0) :: (if n.stereo then [(ld, 4 * ld)] else [])) x
  else
    match reverbSize n t.fs (c.unitP u 0) with
    | none => c
    | some size =>
      let l0 := reverbLens size t.fs 0
      let l1 := reverbLens size t.fs 17
      let r := if n.stereo then l1.zip (offsetsFrom (4 * sumL l0) l1) else []
      c.zeroBlock u n (l0.zip (offsetsFrom 0 l0) ++ r) (c.unit u)

/-! ### Application of a unit's group (R182, R183, R185) -/

/-- The reset words of a unit's parameters under its kind. -/
def unitReset (kind i : Nat) : Word :=
  if kind = 5 && i = 1 then 0x8000
  else if kind = 6 && i = 6 then 0x4000
  else if kind = 10 && i = 0 then 0x1000
  else if kind = 10 && i = 1 then 0x40000000
  else 0

/-- Is a parameter of the unit's set limited (R185). -/
def Chip.unitClamps (c : Chip) (n : Node) (fb : Bool) : Bool :=
  let u := n.index
  let b := c.met.ticks.b
  let w := c.unitP u 0
  let lim := cutoffFx 65535 c.met.ticks.hz
  let freq := fun code => decide (lim ≤ 81758 * exp2Fx (code : Nat) 4096 / 10000) && decide (45 * c.met.ticks.hz * fx1 / 100 < 81758 * exp2Fx (code : Nat) 4096 / 10000)
  match n.kind with
  | 1 => delayDead n b fb || delayTime n b fb w ≠ bits w 24 0 || freq (bits (c.unitP u 1) 31 16)
  | 2 => reverbSize n c.met.ticks.fs w ≠ some (bits w 7 0) || freq (bits (c.unitP u 1) 15 0)
  | 3 => decide (160 < bits w 23 16) ||
      decide (4094 * 32000 < ((min 160 (bits w 23 16)) * 8 + bits w 15 8) * c.met.ticks.hz)
  | 5 => freq (bits (c.unitP u 1) 15 0)
  | 6 => (List.range 6).any (fun i =>
      let p := c.unitP u i
      decide (1 ≤ bits p 31 29 ∧ bits p 31 29 ≤ 5) && (eqGain p ≠ sgn 7 (bits p 28 22) || freq (bits p 15 0)))
  | 7 => decide (96 < bits (c.unitP u 1) 15 8)
  | _ => false

/-- A unit's signal state is cleared. -/
def Chip.clearUnit (c : Chip) (u : Nat) : Chip := c.setUnit u {}

/-- The set of unit `u` has applied: limits are recorded and CLEAR acts once (R88, R183, R185). -/
def Chip.unitApplied (c : Chip) (n : Option Node) (fb : Bool) (u : Nat) : Chip :=
  let c := if c.bit (A.FXu_CTL u) 1 then
      let c := (c.clearUnit u).clrBit (A.FXu_CTL u) 1
      { c with staging := putS (regReset (A.FXu_CTL u) &&& rwaMask (A.FXu_CTL u)) c.staging (A.FXu_CTL u)
                            (c.staged (A.FXu_CTL u) &&& ~~~ 2) }
    else c
  match n with
  | none => c
  | some n => if c.unitClamps n fb then (c.setBit (A.FXu_STAT u) 1).setBit A.FX_STAT 1 else c

end Sys2Proof.Machine
end

