-- ==== Sys2Proof/Machine/Graph.lean ====
section
/-! DEFINITION. Machine/Graph.lean: the mix graph: the computation of the effect fabric's output block, its output
ramps, silence detection and what a change of structure does to units and voices (02_charter.md, R81 to R83, R89;
05_effects_and_audio_ports.md, R175 to R182, R193). -/

namespace Sys2Proof.Machine

/-! ### The graph that is computed (R81) -/

/-- A node of the graph being computed: of the new structure, or of the old one in a crossfade. -/
structure GNode where
  node : Node
  old : Bool

/-- An edge of the graph being computed; `side` 0 unweighted, 1 weighted by 1 − g, 2 weighted by g. -/
structure GEdge where
  src : Nat
  dst : Nat
  gain : Int
  fb : Bool
  side : Nat

/-- The graph of the live structure, joined with the old one's in a crossfade: old nodes follow the new ones, and a
shared unit stands once, as the new structure's node. -/
def joinGraphs (new old : Option Charter) : List GNode × List GEdge :=
  let ns := (new.map (·.nodes)).getD []
  let es := (new.map (·.edges)).getD []
  match old with
  | none => (ns.map (fun n => { node := n, old := false }),
      es.map (fun x => { src := x.src, dst := x.dst, gain := sgn 16 x.gain.toNat, fb := x.fb, side := 0 }))
  | some o =>
    let k := ns.length
    let shared := fun (n : Node) => n.type = 3 && ns.any (fun m => m.type = 3 && m.index = n.index)
    let place := fun i =>
      let n := o.nodes.getD i nodeNone
      if shared n then (ns.findIdx? (fun m => m.type = 3 && m.index = n.index)).getD (k + i) else k + i
    let isShared := fun i => let n := ns.getD i nodeNone; n.type = 3 && o.nodes.any (fun m => m.type = 3 && m.index = n.index)
    (ns.map (fun n => { node := n, old := false }) ++ o.nodes.map (fun n => { node := n, old := true }),
     es.map (fun x => { src := x.src, dst := x.dst, gain := sgn 16 x.gain.toNat, fb := x.fb,
                        side := if isShared x.dst then 2 else 0 })
       ++ o.edges.map (fun x => { src := place x.src, dst := place x.dst, gain := sgn 16 x.gain.toNat, fb := x.fb,
                                   side := if shared (o.nodes.getD x.dst nodeNone) then 1 else 0 }))

/-- Which nodes of the joined graph are computed: not the old structure's copies of shared units. -/
def liveNode (ns : List GNode) (i : Nat) : Bool :=
  match ns[i]? with
  | none => false
  | some g => !(g.old && g.node.type = 3 && ns.any (fun m => !m.old && m.node.type = 3 && m.node.index = g.node.index))

/-- The key under which a node's outputs are kept for the next block: a unit by its INDEX, another node by its number,
from 512 up in the old structure. -/
def nodeKey (k : Nat) (g : GNode) (i : Nat) : Nat :=
  if g.node.type = 3 then 1024 + g.node.index else if g.old then 512 + (i - k) else i

/-- Nodes of the new structure in a joined graph. -/
def newNodes (ns : List GNode) : Nat := (ns.filter (fun g => !g.old)).length

/-- The outputs of the last block by node of the joined graph. -/
def prevOuts (ns : List GNode) (m : SMap (List Pair)) : SMap (List Pair) :=
  ns.zipIdx.foldl (fun (acc : SMap (List Pair)) p => putS [] acc p.2 (getS [] m (nodeKey (newNodes ns) p.1 p.2))) []

/-- What is kept of a block's outputs. -/
def keepOuts (ns : List GNode) (outs : SMap (List Pair)) : SMap (List Pair) :=
  ns.zipIdx.foldl (fun (acc : SMap (List Pair)) p =>
    if liveNode ns p.2 then putS [] acc (nodeKey (newNodes ns) p.1 p.2) (getS [] outs p.2) else acc) []

/-! ### Node values -/

/-- What an edge delivers at a sample: its source's output times GAIN, rounded to nearest (R175, R176). -/
def edgeValue (srcStereo dstStereo : Bool) (gain : Int) (v : Pair) : Pair :=
  if srcStereo && !dstStereo then
    let y := nearOpen ((v.1 + v.2) * gain) (2 ^ 15)
    (y, y)
  else (nearOpen (v.1 * gain) (2 ^ 14), nearOpen (v.2 * gain) (2 ^ 14))

/-- The weight of an edge of a crossfade at sample `m` of it, of `n` samples (R81). -/
def sideValue (side : Nat) (m : Int) (n : Nat) (v : Pair) : Pair :=
  let g := clampI 0 n (m + 1)
  let w : Int := if side = 1 then n - g else g
  if side = 0 || n = 0 then v else (openDiv (v.1 * w) n, openDiv (v.2 * w) n)

/-- The sum of a node's inputs over a list of edges; `outs` holds the outputs of the nodes. -/
def sumInputs (ns : List GNode) (outs : SMap (List Pair)) (es : List GEdge) (dst b : Nat) (xm : Int) (xn : Nat) : List Pair :=
  let stereo := fun i => ((ns[i]?).map (·.node.stereo)).getD false
  (List.range b).map (fun m =>
    es.foldl (fun (acc : Pair) e =>
      let v := edgeValue (stereo e.src) (stereo dst) e.gain ((getS [] outs e.src).getD m (0, 0))
      let v := sideValue e.side (xm + m) xn v
      (acc.1 + v.1, acc.2 + v.2)) (0, 0))

/-- A SEND node's sums: the voices' sums and the chime sum (R150, R172). -/
def Chip.sendNode (c : Chip) (n : Node) (old : Bool) : List Pair :=
  let b := c.met.ticks.b
  let s := getS [] (if old then c.stk.oldSends else c.stk.sends) n.index
  let chime := if c.fld A.STK_CHIME_CFG 1 0 = n.index then c.stk.chimeSum else []
  (List.range b).map (fun m =>
    let v := s.getD m (0, 0, 0)
    let k := chime.getD m 0
    if n.stereo then (v.1 + k, v.2.1 + k) else (v.2.2 + k, v.2.2 + k))

/-- An input channel's sample of the interval consumed (R177, R179). -/
def Chip.inSample (c : Chip) (ch m : Nat) : Int := getS 0 (getS [] c.aud.inDone ch) m

/-- An IN node's output. -/
def Chip.inNode (c : Chip) (n : Node) : List Pair :=
  (List.range c.met.ticks.b).map (fun m =>
    let l := c.inSample n.index m
    (l, if n.stereo then c.inSample (n.index + 1) m else l))

/-- Saturate a node's sums, recording it (R175). -/
def Chip.satNode (c : Chip) (out : List Pair) : List Pair × Chip :=
  let bad := out.any (fun o => o.1 ≠ sat31 o.1 || o.2 ≠ sat31 o.2)
  (out.map (fun o => (sat31 o.1, sat31 o.2)), if bad then c.setBit A.FX_STAT 0 else c)

/-- What the computation of a block has reached: the outputs by node, and the chip. -/
structure GRun where
  outs : SMap (List Pair)
  chip : Chip

/-- Compute node `i`: all its inputs are there. -/
def GRun.node (r : GRun) (ns : List GNode) (es : List GEdge) (i xm xn : Nat) : GRun :=
  match ns[i]? with
  | none => r
  | some g =>
    let c := r.chip
    let b := c.met.ticks.b
    let n := g.node
    let mine := es.filter (fun e => e.dst = i)
    let fwd := sumInputs ns r.outs (mine.filter (fun e => !e.fb)) i b xm xn
    let (out, c) :=
      match n.type with
      | 1 => c.satNode (c.sendNode n g.old)
      | 5 => (c.inNode n, c)
      | 3 =>
        let back := mine.filter (fun e => e.fb)
        let fbin := sumInputs ns (prevOuts ns c.fx.prev) back i b ((xm : Int) - b) xn
        let (ins, c) := c.satNode fwd
        c.unitBlock n (!back.isEmpty) fbin ins
      | _ => c.satNode fwd
    { outs := putS [] r.outs i out, chip := c }

/-- Rounds over the nodes: one whose inputs are all there is computed (R175, R179). -/
def GRun.rounds (ns : List GNode) (es : List GEdge) (xm xn : Nat) : Nat → List Nat → GRun → GRun
  | 0, _, r => r
  | fuel + 1, todo, r =>
    let ready := fun i => es.all (fun e => !(e.dst = i && !e.fb) || !todo.contains e.src)
    let now := todo.filter ready
    let r := now.foldl (fun r i => r.node ns es i xm xn) r
    GRun.rounds ns es xm xn fuel (todo.filter (fun i => !ready i)) r

/-! ### Output ramps -/

/-- A multiplier of the outputs over samples: num / den at sample m of the block. -/
def scaleOut (den : Nat) (num : Nat → Int) (l : List Int) : List Int := l.zipIdx.map (fun p => openDiv (p.1 * num p.2) den)

/-- OUT channels of the nodes of one structure (R177). -/
def outChannels (ns : List GNode) (outs : SMap (List Pair)) (old : Bool) : SMap (List Int) :=
  ns.zipIdx.foldl (fun (m : SMap (List Int)) p =>
    let g := p.1
    if g.node.type = 4 && g.old = old then
      let v := getS [] outs p.2
      let m := putS [] m g.node.index (v.map (·.1))
      if g.node.stereo then putS [] m (g.node.index + 1) (v.map (·.2)) else m
    else m) []

/-- The crossfade of R81 over the OUT channels: sample `xm` on, of `xn`. -/
def crossOut (b xm xn : Nat) (new old : SMap (List Int)) : SMap (List Int) :=
  (List.range 32).foldl (fun m ch =>
    let a := getS [] old ch
    let n := getS [] new ch
    if a.isEmpty && n.isEmpty then m
    else putS [] m ch ((List.range b).map (fun i =>
      openDiv (a.getD i 0 * ((xn - (xm + i + 1) : Nat) : Int) + n.getD i 0 * ((xm + i + 1 : Nat) : Int)) xn))) []

/-- Apply a multiplier to every OUT channel. -/
def scaleAll (den : Nat) (num : Nat → Int) (m : SMap (List Int)) : SMap (List Int) :=
  m.foldl (fun acc p => putS [] acc p.1 (scaleOut den num p.2)) []

/-! ### Silence (R193) -/

/-- TH of R193. -/
def silenceTh (db : Nat) : Nat := (dbGain (-((db : Int) * fx1)) * 2 ^ 31 / 2 ^ 60).toNat

/-- Samples for which a unit's line must have stayed below TH. -/
def lineSpan (fs : Nat) (n : Node) (p0 : Word) : Nat :=
  if n.kind = 1 then lineLen n
  else ((reverbSize n fs p0).map (fun s => maxL (reverbLens s fs (if n.stereo then 17 else 0)))).getD 0

/-- Every DELAY and REVERB has been quiet for its whole line. -/
def Chip.linesQuiet (c : Chip) (ns : List GNode) : Bool :=
  ns.all (fun g => !(g.node.hasRegion) ||
    (let x := c.unit g.node.index
     decide (min x.age (lineSpan c.met.ticks.fs g.node (c.unitP g.node.index 0)) ≤ x.calm)))

/-- The block just computed is judged quiet or not (R193). -/
def Chip.judgeSilence (c : Chip) (ns : List GNode) (outs : SMap (List Pair)) : Chip :=
  let th := (c.rd A.FX_SILENCE_TH).toNat
  let small := fun (i : Nat) => (getS [] outs i).all (fun v => decide (v.1.natAbs < th) && decide (v.2.natAbs < th))
  let nodes := ns.zipIdx.all (fun p => !(p.1.node.type = 3 || p.1.node.type = 4 || p.1.node.type = 5) || small p.2)
  let voices := c.stk.v.all (fun p => p.2.st = .idle)
  let quiet := if voices && !c.anyChime && nodes && c.linesQuiet ns then min 0xFFFF (c.fld A.FX_SILENCE 15 0 + 1) else 0
  c.wr A.FX_SILENCE (word ((if 8 ≤ quiet then 2 ^ 31 else 0) + quiet))

/-! ### One block of the fabric -/

/-- Where a crossfade stands for the block whose tick is at `t`: its first sample in the crossfade and the length. -/
def Chip.fadePlace (c : Chip) (t : Nat) : Nat × Nat :=
  match c.ldr.old, c.ldr.plan with
  | some _, some p => ((t - p.atAbs) / c.met.ticks.cs, p.x * c.met.ticks.b)
  | _, _ => (0, 0)

/-- The output channels of the block whose tick is at `t`, before the ramps that follow a request or a fault; `late`
says that the fabric did not finish (R617). -/
def Chip.fabricBlock (c : Chip) (t : Nat) (late : Bool) : Chip :=
  let b := c.met.ticks.b
  let (xm, xn) := c.fadePlace t
  let (ns, es) := joinGraphs c.ldr.live c.ldr.old
  let todo := (List.range ns.length).filter (liveNode ns)
  if late then
    let c := todo.foldl (fun c i =>
      match ns[i]? with
      | none => c
      | some g =>
        if !g.node.hasRegion then c
        else
          let back := es.filter (fun e => e.dst = i && e.fb)
          c.unitLost g.node (!back.isEmpty) (sumInputs ns (prevOuts ns c.fx.prev) back i b ((xm : Int) - b) xn)) c
    let out := (List.range 32).foldl (fun (m : SMap (List Int)) ch =>
      let y := getS 0 c.fx.lastOut ch
      putS [] m ch (if y = 0 then [] else (List.range b).map (fun i => openDiv (y * ((b - 1 - i : Nat) : Int)) b))) []
    { c with aud := { c.aud with out := out }, fx := { c.fx with fade := true } }
  else
    let r := GRun.rounds ns es xm xn (ns.length + 1) todo { outs := [], chip := c }
    let c := r.chip
    let new := outChannels ns r.outs false
    let out := if xn = 0 then new else crossOut b xm xn new (outChannels ns r.outs true)
    let out := if c.fx.fade then scaleAll b (fun m => (m + 1 : Nat)) out else out
    let prev := keepOuts ns r.outs
    let bus := ns.zipIdx.foldl (fun (m : SMap (List Pair)) p =>
      if p.1.node.type = 2 && !p.1.old then putS [] m p.1.node.index (getS [] r.outs p.2) else m) []
    let last := out.foldl (fun (m : SMap Int) p => putS 0 m p.1 (p.2.getLast?.getD 0)) []
    let c := { c with
      aud := { c.aud with out := out }
      fx := { c.fx with prev := prev, bus := bus, fade := false, lastOut := last } }
    c.judgeSilence ns r.outs

/-- Latest finish of the effect fabric: R70 bounds it and the order of work is not stated (log entry 2). -/
def Chip.fabricPeak (c : Chip) : Chip :=
  match c.ldr.live with
  | none => c
  | some ch =>
    let (k, c) := c.draw
    c.peak A.FX_PEAK (Config.freeNat k % (ch.load.fxFinish + 1))

/-! ### Changes of structure (R82, R83, R89, R182, R193) -/

/-- TH is computed and published (R193). -/
def Chip.publishTh (c : Chip) (ch : Charter) : Chip := c.wr A.FX_SILENCE_TH (word (silenceTh ch.silence))

/-- A node of a structure is the destination of a feedback edge. -/
def hasFb (ch : Charter) (n : Node) : Bool :=
  match ch.nodes.findIdx? (fun m => m.type = 3 && m.index = n.index) with
  | none => false
  | some i => ch.edges.any (fun e => e.fb && e.dst = i)

/-- Unit `u` takes its reset values and INIT, and the whole group applies (R182). -/
def Chip.resetUnitRegs (c : Chip) (ch : Charter) (u : Nat) : Chip :=
  let n := ch.unitNode u
  let kind := (n.map (·.kind)).getD 0
  let arm := A.FXu_CTL u
  let c := c.resetGroup arm
  let c := (List.range 7).foldl (fun c i =>
    let w := if i = 0 then (match n with
      | some n => n.init
      | none => 0) else unitReset kind i
    let a := A.FXu_Pi u i
    { c.wr a w with staging := putS (regReset a &&& rwaMask a) c.staging a w }) c
  let c := (c.wr arm 0).wr (A.FXu_KIND u) (word kind)
  c.unitApplied n ((n.map (hasFb ch)).getD false) u

/-- The units of a structure that `keep` does not hold take their reset values; with `clear` every unit's state is
cleared (R182). -/
def Chip.changeUnits (c : Chip) (ch : Charter) (keep : Nat → Bool) (clear : Bool) : Chip :=
  (List.range 12).foldl (fun c u =>
    let c := if clear || !keep u then c.clearUnit u else c
    if keep u then c.wr (A.FXu_KIND u) (word (((ch.unitNode u).map (·.kind)).getD 0)) else c.resetUnitRegs ch u) c

/-- Staging and pending copies of a unit that only the old structure of a crossfade uses are reset; its applied copy,
which that structure still uses, is not (R81, R89). -/
def Chip.resetUnitCopies (c : Chip) (kind u : Nat) : Chip :=
  let c := c.resetGroup (A.FXu_CTL u)
  (List.range 7).foldl (fun c i =>
    let a := A.FXu_Pi u i
    { c with staging := putS (regReset a &&& rwaMask a) c.staging a (unitReset kind i) }) c

/-- The outputs kept for the next block pass to the old structure when a crossfade begins, and those of the old
structure are dropped when it ends or does not take place (R81 to R83). -/
def Chip.oldOuts (c : Chip) (keepOld : Bool) : Chip :=
  let m := c.fx.prev.foldl (fun (acc : SMap (List Pair)) p =>
    if 1024 ≤ p.1 then putS [] acc p.1 p.2
    else if keepOld && p.1 < 512 then putS [] acc (512 + p.1) p.2 else acc) []
  { c with fx := { c.fx with prev := m } }

/-- The old structure's outputs are dropped at the end of a crossfade. -/
def Chip.dropOld (c : Chip) : Chip :=
  { c with fx := { c.fx with prev := dropS (fun k => decide (512 ≤ k ∧ k < 1024)) c.fx.prev } }

/-- Staging and pending copies of voices that `keep` does not hold are reset (R89). -/
def Chip.changeVoices (c : Chip) (keep : Nat → Bool) : Chip :=
  (List.range 256).foldl (fun c v => if keep v then c else c.resetGroup (0x70000018 + 64 * v)) c

end Sys2Proof.Machine
end

