-- ==== Sys2Proof/Machine/Ports.lean ====
section
/-! DEFINITION. Machine/Ports.lean: the serial audio ports and the S/PDIF transmitter
(05_effects_and_audio_ports.md, R195 to R206). -/

namespace Sys2Proof.Machine

/-- Change the ports' state. -/
def Chip.audDo (c : Chip) (f : Audio → Audio) : Chip := { c with aud := f c.aud }

/-- A port's entry in the structure being played; before the first commit every port has MODE 0 (R199). -/
def Chip.sapEntry (c : Chip) (i : Nat) : SapEntry :=
  let off : SapEntry := { mode := 0, master := false, outEn := false, inEn := false, slots := 0, width := 0, outBase := 0, inBase := 0 }
  c.aud.saps.getD i off

/-- The slave state of port `i`. -/
def Chip.sap (c : Chip) (i : Nat) : SapRun := getS {} c.aud.sap i

/-- Replace the slave state of port `i`. -/
def Chip.setSap (c : Chip) (i : Nat) (x : SapRun) : Chip := c.audDo fun a => { a with sap := putS {} a.sap i x }

/-- Output channel `ch` at sample `m` of the block being played. -/
def Chip.outSample (c : Chip) (ch m : Nat) : Int := (getS [] c.aud.out ch).getD m 0

/-- A Q1.31 sample rounded and saturated to `w` bits (R196). -/
def toWidth (w : Nat) (y : Int) : Int :=
  clampI (-(2 ^ (w - 1))) (2 ^ (w - 1) - 1) (if 32 ≤ w then y else nearOpen y (2 ^ (32 - w)))

/-- The first `w` bits of a slot as Q1.31. -/
def fromWidth (w : Nat) (slot : Word) : Int := sgn w (slot.toNat / 2 ^ (32 - w)) * 2 ^ (32 - w)

/-- The ports frame (R199). -/
def Chip.framing (c : Chip) : Bool := c.mode = .configure || c.mode = .perform || (c.mode = .hush && !c.met.stopped)

/-- A port sends one frame: output sample at place `m` of the block (R196, R199, R201). -/
def Chip.sendFrame (c : Chip) (i m : Nat) (silent : Bool) : Chip :=
  let s := c.sapEntry i
  (List.range s.slots).foldl (fun c k =>
    let y := if silent || !s.outEn || 31 < s.outBase + k then 0 else toWidth s.width (c.outSample (s.outBase + k) m)
    c.audDo fun a => { a with sent := putS 0 a.sent (16 * i + k) y }) c

/-- FUNC of a pin. -/
def Chip.pinFunc (c : Chip) (p : Nat) : Nat := c.fld (A.PINp_MUX p) 3 0

/-- A pin feeds the BCLK and the FS of port `i`, and its DIN: GPB(4i) to GPB(4i + 3) (R624, R629). -/
def Chip.sapClocked (c : Chip) (i : Nat) : Bool := c.pinFunc (32 + 4 * i) == 1 && c.pinFunc (33 + 4 * i) == 1
def Chip.sapHears (c : Chip) (i : Nat) : Bool := c.pinFunc (35 + 4 * i) == 1

/-- A port's inputs for absolute sample `p` (R196): `rx` gives slots by port × 16 + slot; a DIN that no pin feeds is 0
(R629). -/
def Chip.takeFrame (c : Chip) (i p : Nat) (rx : List (Nat × Word)) : Chip :=
  let s := c.sapEntry i
  if !s.inEn then c
  else (List.range s.slots).foldl (fun c k =>
    let w := if c.sapHears i then ((rx.find? (fun r => r.1 = 16 * i + k)).map (·.2)).getD 0 else 0
    let ch := s.inBase + k
    c.audDo fun a => { a with inNow := putS [] a.inNow ch (putS 0 (getS [] a.inNow ch) p (fromWidth s.width w)) }) c

/-- SPDIF_CS at the start of a block of 192 frames (R206). -/
def Chip.spdifStart (c : Chip) (t : Nat) : Chip :=
  (c.setBit A.SPDIF_STAT 1).audDo fun a => { a with spdifFrame := 0, spdifAt := some t, spdifCs := c.rd A.SPDIF_CS }

/-- The S/PDIF transmitter is enabled. -/
def Chip.spdifOn (c : Chip) : Bool := c.aud.spdifEn

/-- One S/PDIF frame (R204 to R206). -/
def Chip.spdifFrame (c : Chip) (t m : Nat) : Chip :=
  if !c.spdifOn then c
  else
    let c := if c.aud.spdifAt.isNone || (c.aud.spdifFrame = 0 && c.aud.spdifAt ≠ some t) then c.spdifStart t else c
    let base := c.aud.spdifBase
    c.audDo fun a => { a with
      spdifSent := (toWidth 24 (c.outSample base m), toWidth 24 (c.outSample (base + 1) m))
      spdifFrame := (a.spdifFrame + 1) % 192 }

/-- The channel-status bytes of the left (or right) sub-frame in force (R206). -/
def Chip.channelStatus (c : Chip) (right : Bool) : List Nat :=
  let w := c.aud.spdifCs
  [4 * bits w 0 0, bits w 15 8, bits w 19 16 + (if right then 0x20 else 0x10),
   [0x00, 0x02, 0x08, 0x0A].getD c.met.ticks.fs 0, 0x0B]

/-- The sample tick at absolute count `t`: master ports and the S/PDIF transmitter frame one sample (R198, R204). -/
def sampleFrame (t : Nat) (rx : List (Nat × Word)) (c : Chip) : Chip :=
  if !c.framing || decide (t < c.aud.frameAt) then c
  else
    let m := t / c.met.ticks.cs % c.met.ticks.b
    let c := [0, 1, 2, 3].foldl (fun c i =>
      let s := c.sapEntry i
      if s.mode ≠ 0 && s.master then (c.sendFrame i m false).takeFrame i (t / c.met.ticks.cs) rx else c) c
    c.spdifFrame t m

/-- The distance between two phases around a circle of Cs counts. -/
def phaseGap (cs a b : Nat) : Nat := let d := (a + cs - b % cs) % cs; min d (cs - d)

/-- A slave port locks (R201). -/
def sapLock (i : Nat) (c : Chip) : Chip :=
  let x := c.sap i
  if decide (64 ≤ x.good) && !x.locked then
    let c := c.setFld (A.SAPn_PHASE i) 9 0 (c.fld (A.SAPn_PHASE i) 25 16)
    let c := ((c.setBit (A.SAPn_STAT i) 0).setBit (A.SAPn_STAT i) 4).clrBit (A.SAPn_STAT i) 3
    c.setSap i { x with locked := true }
  else c

/-- A clock fault of a locked slave port (R203). -/
def Chip.sapFault (e : Env) (c : Chip) (i : Nat) : Chip :=
  let c := c.setSap i { c.sap i with locked := false, feeding := false, good := 0 }
  let c := ((c.setBit (A.SAPn_STAT i) 1).setBit (A.SAPn_STAT i) 3).clrBit (A.SAPn_STAT i) 0
  (c.inc (A.SAPn_FAULTS i)).report e 0x08 clsRecoverable i 0

/-- A slave port whose BCLK and FS have pins sees a frame: its phase, its rising edges and its data (R200 to R203, R629). -/
def sapFrame (i phase edges : Nat) (rx : List (Nat × Word)) (e : Env) (c : Chip) : Chip :=
  let s := c.sapEntry i
  if s.mode = 0 || s.master || !c.framing || !c.sapClocked i || decide (e.now < c.aud.frameAt) then c
  else
    let cs := c.met.ticks.cs
    let c := sapLock i c
    let phase := phase % cs
    let c := (c.setFld (A.SAPn_PHASE i) 25 16 phase).setSap i { c.sap i with lastFrame := e.now }
    let x := c.sap i
    let m := e.now / cs % c.met.ticks.b
    if x.locked then
      if 8 < phaseGap cs phase (c.fld (A.SAPn_PHASE i) 9 0) || edges ≠ 32 * s.slots then (c.sendFrame i m false).sapFault e i
      else
        let c := c.sendFrame i m false
        if x.feeding then c.takeFrame i (e.now / cs + 1) (rx.map (fun r => (16 * i + r.1 % 16, r.2))) else c
    else
      let c := c.sendFrame i m true
      if edges ≠ 32 * s.slots then c.setSap i { x with good := 0 }
      else if x.good = 0 || 8 < phaseGap cs phase x.first then c.setSap i { x with good := 1, first := phase }
      else c.setSap i { x with good := min 64 (x.good + 1) }

/-- No frame start within 2 × Cs counts (R203). -/
def sapTimeout (i : Nat) (e : Env) (c : Chip) : Chip := if (c.sap i).locked then c.sapFault e i else c

/-- After Doze or Drowse the ports frame again from the block tick at `t`, and slave ports relock (R576). -/
def Chip.portsResume (c : Chip) (t : Nat) : Chip :=
  let c := c.audDo fun a => { a with frameAt := t }
  [0, 1, 2, 3].foldl (fun c i =>
    if (c.sapEntry i).master then c
    else (c.setSap i { c.sap i with good := 0, locked := false, feeding := false }).clrBit (A.SAPn_STAT i) 0) c

/-- When a locked port's timeout is due. -/
def Chip.sapDue (c : Chip) (i : Nat) : Option Nat := if (c.sap i).locked then some ((c.sap i).lastFrame + 2 * c.met.ticks.cs) else none

/-- The input captured in the interval that ends at the tick at `t` is complete; newly locked ports feed (R42, R201). -/
def Chip.closeInput (c : Chip) (t : Nat) : Chip :=
  let cs := c.met.ticks.cs
  let first := (t - c.met.ticks.cb) / cs
  let last := t / cs
  let done := c.aud.inNow.foldl (fun (m : SMap (SMap Int)) p =>
    let l := (p.2.filter (fun s => decide (first ≤ s.1 ∧ s.1 < last))).map (fun s => (s.1 - first, s.2))
    putS [] m p.1 l) []
  let rest := c.aud.inNow.foldl (fun (m : SMap (SMap Int)) p => putS [] m p.1 (p.2.filter (fun s => decide (last ≤ s.1)))) []
  let c := c.audDo fun a => { a with inDone := done, inNow := rest }
  [0, 1, 2, 3].foldl (fun c i => if (c.sap i).locked then c.setSap i { c.sap i with feeding := true } else c) c

/-- The ports take the structure of a Charter: a port whose entry changes starts anew (R199 and the SAP register table). -/
def Chip.portsChange (c : Chip) (ch : Charter) : Chip :=
  let was := c.aud.saps
  let began := ch.spdifEn && !c.aud.spdifEn
  let c := c.audDo fun a => { a with saps := ch.saps, spdifEn := ch.spdifEn, spdifBase := ch.spdifBase }
  let c := [0, 1, 2, 3].foldl (fun c i =>
    let s := c.sapEntry i
    if was[i]? = some s then c
    else
      let cfg := if s.mode = 0 then 0
        else s.width * 65536 + s.slots * 256 + (if s.inEn then 64 else 0) + (if s.outEn then 32 else 0)
          + (if s.master then 16 else 0) + s.mode
      let c := (c.wr (A.SAPn_CFG i) (word cfg)).wr (A.SAPn_MAP i)
        (word (if s.mode = 0 then 0 else s.inBase % 64 * 256 + s.outBase % 32))
      let c := (c.putBit (A.SAPn_STAT i) 0 (s.mode ≠ 0 && s.master)).clrBit (A.SAPn_STAT i) 3
      c.setSap i {}) c
  if began then c.audDo fun a => { a with spdifFrame := 0, spdifAt := none } else c

/-- SPDIF_STAT, whose RUNNING bit reads 1 while the transmitter is enabled and sends. -/
def Chip.spdifStat (c : Chip) : Word := (c.putBit A.SPDIF_STAT 0 (c.spdifOn && c.framing)).rd A.SPDIF_STAT

/-- Sources 136 to 140. -/
def Chip.sapIrq (c : Chip) (i : Nat) : Bool := (c.rd (A.SAPn_STAT i) &&& c.rd (A.SAPn_INT_EN i) &&& 0x1F) ≠ 0
def Chip.spdifIrq (c : Chip) : Bool := (c.spdifStat &&& c.rd A.SPDIF_INT_EN &&& 3) ≠ 0

end Sys2Proof.Machine
end

