-- ==== Sys2Proof/Machine/KeyScan.lean ====
section
/-! DEFINITION. Machine/KeyScan.lean: the key matrix scanner and the ADC (06_keys_and_controls.md). -/

namespace Sys2Proof.Machine

/-- Change the scanner. -/
def Chip.keyDo (c : Chip) (f : Keys → Keys) : Chip := { c with key := f c.key }

/-- A contact. -/
def Chip.contact (c : Chip) (n : Nat) : Contact := getS {} c.key.contacts n
def Chip.setContact (c : Chip) (n : Nat) (x : Contact) : Chip := c.keyDo fun k => { k with contacts := putS {} k.contacts n x }

/-- A contact's reported level: true is closed (KEY_LEVELm). -/
def Chip.keyLevel (c : Chip) (n : Nat) : Bool := c.bit (A.KEY_LEVELm (n / 32)) (n % 32)

/-- KEY_CFG fields. -/
def Chip.keyMode (c : Chip) : Nat := c.fld A.KEY_CFG 30 29
def Chip.keyBase (c : Chip) : Nat := c.fld A.KEY_CFG 23 16
def Chip.keyCount (c : Chip) : Nat := c.fld A.KEY_MAP 8 0

/-- The key and the role (0 first) of a contact; none for an other contact (R210). -/
def Chip.keyOf (c : Chip) (n : Nat) : Option (Nat × Nat) :=
  let per := c.keyMode + 1
  if n < c.keyBase then none
  else
    let i := n - c.keyBase
    if i / per < c.keyCount then some (i / per, i % per) else none

/-- Contact of key `k` in a role. -/
def Chip.contactOf (c : Chip) (k role : Nat) : Nat := c.keyBase + (c.keyMode + 1) * k + role

/-- Roles of FIRE and ARM. -/
def Chip.fireRole (c : Chip) : Nat := c.keyMode
def Chip.armRole (c : Chip) : Nat := c.keyMode - 1

/-- KEY_STAT.SLEEP_VETO (R223). -/
def Chip.sleepVeto (c : Chip) : Bool := (List.range 8).any (fun m => c.rd (A.KEY_LEVELm m) ≠ 0)

/-- KEY_STAT as read. -/
def Chip.keyStat (c : Chip) : Word := putFld (c.rd A.KEY_STAT) 3 3 (if c.sleepVeto then 1 else 0)

/-! ### Velocity (R221) -/

/-- The velocity of an interval. -/
def Chip.velocity (c : Chip) (delta : Nat) (noteOn : Bool) : Nat :=
  let d := min delta 0xFFFFFFFF
  let l := if d < 16 then 0 else 16 * d.log2 + d / 2 ^ (d.log2 - 4) % 16
  let p := fun i => c.fld (A.KEY_VEL_TABLEi i) 15 0
  let lb := c.fld A.KEY_VEL 8 0
  let v :=
    if l < lb then p 0
    else
      let x := l - lb
      if 128 ≤ x then p 32
      else ((p (x / 4) : Int) + (((p (x / 4 + 1) : Int) - p (x / 4)) * (x % 4 : Nat)).tdiv 4).toNat
  if v = 0 && noteOn then 1 else v

/-! ### Records (R213, R217, R220, R222) -/

/-- Put a record into the scanner's buffer in the order of stamp, then contact. -/
def keyInsert (x : KeyRec) : List KeyRec → List KeyRec
  | [] => [x]
  | y :: l => if x.stamp < y.stamp || (x.stamp = y.stamp && x.contact < y.contact) then x :: y :: l else y :: keyInsert x l

/-- Form a record. -/
def Chip.keyRecord (c : Chip) (stamp contact formed kind key valueA : Nat) (valueB : Word) : Chip :=
  let r : Rec := { source := 1, kind := kind, key := key, flags := 0, time := BitVec.ofNat 48 stamp,
                   valueA := BitVec.ofNat 16 valueA, valueB := valueB }
  c.keyDo fun k => { k with buf := keyInsert { stamp := stamp, contact := contact, formed := formed, r := r } k.buf }

/-- A note record of key `k`. -/
def Chip.noteRecord (c : Chip) (stamp contact formed kind k vel : Nat) : Chip :=
  c.keyRecord stamp contact formed kind ((c.fld A.KEY_CFG 15 8 + k) % 256) vel (word (c.fld A.KEY_CFG 3 0))

/-- A NOTE_ON of key `k` after an interval. -/
def Chip.strike (c : Chip) (stamp contact formed k delta vel : Nat) : Chip :=
  (c.noteRecord stamp contact formed 1 k vel).wr A.KEY_LAST
    (word ((c.fld A.KEY_CFG 15 8 + k) % 256 * 2 ^ 24 + min delta 0xFFFFFF))

/-- Replace a key's state. -/
def Chip.setKey (c : Chip) (k : Nat) (x : KeyRun) : Chip := c.keyDo fun s => { s with keys := putS {} s.keys k x }

/-- The state machine of R217 on a transition of contact `n`, in role `role` of key `k`. -/
def Chip.keyStep (c : Chip) (n k role : Nat) (closed : Bool) (stamp formed : Nat) : Chip :=
  let mode := c.keyMode
  let x := getS {} c.key.keys k
  let offAt := c.bit A.KEY_CFG 26
  let rep := c.bit A.KEY_CFG 27
  if mode = 0 then
    if closed then c.strike stamp n formed k 0 (max 1 (c.fld A.KEY_MAP 31 16))
    else c.noteRecord stamp n formed 2 k 0
  else
    let isA := role = c.armRole
    let isF := role = c.fireRole
    let isT := role = 0
    match x.st with
    | .up =>
      if isA && closed && c.keyLevel (c.contactOf k 0) then c.setKey k { st := .armed, t := stamp } else c
    | .armed =>
      if isF && closed then
        let d := stamp - x.t
        (c.strike stamp n formed k d (c.velocity d true)).setKey k { st := .down, t := stamp }
      else if isA && !closed then c.setKey k { st := .up, t := 0 }
      else c
    | .down =>
      if isF && !closed then
        let c := if offAt then c.noteRecord stamp n formed 2 k 0 else c
        c.setKey k { st := .lifting, t := stamp }
      else c
    | .lifting =>
      if isT && !closed then
        let c := if offAt then c else c.noteRecord stamp n formed 2 k (c.velocity (stamp - x.t) false)
        c.setKey k { st := .up, t := 0 }
      else if isF && closed && mode = 1 && rep then
        let d := stamp - x.t
        (c.strike stamp n formed k d (c.velocity d true)).setKey k { st := .down, t := stamp }
      else if isA && closed && mode = 2 && rep then c.setKey k { st := .armed, t := stamp }
      else c

/-- A transition of an other contact (R222). -/
def Chip.otherStep (c : Chip) (n : Nat) (closed late : Bool) (stamp formed : Nat) (lastAt : Option Nat) : Chip :=
  match (List.range 4).find? (fun i => c.bit (A.KEY_SWCCn i) 31 && c.fld (A.KEY_SWCCn i) 23 16 = n) with
  | some i =>
    let v := if closed != c.bit (A.KEY_SWCCn i) 8 then 0xFFFF else 0
    c.keyRecord stamp n formed 4 (c.fld (A.KEY_SWCCn i) 6 0) v (word (c.fld A.KEY_CFG 3 0))
  | none =>
    if c.bit A.KEY_CFG 28 then
      let gap := (lastAt.map (fun a => min 0xFFFFFFFF (stamp - a))).getD 0xFFFFFFFF
      c.keyRecord stamp n formed 0x10 n ((if closed then 1 else 0) + (if late then 2 else 0)) (word gap)
    else c

/-- A transition is reported: the lockout begins and the record is formed (R214). -/
def Chip.transition (c : Chip) (n : Nat) (closed late : Bool) (stamp scan : Nat) : Chip :=
  let x := c.contact n
  let formed := scan * 1024 + 64 * (n / 16 + 1)
  let c := c.putBit (A.KEY_LEVELm (n / 32)) (n % 32) closed
  let lockout := c.fld A.KEY_DEB 7 0
  let c := c.setContact n { x with
    lock := if lockout = 0 then none else some (scan + lockout)
    began := stamp, closing := closed, change := none, level := closed, lastAt := some stamp }
  match c.keyOf n with
  | some (k, role) => c.keyStep n k role closed stamp formed
  | none => c.otherStep n closed late stamp formed x.lastAt

/-! ### Bounce (R215, R216) -/

/-- A contact's bounce average. -/
def Chip.bounceAvg (c : Chip) (n : Nat) : Nat :=
  if n % 2 = 0 then c.fld (A.KEY_BAVGw (n / 2)) 15 0 else c.fld (A.KEY_BAVGw (n / 2)) 31 16

/-- The bounce value of a key. -/
def Chip.bounceOf (c : Chip) (k : Nat) : Nat := maxL ((List.range (c.keyMode + 1)).map (fun r => c.bounceAvg (c.contactOf k r)))

/-- Put a key into the list of the largest bounce values, ties to the lower key. -/
def topInsert (x : Nat × Nat) : List (Nat × Nat) → List (Nat × Nat)
  | [] => [x]
  | y :: l => if y.2 < x.2 then x :: y :: l else y :: topInsert x l

/-- KEY_BTOP0 to KEY_BTOP7. -/
def Chip.updateTop (c : Chip) : Chip :=
  let c : Chip := { c with ldg := { c.ldg with recheck := true } }
  let top := (List.range c.keyCount).foldl (fun l k => (topInsert (k, c.bounceOf k) l).take 8) []
  (List.range 8).foldl (fun c i =>
    c.wr (A.KEY_BTOPi i) (match top[i]? with
      | some (k, v) => word (2 ^ 31 + k * 65536 + v)
      | none => 0)) c

/-- The lockout of contact `n` has ended; `late` says that it overran (R215). -/
def Chip.bounceEnd (c : Chip) (n : Nat) (late : Bool) : Chip :=
  let x := c.contact n
  let c := c.setContact n { x with lock := none }
  if !x.closing then c
  else
    let b := if late then min 0xFFFF (16 * c.fld A.KEY_DEB 7 0)
      else match x.change with
        | none => 0
        | some t => min 0xFFFF ((t - x.began) / 64)
    let a := c.bounceAvg n
    let a' := ((a : Int) + floorDiv ((b : Int) - a) 16).toNat
    let c := if n % 2 = 0 then c.setFld (A.KEY_BAVGw (n / 2)) 15 0 a' else c.setFld (A.KEY_BAVGw (n / 2)) 31 16 a'
    c.updateTop

/-- The first sample after a lockout (R214): a difference that has outlasted it is reported. -/
def Chip.afterLockout (c : Chip) (n : Nat) (level : Bool) (stamp scan : Nat) : Chip :=
  let x := c.contact n
  let rep := c.keyLevel n
  let late := x.level ≠ rep && level ≠ rep
  let c := c.bounceEnd n late
  if late then ((c.setBit A.KEY_STAT 0).inc A.KEY_BOUNCE_OVR).transition n level true stamp scan
  else if level ≠ rep then c.transition n level false stamp scan
  else c

/-! ### The scan (R211, R212, R219, R225) -/

/-- One sample of a contact. -/
def Chip.sampleContact (c : Chip) (n : Nat) (level : Bool) (stamp scan : Nat) : Chip :=
  let x := c.contact n
  match x.lock with
  | some last =>
    if scan ≤ last then
      if level ≠ x.level then c.setContact n { x with level := level, change := some stamp } else c
    else c.afterLockout n level stamp scan
  | none =>
    if level ≠ c.keyLevel n then c.transition n level false stamp scan else c

/-- A contact's level at a count of the scan: `start` closed bits, toggled by the edges (count, contact). -/
def levelAt (start : BitVec 256) (edges : List (Nat × Nat)) (n at' : Nat) : Bool :=
  (start.getLsbD n) != ((edges.filter (fun x => x.2 = n && decide (x.1 ≤ at'))).length % 2 == 1)

/-- The sense lines on which several contacts are newly closed, with the sleep stamps of the lines (R225). -/
def Chip.sleepStamp (c : Chip) (n : Nat) : Option Nat := (c.key.sleep.find? (fun s => s.1 = n % 16)).map (·.2)

/-- The first sample of every contact of a drive line after a wake (R225). -/
def Chip.resumeContact (c : Chip) (n : Nat) (level : Bool) (stamp scan : Nat) (many : Bool) : Chip :=
  match c.sleepStamp n with
  | some t =>
    if level && !c.keyLevel n then
      let c := if many then c.setBit A.KEY_STAT 4 else c
      c.transition n true false t scan
    else c.sampleContact n level stamp scan
  | none => c.sampleContact n level stamp scan

/-- The first scan after EN was set takes the levels as they are (R219). -/
def Chip.freshScan (c : Chip) (start : Nat) (lv : Nat → Nat → Bool) : Chip :=
  let settle := c.fld A.KEY_SCAN 5 0
  let at' := fun n => 64 * (n / 16) + settle
  let c := c.keyDo fun k => { k with contacts := [], keys := [], fresh := false, resume := false, sleep := [] }
  let c := (List.range 256).foldl (fun c n =>
    let l := lv n (at' n)
    let c := c.putBit (A.KEY_LEVELm (n / 32)) (n % 32) l
    if l then c.setContact n { level := true } else c) c
  (List.range c.keyCount).foldl (fun c k =>
    if c.keyMode = 0 then c
    else if c.keyLevel (c.contactOf k c.fireRole) then c.setKey k { st := .down, t := start }
    else if c.keyLevel (c.contactOf k c.armRole) then
      c.setKey k { st := .armed, t := start + at' (c.contactOf k c.armRole) }
    else c) c.updateTop

/-- One dwell. -/
def Chip.dwell (c : Chip) (d start : Nat) (levels : BitVec 256) (edges : List (Nat × Nat)) (resume : Bool) : Chip :=
  let scan := start / 1024
  let settle := c.fld A.KEY_SCAN 5 0
  let s0 := 64 * d + settle
  let c := (List.range 16).foldl (fun c s =>
    let n := 16 * d + s
    let l := levelAt levels edges n s0
    if resume then
      let closedOnLine := ((List.range 16).filter (fun e =>
        levelAt levels edges (16 * e + s) (64 * e + settle) && !c.keyLevel (16 * e + s))).length
      c.resumeContact n l (start + s0) scan (decide (1 < closedOnLine))
    else c.sampleContact n l (start + s0) scan) c
  let inside := edges.filter (fun x => decide (s0 < x.1 ∧ x.1 < 64 * d + 64) && x.2 / 16 = d)
  inside.foldl (fun c x => c.sampleContact x.2 (levelAt levels edges x.2 x.1) (start + x.1) scan) c

/-- KEY_SCAN: the scan that begins at absolute count `start` (R211). `levels` is the matrix at its first count, bit c set
where contact c is closed; `edges` are the later level changes, (count in the scan, contact), in order. -/
def keyScan (start : Nat) (levels : BitVec 256) (edges : List (Nat × Nat)) (c : Chip) : Chip :=
  if !c.bit A.KEY_CFG 31 || c.pwr.sub = .doze || c.pwr.sub = .drowse then c
  else
    let c := c.keyDo fun k => { k with lastScan := some start }
    if c.key.fresh then c.freshScan start (levelAt levels edges)
    else
      let resume := c.key.resume
      let many := c.key.sleep
      let c := (List.range 16).foldl (fun c d => c.dwell d start levels edges (resume && !many.isEmpty)) c
      if resume then c.keyDo fun k => { k with resume := false, sleep := [] } else c

/-- When the next scan begins. -/
def Chip.scanDue (c : Chip) (now : Nat) : Nat :=
  match c.key.lastScan with
  | some l => multAfter 1024 l
  | none => multAt 1024 now

/-- When a contact's first sample after its lockout is due. -/
def Chip.lockoutDue (c : Chip) (n : Nat) : Option Nat :=
  (c.contact n).lock.map (fun l => (l + 1) * 1024 + 64 * (n / 16) + c.fld A.KEY_SCAN 5 0)

/-- LOCKOUT_END: the lockout of a contact ends, with the contact at the level last sampled (R214, R215). -/
def lockoutEnd (n : Nat) (e : Env) (c : Chip) : Chip :=
  match (c.contact n).lock with
  | none => c
  | some _ => c.afterLockout n (c.contact n).level e.now (e.now / 1024)

/-- KEY_RECORD_PRESENT: formed records pass to the skid buffer in order while it has room (R213). -/
def presentKeys (e : Env) : Nat → Chip → Chip
  | 0, c => c
  | fuel + 1, c =>
    match c.key.buf with
    | [] => c
    | x :: l =>
      if x.formed ≤ e.now && c.skidRoom x.r.source x.r.kind then
        presentKeys e fuel ((c.keyDo fun k => { k with buf := l }).post e x.r)
      else c

/-- KEY_CFG and KEY_MAP (R218, R219): a change of a protected field is ignored while EN = 1, and where it selects mode 3
or assigns a contact above 255. -/
def keyCfgWrite (a : Nat) (v : Word) (c : Chip) : Chip :=
  let cfg := a = A.KEY_CFG
  let mask : Word := if cfg then 0x60FFFF00 else 0x1FF
  let old := c.rd a
  let mode := if cfg then bits v 30 29 else c.keyMode
  let base := if cfg then bits v 23 16 else c.keyBase
  let keys := if cfg then c.keyCount else bits v 8 0
  let changes := (old ^^^ v) &&& mask ≠ 0
  let bad := mode = 3 || decide (256 < base + (mode + 1) * keys)
  let refused := changes && (c.bit A.KEY_CFG 31 || bad)
  let c := if refused then c.setBit A.KEY_STAT 1 else c
  let v := if refused then (v &&& ~~~ mask) ||| (old &&& mask) else v
  let c := c.writeCoded a v
  if cfg && !old.getLsbD 31 && v.getLsbD 31 then c.keyDo fun k => { k with fresh := true, lastScan := none } else c

/-- KEY_SCAN: a SETTLE below 4 stores 4 (R211). -/
def keyScanWrite (v : Word) (c : Chip) : Chip :=
  c.writeCoded A.KEY_SCAN (if bits v 5 0 < 4 then putFld v 5 0 4 else v)

/-- KEY_BAVGw: a change of an average moves the list of the largest (R216). -/
def keyAvgWrite (a : Nat) (v : Word) (c : Chip) : Chip := (c.writeCoded a v).updateTop

/-- SLEEP_SCAN_SAMPLE: bit s of `low` is set where sense line s reads 0 (R224). -/
def sleepSample (low : BitVec 16) (e : Env) (c : Chip) : Chip :=
  if c.bit A.KEY_CFG 31 && (c.pwr.sub = .doze || c.pwr.sub = .drowse) then
    let new := (List.range 16).filter (fun s => low.getLsbD s && !(c.key.sleep.any (fun p => p.1 = s)))
    if new.isEmpty then c
    else
      let c := c.keyDo fun k => { k with sleep := new.foldl (fun m s => (m.filter (fun p => p.1 < s)) ++ [(s, e.now)] ++ m.filter (fun p => s < p.1)) k.sleep }
      (c.setBit A.KEY_STAT 2).askWake
  else c

/-- Source 176. -/
def Chip.keyIrq (c : Chip) : Bool := (c.keyStat &&& c.rd A.KEY_INT_EN &&& 0x1F) ≠ 0

/-! ### The ADC (R227 to R233) -/

/-- A channel. -/
def Chip.adcChan (c : Chip) (n : Nat) : AdcChan := getS {} c.adc.chans n
def Chip.setAdc (c : Chip) (n : Nat) (x : AdcChan) : Chip := { c with adc := { c.adc with chans := putS {} c.adc.chans n x } }

/-- OS in use. -/
def Chip.adcOs (c : Chip) (n : Nat) : Nat := min 6 (c.fld (A.ADCn_CFG n) 2 0)

/-- m of R229, and whether HI = LO. -/
def adcMap (x : AdcChan) (centre : Bool) (v : Nat) : Nat × Bool :=
  let hi := bits x.range 31 16
  let lo := bits x.range 15 0
  let q := fun (a b : Nat) => min 65535 (a * 65535 / b)
  let m := if lo < hi then q (v - lo) (hi - lo) else if hi < lo then q (lo - v) (lo - hi) else 0
  let m := if centre && decide ((((m : Int) - 0x8000)).natAbs ≤ bits x.cdb 15 0) then 0x8000 else m
  (m, hi = lo)

/-- R230. -/
def adcReports (x : AdcChan) (centre : Bool) (r m : Nat) : Bool :=
  let d := ((m : Int) - r).natAbs
  let up := decide (r < m)
  let same := x.up = none || x.up = some up
  x.first || (m ≠ r && (m = 0 || m = 0xFFFF || (centre && m = 0x8000)))
    || (m ≠ r && same && decide (bits x.step 15 0 ≤ d))
    || (m ≠ r && !same && decide (bits x.step 15 0 + bits x.step 31 16 ≤ d))
    || (m = r && x.up = none && bits x.step 15 0 = 0)

/-- A report's record (R231, R232). -/
def Chip.adcRecord (e : Env) (c : Chip) (n m : Nat) : Chip :=
  let cfg := c.rd (A.ADCn_CFG n)
  let emit := bits cfg 25 24
  let kind := [0x11, 4, 5, 6].getD emit 0x11
  let key := if emit = 0 then n else if emit = 1 then bits cfg 22 16 else 0
  let vb := if emit = 0 then 0 else word (bits cfg 11 8)
  if cfg.getLsbD 30 then c.keyRecord e.now (256 + n) e.now kind key m vb
  else c.post e { source := 2, kind := kind, key := key, flags := 0, time := e.stamp, valueA := BitVec.ofNat 16 m, valueB := vb }

/-- A group of conversions is complete (R228 to R230). -/
def Chip.adcGroup (e : Env) (c : Chip) (n sum : Nat) : Chip :=
  let x := c.adcChan n
  let centre := c.bit (A.ADCn_CFG n) 29
  let v := sum * 16 / 2 ^ c.adcOs n
  let (m, bad) := adcMap x centre v
  let c := if bad then c.setBit A.ADC_STAT 0 else c
  let r := c.fld (A.ADCn_VALUE n) 31 16
  let c := c.setFld (A.ADCn_VALUE n) 15 0 m
  let x := { x with sum := 0, n := 0 }
  if adcReports x centre r m then
    let up := if x.first then none else if m = r then x.up else some (decide (r < m))
    ((c.setFld (A.ADCn_VALUE n) 31 16 m).setAdc n { x with first := false, up := up }).adcRecord e n m
  else c.setAdc n x

/-- ADC_CONVERSION: one conversion of the next channel of the cycle (R227, R228). -/
def adcConversion (value : BitVec 12) (e : Env) (c : Chip) : Chip :=
  if c.pwr.sub = .doze || c.pwr.sub = .drowse then c
  else
    let enabled := (List.range 16).filter (fun n => c.bit (A.ADCn_CFG n) 31)
    let cyc := if c.adc.cycle.isEmpty then enabled else c.adc.cycle
    match cyc with
    | [] => c
    | n :: rest =>
      let c := { c with adc := { c.adc with cycle := rest, last := some e.now } }
      let c := c.wr (A.ADCn_RAW n) (value.setWidth 32)
      let x := c.adcChan n
      let x := if x.n = 0 then { x with range := c.rd (A.ADCn_RANGE n), step := c.rd (A.ADCn_STEP n), cdb := c.rd (A.ADCn_CDB n) }
        else x
      let sum := x.sum + value.toNat
      if 2 ^ c.adcOs n ≤ x.n + 1 then (c.setAdc n x).adcGroup e n sum
      else c.setAdc n { x with sum := sum, n := x.n + 1 }

/-- When the conversion in progress ends: slot n ends at count 256 n + 255 (R227). -/
def Chip.convDue (c : Chip) (now : Nat) : Nat :=
  match c.adc.last with
  | some l => (l + 1) / 256 * 256 + 255
  | none => now / 256 * 256 + 255

/-- ADCn_CFG (R230, R233). -/
def adcCfgWrite (n : Nat) (v : Word) (c : Chip) : Chip :=
  let idle := !(List.range 16).any (fun i => c.bit (A.ADCn_CFG i) 31)
  let c := if idle then { c with adc := { c.adc with last := none } } else c
  (c.writeCoded (A.ADCn_CFG n) v).setAdc n { c.adcChan n with sum := 0, n := 0, first := true, up := none }

/-- After a wake every channel reports its first value (R230). -/
def Chip.adcWake (c : Chip) : Chip :=
  (List.range 16).foldl (fun c n =>
    if c.bit (A.ADCn_CFG n) 31 then c.setAdc n { c.adcChan n with sum := 0, n := 0, first := true, up := none } else c) c

/-- Source 177. -/
def Chip.adcIrq (c : Chip) : Bool := c.bit A.ADC_STAT 0 && c.bit A.ADC_INT_EN 0

end Sys2Proof.Machine
end

