-- ==== Sys2Proof/Machine/Midi.lean ====
section
/-! DEFINITION. Machine/Midi.lean: the DIN MIDI inputs and outputs (07_midi_and_usb.md, R235 to R247). -/

namespace Sys2Proof.Machine

/-! ### Bytes to records (R237 to R241), shared with USB MIDI (R257) -/

/-- A 7-bit value widened to 16 bits (R237). -/
def widen7 (x : Nat) : Nat := x * 512 + x * 4 + x / 32

/-- A 14-bit pitch bend widened to 16 bits (R237). -/
def widenBend (b : Nat) : Nat := b * 4 + (if 0x2000 ≤ b then (b - 0x2000) / 2048 else 0)

/-- How many data bytes a status byte takes. -/
def dataLen (status : Nat) : Nat :=
  if status < 0xC0 then 2 else if status < 0xE0 then 1 else if status < 0xF0 then 2
  else if status = 0xF2 then 2 else if status = 0xF1 ∨ status = 0xF3 then 1 else 0

/-- A record as a parser forms it, before the source and the input's number are put to it. -/
structure MidiEvent where
  kind : Nat
  key : Nat
  va : Nat
  vb : Nat := 0
  cont : Bool := false
  stamp : Nat
  deriving DecidableEq, Repr

/-- What a parser makes of one byte. -/
structure MidiStep where
  p : MidiIn
  ev : List MidiEvent := []
  /-- the byte was discarded as stray (R238) -/
  stray : Bool := false
  /-- a SysEx ended without 0xF7 (R241) -/
  cut : Bool := false
  deriving DecidableEq, Repr

/-- The record of a complete message (R237). -/
def messageEvent (p : MidiIn) (status stamp d0 d1 : Nat) : MidiEvent :=
  let ch := status % 16
  match status / 16 with
  | 8 => { kind := 2, key := d0, va := widen7 d1, vb := ch, stamp := stamp }
  | 9 => { kind := 1, key := d0, va := widen7 d1, vb := ch, stamp := stamp }
  | 10 => { kind := 3, key := d0, va := widen7 d1, vb := ch, stamp := stamp }
  | 11 => { kind := 4, key := d0, va := widen7 d1, vb := ch, stamp := stamp }
  | 12 => { kind := 7, key := d0, va := getS 0 p.banks ch, vb := ch, stamp := stamp }
  | 13 => { kind := 5, key := 0, va := widen7 d0, vb := ch, stamp := stamp }
  | 14 => { kind := 6, key := 0, va := widenBend (d0 + 128 * d1), vb := ch, stamp := stamp }
  | _ => { kind := 8, key := status, va := d0 + 256 * d1, stamp := stamp }

/-- The bank after a message: controllers 0 and 32 (R237, PROGRAM). -/
def bankAfter (banks : SMap Nat) (status d0 d1 : Nat) : SMap Nat :=
  let ch := status % 16
  if status / 16 ≠ 11 then banks
  else if d0 = 0 then modS 0 banks ch (fun b => d1 * 128 + b % 128)
  else if d0 = 32 then modS 0 banks ch (fun b => b / 128 * 128 + d1)
  else banks

/-- A SYSEX record of up to six bytes (R240). -/
def sysexEvent (bytes : List Nat) (cont : Bool) (stamp : Nat) : MidiEvent :=
  let b := fun i => bytes.getD i 0
  { kind := 9, key := bytes.length, va := b 0 + 256 * b 1, vb := b 2 + 256 * b 3 + 65536 * b 4 + 16777216 * b 5,
    cont := cont, stamp := stamp }

/-- The message in progress is complete, or goes on (R237). -/
def messageStep (p : MidiIn) (status stamp : Nat) (data : List Nat) : MidiStep :=
  if dataLen status ≤ data.length then
    let d0 := data.getD 0 0
    let d1 := data.getD 1 0
    { p := { p with msg := none, banks := bankAfter p.banks status d0 d1 }, ev := [messageEvent p status stamp d0 d1] }
  else { p := { p with msg := some (status, stamp, data) } }

/-- A data byte (R237, R238, R240). -/
def dataStep (p : MidiIn) (b stamp : Nat) : MidiStep :=
  match p.sysex with
  | some (l, at0) =>
    let at0 := if l.isEmpty then stamp else at0
    let l := l ++ [b]
    if 6 ≤ l.length then { p := { p with sysex := some ([], at0) }, ev := [sysexEvent l true at0] }
    else { p := { p with sysex := some (l, at0) } }
  | none =>
    match p.msg with
    | some (st, at0, d) => messageStep p st at0 (d ++ [b])
    | none =>
      match p.running with
      | some st => messageStep p st stamp [b]
      | none => { p := p, stray := true }

/-- A SysEx in progress is cut off by a status byte (R241). -/
def cutSysex (p : MidiIn) (stamp : Nat) : MidiStep :=
  match p.sysex with
  | some (l, at0) =>
    { p := { p with sysex := none }, ev := [sysexEvent l false (if l.isEmpty then stamp else at0)], cut := true }
  | none => { p := p }

/-- A status byte other than a real-time byte (R238, R240, R241). -/
def statusStep (p : MidiIn) (b stamp : Nat) : MidiStep :=
  if b = 0xF7 then
    match p.sysex with
    | some (l, at0) =>
      { p := { p with sysex := none, running := none, msg := none }
        ev := [sysexEvent (l ++ [b]) false (if l.isEmpty then stamp else at0)] }
    | none => { p := { p with running := none, msg := none } }
  else
    let s := cutSysex p stamp
    let p := s.p
    if b < 0xF0 then { s with p := { p with running := some b, msg := some (b, stamp, []) } }
    else
      let p := { p with running := none, msg := none }
      if b = 0xF0 then { s with p := { p with sysex := some ([b], stamp) } }
      else if b = 0xF4 ∨ b = 0xF5 then { s with p := p, stray := true }
      else if b = 0xF6 then { s with p := p, ev := s.ev ++ [messageEvent p b stamp 0 0] }
      else { s with p := { p with msg := some (b, stamp, []) } }

/-- One byte reaches a parser (R237 to R241). -/
def midiStep (p : MidiIn) (b stamp : Nat) : MidiStep :=
  if b < 0x80 then dataStep p b stamp
  else if b < 0xF8 then statusStep p b stamp
  else if b = 0xF9 ∨ b = 0xFD then { p := p, stray := true }
  else { p := p, ev := [{ kind := 8, key := b, va := 0, stamp := stamp }] }

/-- The record of an event; a SYSEX record's VALUE_B holds bytes, any other's names the input or the cable (R237). -/
def MidiEvent.toRec (m : MidiEvent) (source input : Nat) : Rec :=
  { source := source, kind := m.kind, key := m.key, flags := if m.cont then 4 else 0, time := BitVec.ofNat 48 m.stamp
    valueA := BitVec.ofNat 16 m.va, valueB := word (if m.kind = 9 then m.vb else m.vb % 16 + 16 * (input % 16)) }

/-! ### The bit grid (R236, R245) -/

/-- The bit time as a quotient of counts (R236). -/
def Chip.bitNum (c : Chip) : Nat := if c.family441 then 14450688 else 15728640
def bitDen : Nat := 10000

/-- Count `ceil(j × P)`. -/
def Chip.gridAt (c : Chip) (j : Nat) : Nat := (j * c.bitNum + bitDen - 1) / bitDen

/-- The first grid index at or after a count. -/
def Chip.gridFrom (c : Chip) (t : Nat) : Nat := if t = 0 then 0 else (t - 1) * bitDen / c.bitNum + 1

/-- Ten milliseconds in counts. -/
def Chip.tenMs (c : Chip) : Nat := if c.family441 then 451584 else 491520

/-! ### Inputs -/

def Chip.midi (c : Chip) (i : Nat) : MidiIn := getS {} c.midiIn i
def Chip.setMidi (c : Chip) (i : Nat) (p : MidiIn) : Chip := { c with midiIn := putS {} c.midiIn i p }

/-- Input `i` is enabled and a pin feeds it (R624, R629). -/
def Chip.midiListens (c : Chip) (i : Nat) : Bool :=
  decide (i < 4) && c.bit (A.MID_INn_CFG i) 31 && (c.pinFunc i = 1 || c.pinFunc (16 + i) = 2)

/-- A byte begins while MCLK is stopped (R576, R577). -/
def Chip.midiLost (c : Chip) (i : Nat) : Chip :=
  let c := (c.inc (A.MID_INn_ERRS i)).setBit A.SYS_PWR_STAT 16
  if c.bit A.SYS_PWR_CFG 4 then c.askWake else c

/-- Input `i` takes one byte whose start bit was first sampled at `stamp`, at the middle of its stop bit
(R236 to R242). -/
def midiByte (i stamp b : Nat) (stop : Bool) (e : Env) (c : Chip) : Chip :=
  let c := c.inc (A.MID_INn_BYTES i)
  let c := if c.bit A.SYS_PWR_CFG 4 then c.askWake else c
  let c := c.setMidi i { c.midi i with lastByte := e.now }
  if !stop then
    ((c.setBit (A.MID_INn_STAT i) 1).inc (A.MID_INn_ERRS i)).setMidi i { c.midi i with running := none, msg := none }
  else
    let s := midiStep (c.midi i) b stamp
    let c := c.setMidi i s.p
    let c := if s.stray then (c.setBit (A.MID_INn_STAT i) 2).inc (A.MID_INn_ERRS i) else c
    let c := if s.cut then c.setBit (A.MID_INn_STAT i) 3 else c
    let c := if b = 0xFE && c.bit (A.MID_INn_CFG i) 2 then c.setBit (A.MID_INn_STAT i) 0 else c
    if decide (0xF8 ≤ b) && c.bit (A.MID_INn_CFG i) (16 + (b - 0xF8)) then c
    else c.posts e (s.ev.map (fun m => m.toRec (0x10 + i) i))

/-- The state in which bytes arrive at input `i`: `t0` is the count of the first start bit plus all idle time so far,
`k` bytes have gone before (R243). -/
def midiBytes (i : Nat) : Nat → Nat → List (Nat × Byte × Bool) → State → State
  | _, _, [], s => s
  | t0, k, (idle, b, stop) :: l, s =>
    let t0 := t0 + idle
    if !s.chip.midiListens i then midiBytes i t0 (k + 1) l s
    else if s.chip.met.stopped then midiBytes i t0 (k + 1) l { s with chip := s.chip.midiLost i }
    else
      let stamp := t0 + s.chip.gridAt (10 * k)
      let mid := t0 + ((20 * k + 19) * s.chip.bitNum + 2 * bitDen - 1) / (2 * bitDen)
      midiBytes i t0 (k + 1) l ((s.advTo mid).on (midiByte i stamp b.toNat stop))

/-- Bytes arrive from the present count on. -/
def midiArrive (i : Nat) (l : List (Nat × Byte × Bool)) (s : State) : State := midiBytes i s.clock.abs 0 l s

/-- When the silence of an input that watches active sensing runs out (R242). -/
def Chip.senseDue (c : Chip) (i : Nat) : Option Nat :=
  if c.bit (A.MID_INn_STAT i) 0 then some ((c.midi i).lastByte + c.fld (A.MID_INn_CFG i) 13 8 * c.tenMs) else none

/-- The silence runs out (R242). -/
def senseLost (i : Nat) (e : Env) (c : Chip) : Chip :=
  let c := (c.setBit (A.MID_INn_STAT i) 4).clrBit (A.MID_INn_STAT i) 0
  let sys : MidiEvent := { kind := 8, key := 0xFE, va := 0xFFFF, stamp := e.now }
  let offs := if c.bit (A.MID_INn_CFG i) 1 then
      (List.range 16).map (fun ch => ({ kind := 4, key := 123, va := 0, vb := ch, stamp := e.now } : MidiEvent)) else []
  c.posts e ((sys :: offs).map (fun m => m.toRec (0x10 + i) i))

/-- Sources 152 + n. -/
def Chip.midiInIrq (c : Chip) (i : Nat) : Bool := (c.rd (A.MID_INn_STAT i) &&& c.rd (A.MID_INn_INT_EN i) &&& 0x1F) ≠ 0

/-! ### Records to bytes (R244) -/

/-- The bytes of a record; none where the kind cannot be sent. -/
def outBytes (r : Rec) : Option (List Nat) :=
  let ch := bits r.valueB 3 0
  let v := r.valueA.toNat
  let key := r.key % 128
  match r.kind with
  | 1 => some [0x90 + ch, key, v / 512]
  | 2 => some [0x80 + ch, key, v / 512]
  | 3 => some [0xA0 + ch, key, v / 512]
  | 4 => some [0xB0 + ch, key, v / 512]
  | 5 => some [0xD0 + ch, v / 512]
  | 6 => some [0xE0 + ch, v / 4 % 128, v / 512]
  | 7 => some [0xC0 + ch, key]
  | 8 => if r.key = 0xF0 then some [] else some (r.key :: [v % 256, v / 256].take (if 0xF0 ≤ r.key then dataLen r.key else 0))
  | 9 => some ([v % 256, v / 256, bits r.valueB 7 0, bits r.valueB 15 8, bits r.valueB 23 16, bits r.valueB 31 24].take r.key)
  | _ => none

/-! ### Outputs (R245 to R247) -/

def Chip.mout (c : Chip) (i : Nat) : MidiOut := getS {} c.midiOut i
def Chip.setMout (c : Chip) (i : Nat) (o : MidiOut) : Chip := { c with midiOut := putS {} c.midiOut i o }

/-- A message of one real-time byte. -/
def isRealtime (l : List Nat) : Bool := match l with
  | [b] => decide (0xF8 ≤ b)
  | _ => false

/-- A SysEx is in progress on the line after bytes sent verbatim: an 0xF0 has gone out and no 0xF7 since. -/
def sysexAfter (was : Bool) (l : List Nat) : Bool :=
  l.foldl (fun p b => if b = 0xF0 then true else if b = 0xF7 then false else p) was

/-- The bytes that go out, with the running status and the SysEx in progress after them (R245, R247). -/
def Chip.withRunning (c : Chip) (i : Nat) (o : MidiOut) (sysex : Bool) (l : List Nat) : MidiOut × List Nat :=
  if sysex then ({ o with running := none, sysex := sysexAfter o.sysex l }, l)
  else
    let o := if isRealtime l || l.isEmpty then o else { o with sysex := false }
    match l with
    | [] => (o, l)
    | b :: rest =>
      if b < 0x80 ∨ 0xF8 ≤ b then (o, l)
      else if 0xF0 ≤ b then ({ o with running := none }, l)
      else if c.bit (A.MID_OUTn_CFG i) 0 && o.running = some b then (o, rest)
      else ({ o with running := some b }, l)

/-- One byte begins at a grid boundary. -/
def Chip.byteOut (c : Chip) (o : MidiOut) (at0 b : Nat) : MidiOut :=
  { o with last := some b, began := at0, freeAt := c.gridAt (c.gridFrom at0 + 10) }

/-- The bytes of the message in progress that begin before `t` (or at it) begin. -/
def Chip.bytesUpTo (c : Chip) (t : Nat) : List Nat → MidiOut → MidiOut
  | [], o => { o with msg := [] }
  | b :: l, o => if o.freeAt ≤ t then c.bytesUpTo t l (c.byteOut o o.freeAt b) else { o with msg := b :: l }

/-- All bytes left of the message in progress. -/
def Chip.bytesAll (c : Chip) : List Nat → MidiOut → MidiOut
  | [], o => { o with msg := [] }
  | b :: l, o => c.bytesAll l (c.byteOut o o.freeAt b)

/-- The last count at which a byte of the message in progress may begin by `now`: a real-time byte in the direct slot
goes ahead of the bytes from its send-at count on (R247). -/
def slotHolds (o : MidiOut) (now : Nat) : Nat :=
  match o.slot with
  | some (l, sendAt) => if isRealtime l then min now (sendAt - 1) else now
  | none => now

/-- An output brought up to the present count. -/
def Chip.moutNow (c : Chip) (i now : Nat) : MidiOut := c.bytesUpTo (slotHolds (c.mout i) now) (c.mout i).msg (c.mout i)

/-- A message begins at `at0`. -/
def Chip.beginMsg (c : Chip) (i : Nat) (o : MidiOut) (sysex : Bool) (at0 : Nat) (l : List Nat) : MidiOut :=
  let (o, l) := c.withRunning i o sysex l
  match l with
  | [] => o
  | b :: rest => { c.byteOut o at0 b with msg := rest }

/-- A start more than LATE_BITS bit times after the send-at count (R246). -/
def Chip.lateStart (c : Chip) (i start sendAt : Nat) : Chip :=
  if c.fld (A.MID_OUTn_CFG i) 23 16 * c.bitNum < (start - sendAt) * bitDen then
    (c.inc (A.MID_OUTn_LATE_TX i)).setBit (A.MID_OUTn_STAT i) 1
  else c

/-- The direct slot sends (R247): a real-time byte at the next byte boundary, with the rest of the message in progress
after it, any other message when the message in progress is done. -/
def Chip.slotSend (c : Chip) (i now : Nat) : Chip :=
  let o := c.moutNow i now
  match o.slot with
  | none => c.setMout i o
  | some (l, sendAt) =>
    let rt := isRealtime l
    -- everything of the message in progress that must begin first
    let o := if rt then c.bytesUpTo (sendAt - 1) o.msg o else c.bytesAll o.msg o
    let start := c.gridAt (c.gridFrom (max o.freeAt (max sendAt now)))
    let o' := if rt then { c.byteOut { o with slot := none } start (l.headD 0) with msg := o.msg }
      else c.beginMsg i { o with slot := none } (l.head? = some 0xF0) start l
    (c.setMout i o').lateStart i start sendAt

/-- The count at which the direct slot's message would begin; only a real-time byte goes into a SysEx in progress, whose
records the queue still holds. -/
def Chip.slotStart (c : Chip) (i now : Nat) : Option Nat :=
  let o := c.moutNow i now
  (o.slot.filter (fun x => isRealtime x.1 || !o.sysex)).map fun (l, sendAt) =>
    let o := if isRealtime l then c.bytesUpTo (sendAt - 1) o.msg o else c.bytesAll o.msg o
    c.gridAt (c.gridFrom (max o.freeAt (max sendAt now)))

/-- The queue that a consumer code names. -/
def Chip.consumerQueue (c : Chip) (code : Nat) : Option Nat :=
  (c.que.map.find? (fun q => decide (0 < q.2.depth) && q.2.consumer == code)).map (·.1)

/-- How far a 48-bit count lies ahead of the present one, if it names a future count (R34). -/
def countAhead (t : Count) (now : Nat) : Option Nat :=
  let d := (t.toNat + 2 ^ 48 - now % 2 ^ 48) % 2 ^ 48
  if d = 0 ∨ 2 ^ 47 ≤ d then none else some d

/-- The absolute count that a 48-bit count names: the nearer one in the past or the future (R34). -/
def absOf (t : Count) (now : Nat) : Nat :=
  match countAhead t now with
  | some d => now + d
  | none => now - (now + 2 ^ 48 - t.toNat) % 2 ^ 48

/-- Output `i` is enabled. -/
def Chip.moutOn (c : Chip) (i : Nat) : Bool := decide (i < 4) && c.bit (A.MID_OUTn_CFG i) 31

/-- The send-at count of the head of output `i`'s queue, where the output is scheduled (R246). -/
def Chip.headSendAt (c : Chip) (i now : Nat) : Option Nat :=
  if !c.bit (A.MID_OUTn_CFG i) 2 then none
  else ((c.consumerQueue (0x14 + i)).bind (fun q => (c.qItems q).head?)).map (fun it => absOf it.r.time now)

/-- The grid boundary at which output `i` could begin a record that may go from `t`, the direct slot's due message
going first (R246, R247). -/
def Chip.recordStart (c : Chip) (i now t : Nat) : Nat :=
  let o := c.moutNow i now
  let f := (c.bytesAll o.msg o).freeAt
  c.gridAt (c.gridFrom (max f (max now t)))

/-- Output `i` takes the record at the head of its queue at the present count, the line being free (R244 to R246). -/
def takeRecord (i : Nat) (sendAt : Option Nat) (e : Env) (c : Chip) : Chip :=
  match (c.consumerQueue (0x14 + i)).bind c.popRec with
  | none => c
  | some (it, c) =>
    let o := c.moutNow i e.now
    let o := c.bytesAll o.msg o
    match outBytes it.r with
    | none => (c.setMout i o).setBit (A.MID_OUTn_STAT i) 2
    | some l =>
      let c := c.setMout i (c.beginMsg i o (it.r.kind = 9) (c.gridAt (c.gridFrom (max o.freeAt e.now))) l)
      match sendAt with
      | some t => if l.isEmpty then c else c.lateStart i e.now t
      | none => c

/-- Output `i` takes the next record of its queue once the line is free (R244, R246). With `wait`, the clock runs to
the send-at count of a scheduled record; without it, a record whose count is in the future waits. -/
def outRecord (i : Nat) (wait : Bool) (s : State) : State :=
  let c := s.chip
  let now := s.clock.abs
  if !c.moutOn i || c.met.stopped || ((c.consumerQueue (0x14 + i)).bind (fun q => (c.qItems q).head?)).isNone then s
  else
    let sendAt := c.headSendAt i now
    let t := sendAt.getD now
    if now < t && !wait then s
    else
      -- the direct slot goes ahead of the queue's next byte (R247)
      let first := match c.slotStart i now with
        | some x => decide (x ≤ c.recordStart i now t)
        | none => false
      let c := if first then c.slotSend i now else c
      let s := { s with chip := c }
      (s.advTo (c.recordStart i now t)).on (takeRecord i sendAt)

/-- The direct slot sends its message (R247). -/
def slotRun (i : Nat) (s : State) : State :=
  let c := s.chip
  if !c.moutOn i || c.met.stopped then s
  else
    match c.slotStart i s.clock.abs with
    | none => s
    | some t => ({ s with chip := c.slotSend i s.clock.abs }).advTo t

/-- The direct-send group has applied (R247). -/
def directApplied (i : Nat) (e : Env) (c : Chip) : Chip :=
  let m := c.rd (A.MID_OUTn_DS_MSG i)
  let at48 := BitVec.ofNat 48 (c.fld (A.MID_OUTn_DS_AT_HI i) 15 0 * 2 ^ 32 + (c.rd (A.MID_OUTn_DS_AT_LO i)).toNat)
  let l := [bits m 7 0, bits m 15 8, bits m 23 16].take (bits m 31 30)
  c.setMout i { c.moutNow i e.now with slot := if l.isEmpty then none else some (l, absOf at48 e.now) }

/-- An output whose line has been idle for 270 ms sends 0xFE (R245). -/
def senseSend (i : Nat) (s : State) : State :=
  let c := s.chip
  if !c.moutOn i || c.met.stopped || !c.bit (A.MID_OUTn_CFG i) 1 then s
  else
    let o := c.moutNow i s.clock.abs
    let o := c.bytesAll o.msg o
    let start := c.gridAt (c.gridFrom (max (o.freeAt + 27 * c.tenMs) s.clock.abs))
    ({ s with chip := c.setMout i (c.byteOut o start 0xFE) }).advTo start

/-- MID_OUTn_CFG: with EN = 0 the line idles high at once, and the message in progress is cut. -/
def moutCfgWrite (i : Nat) (v : Word) (e : Env) (c : Chip) : Chip :=
  let c := if c.bit (A.MID_OUTn_CFG i) 31 && !v.getLsbD 31 then
      let o := c.moutNow i e.now
      c.setMout i { o with msg := [], freeAt := min o.freeAt e.now, sysex := false }
    else c
  c.writeCoded (A.MID_OUTn_CFG i) v

/-- MID_INn_CFG: active sensing is watched only with AS_EN and EN (R242). -/
def minCfgWrite (i : Nat) (v : Word) (c : Chip) : Chip :=
  let c := c.writeCoded (A.MID_INn_CFG i) v
  if v.getLsbD 2 && v.getLsbD 31 then c else c.clrBit (A.MID_INn_STAT i) 0

/-- A write of a MIDI register. -/
def midWrite (a : Nat) (v : Word) (e : Env) (c : Chip) : Chip :=
  if A.MID_INn_CFG 0 ≤ a && a < A.MID_INn_CFG 4 && a % 0x20 = 0 then minCfgWrite ((a - A.MID_INn_CFG 0) / 0x20) v c
  else if A.MID_OUTn_CFG 0 ≤ a && a < A.MID_OUTn_CFG 4 && a % 0x20 = 0 then moutCfgWrite ((a - A.MID_OUTn_CFG 0) / 0x20) v e c
  else c.writeCoded a v

/-- MID_OUTn_STAT as read. -/
def Chip.moutStat (c : Chip) (i now : Nat) : Word :=
  let o := c.moutNow i now
  putFld (putFld (c.rd (A.MID_OUTn_STAT i)) 3 3 (if o.slot.isSome then 1 else 0)) 0 0
    (if decide (o.began ≤ now ∧ now < o.freeAt) then 1 else 0)

/-- Sources 156 + n. -/
def Chip.midiOutIrq (c : Chip) (i : Nat) : Bool := (c.rd (A.MID_OUTn_STAT i) &&& c.rd (A.MID_OUTn_INT_EN i) &&& 6) ≠ 0

end Sys2Proof.Machine
end

