-- ==== Sys2Proof/Machine/Usb.lean ====
section
/-! DEFINITION. Machine/Usb.lean: the USB device (07_midi_and_usb.md, R248 to R261). Packets and requests arrive as
commands; electrical signalling below them is not modelled. -/

namespace Sys2Proof.Machine

/-- Change the device's state. -/
def Chip.usbDo (c : Chip) (f : Usb → Usb) : Chip := { c with usb := f c.usb }

/-- USB_STAT fields. -/
def Chip.usbSpeed (c : Chip) : Nat := c.fld A.USB_STAT 17 16
def Chip.usbConfig (c : Chip) : Nat := c.fld A.USB_STAT 15 8
def Chip.msAlt (c : Chip) : Nat := c.fld A.USB_STAT 7 6
def Chip.inAlt (c : Chip) : Nat := c.fld A.USB_STAT 5 4
def Chip.outAlt (c : Chip) : Nat := c.fld A.USB_STAT 3 2
def Chip.usbHigh (c : Chip) : Bool := c.usbSpeed = 2

/-- The host can reach the device: the pull-up is presented and the bus has been reset since. -/
def Chip.usbUp (c : Chip) : Bool := c.usb.pullup && c.usbSpeed ≠ 0 && !c.bit A.USB_STAT 1

/-- Channels in force at the bus speed (R251). -/
def Chip.outChannels (c : Chip) : Nat := if c.usbHigh then c.usb.outCh else min 2 c.usb.outCh
def Chip.inChannels (c : Chip) : Nat := if c.usbHigh then c.usb.inCh else min 2 c.usb.inCh

/-- Streaming interfaces have more than alternate 0 (R248, R250, R251). -/
def Chip.streamAlts (c : Chip) (ch : Nat) : Nat :=
  if ch = 0 || (!c.usbHigh && decide (2 ≤ c.met.ticks.fs)) then 0 else 2

/-! ### Part-formed messages and rings -/

/-- Every part-formed message is discarded, in both directions (R259, R263). -/
def Chip.dropMessages (c : Chip) : Chip :=
  c.usbDo fun u => { u with
    cables := u.cables.map (fun p => (p.1, { ({} : MidiIn) with banks := p.2.banks }))
    active := none, opened := [], held := [], part := [] }

/-- The rings are emptied (R255, R263). -/
def Chip.emptyRings (c : Chip) : Chip := c.usbDo fun u => { u with outRing := [], inRing := [], primed := false }

/-- USB_RING as read. -/
def Chip.usbRing (c : Chip) : Word := word (c.usb.inRing.length * 65536 + c.usb.outRing.length)

/-- The device leaves its configuration: alternates 0, toggles 0, messages and rings dropped. -/
def Chip.usbUnconfigure (c : Chip) : Chip :=
  let was := c.usbConfig ≠ 0
  let c := (((c.setFld A.USB_STAT 15 2 0).dropMessages).emptyRings).usbDo fun u => { u with tog1 := false, tog2 := false }
  if was then c.setBit A.USB_EVT 3 else c

/-- The pull-up is withdrawn. -/
def Chip.usbDetach (c : Chip) : Chip :=
  let c := ((c.usbUnconfigure).setFld A.USB_STAT 17 16 0).clrBit A.USB_STAT 1
  c.usbDo fun u => { u with pullup := false, address := 0 }

/-! ### Registers (R249, R251) -/

/-- A write of a USB register: USB_CFG but for CONNECT, USB_ID, USB_BCD and USB_STR_ADDR only while CONNECT = 0. -/
def usbCfgWrite (a : Nat) (v : Word) (c : Chip) : Chip :=
  if a = A.USB_CFG then
    let old := c.rd A.USB_CFG
    let on := c.bit A.USB_CFG 31
    let new := match regFind a with
      | some (r, _) => codedWrite r old v
      | none => old
    let c :=
      if on then
        (if bits new 30 0 ≠ bits old 30 0 then c.setBit A.USB_EVT 7 else c).putBit A.USB_CFG 31 (v.getLsbD 31)
      else c.wr A.USB_CFG new
    if on && !v.getLsbD 31 then (c.usbDetach).usbDo fun u => { u with reconnect := none }
    else if !on && v.getLsbD 31 then
      c.usbDo fun u => { u with pullup := true, outCh := min 8 (bits new 3 0), inCh := min 8 (bits new 11 8) }
    else c
  else if (a = A.USB_ID || a = A.USB_BCD || a = A.USB_STR_ADDR) && c.bit A.USB_CFG 31 then c.setBit A.USB_EVT 7
  else c.writeCoded a v

/-- A commit at absolute count `t` has changed fs (R253). -/
def Chip.usbRetune (c : Chip) (t : Nat) : Chip :=
  if c.bit A.USB_CFG 31 then
    ((c.usbDetach).usbDo fun u => { u with reconnect := some (t + 5 * c.tenMs) }).setBit A.USB_EVT 6
  else c

/-- The pull-up is presented again (R253). -/
def usbReconnect (c : Chip) : Chip :=
  if c.usb.reconnect.isSome then
    c.usbDo fun u => { u with reconnect := none, pullup := true, outCh := min 8 (c.fld A.USB_CFG 3 0), inCh := min 8 (c.fld A.USB_CFG 11 8) }
  else c

/-! ### Bus events -/

/-- A bus reset (R263); `hs` is the host's side of the high-speed handshake (R249). -/
def usbBusReset (hs : Bool) (c : Chip) : Chip :=
  if !c.usb.pullup then c
  else
    let c := (((c.askWake).usbUnconfigure).setBit A.USB_EVT 0).clrBit A.USB_STAT 1
    (c.setFld A.USB_STAT 17 16 (if hs && c.bit A.USB_CFG 30 then 2 else 1)).usbDo fun u => { u with address := 0 }

/-- The bus suspends. -/
def usbSuspend (c : Chip) : Chip :=
  if c.usb.pullup && !c.bit A.USB_STAT 1 then (c.setBit A.USB_STAT 1).setBit A.USB_EVT 1 else c

/-- Resume signalling (R576). -/
def usbResume (c : Chip) : Chip :=
  if c.usb.pullup && c.bit A.USB_STAT 1 then ((c.askWake).clrBit A.USB_STAT 1).setBit A.USB_EVT 2 else c

/-! ### Requests (R250 to R252, R261) -/

/-- The device descriptor (R250). -/
def Chip.deviceDescriptor (c : Chip) : List Nat :=
  let id := c.rd A.USB_ID
  [18, 1, 0x00, 0x02, 0xEF, 0x02, 0x01, 64, bits id 23 16, bits id 31 24, bits id 7 0, bits id 15 8,
    c.fld A.USB_BCD 7 0, c.fld A.USB_BCD 15 8, 1, 2, 3, if c.bit A.USB_CFG 27 then 2 else 1]

/-- The string descriptor at place `n` of the table (R250). -/
def stringAt (c : Chip) : Nat → Nat → Option (List Nat)
  | a, 0 =>
    let len := (getB c.mem a).toNat
    if len < 2 then none else some ((getBytes c.mem a len).map (·.toNat))
  | a, n + 1 => stringAt c (a + (getB c.mem a).toNat) n

/-- Frames that wMaxPacketSize allows in one packet (R251). -/
def Chip.maxFrames (c : Chip) : Nat :=
  let d := if c.usbHigh then 8000 else 1000
  (c.met.ticks.hz + d - 1) / d + 1

/-- The configuration descriptor's values (R250, R251). -/
def Chip.configReply (c : Chip) (uac1 : Bool) : UsbReply :=
  let o := c.outChannels
  let i := c.inChannels
  let map := fun n => if n = 2 then 3 else 0
  .config (if c.bit A.USB_CFG 29 then 0xC0 else 0x80) (c.fld A.USB_CFG 23 16) uac1
    [(0, 0), (1, c.streamAlts o), (2, c.streamAlts i), (3, 0), (4, 1)]
    o i (map o) (map i) (c.maxFrames * o * 3) (c.maxFrames * i * 3)

/-- The alternate selected at an interface. -/
def Chip.usbAlt (c : Chip) (i : Nat) : Nat :=
  match i with
  | 1 => c.outAlt
  | 2 => c.inAlt
  | 4 => c.msAlt
  | _ => 0

/-- The boot configuration, where its MAGIC and CRC are correct (R589). -/
def Chip.bootCfg (c : Chip) : Option (List Byte) :=
  let bs := getBytes c.mem 0x220D0000 64
  if bs.take 4 = [0x4C, 0x4B, 0x42, 0x43] && (crc32 (bs.take 60)).toNat = leNat (bs.drop 60) then some bs else none

/-- A field of the boot configuration, or its default (R589). -/
def Chip.bootField (c : Chip) (off n default : Nat) : Nat :=
  match c.bootCfg with
  | some bs => leNat ((bs.drop off).take n)
  | none => default

/-- The boot ROM offers USB DFU (R588, R592). -/
def Chip.dfuMode (c : Chip) : Bool := c.pwr.boot == .waitDfu || c.pwr.boot == .recovery

/-- The answers of the boot ROM's DFU device (R262). -/
def dfuAnswer (r : UsbRequest) (c : Chip) : UsbReply :=
  let id := .dfu (c.bootField 16 2 0) (c.bootField 18 2 0) 3 0x0110 9 1024
  match r with
  | .deviceDescriptor => id
  | .configDescriptor n => if n = 0 then id else .stall
  | .getStatus => .bytes [0, 0]
  | .getConfiguration => .bytes [c.usbConfig]
  | .getInterface n => if c.usbConfig = 0 || n ≠ 0 then .stall else .bytes [c.usb.dfuAlt]
  | .setAddress _ => .ack
  | _ => .stall

/-- The answer to a standard request or an audio-class GET (R248, R250 to R252, R261). -/
def usbAnswer (r : UsbRequest) (c : Chip) : UsbReply :=
  if c.dfuMode then dfuAnswer r c
  else match r with
  | .deviceDescriptor => .bytes c.deviceDescriptor
  | .configDescriptor n =>
    if n = 0 then c.configReply false else if n = 1 && c.bit A.USB_CFG 27 then c.configReply true else .stall
  | .stringDescriptor n =>
    if 4 ≤ n then .stall
    else match stringAt c (c.rd A.USB_STR_ADDR).toNat n with
      | some l => .bytes l
      | none => .stall
  | .getStatus => .bytes [if c.bit A.USB_CFG 29 then 1 else 0, 0]
  | .getConfiguration => .bytes [c.usbConfig]
  | .getInterface n => if c.usbConfig = 0 || decide (5 ≤ n) then .stall else .bytes [c.usbAlt n]
  | .setAddress _ => .ack
  | .getCur entity control =>
    let hz := c.met.ticks.hz
    if entity = 0x10 && control = 1 then .bytes [hz % 256, hz / 256 % 256, hz / 65536, 0]
    else if entity = 0x10 && control = 2 then .bytes [1]
    else if (entity = 2 || entity = 5) && control = 1 then .bytes [getS 0 c.usb.cur (4 * entity + 1)]
    else if (entity = 2 || entity = 5) && control = 2 then
      let v := getS 0 c.usb.cur (4 * entity + 2)
      .bytes [v % 256, v / 256]
    else .stall
  | .getRange entity control =>
    let hz := c.met.ticks.hz
    if entity = 0x10 && control = 1 then
      let b := [hz % 256, hz / 256 % 256, hz / 65536, 0]
      .bytes ([1, 0] ++ b ++ b ++ [0, 0, 0, 0])
    else if (entity = 2 || entity = 5) && control = 2 then .bytes [1, 0, 0x00, 0x9C, 0x00, 0x00, 0x00, 0x01]
    else .stall
  | .other => .stall

/-- A standard request or an audio-class GET is answered (R261). -/
def usbRequest (r : UsbRequest) (c : Chip) : Chip :=
  if !c.usbUp then c
  else
    let ans := usbAnswer r c
    c.usbDo fun u => { u with
      reply := ans
      address := match r with
        | .setAddress a => a.toNat
        | _ => u.address }

/-- The USB_CTRL record of a request (R261). -/
def ctrlRec (e : Env) (key va vb : Nat) : Rec :=
  { source := 0x19, kind := 0x18, key := key, flags := 0, time := e.stamp, valueA := BitVec.ofNat 16 va, valueB := word vb }

def Chip.usbSays (c : Chip) (r : UsbReply) : Chip := c.usbDo fun u => { u with reply := r }

/-- SET_CONFIGURATION (R261). -/
def setConfiguration (v : Nat) (e : Env) (c : Chip) : Chip :=
  if !c.usbUp then c
  else if (if c.dfuMode then 1 else if c.bit A.USB_CFG 27 then 2 else 1) < v then c.usbSays .stall
  else
    let c := ((c.setFld A.USB_STAT 15 2 0).dropMessages).emptyRings
    let c := (c.setFld A.USB_STAT 15 8 v).usbDo fun u => { u with tog1 := false, tog2 := false }
    let c := (c.setBit A.USB_EVT 3).usbSays .ack
    if c.dfuMode then c else c.post e (ctrlRec e 0x09 v 0)

/-- The alternates of an interface run to this number. -/
def Chip.maxAlt (c : Chip) (i : Nat) : Nat :=
  match i with
  | 1 => c.streamAlts c.outChannels
  | 2 => c.streamAlts c.inChannels
  | 4 => 1
  | _ => 0

/-- SET_INTERFACE (R255, R259, R261, R263). -/
def setInterface (i alt : Nat) (e : Env) (c : Chip) : Chip :=
  if !c.usbUp then c
  else if c.dfuMode then
    (if c.usbConfig ≠ 0 && i = 0 && decide (alt < 3) then
      (c.usbDo fun u => { u with dfuAlt := alt, dfuData := [], dfuError := false }).usbSays .ack
    else c.usbSays .stall)
  else if c.usbConfig = 0 || decide (5 ≤ i) || decide (c.maxAlt i < alt) then c.usbSays .stall
  else
    let c := match i with
      | 1 => (c.setFld A.USB_STAT 3 2 alt).usbDo fun u => { u with outRing := [], primed := false, tog1 := false }
      | 2 => (c.setFld A.USB_STAT 5 4 alt).usbDo fun u => { u with inRing := [] }
      | 4 => ((c.setFld A.USB_STAT 7 6 alt).dropMessages).usbDo fun u => { u with tog2 := false }
      | _ => c
    ((c.setBit A.USB_EVT 3).usbSays .ack).post e (ctrlRec e 0x0B (i * 256 + alt) 0)

/-- A feature unit's SET_CUR of mute or volume (R252, R261). -/
def featureSetCur (entity control v : Nat) (e : Env) (c : Chip) : Chip :=
  if !c.usbUp then c
  else if !c.dfuMode && (entity = 2 || entity = 5) && (control = 1 || control = 2) then
    let v := v % (if control = 1 then 2 else 65536)
    let c := c.usbDo fun u => { u with cur := putS 0 u.cur (4 * entity + control) v }
    (c.usbSays .ack).post e (ctrlRec e 0x01 (entity * 256 + control) v)
  else c.usbSays .stall

/-- SET_CUR of the clock source's frequency (R252). -/
def clockSetCur (hz : Nat) (c : Chip) : Chip :=
  if !c.usbUp then c else c.usbSays (if hz = c.met.ticks.hz && !c.dfuMode then .ack else .stall)

/-! ### Audio (R255, R256) -/

/-- An isochronous OUT packet: one list of subslots for each frame (R254, R255). -/
def audioOut (toggle : Bool) (frames : List (List Word)) (c : Chip) : Chip :=
  if !c.usbUp || c.outAlt = 0 || toggle ≠ c.usb.tog1 then c
  else
    let n := c.outChannels
    let val := fun (w : Word) => if c.outAlt = 1 then sgn 24 w.toNat * 256 else sgn 16 w.toNat * 65536
    let fs := frames.map (fun f => (List.range n).map (fun k => val (f.getD k 0)))
    let room := 256 - c.usb.outRing.length
    let c := c.usbDo fun u => { u with tog1 := !u.tog1, outRing := u.outRing ++ fs.take room }
    if room < fs.length then c.setBit A.USB_EVT 5 else c

/-- An isochronous IN packet carries the frames captured since the last one (R255). -/
def audioIn (c : Chip) : Chip :=
  if !c.usbUp || c.inAlt = 0 then c
  else
    let w := if c.inAlt = 1 then 24 else 16
    c.usbDo fun u => { u with audioSent := u.inRing.map (fun f => f.map (toWidth w)), inRing := [] }

/-- The feedback endpoint's value (R256); `cnt` is C as measured. -/
def usbFeedback (cnt : Nat) (c : Chip) : Chip :=
  if !c.usbUp || c.outAlt = 0 then c
  else
    let f : Int := 128 - (c.usb.outRing.length : Int)
    let cs := c.met.ticks.cs
    let v : Int := if c.usbHigh then (cnt * 65536 / (64 * cs) : Nat) + clampI (-2048) 2048 (16 * f)
      else (cnt * 16384 / (8 * cs) : Nat) + clampI (-512) 512 (4 * f)
    c.wr A.USB_FB (wordI v)

/-- The exchange at a block tick: B frames leave the OUT ring into IN 56 to 63, and the block that begins to play
goes to the IN ring (R255). -/
def Chip.ringExchange (c : Chip) : Chip :=
  let b := c.met.ticks.b
  let clear := (List.range 8).foldl (fun (m : SMap (SMap Int)) k => putS [] m (56 + k) []) c.aud.inDone
  let c := c.audDo fun a => { a with inDone := clear }
  let c :=
    if c.outAlt = 0 then c
    else
      let c := if decide (128 ≤ c.usb.outRing.length) then c.usbDo fun u => { u with primed := true } else c
      if !c.usb.primed then c
      else
        let fs := c.usb.outRing.take b
        let put := (List.range 8).foldl (fun (m : SMap (SMap Int)) k =>
          putS [] m (56 + k) ((List.range fs.length).foldl (fun (x : SMap Int) j => putS 0 x j ((fs.getD j []).getD k 0)) []))
          c.aud.inDone
        let short := decide (c.usb.outRing.length < b)
        let c := c.audDo fun a => { a with inDone := put }
        let c := c.usbDo fun u => { u with outRing := u.outRing.drop b }
        if short then c.setBit A.USB_EVT 4 else c
  if c.inAlt = 0 then c
  else
    let n := c.inChannels
    let fs := (List.range b).map (fun m => (List.range n).map (fun k => c.outSample (24 + k) m))
    let room := 256 - c.usb.inRing.length
    let c := c.usbDo fun u => { u with inRing := u.inRing ++ fs.take room }
    if room < fs.length then c.setBit A.USB_EVT 5 else c

/-! ### USB MIDI from the host (R257, R258) -/

def Chip.cable (c : Chip) (k : Nat) : MidiIn := getS {} c.usb.cables k
def Chip.setCable (c : Chip) (k : Nat) (p : MidiIn) : Chip := c.usbDo fun u => { u with cables := putS {} u.cables k p }

/-- One byte reaches cable (or group) `k`'s parser; true where it was stray. A SysEx is announced by a SYSTEM record
(R257). -/
def Chip.cableByte (e : Env) (c : Chip) (k b stamp : Nat) : Bool × Chip :=
  let s := midiStep (c.cable k) b stamp
  let c := c.setCable k s.p
  let head : List MidiEvent := if b = 0xF0 then [{ kind := 8, key := 0xF0, va := 0, stamp := stamp }] else []
  (s.stray, c.posts e ((s.ev ++ head).map (fun m => m.toRec 0x18 k)))

/-- The held bytes of cable `k` up to the end of its first message, and the rest. -/
def splitHeld (k : Nat) : List (Nat × Nat × Nat) → List (Nat × Nat × Nat) × List (Nat × Nat × Nat) × Bool
  | [] => ([], [], false)
  | x :: l =>
    if x.1 ≠ k then
      let (a, r, f) := splitHeld k l
      (a, x :: r, f)
    else if x.2.1 = 0xF7 ∨ x.2.1 = 256 then ([x], l, true)
    else
      let (a, r, f) := splitHeld k l
      (x :: a, r, f)

/-- The next held SysEx is forwarded, as far as it has arrived (R257). -/
def releaseHeld : Nat → Env → Chip → Chip
  | 0, _, c => c
  | fuel + 1, e, c =>
    match c.usb.held with
    | [] => c
    | (k, _, _) :: _ =>
      let (mine, rest, done) := splitHeld k c.usb.held
      let c := c.usbDo fun u => { u with held := rest, active := some k, opened := if done then u.opened else u.opened.filter (· ≠ k) }
      let c := mine.foldl (fun c x =>
        if x.2.1 = 256 then
          let s := cutSysex (c.cable k) x.2.2
          (c.setCable k s.p).posts e (s.ev.map (fun m => m.toRec 0x18 k))
        else (c.cableByte e k x.2.1 x.2.2).2) c
      if done then releaseHeld fuel e (c.usbDo fun u => { u with active := none }) else c

/-- Forward the held messages when no message is being forwarded. -/
def Chip.afterSysex (e : Env) (c : Chip) (k : Nat) : Chip :=
  if c.usb.active = some k && (c.cable k).sysex.isNone then
    releaseHeld (c.usb.held.length + 1) e (c.usbDo fun u => { u with active := none })
  else c

/-- One byte of a USB-MIDI event on cable `k`: SysEx bytes of another cable than the one being forwarded are held
(R257). True where the byte was stray. -/
def Chip.usbByte (e : Env) (c : Chip) (k b : Nat) : Bool × Chip :=
  let isOpen := c.usb.opened.contains k
  let hold := fun (c : Chip) (x : Nat) => c.usbDo fun u => { u with held := u.held ++ [(k, x, e.now)] }
  if 0xF8 ≤ b then c.cableByte e k b e.now
  else if isOpen && decide (b < 0x80) then (false, hold c b)
  else if isOpen && b = 0xF7 then (false, (hold c b).usbDo fun u => { u with opened := u.opened.filter (· ≠ k) })
  else
    let c := if isOpen then (hold c 256).usbDo fun u => { u with opened := u.opened.filter (· ≠ k) } else c
    if b = 0xF0 then
      -- the message in progress on this cable ends first (R241)
      let s := cutSysex (c.cable k) e.now
      let c := (c.setCable k s.p).posts e (s.ev.map (fun m => m.toRec 0x18 k))
      let c := c.afterSysex e k
      if c.usb.active.isNone then
        let (st, c) := c.cableByte e k b e.now
        (st, c.usbDo fun u => { u with active := some k })
      else
        let c := c.setCable k { c.cable k with running := none, msg := none }
        (false, (hold c b).usbDo fun u => { u with opened := k :: u.opened })
    else
      let (st, c) := c.cableByte e k b e.now
      (st, c.afterSysex e k)

/-- Bytes of a USB-MIDI event by code index number; none for a reserved number (R257). -/
def cinBytes (cin : Nat) : Option Nat :=
  match cin with
  | 0 => none
  | 1 => none
  | 2 => some 2
  | 3 => some 3
  | 4 => some 3
  | 5 => some 1
  | 6 => some 2
  | 7 => some 3
  | 12 => some 2
  | 13 => some 2
  | 15 => some 1
  | _ => some 3

/-- One 4-byte USB-MIDI event: byte 0 in bits [7:0]. -/
def Chip.usbEvent (e : Env) (c : Chip) (w : Word) : Chip :=
  let cable := bits w 7 4
  match cinBytes (bits w 3 0) with
  | none => c.inc A.USB_DROPS
  | some n =>
    if 8 ≤ cable then c.inc A.USB_DROPS
    else
      let (st, c) := ([bits w 15 8, bits w 23 16, bits w 31 24].take n).foldl (fun (p : Bool × Chip) b =>
        let (s, c) := p.2.usbByte e cable b
        (p.1 || s, c)) (false, c)
      if st then c.inc A.USB_DROPS else c

/-- A bulk OUT packet of USB-MIDI events (R254, R257): refused with NAK while the buffer for held SysEx is full. -/
def eventPacket (toggle : Bool) (l : List Word) (e : Env) (c : Chip) : Chip :=
  if !c.usbUp || c.usbConfig = 0 || c.msAlt ≠ 0 || toggle ≠ c.usb.tog2 || decide (1024 ≤ c.usb.held.length) then c
  else l.foldl (fun c w => c.usbEvent e w) (c.usbDo fun u => { u with tog2 := !u.tog2 })

/-- The UMP records of a packet (R258). -/
def umpRecs (e : Env) (ws : List Word) : List Rec :=
  let w0 := ws.headD 0
  let n := ws.length
  (List.range n).map fun k =>
    { source := 0x18, kind := 0x0A, key := k, flags := if k + 1 < n then 4 else 0, time := e.stamp
      valueA := BitVec.ofNat 16 (bits w0 27 24 + 16 * bits w0 31 28 + 256 * n), valueB := ws.getD k 0 }

/-- A MIDI 2.0 channel voice message as a record of R237, where UMP_XLAT translates it (R258). -/
def midi2Rec (e : Env) (w0 w1 : Word) : Option Rec :=
  let note := bits w0 15 8
  let hi := bits w1 31 16
  let make := fun kind key va =>
    some ({ source := 0x18, kind := kind, key := key, flags := 0, time := e.stamp, valueA := BitVec.ofNat 16 va
            valueB := word (bits w0 19 16 + 16 * bits w0 27 24) } : Rec)
  match bits w0 23 20 with
  | 9 => make 1 note (max 1 hi)
  | 8 => make 2 note (max 1 hi)
  | 10 => make 3 note hi
  | 11 => make 4 note hi
  | 12 => make 7 (bits w1 31 24) (if w0.getLsbD 0 then bits w1 14 8 * 128 + bits w1 6 0 else 0)
  | 13 => make 5 0 hi
  | 14 => make 6 0 hi
  | _ => none

/-- A Universal MIDI Packet (R254, R258). -/
def umpPacket (toggle : Bool) (ws : List Word) (e : Env) (c : Chip) : Chip :=
  if !c.usbUp || c.usbConfig = 0 || c.msAlt ≠ 1 || toggle ≠ c.usb.tog2 || ws.isEmpty then c
  else
    let c := c.usbDo fun u => { u with tog2 := !u.tog2 }
    let w0 := ws.headD 0
    let xlat := c.bit A.USB_CFG 28
    if xlat && bits w0 31 28 = 2 then
      ([bits w0 23 16, bits w0 15 8, bits w0 7 0].take (1 + dataLen (bits w0 23 16))).foldl
        (fun c b => (c.cableByte e (bits w0 27 24) b e.now).2) c
    else
      match if xlat && bits w0 31 28 = 4 then midi2Rec e w0 (ws.getD 1 0) else none with
      | some r => c.post e r
      | none => c.posts e (umpRecs e ws)

/-! ### USB MIDI to the host (R259) -/

/-- SysEx bytes as USB-MIDI events on a cable, with the bytes left over. -/
def sysexEvents (cable : Nat) : Nat → List Nat → List Word × List Nat
  | 0, l => ([], l)
  | fuel + 1, l =>
    let pack := fun (cin a b d : Nat) => word (cable * 16 + cin + 256 * a + 65536 * b + 16777216 * d)
    match l with
    | 0xF7 :: r => let (e, k) := sysexEvents cable fuel r; (pack 5 0xF7 0 0 :: e, k)
    | a :: 0xF7 :: r => let (e, k) := sysexEvents cable fuel r; (pack 6 a 0xF7 0 :: e, k)
    | a :: b :: d :: r => let (e, k) := sysexEvents cable fuel r; (pack (if d = 0xF7 then 7 else 4) a b d :: e, k)
    | _ => ([], l)

/-- A channel or system message as one USB-MIDI event. -/
def messageWord (cable : Nat) (l : List Nat) : Word :=
  let s := l.headD 0
  let cin := if s < 0xF0 then s / 16 else if 0xF8 ≤ s then 15 else match l.length with
    | 1 => 5
    | 2 => 2
    | _ => 3
  word (cable * 16 + cin + 256 * s + 65536 * l.getD 1 0 + 16777216 * l.getD 2 0)

/-- The endpoint takes a record of its queue (R259). -/
def usbMidiSend (c : Chip) : Chip :=
  if !c.usbUp || c.usbConfig = 0 then c
  else
    match (c.consumerQueue 0x1A).bind c.popRec with
    | none => c
    | some (it, c) =>
      let r := it.r
      let drop := (c.usbDo fun u => { u with midiSent := [] }).inc A.USB_DROPS
      let send := fun (ws : List Word) => c.usbDo fun u => { u with midiSent := ws }
      let cable := bits r.valueB 7 4
      if c.msAlt = 0 then
        match outBytes r with
        | none => drop
        | some l =>
          if r.kind = 9 then
            if 8 ≤ c.usb.outCable then drop
            else
              let all := c.usb.part ++ l
              let (ws, rest) := sysexEvents c.usb.outCable all.length all
              c.usbDo fun u => { u with midiSent := ws, part := rest }
          else if r.kind = 8 && r.key = 0xF0 then
            let c := c.usbDo fun u => { u with outCable := cable, part := [], midiSent := [] }
            if 8 ≤ cable then c.inc A.USB_DROPS else c
          else if 8 ≤ cable then drop
          else send [messageWord cable l]
      else if r.kind = 0x0A then send [r.valueB]
      else if decide (1 ≤ r.kind ∧ r.kind ≤ 7) then
        match outBytes r with
        | some l => send [word (0x20000000 + cable * 0x1000000 + l.headD 0 * 65536 + l.getD 1 0 * 256 + l.getD 2 0)]
        | none => drop
      else drop

/-- Source 168. -/
def Chip.usbIrq (c : Chip) : Bool := (c.rd A.USB_EVT &&& c.rd A.USB_INT_EN &&& 0xFF) ≠ 0

end Sys2Proof.Machine
end

