-- ==== Sys2Proof/Machine/Display.lean ====
section
/-! DEFINITION. Machine/Display.lean: the display controller: beam, line fetch, composition, command-mode pushes, the
character module and self-refresh (08_display.md). -/

namespace Sys2Proof.Machine

/-- Change the controller's state. -/
def Chip.dispDo (c : Chip) (f : Disp → Disp) : Chip := { c with disp := f c.disp }

/-- The section in force; KIND 0 before the first commit (R266). -/
def noDisplay : DisplaySec :=
  { kind := 0, mode := 0, fclass := 0, layers := 0, folioFmt := [0, 0, 0, 0], surfFmt := 0, sprFmt := 0, w := 0, h := 0, fbTarget := 0 }
def Chip.dsec (c : Chip) : DisplaySec := c.disp.sec.getD noDisplay
def Chip.dkind (c : Chip) : Nat := c.dsec.kind

/-- Active width and height. -/
def DisplaySec.size (d : DisplaySec) : Nat × Nat :=
  if d.kind = 1 then ((modeGeom d.mode).1, (modeGeom d.mode).2.1) else (d.w, d.h)

/-! ### The beam (R267, R268, R271, R294) -/

/-- Counts in a frame. -/
def Chip.frameCounts (c : Chip) : Nat := c.met.ticks.n * c.met.ticks.cs

/-- H_TOTAL of a standard mode (R267). -/
def Chip.hTotal (c : Chip) : Nat := [20, 32, 40, 64].getD ((c.dsec.mode - 1) % 4) 20 * (c.frameCounts / 32768)

/-- V_TOTAL of a standard mode. -/
def Chip.vTotal (c : Chip) : Nat := (modeGeom c.dsec.mode).2.2

/-- The tick of the frame that holds count `now` (R36). -/
def Chip.frameStart (c : Chip) (now : Nat) : Nat :=
  c.met.frame0 + (now - c.met.frame0) / c.frameCounts * c.frameCounts

/-- The beam's line and pixel in a standard mode (R271). -/
def Chip.beamAt (c : Chip) (now : Nat) : Nat × Nat :=
  let fl := c.frameCounts
  let cf := now - c.frameStart now
  let v := c.vTotal
  let line := cf * v / fl
  (line, (cf * v - line * fl) * c.hTotal / fl)

/-- The count at which line `l` of the frame that starts at `f` begins. -/
def Chip.lineCount (c : Chip) (f l : Nat) : Nat := f + (l * c.frameCounts + c.vTotal - 1) / c.vTotal

/-- Bus cycles of one panel transfer (R291); a field 0 counts as 1 (log entry 6). -/
def Chip.xferCycles (c : Chip) : Nat :=
  if c.dkind = 2 then max 1 (c.fld A.DISP_DBI_TIME 3 0) + max 1 (c.fld A.DISP_DBI_TIME 7 4)
  else (if c.bit A.DISP_DBI_CFG 1 then 9 else 8) * 2 * (max 1 (c.fld A.DISP_DBI_TIME 11 8) + 1)

/-- Interconnect cycles as counts, rounded up. -/
def cyclesToCounts (n : Nat) : Nat := (2 * n + 4) / 5

/-- Transfers for a pixel of a push (R290). -/
def Chip.pixelXfers (c : Chip) : Nat :=
  if c.dkind = 2 && c.bit A.DISP_DBI_CFG 0 then 1 else if c.fld A.DISP_DBI_CFG 5 4 = 0 then 2 else 3

/-- Transfers of a rectangle before its first pixel: two address commands with four bytes each, and 0x2C. -/
def rectHead : Nat := 11

/-- Pixel columns and rows of a rectangle of tiles. -/
def rectW (r : Nat × Nat × Nat × Nat) : Nat := 16 * (r.2.2.1 + 1 - r.1)
def rectH (r : Nat × Nat × Nat × Nat) : Nat := 16 * (r.2.2.2 + 1 - r.2.1)

/-- Transfers of a rectangle. -/
def Chip.rectXfers (c : Chip) (r : Nat × Nat × Nat × Nat) : Nat := rectHead + rectW r * rectH r * c.pixelXfers

/-- The row that a push has reached after `n` transfers. -/
def Chip.pushRow (c : Chip) : List (Nat × Nat × Nat × Nat) → Nat → Nat
  | [], _ => c.dsec.h
  | r :: l, n =>
    let t := c.rectXfers r
    if n < t then 16 * r.2.1 + (n - rectHead) / max 1 (rectW r * c.pixelXfers)
    else match l with
      | [] => 16 * r.2.2.2 + 15
      | _ => c.pushRow l (n - t)

/-- The transfers a push has made before it reaches row `y` or one below it. -/
def Chip.xfersBefore (c : Chip) : List (Nat × Nat × Nat × Nat) → Nat → Nat
  | [], _ => 0
  | r :: l, y =>
    if y ≤ 16 * r.2.1 then 0
    else if y ≤ 16 * r.2.2.2 + 15 then rectHead + (y - 16 * r.2.1) * rectW r * c.pixelXfers
    else c.rectXfers r + c.xfersBefore l y

/-- DISP_BEAM as read (R271, R294). -/
def Chip.beamWord (c : Chip) (now : Nat) : Word :=
  let make := fun (vb hb safe : Bool) (line px : Nat) =>
    word ((if vb then 2 ^ 31 else 0) + (if hb then 2 ^ 30 else 0) + (if safe then 2 ^ 29 else 0) + line % 2048 * 65536 + px % 4096)
  let d := c.dsec
  match d.kind with
  | 1 =>
    let (line, px) := c.beamAt now
    let (w, h) := d.size
    make (decide (h ≤ line)) (decide (w ≤ px)) (decide (h ≤ line ∧ line + 2 ≤ c.vTotal)) line px
  | 2 | 3 =>
    match c.disp.push with
    | some p => make false true false (c.pushRow p.rects ((now - p.start) * 5 / (2 * max 1 c.xferCycles))) 0
    | none => make true true true d.h 0
  | 4 => make true true c.disp.push.isNone 0x7FF 0
  | _ => make true true true 0x7FF 0

/-- The line a fence or a WAIT LINE compares with (R294). -/
def Chip.beamLine (c : Chip) (now : Nat) : Nat := bits (c.beamWord now) 26 16

/-- DISP_MODE and DISP_GEOM follow the section in force. -/
def Chip.dispRegs (c : Chip) : Chip :=
  let d := c.dsec
  let c := c.wr A.DISP_MODE (word (d.layers % 64 * 65536 + d.mode % 16 * 256 + d.kind % 8))
  let g := match d.kind with
    | 1 => c.hTotal * 65536 + c.vTotal
    | 2 | 3 => d.w * 65536 + d.h
    | _ => 0
  c.wr A.DISP_GEOM (word g)

/-! ### Pixels (R278 to R287)

A fetched pixel is `none` where transparent, palette × 256 + index where paletted, or 65,536 plus an ARGB1555 word. -/

/-- Pixel number `p` of an array of pixels at `base`, in the format of a bits-per-pixel code. -/
def rawPixel (m : Mem) (base code p : Nat) : Nat :=
  match code with
  | 0 => let b := (getB m (base + p / 2)).toNat; if p % 2 = 0 then b / 16 else b % 16
  | 1 => (getB m (base + p)).toNat
  | _ => leNat (getBytes m (base + 2 * p) 2)

/-- A raw value as a fetched pixel: index 0 is transparent (R286). -/
def pixelVal (code pal bank raw : Nat) : Option Nat :=
  match code with
  | 0 => let i := bank % 16 * 16 + raw; if i = 0 then none else some (pal * 256 + i)
  | 1 => if raw = 0 then none else some (pal * 256 + raw)
  | _ => some (65536 + raw)

/-- A tile size and its orientation (R279). -/
def orientX (t orient p : Nat) : Nat := if orient % 2 = 1 then t - 1 - p else p
def orientY (t orient p : Nat) : Nat := if 2 ≤ orient then t - 1 - p else p

/-- A Folio layer's pixel (R278, R279). -/
def Chip.folioPixel (c : Chip) (f x y : Nat) : Option Nat :=
  let fmt := c.dsec.folioFmt.getD f 0
  let code := fmt % 4
  let t := if fmt / 4 % 2 = 1 then 16 else 8
  let size := c.rd (A.DISP_Ff_SIZE f)
  let mw := 32 * 2 ^ bits size 1 0
  let mh := 32 * 2 ^ bits size 5 4
  let sc := c.rd (A.DISP_Ff_SCROLL f)
  let s : Int := if size.getLsbD 8 then sgn 16 (leNat (getBytes c.mem ((c.rd (A.DISP_Ff_LSBASE f)).toNat + 4 * y) 2)) else 0
  let lx := (((x + bits sc 15 0 : Nat) : Int) + s).emod (mw * t : Nat) |>.toNat
  let ly := (y + bits sc 31 16) % (mh * t)
  let entry := leNat (getBytes c.mem ((c.rd (A.DISP_Ff_MAP f)).toNat + 2 * (ly / t * mw + lx / t)) 2)
  let orient := entry / 1024 % 4
  let px := orientX t orient (lx % t)
  let py := orientY t orient (ly % t)
  let bpp := bppOf code
  let cfg := c.rd (A.DISP_Ff_CFG f)
  let base := (c.rd (A.DISP_Ff_TILES f)).toNat + entry % 1024 * (t * t * bpp / 8)
  pixelVal code (bits cfg 1 0) (entry / 4096 + bits cfg 7 4) (rawPixel c.mem base code (py * t + px))

/-- Decode the packets of a line (R282, R283): `need` elements of `e` bytes from `a`, with at most `lim` bytes read.
The elements, and whether the line ended early. -/
def packDecode (m : Mem) (e : Nat) : Nat → Nat → Nat → Nat → List Nat → List Nat × Bool
  | 0, _, _, need, _ => ([], decide (need ≠ 0))
  | fuel + 1, a, lim, need, prev =>
    if need = 0 then ([], false)
    else if lim = 0 then ([], true)
    else
      let h := (getB m a).toNat
      let n := h % 64 + 1
      let elem := fun k => leNat (getBytes m (a + 1 + k * e) e)
      let (data, whole) := match h / 64 with
        | 0 => let k := min n ((lim - 1) / e); ((List.range k).map elem, decide (k = n))
        | 1 => if lim - 1 < e then ([], false) else (List.replicate n (elem 0), true)
        | 2 => ((List.range n).map (fun k => prev.getD k 0), true)
        | _ => (List.replicate n 0, true)
      let used := match h / 64 with
        | 0 => 1 + n * e
        | 1 => 1 + e
        | _ => 1
      if !whole || need < data.length then (data.take need, true)
      else
        let (rest, err) := packDecode m e fuel (a + used) (lim - used) (need - data.length) (prev.drop data.length)
        (data ++ rest, err)

/-- Line `y` of a Folio-Pack object `w` wide: its elements (fewer where it ended early) and whether it ended early. -/
def packLine (m : Mem) (obj w code : Nat) : Nat → List Nat × Bool
  | y =>
    let bytes := w * bppOf code / 8
    let e := if code = 2 then 2 else 1
    let off := fun y => obj + leNat (getBytes m (obj + 8 + 4 * y) 4)
    let rec go : Nat → List Nat × Bool
      | 0 => packDecode m e (bytes / e + 1) (off 0) (bytes + 60) (bytes / e) []
      | y + 1 => packDecode m e (bytes / e + 1) (off (y + 1)) (bytes + 60) (bytes / e) (go y).1
    go y

/-- The surface's line `y` (R280), and whether it set PACK_ERR. -/
def Chip.surfaceLine (c : Chip) (y : Nat) : List (Option Nat) × Bool :=
  let d := c.dsec
  let (w, h) := d.size
  let code := d.surfFmt % 4
  let base := (c.rd A.DISP_SURF_BASE).toNat
  let pal := c.fld A.DISP_SURF_CFG 1 0
  if d.surfFmt / 16 % 2 = 1 then
    if leNat (getBytes c.mem base 2) ≠ w ∨ leNat (getBytes c.mem (base + 2) 2) ≠ h then (List.replicate w none, true)
    else
      let (els, err) := packLine c.mem base w code y
      ((List.range w).map (fun x =>
        let k := if code = 0 then x / 2 else x
        if k < els.length then
          let v := els.getD k 0
          pixelVal code pal 0 (if code = 0 then (if x % 2 = 0 then v / 16 else v % 16) else v)
        else none), err)
  else
    ((List.range w).map (fun x =>
      let tile := base + (y / 8 * (w / 8) + x / 8) * 8 * bppOf code
      pixelVal code pal 0 (rawPixel c.mem tile code (y % 8 * 8 + x % 8))), false)

/-- A sprite's size (R284). -/
def Chip.sprSize (c : Chip) (s : Nat) : Nat × Nat :=
  let a := c.rd (A.SPRs_ATTR s)
  (8 * (bits a 6 4 + 1), 8 * (bits a 10 8 + 1))

/-- Sprite `s` is enabled and covers line `y`. -/
def Chip.sprCovers (c : Chip) (y s : Nat) : Bool :=
  let top := sgn 12 (c.fld (A.SPRs_POS s) 27 16)
  c.bit (A.SPRs_ATTR s) 31 && decide (top ≤ y ∧ (y : Int) < top + (c.sprSize s).2)

/-- The pixel a sprite puts at (x, y), if any. -/
def Chip.sprPixel (c : Chip) (s x y : Nat) : Option Nat :=
  let pos := c.rd (A.SPRs_POS s)
  let a := c.rd (A.SPRs_ATTR s)
  let (w, h) := c.sprSize s
  let dx := (x : Int) - sgn 12 (bits pos 11 0)
  let dy := (y : Int) - sgn 12 (bits pos 27 16)
  if dx < 0 ∨ (w : Int) ≤ dx ∨ dy < 0 ∨ (h : Int) ≤ dy then none
  else
    let code := c.dsec.sprFmt % 4
    let o := bits a 21 20
    let raw := rawPixel c.mem (c.rd (A.SPRs_IMG s)).toNat code (orientY h o dy.toNat * w + orientX w o dx.toNat)
    if code = 2 then (if raw < 32768 then none else some (65536 + raw))
    else if raw = 0 then none
    else pixelVal code (c.fld A.DISP_SPR_CFG 1 0) (bits a 27 24) raw

/-- The sprites of a line in front-to-back order (R285), and whether more than 32 cover it. -/
def Chip.sprites (c : Chip) (y : Nat) : List Nat × Bool :=
  let all := (List.range 128).filter (c.sprCovers y)
  let some32 := all.take 32
  let depth := fun d => some32.filter (fun s => c.fld (A.SPRs_ATTR s) 29 28 == d)
  (depth 3 ++ depth 2 ++ depth 1 ++ depth 0, decide (32 < all.length))

/-- The first pixel of a list of sprites at a place. -/
def Chip.frontPixel (c : Chip) (x y : Nat) : List Nat → Option Nat
  | [] => none
  | s :: l => match c.sprPixel s x y with
    | some v => some v
    | none => c.frontPixel x y l

/-- A layer is enabled in the Charter. -/
def Chip.layerIn (c : Chip) (k : Nat) : Bool := c.dsec.layers / 2 ^ k % 2 = 1

/-- The latch at R272: the layers of line `y`, with what their evaluation reports; `late` gives, by layer, how many
pixels will be complete in time (R277). -/
def Chip.dispFetch (c : Chip) (y : Nat) (late : List (Nat × Nat)) : Chip :=
  let w := c.dsec.size.1
  let done := fun k => ((late.find? (fun p => p.1 = k)).map (·.2)).getD w
  let (sprs, ovf) := if c.layerIn 5 then c.sprites y else ([], false)
  let (surf, err) := if c.layerIn 4 then c.surfaceLine y else ([], false)
  let layers := (List.range 6).map (fun k =>
    let px := if !c.layerIn k then []
      else if k < 4 then (List.range w).map (fun x => c.folioPixel k x y)
      else if k = 4 then surf
      else (List.range w).map (fun x => c.frontPixel x y sprs)
    (px, done k))
  let c := c.dispDo fun d => { d with fetched := (y, layers) }
  let c := if err then c.setBit A.DISP_STAT 2 else c
  if ovf then
    (if c.bit A.DISP_STAT 1 then c else c.wr A.DISP_SPR_OVF_LINE (word y)).setBit A.DISP_STAT 1
  else c

/-- The ARGB8888 colour of a fetched pixel (R286). -/
def Chip.colour (c : Chip) (v : Nat) : Nat :=
  if v < 65536 then (c.rd (A.DISP_PALp_i (v / 256 % 4) (v % 256))).toNat
  else
    let x := fun (i : Nat) => let q := v / 2 ^ i % 32; q * 8 + q / 4
    (if v / 32768 % 2 = 1 then 255 * 2 ^ 24 else 0) + x 10 * 65536 + x 5 * 256 + x 0

/-- One channel of a composition (R287). -/
def blend8 (s d a : Nat) : Nat := (s * a + d * (255 - a) + 127) / 255

/-- A colour composed over an RGB888 value. -/
def laidOver (s d : Nat) : Nat :=
  let a := s / 2 ^ 24
  let ch := fun (i : Nat) => blend8 (s / 2 ^ i % 256) (d / 2 ^ i % 256) a * 2 ^ i
  ch 16 + ch 8 + ch 0

/-- The RGB888 result of a pixel, given each layer's fetched pixel (R287). -/
def Chip.compose (c : Chip) (px : Nat → Option Nat) : Nat :=
  let order := c.rd A.DISP_ORDER
  let slot := fun i => bits order (3 * i + 2) (3 * i)
  (List.range 6).foldl (fun d i =>
    let k := slot i
    if (List.range 6).any (fun j => decide (i < j) && slot j = k) then d
    else if 6 ≤ k || !c.layerIn k || !c.bit A.DISP_LAYER_EN k then d
    else match px k with
      | some v => laidOver (c.colour v) d
      | none => d) (c.fld A.DISP_BG 23 0)

/-- DISP_D23 to DISP_D0 for a colour (R269). -/
def Chip.pinData (c : Chip) (rgb : Nat) : Nat :=
  if c.bit A.DISP_CTL 1 then rgb / 2 ^ 18 % 64 * 4096 + rgb / 2 ^ 10 % 64 * 64 + rgb / 4 % 64 else rgb

/-- Compose the current line's pixels up to `x` (R273, R277). -/
def Chip.composeTo (c : Chip) (x : Nat) : Chip :=
  let (_, layers) := c.disp.current
  let from0 := c.disp.row.length
  if x ≤ from0 then c
  else
    let px := fun p k => match layers[k]? with
      | some (l, n) => if p < n then l.getD p none else none
      | none => none
    let more := (List.range (x - from0)).map (fun i => c.pinData (c.compose (px (from0 + i))))
    let short := fun (lim : Nat) => layers.any (fun l => !l.1.isEmpty && decide (l.2 < lim))
    let c := if short x && !short from0 then (c.setBit A.DISP_STAT 0).inc A.DISP_UNDERRUNS else c
    c.dispDo fun d => { d with row := d.row ++ more }

/-- The standard mode scans out and does not rest in self-refresh (R270, R298). -/
def Chip.scanning (c : Chip) : Bool := c.dkind = 1 && c.disp.scan && c.disp.sr ≠ .active

/-- Compose what the beam has passed, before a register of class P changes (R273). -/
def Chip.composeNow (e : Env) (c : Chip) : Chip :=
  if !c.scanning then c
  else
    let (line, px) := c.beamAt e.now
    if c.disp.lineAt = some (c.lineCount (c.frameStart e.now) line) && c.disp.current.1 = line then
      c.composeTo (min px c.dsec.size.1)
    else c

/-! ### Lines (R272) -/

/-- The absolute count of the next line start at or after `now` that has not been acted on. -/
def Chip.nextLine (c : Chip) (now : Nat) : Nat :=
  let f := c.frameStart now
  let l := now - f
  let line := l * c.vTotal / c.frameCounts
  if c.lineCount f line = now && c.disp.lineAt ≠ some now then now
  else if line + 1 < c.vTotal then c.lineCount f (line + 1) else f + c.frameCounts

/-- Scan-out will run in the next frame, as EN, REQ and the handshake stand. -/
def Chip.willScan (c : Chip) : Bool :=
  c.bit A.DISP_CTL 0 && !(c.bit A.DISP_SR 0 && (c.disp.sr = .active || c.disp.sr = .capture))

/-- Pixel 0 of a line at the present count: the last line is complete, the fetched line is composed, and the next one
is latched and fetched. -/
def lineStart (late : List (Nat × Nat)) (e : Env) (c : Chip) : Chip :=
  if c.dkind ≠ 1 then c
  else
    let (w, h) := c.dsec.size
    let (line, _) := c.beamAt e.now
    let c := if c.disp.row.isEmpty && c.disp.current.2.isEmpty then c
      else (c.composeTo w).dispDo fun d => { d with shown := (d.current.1, d.row), row := [], current := (0, []) }
    let c := c.dispDo fun d => { d with lineAt := some e.now }
    let c := if c.scanning && decide (line < h) && c.disp.fetched.1 = line && !c.disp.fetched.2.isEmpty then
        c.dispDo fun d => { d with current := d.fetched, fetched := (0, []) }
      else c
    let y := (line + 1) % c.vTotal
    if y < h && (if y = 0 then c.willScan else c.scanning) then c.dispFetch y late else c

/-! ### The dirty map and pushes (R288 to R294) -/

/-- Tiles across and down. -/
def Chip.tilesW (c : Chip) : Nat := c.dsec.w / 16
def Chip.tilesH (c : Chip) : Nat := c.dsec.h / 16

/-- The controller keeps a dirty map. -/
def Chip.dirtyMap (c : Chip) : Bool := c.dkind = 2 || c.dkind = 3

/-- Mark the tiles of a rectangle. -/
def Chip.markTiles (c : Chip) (x0 y0 x1 y1 : Nat) : Chip :=
  if !c.dirtyMap then c
  else
    let n := c.tilesW * c.tilesH
    let hit := fun i => decide (x0 ≤ i % c.tilesW ∧ i % c.tilesW ≤ x1 ∧ y0 ≤ i / c.tilesW ∧ i / c.tilesW ≤ y1)
    c.dispDo fun d => { d with dirty := (List.range n).filter (fun i => d.dirty.contains i || hit i) }

/-- Mark every tile. -/
def Chip.markAll (c : Chip) : Chip := c.markTiles 0 0 c.tilesW c.tilesH

/-- The bounding box of the marked tiles of rows a to b. -/
def Chip.bandBox (c : Chip) (a b : Nat) : Option (Nat × Nat × Nat × Nat) :=
  c.disp.dirty.foldl (fun acc i =>
    let x := i % c.tilesW
    let y := i / c.tilesW
    if y < a ∨ b ≤ y then acc
    else match acc with
      | none => some (x, y, x, y)
      | some (x0, y0, x1, y1) => some (min x0 x, min y0 y, max x1 x, max y1 y)) none

/-- Merge adjacent bands' boxes with equal column extents; the list is by band, and `cur` is the box so far. -/
def mergeBoxes : Option (Nat × Nat × Nat × Nat) → List (Option (Nat × Nat × Nat × Nat)) → List (Nat × Nat × Nat × Nat)
  | cur, [] => cur.toList
  | cur, none :: l => cur.toList ++ mergeBoxes none l
  | none, some b :: l => mergeBoxes (some b) l
  | some a, some b :: l =>
    if a.1 = b.1 ∧ a.2.2.1 = b.2.2.1 then mergeBoxes (some (a.1, a.2.1, a.2.2.1, b.2.2.2)) l
    else a :: mergeBoxes (some b) l

/-- The rectangles of a snapshot (R289). -/
def Chip.snapshotRects (c : Chip) : List (Nat × Nat × Nat × Nat) :=
  let r := c.tilesH
  mergeBoxes none ((List.range 8).map (fun i => c.bandBox (i * r / 8) ((i + 1) * r / 8)))

/-- Counts of an interval in eighths of a microsecond. -/
def Chip.eighths (c : Chip) (n : Nat) : Nat := (n * c.tenMs + 79999) / 80000

/-- Counts that one byte takes on the bus: a panel transfer, or a character-module transfer with its wait (R291,
R295). -/
def Chip.byteCounts (c : Chip) (nibble : Bool) : Nat :=
  if c.dkind = 4 then
    let pulse := 2 * c.fld A.DISP_CHR_TIME 7 0 + 1
    c.eighths ((if c.bit A.DISP_CHR_CFG 16 && !nibble then 2 * pulse else pulse) + 8 * c.fld A.DISP_CHR_TIME 23 16)
  else cyclesToCounts c.xferCycles

/-- Send the FIFO's bytes that the bus is free for by `now` (R293). -/
def fifoRun (now : Nat) : Nat → Chip → Chip
  | 0, c => c
  | fuel + 1, c =>
    match c.disp.fifo with
    | [] => c
    | b :: l =>
      if c.disp.push.isSome || !(c.dkind = 2 || c.dkind = 3 || c.dkind = 4) || decide (now < c.disp.busFree) then c
      else fifoRun now fuel (c.dispDo fun d => { d with
        fifo := l, busFree := d.busFree + c.byteCounts b.nibble, sent := [(b.dc, b.byte)] })

/-- The FIFO brought up to the present count. -/
def Chip.fifoNow (e : Env) (c : Chip) : Chip := fifoRun e.now (c.disp.fifo.length + 1) c

/-- A byte enters the FIFO (R293, R297). -/
def fifoWrite (b : DispByte) (e : Env) (c : Chip) : Chip :=
  let c := c.fifoNow e
  if 16 ≤ c.disp.fifo.length then c.setBit A.DISP_STAT 5
  else
    (c.dispDo fun d => { d with
      fifo := d.fifo ++ [b], busFree := if d.fifo.isEmpty then max d.busFree e.now else d.busFree }).fifoNow e

/-- The surface's line as composed colours. -/
def Chip.pushLine (c : Chip) (y x0 n : Nat) : List Nat :=
  let l := (c.surfaceLine y).1
  (List.range n).map (fun i => c.compose (fun k => if k = 4 then l.getD (x0 + i) none else none))

/-- The transfers of a pixel (R290). -/
def Chip.pixelBytes (c : Chip) (rgb : Nat) : List Nat :=
  let r := rgb / 65536 % 256
  let g := rgb / 256 % 256
  let b := rgb % 256
  let w := r / 8 * 2048 + g / 4 * 32 + b / 8
  if c.dkind = 2 && c.bit A.DISP_DBI_CFG 0 then [w]
  else match c.fld A.DISP_DBI_CFG 5 4 with
    | 0 => [w / 256, w % 256]
    | 1 => [r / 4 * 4, g / 4 * 4, b / 4 * 4]
    | _ => [r, g, b]

/-- Everything a rectangle puts on the bus (R290): D/C level and data. -/
def Chip.rectBytes (c : Chip) (r : Nat × Nat × Nat × Nat) : List (Bool × Nat) :=
  let (x0, y0, x1, y1) := r
  let hl := fun v => [(true, v / 256 % 256), (true, v % 256)]
  let px := (List.range (rectH r)).flatMap (fun j =>
    ((c.pushLine (16 * y0 + j) (16 * x0) (rectW r)).flatMap c.pixelBytes).map (fun b => (true, b)))
  [(false, 0x2A)] ++ hl (16 * x0) ++ hl (16 * x1 + 15) ++ [(false, 0x2B)] ++ hl (16 * y0) ++ hl (16 * y1 + 15)
    ++ [(false, 0x2C)] ++ px

/-- A push begins at `t`, or when the byte being sent is done (R292, R293). -/
def Chip.beginPush (c : Chip) (t : Nat) (rects : List (Nat × Nat × Nat × Nat)) : Chip :=
  if rects.isEmpty then c.dispDo fun d => { d with waitTe := none }
  else
    let start := max t c.disp.busFree
    let n := (rects.map c.rectXfers).sum
    let fin := start + cyclesToCounts (n * c.xferCycles)
    (c.dispDo fun d => { d with waitTe := none, push := some { rects := rects, start := start, finish := fin } }).setBit A.DISP_STAT 8

/-- Pushing and refreshing are held (R299, R302). -/
def Chip.pushHeld (c : Chip) : Bool := c.bit A.DISP_STAT 6 || c.bit A.DISP_SR 0

/-- The frame tick of a command-mode panel (R289, R292, R293). -/
def Chip.panelFrame (e : Env) (c : Chip) : Chip :=
  let c := c.fifoNow e
  if c.disp.push.isSome then c.setBit A.DISP_STAT 3
  else if c.bit A.DISP_STAT 6 then c
  else
    match c.disp.waitTe with
    | some rects => if c.pushHeld then c else (c.beginPush e.now rects).setBit A.DISP_STAT 4
    | none =>
      if c.pushHeld then c
      else
        let rects := c.snapshotRects
        let c := c.dispDo fun d => { d with dirty := [] }
        if rects.isEmpty then c
        else if c.bit A.DISP_DBI_CFG 2 then c.dispDo fun d => { d with waitTe := some rects }
        else c.beginPush e.now rects

/-- A rising edge on DISP_TE (R292). -/
def teEdge (e : Env) (c : Chip) : Chip :=
  match c.disp.waitTe with
  | some rects =>
    if c.dirtyMap && !c.bit A.DISP_STAT 6 && !c.bit A.DISP_SR 1 then (c.fifoNow e).beginPush e.now rects else c
  | none => c

/-! ### The character module (R295 to R297) -/

/-- Lines and columns of the module. -/
def Chip.chrLines (c : Chip) : Nat := [1, 2, 4, 4].getD (c.fld A.DISP_CHR_CFG 1 0) 1
def Chip.chrCols (c : Chip) : Nat := min 40 (c.fld A.DISP_CHR_CFG 13 8)

/-- The character in the buffer at place line × 40 + column. -/
def Chip.textAt (c : Chip) (i : Nat) : Nat := c.fld (A.DISP_TEXTw (i / 4)) (8 * (i % 4) + 7) (8 * (i % 4))

/-- The places whose character differs from the shadow. -/
def Chip.chrChanged (c : Chip) : List Nat :=
  ((List.range c.chrLines).flatMap (fun l => (List.range c.chrCols).map (fun k => 40 * l + k))).filter
    (fun i => getS none c.disp.shadow i ≠ some (c.textAt i))

/-- When each changed character is sent: an address command goes before each run. -/
def chrTimes (one : Nat) : Nat → Option Nat → List Nat → List (Nat × Nat)
  | _, _, [] => []
  | t, last, i :: l =>
    let t := if last = some i && i % 40 ≠ 0 then t else t + one
    (i, t) :: chrTimes one (t + one) (some (i + 1)) l

/-- A character of a refresh goes out, after its run's address command, and enters the shadow (R296). -/
def Chip.chrOut (c : Chip) (after : Option Nat) (i : Nat) : Chip :=
  let l := i / 40
  let place := 0x80 ||| (c.fld A.DISP_CHR_BASE (7 * l + 6) (7 * l) + i % 40) % 256
  let head := if after = some i && i % 40 ≠ 0 then [] else [(false, place)]
  c.dispDo fun d => { d with
    shadow := putS none d.shadow i (some (c.textAt i)), sent := d.sent ++ head ++ [(true, c.textAt i)] }

/-- The characters of a refresh that have been sent by `now` enter the shadow. -/
def Chip.chrNow (c : Chip) (now : Nat) : Chip :=
  match c.disp.push with
  | none => c
  | some p =>
    let (done, rest) := (p.chars.filter (fun x => decide (x.2 ≤ now)), p.chars.filter (fun x => decide (now < x.2)))
    let (c, after) := done.foldl (fun (q : Chip × Option Nat) x => (q.1.chrOut q.2 x.1, some (x.1 + 1))) (c, p.after)
    c.dispDo fun d => { d with push := some { p with chars := rest, after := after } }

/-- The frame tick of a character module (R296). -/
def Chip.chrFrame (e : Env) (c : Chip) : Chip :=
  let c := c.fifoNow e
  if c.disp.push.isSome || c.pushHeld then c
  else
    let l := c.chrChanged
    if l.isEmpty then c
    else
      let one := c.byteCounts false
      let start := max e.now c.disp.busFree
      let ts := chrTimes one start none l
      let fin := (ts.getLast?.map (·.2)).getD start + one
      (c.dispDo fun d => { d with sent := [], push := some { chars := ts, start := start, finish := fin } }).setBit A.DISP_STAT 8

/-- A push or refresh is complete at the present count: queued bytes follow it (R293). -/
def pushComplete (e : Env) (c : Chip) : Chip :=
  match c.disp.push with
  | none => c
  | some p =>
    let err := c.dirtyMap && p.rects.any (fun r => (List.range (rectH r)).any (fun j => (c.surfaceLine (16 * r.2.1 + j)).2))
    let c := if err then c.setBit A.DISP_STAT 2 else c
    let c := c.chrNow e.now
    let out := if c.dirtyMap then p.rects.flatMap c.rectBytes else c.disp.sent
    ((c.dispDo fun d => { d with push := none, busFree := p.finish, sent := out }).clrBit A.DISP_STAT 8).fifoNow e

/-! ### Frames and self-refresh (R270, R298 to R301) -/

/-- RESUME in frames. -/
def Chip.srResume (c : Chip) : Nat := c.fld A.DISP_SR 5 4 + 1

/-- The self-refresh handshake at a frame tick of a standard mode. -/
def Chip.srFrame (c : Chip) : Chip :=
  let req := c.bit A.DISP_SR 0
  let ask := req || c.disp.srAsk
  let go := fun (s : SrState) (hold active : Bool) =>
    (c.dispDo fun d => { d with sr := s, hold := hold, srAsk := req }).putBit A.DISP_SR 1 active
  match c.disp.sr with
  | .off => if ask then go .capture true false else go .off false false
  | .capture => if req then go .active true true else go .off false false
  | .active => if req then go .active true true else go (.resume 1) true false
  | .resume k => if ask then go .capture true false else if c.srResume ≤ k then go .off false false else go (.resume (k + 1)) true false

/-- The frame tick at the display (R38, R47, R270, R289, R296, R298, R301). -/
def Chip.displayFrame (e : Env) (c : Chip) : Chip :=
  if c.disp.frameAt = some e.now then c
  else
    let c := match c.disp.next with
      | some d => (c.dispDo fun x => { x with sec := some d, next := none, push := none, waitTe := none, dirty := [] }).dispRegs.clrBit A.DISP_STAT 8
      | none => c
    let c := c.dispDo fun d => { d with frameAt := some e.now }
    match c.dkind with
    | 1 => (c.dispDo fun d => { d with scan := c.bit A.DISP_CTL 0 }).srFrame
    | 2 | 3 => (c.panelFrame e).putBit A.DISP_SR 1 (c.bit A.DISP_SR 0)
    | 4 => (c.chrFrame e).putBit A.DISP_SR 1 (c.bit A.DISP_SR 0)
    | _ => c

/-- A commit: the display starts under the new section at frame 0 (R301). -/
def Chip.displayCommit (c : Chip) (d : DisplaySec) : Chip :=
  if c.disp.sec = some d then
    c.dispDo fun x => { x with next := none, row := [], current := (0, []), fetched := (0, []), lineAt := none, frameAt := none }
  else
    ((c.dispDo fun x => { x with
      sec := some d, next := none, push := none, waitTe := none, dirty := [], row := [], current := (0, []), fetched := (0, [])
      lineAt := none, frameAt := none, sr := .off, hold := false }).clrBit A.DISP_STAT 8).dispRegs

/-- A swap at block s (R301): `newN` where the frame length changes. -/
def Chip.displaySwap (c : Chip) (d : DisplaySec) (newN : Bool) : Chip :=
  let old := c.dsec
  if old = d then c
  else if newN then c.displayCommit d
  else
    let now := { old with layers := d.layers, folioFmt := d.folioFmt, surfFmt := d.surfFmt, sprFmt := d.sprFmt, fbTarget := d.fbTarget }
    let same := now = { d with fclass := now.fclass }
    (c.dispDo fun x => { x with sec := some (if same then d else now), next := if same then none else some d }).dispRegs

/-- What a FATAL fault does to the display (R302). -/
def Chip.displayFatal (c : Chip) (now : Nat) : Chip :=
  let c := c.chrNow now
  match c.dkind with
  | 1 => if c.bit A.DISP_SR 2 then (c.setBit A.DISP_SR 0).dispDo fun d => { d with srAsk := true } else c
  | 0 => c
  | _ => ((c.dispDo fun d => { d with push := none, waitTe := none }).setBit A.DISP_STAT 6).clrBit A.DISP_STAT 8

/-- Doze and Drowse are vetoed (R300). -/
def Chip.displayVeto (c : Chip) : Bool := c.dkind = 1 && c.bit A.DISP_CTL 0 && !c.bit A.DISP_SR 1

/-- The next frame tick is a duty (R300). -/
def Chip.displayDuty (c : Chip) : Bool :=
  !c.displayVeto &&
    let exit := c.bit A.DISP_SR 1 && !c.bit A.DISP_SR 0
    match c.dkind with
    | 1 => c.disp.sr ≠ .off && !c.bit A.DISP_SR 0
    | 2 | 3 => !c.disp.dirty.isEmpty || c.disp.waitTe.isSome || exit
    | 4 => !c.chrChanged.isEmpty || exit
    | _ => false

/-! ### Register writes -/

/-- A DISP register of class P (R273). -/
def isClassP (a : Nat) : Bool :=
  a = A.DISP_ORDER || a = A.DISP_BG || a = A.DISP_LAYER_EN || a = A.DISP_CTL || decide (0x600B1000 ≤ a ∧ a < 0x600B2000)

/-- A palette entry that the surface uses (R288). -/
def Chip.surfacePalette (c : Chip) (a : Nat) : Bool :=
  decide (0x600B1000 ≤ a ∧ a < 0x600B2000) && c.dsec.surfFmt % 4 ≠ 2 && decide ((a - 0x600B1000) / 0x400 = c.fld A.DISP_SURF_CFG 1 0)
    && (c.dsec.surfFmt % 4 = 1 || decide ((a - 0x600B1000) / 4 % 256 < 16))

/-- DISP_CTL. -/
def dispCtlWrite (v : Word) (e : Env) (c : Chip) : Chip := (c.composeNow e).writeCoded A.DISP_CTL v

/-- DISP_DBI_CMD. -/
def dbiCmd (v : Word) (e : Env) (c : Chip) : Chip :=
  fifoWrite { dc := v.getLsbD 8, nibble := false, byte := bits v 7 0 } e c

/-- DISP_DIRTY_MARK. -/
def dirtyMark (v : Word) (c : Chip) : Chip := c.markTiles (bits v 7 0) (bits v 15 8) (bits v 23 16) (bits v 31 24)

/-- DISP_DIRTY_ALL. -/
def dirtyAll (v : Word) (c : Chip) : Chip := if v.getLsbD 0 then c.markAll else c

/-- DISP_CHR_CMD. -/
def chrCmd (v : Word) (e : Env) (c : Chip) : Chip :=
  let nib := v.getLsbD 9 && c.bit A.DISP_CHR_CFG 16
  fifoWrite { dc := v.getLsbD 8, nibble := nib, byte := bits v 7 0 } e c

/-- DISP_CHR_CFG, with RESYNC. -/
def chrCfg (v : Word) (e : Env) (c : Chip) : Chip :=
  let c := (c.chrNow e.now).writeCoded A.DISP_CHR_CFG v
  if v.getLsbD 17 then c.dispDo fun d => { d with shadow := [] } else c

/-- DISP_SR. -/
def srWrite (v : Word) (c : Chip) : Chip :=
  let c := c.writeCoded A.DISP_SR v
  if v.getLsbD 0 then c.dispDo fun d => { d with srAsk := true } else c

/-- A write of a DISP register. -/
def dispWrite (a : Nat) (v : Word) (e : Env) (c : Chip) : Chip :=
  if a = A.DISP_CTL then dispCtlWrite v e c
  else if a = A.DISP_DBI_CMD then dbiCmd v e c
  else if a = A.DISP_DIRTY_MARK then dirtyMark v c
  else if a = A.DISP_DIRTY_ALL then dirtyAll v c
  else if a = A.DISP_CHR_CMD then chrCmd v e c
  else if a = A.DISP_CHR_CFG then chrCfg v e c
  else if a = A.DISP_SR then srWrite v c
  else if a = A.DISP_DBI_TIME then
    let c := (c.fifoNow e).writeCoded a v
    if c.fld a 11 8 = 0 then c.setFld a 11 8 1 else c
  else
    let c := if isClassP a then c.composeNow e else c.chrNow e.now
    let c := if c.dirtyMap && c.surfacePalette a then c.markAll else c
    c.writeCoded a v

end Sys2Proof.Machine
end

