-- ==== Sys2Proof/Machine/Scriptorium.lean ====
section
/-! DEFINITION. Machine/Scriptorium.lean: the 2D engine: commands, lists, fences and the overtake report
(09_scriptorium.md). -/

namespace Sys2Proof.Machine

/-- Change the engine's state. -/
def Chip.scrDo (c : Chip) (f : Scr → Scr) : Chip := { c with scr := f c.scr }

def Chip.scrBusy (c : Chip) : Bool := c.bit A.SCR_STAT 0
def Chip.scrWaiting (c : Chip) : Bool := c.bit A.SCR_STAT 1

/-- Why a command stops (R323). -/
structure ScrErr where
  code : Nat
  addr : Nat := 0
  cause : Nat := 0
  target : Nat := 0
  write : Bool := false
  deriving DecidableEq, Repr

/-! ### Surfaces and pixels (R305 to R308) -/

/-- A surface: its address and format word. -/
structure Surface where
  addr : Nat
  fmt : Word
  deriving DecidableEq, Repr

def Surface.pitch (s : Surface) : Nat := bits s.fmt 31 16
def Surface.tiled (s : Surface) : Bool := s.fmt.getLsbD 12
def Surface.code (s : Surface) : Nat := bits s.fmt 9 8

/-- The target surface. -/
def Chip.scrTarget (c : Chip) : Surface := { addr := (c.rd A.SCR_TGT_ADDR).toNat, fmt := c.rd A.SCR_TGT_FMT }

/-- Bytes that the engine may reach (R305). -/
def scrReach (a : Int) : Bool :=
  decide (0x10000000 ≤ a ∧ a < 0x10200000) || decide (0x30000000 ≤ a ∧ a < 0x60000000) || decide (0x80000000 ≤ a ∧ a < 0x84000000)

/-- What an access of the engine breaks, if anything (R305, R323). -/
def Chip.scrCheck (c : Chip) (write : Bool) (a : Int) (size : Nat) : Option ScrErr :=
  if !scrReach a || !scrReach (a + size - 1) then some { code := 4, addr := a.toNat }
  else match c.busCause .scr write false a.toNat size with
    | some (cause, target) => some { code := 8, addr := a.toNat, cause := cause, target := target, write := write }
    | none => none

/-- The byte address of a pixel (R307). -/
def Surface.at (s : Surface) (x y : Int) : Int :=
  let b : Int := bppOf s.code
  if s.tiled then
    s.addr + (y / 8 * s.pitch + x / 8) * 8 * b + (y % 8 * 8 + x % 8) * b / 8
  else s.addr + y * s.pitch + x * b / 8

/-- Bytes a pixel's access touches. -/
def Surface.unit (s : Surface) : Nat := if s.code = 2 then 2 else 1

/-- Read a pixel. -/
def Chip.scrRead (c : Chip) (m : Mem) (s : Surface) (x y : Int) : Except ScrErr Nat :=
  let a := s.at x y
  match c.scrCheck false a s.unit with
  | some e => .error e
  | none =>
    let v := leNat (getBytes m a.toNat s.unit)
    .ok (if s.code = 0 then (if x % 2 = 0 then v / 16 else v % 16) else v)

/-- Write a pixel. -/
def Chip.scrWritePx (c : Chip) (s : Surface) (x y : Int) (v : Nat) : Chip × Option ScrErr :=
  let a := s.at x y
  match c.scrCheck true a s.unit with
  | some e => (c, some e)
  | none =>
    let v := if s.code = 0 then
        let old := (getB c.mem a.toNat).toNat
        if x % 2 = 0 then v % 16 * 16 + old % 16 else old / 16 * 16 + v % 16
      else v
    (c.setMem a.toNat (leBytes s.unit v), none)

/-- An ARGB1555 channel expanded, a source blended over a destination with alpha `a` (R308). -/
def blend1555 (src dst a : Nat) : Nat :=
  let ch := fun (i : Nat) =>
    let x := fun v => let q := v / 2 ^ i % 32; q * 8 + q / 4
    blend8 (x src) (x dst) a / 8 * 2 ^ i
  (if src / 32768 % 2 = 1 ∨ dst / 32768 % 2 = 1 then 32768 else 0) + ch 10 + ch 5 + ch 0

/-! ### Clipping (R317) -/

/-- A drawing command may write the pixel. -/
def Chip.scrAllows (c : Chip) (clip : Bool) (x y : Int) : Bool :=
  let size := c.rd A.SCR_TGT_SIZE
  let ctl := c.rd A.SCR_CLIP_CTL
  decide (0 ≤ x ∧ x < bits size 15 0 ∧ 0 ≤ y ∧ y < bits size 31 16) &&
    (!clip || (List.range 4).all (fun i =>
      let lo := c.rd (A.SCR_CLIPi_MIN i)
      let hi := c.rd (A.SCR_CLIPi_MAX i)
      let inside := decide (sgn 16 (bits lo 15 0) ≤ x ∧ x ≤ sgn 16 (bits hi 15 0) ∧ sgn 16 (bits lo 31 16) ≤ y ∧ y ≤ sgn 16 (bits hi 31 16))
      !ctl.getLsbD i || (if ctl.getLsbD (4 + i) then !inside else inside)))

/-! ### Commands -/

/-- A fetched command. -/
structure ScrCmd where
  w : List Word
  deriving DecidableEq, Repr

def ScrCmd.word (k : ScrCmd) (i : Nat) : Word := k.w.getD i 0
def ScrCmd.op (k : ScrCmd) : Nat := bits (k.word 0) 31 24
def ScrCmd.clip (k : ScrCmd) : Bool := (k.word 0).getLsbD 23
def ScrCmd.low (k : ScrCmd) : Nat := bits (k.word 0) 15 0
/-- Signed X and Y of a word. -/
def ScrCmd.x (k : ScrCmd) (i : Nat) : Int := sgn 16 (bits (k.word i) 15 0)
def ScrCmd.y (k : ScrCmd) (i : Nat) : Int := sgn 16 (bits (k.word i) 31 16)
/-- W and H of a word. -/
def ScrCmd.wd (k : ScrCmd) (i : Nat) : Nat := bits (k.word i) 15 0
def ScrCmd.ht (k : ScrCmd) (i : Nat) : Nat := bits (k.word i) 31 16

/-- The OP codes of R309. -/
def scrOps : List Nat := [0, 1, 2, 3, 4, 5, 6, 7, 8, 9, 0x0F, 0x10, 0x11, 0x12, 0x13]

/-- The pixels of a line in order (R311), at most `fuel` of them. -/
def linePath (dx dy sx sy x1 y1 : Int) : Nat → Int → Int → Int → List (Int × Int)
  | 0, _, _, _ => []
  | fuel + 1, x, y, e =>
    (x, y) ::
      (if x = x1 ∧ y = y1 then []
       else
        let e2 := 2 * e
        let (e', x') := if dy ≤ e2 then (e + dy, x + sx) else (e, x)
        let (e'', y') := if e2 ≤ dx then (e' + dx, y + sy) else (e', y)
        linePath dx dy sx sy x1 y1 fuel x' y' e'')

/-- The pixels of LINE. -/
def ScrCmd.path (k : ScrCmd) : List (Int × Int) :=
  let dx : Int := (k.x 2 - k.x 1).natAbs
  let dy : Int := -((k.y 2 - k.y 1).natAbs : Int)
  linePath dx dy (if k.x 1 < k.x 2 then 1 else -1) (if k.y 1 < k.y 2 then 1 else -1) (k.x 2) (k.y 2)
    (dx - dy + 1).toNat (k.x 1) (k.y 1) (dx + dy)

/-- The rectangle a drawing command covers: x, y, w, h. -/
def ScrCmd.area (k : ScrCmd) : Int × Int × Nat × Nat :=
  match k.op with
  | 1 | 2 => (k.x 1, k.y 1, k.wd 2, k.ht 2)
  | 3 => (min (k.x 1) (k.x 2), min (k.y 1) (k.y 2), (k.x 2 - k.x 1).natAbs + 1, (k.y 2 - k.y 1).natAbs + 1)
  | 4 | 5 | 6 | 7 => (k.x 4, k.y 4, k.wd 5, k.ht 5)
  | _ => (0, 0, 0, 0)

/-- A drawing command (R317). -/
def ScrCmd.draws (k : ScrCmd) : Bool := decide (1 ≤ k.op ∧ k.op ≤ 7)

/-- Is the pixel one that the command could write, before R317. -/
def ScrCmd.covers (k : ScrCmd) (x y : Int) : Bool :=
  let (ax, ay, w, h) := k.area
  let inside := decide (ax ≤ x ∧ x < ax + w ∧ ay ≤ y ∧ y < ay + h)
  match k.op with
  | 2 => inside && (x = ax || x = ax + w - 1 || y = ay || y = ay + h - 1)
  | 3 => k.path.contains (x, y)
  | _ => inside

/-- Fold a step over a list until it fails. -/
def scrFold {α : Type} (f : Chip → α → Chip × Option ScrErr) : List α → Chip → Chip × Option ScrErr
  | [], c => (c, none)
  | a :: l, c =>
    match f c a with
    | (c, none) => scrFold f l c
    | (c, some e) => (c, some e)

/-- Columns of a row as integers. -/
def cols (x : Int) (w : Nat) : List Int := (List.range w).map (fun (i : Nat) => x + (i : Int))

/-- The source surface of COPY, KEYCOPY and BLEND. -/
def ScrCmd.source (k : ScrCmd) : Surface := { addr := (k.word 1).toNat, fmt := k.word 2 }

/-- COPY, KEYCOPY and BLEND: row `j` from memory `m` (R310, R313). -/
def copyRow (k : ScrCmd) (m : Option Mem) (c : Chip) (j : Nat) : Chip × Option ScrErr :=
  let t := c.scrTarget
  let src := k.source
  let y := k.y 4 + j
  let mem := m.getD c.mem
  let xs := (List.range (k.wd 5)).filter (fun (i : Nat) => c.scrAllows k.clip (k.x 4 + i) y)
  let px := xs.map (fun (i : Nat) => (i, c.scrRead mem src (k.x 3 + i) (k.y 3 + j)))
  -- the whole source row is read before the row is written
  match px.find? (fun p => match p.2 with
    | .error _ => true
    | .ok _ => false) with
  | some (_, .error e) => (c, some e)
  | _ =>
    scrFold (fun c p =>
      match p.2 with
      | .error e => (c, some e)
      | .ok v =>
        let x := k.x 4 + (p.1 : Nat)
        match k.op with
        | 5 => if v = k.low % 2 ^ bppOf t.code then (c, none) else c.scrWritePx t x y v
        | 6 =>
          match c.scrRead c.mem t x y with
          | .error e => (c, some e)
          | .ok d => c.scrWritePx t x y (blend1555 v d (if v / 32768 % 2 = 1 then k.low % 256 else 0))
        | _ => c.scrWritePx t x y v) px c

/-- GLYPH: row `j` (R312). -/
def glyphRow (k : ScrCmd) (c : Chip) (j : Nat) : Chip × Option ScrErr :=
  let t := c.scrTarget
  let g : Nat := [1, 2, 4, 4].getD (bits (k.word 2) 17 16) 4
  let m := 2 ^ g - 1
  let y := k.y 4 + j
  scrFold (fun c (i : Nat) =>
    let x := k.x 4 + (i : Int)
    if !c.scrAllows k.clip x y then (c, none)
    else
      let off := (k.x 3 + (i : Int)) * g
      let a := ((k.word 1).toNat : Int) + (k.y 3 + j) * (bits (k.word 2) 15 0 : Nat) + off / 8
      match c.scrCheck false a 1 with
      | some e => (c, some e)
      | none =>
        let cov := (getB c.mem a.toNat).toNat / 2 ^ (off % 8).toNat % 2 ^ g
        if cov = 0 then (c, none)
        else if t.code ≠ 2 then c.scrWritePx t x y ((k.low + cov - 1) % 2 ^ bppOf t.code)
        else if cov = m then c.scrWritePx t x y k.low
        else
          match c.scrRead c.mem t x y with
          | .error e => (c, some e)
          | .ok d => c.scrWritePx t x y (blend1555 k.low d (cov * 255 / m))) (List.range (k.wd 5)) c

/-- FILL and RECT: row `j` (R310). -/
def fillRow (k : ScrCmd) (c : Chip) (j : Nat) : Chip × Option ScrErr :=
  let t := c.scrTarget
  let (x0, y0, w, _) := k.area
  let y := y0 + j
  scrFold (fun c x => if c.scrAllows k.clip x y && k.covers x y then c.scrWritePx t x y (k.low % 2 ^ bppOf t.code) else (c, none))
    (cols x0 w) c

/-- LINE: the pixels of row `j` of the path, counted from its first row (R311). -/
def lineRow (k : ScrCmd) (c : Chip) (j : Nat) : Chip × Option ScrErr :=
  let t := c.scrTarget
  scrFold (fun c (p : Int × Int) => if c.scrAllows k.clip p.1 p.2 then c.scrWritePx t p.1 p.2 (k.low % 2 ^ bppOf t.code) else (c, none))
    (k.path.filter (fun p => (p.2 - k.y 1).natAbs = j)) c

/-- TILEW: row `j` (R314). -/
def tileRow (k : ScrCmd) (c : Chip) (j : Nat) : Chip × Option ScrErr :=
  let step := bits (k.word 2) 26 16
  scrFold (fun c (i : Nat) =>
    let a : Nat := (k.word 1).toNat + 2 * ((k.ht 3 + j) * bits (k.word 2) 10 0 + k.wd 3 + i)
    match c.scrCheck true (a : Int) 2 with
    | some e => (c, some e)
    | none => (c.setMem a (leBytes 2 (k.low / 2048 * 2048 + (k.low + step * (j * k.wd 4 + i)) % 2048)), none)) (List.range (k.wd 4)) c

/-! ### PACK (R315, R316) -/

/-- The length of the run at the front of a list for which `p` holds, at most 64. -/
def runLen (p : Nat → Bool) (l : List Nat) : Nat := min 64 (l.takeWhile p).length

/-- The run of elements equal to those of the line above, at most 64. -/
def sameLen : Nat → List Nat → List Nat → Nat
  | 0, _, _ => 0
  | n + 1, a :: l, b :: m => if a = b then 1 + sameLen n l m else 0
  | _, _, _ => 0

/-- Which packet the three tests choose at the front of a line: its operation and length; none for a literal. -/
def packTest (l up : List Nat) (first : Bool) : Option (Nat × Nat) :=
  let z := runLen (· = 0) l
  let r := runLen (· = l.headD 0) l
  let u := if first then 0 else sameLen 64 l up
  if 2 ≤ z ∧ u ≤ z ∧ r ≤ z then some (3, z)
  else if 2 ≤ u ∧ r ≤ u then some (2, u)
  else if 3 ≤ r then some (1, r)
  else none

/-- The length of a literal at the front of a line: up to 64 elements, ending where a packet would start. -/
def literalLen (first : Bool) : Nat → List Nat → List Nat → Nat
  | 0, _, _ => 0
  | _, [], _ => 0
  | n + 1, a :: l, up => if (packTest (a :: l) up first).isSome then 0 else 1 + literalLen first n l up.tail

/-- The packets of a line (R315). -/
def packEncode (e : Nat) (first : Bool) : Nat → List Nat → List Nat → List Byte
  | 0, _, _ => []
  | fuel + 1, l, up =>
    if l.isEmpty then []
    else
      match packTest l up first with
      | some (op, n) =>
        [BitVec.ofNat 8 (op * 64 + n - 1)] ++ (if op = 1 then leBytes e (l.headD 0) else [])
          ++ packEncode e first fuel (l.drop n) (up.drop n)
      | none =>
        let n := 1 + literalLen first 63 l.tail up.tail
        [BitVec.ofNat 8 (n - 1)] ++ (l.take n).flatMap (leBytes e) ++ packEncode e first fuel (l.drop n) (up.drop n)

/-- The elements of row `y` of the rectangle to be packed (R282). -/
def Chip.packRow (c : Chip) (k : ScrCmd) (j : Nat) : Except ScrErr (List Nat) :=
  let t := c.scrTarget
  let w := k.wd 4
  let px := fun (i : Nat) => c.scrRead c.mem t (k.x 3 + (i : Int)) (k.y 3 + (j : Int))
  (List.range (if t.code = 0 then w / 2 else w)).mapM (fun i =>
    if t.code = 0 then do
      let a ← px (2 * i)
      let b ← px (2 * i + 1)
      pure (a * 16 + b)
    else px i)

/-- Write bytes of the object, checked one by one. -/
def scrPut (a : Nat) (bs : List Byte) (c : Chip) : Chip × Option ScrErr :=
  scrFold (fun c (p : Nat × Byte) =>
    match c.scrCheck true p.1 1 with
    | some e => (c, some e)
    | none => (c.setMem p.1 [p.2], none)) ((List.range bs.length).map (fun i => (a + i, bs.getD i 0))) c

/-- PACK's lines from `j` on: `pos` bytes are written and `up` is the line above. -/
def packRows (k : ScrCmd) (limit : Nat) : Nat → Nat → Nat → List Nat → Chip → Chip × Option ScrErr
  | 0, _, pos, _, c => (c.wr A.SCR_PACK_SIZE (word pos), none)
  | left + 1, j, pos, up, c =>
    let out := (k.word 1).toNat
    match c.packRow k j with
    | .error e => (c, some e)
    | .ok els =>
      let bytes := packEncode (if c.scrTarget.code = 2 then 2 else 1) (j = 0) (els.length + 1) els up
      if limit < pos + bytes.length then (c.wr A.SCR_PACK_SIZE (word pos), some { code := 6 })
      else
        match scrPut (out + 8 + 4 * j) (leBytes 4 pos) c with
        | (c, some e) => (c, some e)
        | (c, none) =>
          match scrPut (out + pos) bytes c with
          | (c, some e) => (c, some e)
          | (c, none) => packRows k limit left (j + 1) (pos + bytes.length) els c

/-- PACK. -/
def packRun (k : ScrCmd) (rows : Nat) (c : Chip) : Chip × Option ScrErr :=
  let h := k.ht 4
  let limit := (k.word 2).toNat
  let head := leBytes 2 (k.wd 4) ++ leBytes 2 h ++ [BitVec.ofNat 8 c.scrTarget.code, 0, 0, 0]
  if limit < 8 + 4 * h then (c.wr A.SCR_PACK_SIZE 0, some { code := 6 })
  else
    match scrPut (k.word 1).toNat head c with
    | (c, some e) => (c, some e)
    | (c, none) =>
      match packRows k limit (min h rows) 0 (8 + 4 * h) [] c with
      | (d, none) => if rows < h then (d.wr A.SCR_PACK_SIZE (c.rd A.SCR_PACK_SIZE), none) else (d, none)
      | (d, some e) => (d, some e)

/-! ### What a command requires (R305 to R307, R313 to R315, R323) -/

/-- A surface's breaches by code. -/
def Surface.bad (s : Surface) (code : Nat) : Bool :=
  match code with
  | 2 => s.code = 3
  | 3 => s.code = 2 && s.addr % 2 ≠ 0
  | 4 => !scrReach s.addr
  | 5 => s.pitch = 0
  | _ => false

/-- The command breaches a rule of the given code before it begins. -/
def Chip.scrBad (c : Chip) (k : ScrCmd) (code : Nat) : Bool :=
  let t := c.scrTarget
  let size := c.rd A.SCR_TGT_SIZE
  let empty := bits size 15 0 = 0 || bits size 31 16 = 0
  let tgt := t.bad code || (code = 5 && empty)
  match k.op with
  | 1 | 2 | 3 => tgt
  | 4 | 5 | 6 =>
    tgt || k.source.bad code || (code = 2 && (k.source.code ≠ t.code || (k.op = 6 && t.code ≠ 2)))
  | 7 => tgt || (code = 2 && bits (k.word 2) 17 16 = 3) || (code = 4 && !scrReach (k.word 1).toNat)
  | 8 => (code = 3 && (k.word 1).toNat % 2 ≠ 0) || (code = 4 && !scrReach (k.word 1).toNat)
  | 9 =>
    tgt || (code = 3 && (k.word 1).toNat % 4 ≠ 0) || (code = 4 && !scrReach (k.word 1).toNat)
      || (code = 5 && (k.wd 4 % 2 ≠ 0 || k.wd 4 = 0 || k.ht 4 = 0 || decide (k.x 3 < 0) || decide (k.y 3 < 0)
          || decide ((bits size 15 0 : Int) < k.x 3 + k.wd 4) || decide ((bits size 31 16 : Int) < k.y 3 + k.ht 4)))
  | _ => false

/-- The first breach, by code. -/
def Chip.scrBreach (c : Chip) (k : ScrCmd) : Option ScrErr :=
  ([2, 3, 4, 5].find? (c.scrBad k)).map (fun n => { code := n, addr := (k.word 1).toNat })

/-- Do the rows of a command, at most `rows` of them (R322: an abort ends it at the end of a row). -/
def scrDraw (k : ScrCmd) (rows : Nat) (c : Chip) : Chip × Option ScrErr :=
  match c.scrBreach k with
  | some e => (c, some e)
  | none =>
    let (_, _, _, h) := k.area
    let run := fun (f : Chip → Nat → Chip × Option ScrErr) (h : Nat) => scrFold f (List.range (min h rows)) c
    match k.op with
    | 1 | 2 => run (fillRow k) h
    | 3 => run (lineRow k) h
    | 4 | 5 | 6 =>
      if k.source = c.scrTarget then
        -- as through a temporary buffer, in the order of the signs of DY - SY
        let order := if k.y 3 < k.y 4 then (List.range h).reverse else List.range h
        scrFold (copyRow k (some c.mem)) (order.take rows) c
      else run (copyRow k none) h
    | 7 => run (glyphRow k) h
    | 8 => run (tileRow k) (k.ht 4)
    | 9 => packRun k rows c
    | _ => (c, none)

/-! ### Overtaking and marks (R329, R330) -/

/-- The command at the engine's place. -/
def Chip.scrFetch (c : Chip) : Except ScrErr ScrCmd :=
  if c.scr.list then
    match c.scrCheck false c.scr.pc 32 with
    | some e => .error e
    | none => .ok { w := (List.range 8).map (fun i => c.memW (c.scr.pc + 4 * i)) }
  else .ok { w := (List.range 8).map (fun i => c.rd (A.SCR_CMDw i)) }

/-- The drawing command in progress on the display's surface, if there is one. -/
def Chip.scrOnSurface (c : Chip) : Option ScrCmd :=
  if !c.scrBusy || c.scrWaiting || (c.rd A.SCR_TGT_ADDR) ≠ (c.rd A.DISP_SURF_BASE) then none
  else match c.scrFetch with
    | .ok k => if k.draws then some k else none
    | .error _ => none

/-- Line `y` was overtaken. -/
def Chip.overtaken (c : Chip) (y : Nat) : Chip :=
  let c := if c.bit A.SCR_STAT 9 then c else c.wr A.SCR_OVT_LINE (word y)
  (c.setBit A.SCR_STAT 9).inc A.SCR_OVT_COUNT

/-- The command covers row `y`. -/
def ScrCmd.rowIn (k : ScrCmd) (y : Nat) : Bool := let (_, y0, _, h) := k.area; decide (y0 ≤ y ∧ (y : Int) < y0 + h)

/-- The fetch of line `y` begins in KIND 1 (R329). -/
def Chip.overtakeFetch (c : Chip) (y : Nat) : Chip :=
  match c.scrOnSurface with
  | some k => if c.dkind = 1 && c.layerIn 4 && c.bit A.DISP_LAYER_EN 4 && k.rowIn y then c.overtaken y else c
  | none => c

/-- The rows of a push that were read from count `a` to count `b` while the command covered them (R329). -/
def Chip.overtakePush (c : Chip) (a b : Nat) : Chip :=
  match c.scrOnSurface, c.disp.push with
  | some k, some p =>
    if !c.dirtyMap then c
    else
      let rows := p.rects.flatMap (fun r => (List.range (rectH r)).map (fun j => 16 * r.2.1 + j))
      rows.foldl (fun c y =>
        let t := p.start + cyclesToCounts (c.xfersBefore p.rects y * c.xferCycles)
        if k.rowIn y && decide (a ≤ t ∧ t ≤ b) then c.overtaken y else c) c
  | _, _ => c

/-- Mark the tiles that the command could write (R330). -/
def Chip.autoMark (c : Chip) (k : ScrCmd) : Chip :=
  if !k.draws || !c.dirtyMap || !c.bit A.DISP_DBI_CFG 3 || c.rd A.SCR_TGT_ADDR ≠ c.rd A.DISP_SURF_BASE then c
  else
    let (x0, y0, w, h) := k.area
    let pts := (List.range h).flatMap (fun (j : Nat) => ((cols x0 w).filter (fun x =>
      c.scrAllows k.clip x (y0 + (j : Int)) && k.covers x (y0 + (j : Int)))).map (fun x => (x.toNat, (y0 + (j : Int)).toNat)))
    match pts with
    | [] => c
    | p :: l =>
      let b := l.foldl (fun (b : Nat × Nat × Nat × Nat) q => (min b.1 q.1, min b.2.1 q.2, max b.2.2.1 q.1, max b.2.2.2 q.2)) (p.1, p.2, p.1, p.2)
      c.markTiles (b.1 / 16) (b.2.1 / 16) (b.2.2.1 / 16) (b.2.2.2 / 16)

/-! ### Running and stopping (R319 to R323) -/

/-- The engine stops with a bit of SCR_STAT. -/
def Chip.scrStop (c : Chip) (b : Nat) : Chip := ((c.clrBit A.SCR_STAT 0).clrBit A.SCR_STAT 1).setBit A.SCR_STAT b

/-- SCR_PC shows the current command of a list. -/
def Chip.scrShowPc (c : Chip) : Chip := if c.scr.list then c.wr A.SCR_PC (word c.scr.pc) else c

/-- Stopped on an error (R322, R323). -/
def Chip.scrFail (e : Env) (c : Chip) (x : ScrErr) : Chip :=
  let c := (c.wr A.SCR_ERR (word x.code)).scrStop 5
  if x.code = 8 then (c.busError .scr x.target x.cause x.addr x.write).report e 0x0C 1 0 x.addr else c

/-- The next command begins, or the register command is done. -/
def Chip.scrNext (e : Env) (c : Chip) : Chip :=
  if c.scr.list then
    let pc := (c.scr.pc + 32) % 2 ^ 32
    (c.scrDo fun s => { s with pc := pc, began := e.now }).wr A.SCR_PC (word pc)
  else c.scrStop 4

/-! ### Fences (R324 to R328) -/

/-- A fence fires (R327). -/
def Chip.fenceFires (e : Env) (c : Chip) (line : Nat) (late : Bool) : Chip :=
  let c := c.setBit A.SCR_STAT 7
  let c := if late then c.setBit A.SCR_STAT 8 else c
  let c := (c.wr A.SCR_FENCE_LAST (word ((if late then 2 ^ 31 else 0) + line))).wr A.SCR_FENCE_FRAME (word (c.frameIndex e))
  c.scrDo fun s => { s with fired := some (c.frameIndex e) }

/-- An armed fence fires, and what it held goes on. -/
def Chip.armedFires (e : Env) (c : Chip) (late : Bool) : Chip :=
  match c.scr.fence with
  | none => c
  | some f =>
    let own := c.scr.own
    let c := (c.fenceFires e f.line late).scrDo fun s => { s with fence := none, own := false }
    let c := (c.clrBit A.SCR_STAT 2).clrBit A.SCR_FENCE 31
    if c.scrWaiting then
      let c := c.clrBit A.SCR_STAT 1
      if own then c.scrNext e else c
    else c

/-- A fence is armed. -/
def Chip.armFence (c : Chip) (f : Fence) : Chip :=
  ((c.scrDo fun s => { s with fence := some f }).setBit A.SCR_STAT 2).wr A.SCR_FENCE (word (2 ^ 31 + f.line))

/-- Whether a fence reached now fires at once: none if it is armed, else whether it is late (R325, R326). -/
def Chip.fenceNow (e : Env) (c : Chip) (f : Fence) : Option Bool :=
  match c.dkind with
  | 1 =>
    let ahead := (f.frame + 2 ^ 32 - c.frameIndex e % 2 ^ 32) % 2 ^ 32
    if 2 ^ 31 ≤ ahead then some true
    else if ahead = 0 && decide (f.line ≤ (c.beamAt e.now).1) then some true
    else none
  | 2 | 3 =>
    match c.disp.push with
    | some _ => if f.line ≤ c.beamLine e.now then some true else none
    | none => none
  | _ => some false

/-- The count at which the armed fence is due, if it can be told. -/
def Chip.fenceDue (e : Env) (c : Chip) : Option Nat :=
  match c.scr.fence with
  | none => none
  | some f =>
    match c.dkind with
    | 1 =>
      let ahead := (f.frame + 2 ^ 32 - c.frameIndex e % 2 ^ 32) % 2 ^ 32
      some (if 2 ^ 31 ≤ ahead then e.now else c.lineCount (c.frameStart e.now + ahead * c.frameCounts) f.line)
    | 2 | 3 =>
      c.disp.push.map (fun p => min p.finish (p.start + cyclesToCounts (c.xfersBefore p.rects f.line * c.xferCycles)))
    | _ => some e.now

/-- FENCE (R324 to R327). -/
def scrFence (k : ScrCmd) (e : Env) (c : Chip) : Chip :=
  let line := k.low % 2048
  let hold := (k.word 0).getLsbD 15
  let limit := match c.dkind with
    | 1 => c.vTotal
    | 2 | 3 => c.dsec.h
    | _ => 2048
  if limit ≤ line then c.scrFail e { code := 7 }
  else if c.scr.fence.isSome then (c.setBit A.SCR_STAT 1).scrDo fun s => { s with own := false }
  else
    let cur := c.frameIndex e
    let base := c.scr.fired.getD cur
    let frame := match k.low / 4096 % 4 with
      | 0 => cur
      | 1 => cur + 1
      | 2 => base
      | _ => base + 1
    let f : Fence := { line := line, frame := frame % 2 ^ 32 }
    match c.fenceNow e f with
    | some late => (c.fenceFires e line late).scrNext e
    | none =>
      let c := c.armFence f
      if hold then (c.setBit A.SCR_STAT 1).scrDo fun s => { s with own := true } else c.scrNext e

/-! ### The commands at the engine -/

/-- A drawing command, TILEW or PACK is carried out. -/
def scrWork (k : ScrCmd) (e : Env) (c : Chip) : Chip :=
  let c := c.overtakePush c.scr.began e.now
  match scrDraw k (2 ^ 16) c with
  | (c, none) => (c.autoMark k).scrNext e
  | (c, some x) => (c.autoMark k).scrFail e x

/-- TARGET (R310). -/
def scrTargetCmd (k : ScrCmd) (e : Env) (c : Chip) : Chip :=
  (((c.wr A.SCR_TGT_ADDR (k.word 1)).wr A.SCR_TGT_FMT (k.word 2)).wr A.SCR_TGT_SIZE (k.word 3)).scrNext e

/-- CLIP (R318). -/
def scrClip (k : ScrCmd) (e : Env) (c : Chip) : Chip :=
  let i := k.low % 4
  let c := (c.wr (A.SCR_CLIPi_MIN i) (k.word 1)).wr (A.SCR_CLIPi_MAX i) (k.word 2)
  ((c.putBit A.SCR_CLIP_CTL i (k.low / 16 % 2 = 1)).putBit A.SCR_CLIP_CTL (4 + i) (k.low / 32 % 2 = 1)).scrNext e

/-- JUMP (R319, R321). -/
def scrJump (k : ScrCmd) (e : Env) (c : Chip) : Chip :=
  let a := (k.word 1).toNat
  if a % 32 ≠ 0 then c.scrFail e { code := 3 }
  else (c.scrDo fun s => { s with list := true, pc := a, began := e.now }).wr A.SCR_PC (word a)

/-- The command that the engine has reached, where it is one of `want`; any other event at the engine finds it
elsewhere and does nothing. -/
def scrAt (want : Nat → Bool) (f : ScrCmd → Env → Chip → Chip) (e : Env) (c : Chip) : Chip :=
  if !c.scrBusy || c.scrWaiting then c
  else
    let c := c.scrShowPc
    match c.scrFetch with
    | .error x => c.scrFail e x
    | .ok k => if want k.op then f k e c else c

/-- Start a register command or a list (R319, R320). -/
def scrGo (op : Nat) (e : Env) (c : Chip) : Chip :=
  if c.scrBusy then c.setBit A.SCR_STAT 10
  else if op = 1 then (c.scrDo fun s => { s with list := false, began := e.now, fired := none }).setBit A.SCR_STAT 0
  else if op = 2 then
    let a := (c.rd A.SCR_LIST_ADDR).toNat
    ((c.scrDo fun s => { s with list := true, pc := a, began := e.now, fired := none }).wr A.SCR_PC (word a)).setBit A.SCR_STAT 0
  else c

/-- Abort (R322): the command in progress ends after `rows` of its rows. -/
def scrAbort (rows : Nat) (_e : Env) (c : Chip) : Chip :=
  if !c.scrBusy then c
  else
    let c := c.scrShowPc
    let c := if c.scrWaiting then c
      else match c.scrFetch with
        | .ok k => if decide (1 ≤ k.op ∧ k.op ≤ 9) then ((scrDraw k rows c).1).autoMark k else c
        | .error _ => c
    ((c.scrDo fun s => { s with fence := none, own := false }).clrBit A.SCR_STAT 2).clrBit A.SCR_FENCE 31 |>.scrStop 6

/-- A register that cannot be written while the engine is busy (R320). -/
def scrGuarded (a : Nat) : Bool :=
  a = A.SCR_GO || a = A.SCR_LIST_ADDR || decide (A.SCR_CMDw 0 ≤ a ∧ a < A.SCR_CMDw 8)
    || decide (A.SCR_CLIPi_MIN 0 ≤ a ∧ a ≤ A.SCR_CLIP_CTL) || decide (A.SCR_TGT_ADDR ≤ a ∧ a ≤ A.SCR_TGT_SIZE)

/-- A write of an SCR register. An abort by this way is one between two commands. -/
def scrWrite (a : Nat) (v : Word) (e : Env) (c : Chip) : Chip :=
  if c.scrBusy && scrGuarded a then c.setBit A.SCR_STAT 10
  else if a = A.SCR_GO then scrGo (bits v 1 0) e c
  else if a = A.SCR_CTL then (if v.getLsbD 0 then scrAbort 0 e c else c)
  else c.writeCoded a v

/-- A swap or commit that changes N, KIND or MODE fires an armed fence late (R328). -/
def Chip.fenceChange (e : Env) (c : Chip) : Chip := c.armedFires e true

/-- Sources 184, 185 and 186. -/
def Chip.scrIrq (c : Chip) (i : Nat) : Bool :=
  let st := c.rd A.SCR_STAT
  match i with
  | 0 => c.bit A.SCR_INT_EN 0 && st.getLsbD 7
  | 1 => c.bit A.SCR_INT_EN 1 && (st.getLsbD 4 || st.getLsbD 5 || st.getLsbD 6)
  | _ => c.bit A.SCR_INT_EN 2 && st.getLsbD 9

end Sys2Proof.Machine
end

