-- ==== Sys2Proof/Machine/Dma.lean ====
section
/-! DEFINITION. Machine/Dma.lean: the DMA channels' registers, status records, allowances and waits (14_dma.md). The
accesses that channels make stand in Machine/DmaRun.lean, over the bus. -/

namespace Sys2Proof.Machine

/-- A channel. -/
def Chip.ch (c : Chip) (n : Nat) : DmaChan := getS {} c.dma.chans n
def Chip.setCh (c : Chip) (n : Nat) (x : DmaChan) : Chip := { c with dma := { c.dma with chans := putS {} c.dma.chans n x } }
def Chip.modCh (c : Chip) (n : Nat) (f : DmaChan → DmaChan) : Chip := c.setCh n (f (c.ch n))

/-- CHn_STAT.STATE: 0 IDLE, 1 RUN, 2 WAITING, 3 BACKOFF, 4 BUDGET, 5 HALTED. -/
def Chip.chState (c : Chip) (n : Nat) : Nat := c.fld (A.CHn_STAT n) 31 29
def Chip.setChState (c : Chip) (n s : Nat) : Chip := c.setFld (A.CHn_STAT n) 31 29 s
def Chip.chActive (c : Chip) (n : Nat) : Bool := decide (1 ≤ c.chState n ∧ c.chState n ≤ 4)
def Chip.chProgram (c : Chip) (n : Nat) : Bool := c.bit (A.CHn_CFG n) 31
def Chip.chCoh (c : Chip) (n : Nat) : Bool := c.bit (A.CHn_CFG n) 30
/-- CHn_PC as an address. -/
def Chip.chPc (c : Chip) (n : Nat) : Nat := (c.rd (A.CHn_PC n)).toNat

/-- Bytes of a copy that are not written. -/
def Xfer.residue (x : Xfer) : Nat := x.rows * x.width - (x.row * x.width + x.pos)

/-- Bytes of the present copy not written, or 0 (R506). -/
def Chip.chResidue (c : Chip) (n : Nat) : Nat := ((c.ch n).x.map Xfer.residue).getD 0

/-- The allowance of a channel: its target, if it has one. -/
def Chip.chTarget (c : Chip) (n : Nat) : Option Nat :=
  let s := c.rd (A.CHn_STREAM n)
  if s.getLsbD 31 then some (bits s 27 24) else none

/-- Bytes moved to or from a target are counted. -/
def Chip.chCount (c : Chip) (n target bytes : Nat) : Chip :=
  if c.chTarget n = some target then c.modCh n fun x => { x with used := x.used + bytes } else c

/-- Bytes are written to memory under the channel's coherence (R486). -/
def Chip.chPut (e : Env) (c : Chip) (n a : Nat) (bs : List Byte) : Chip :=
  let c := if c.chCoh n && (regionOf a).cacheable then coherentWrite a bs e c else c.setMemBytes a bs
  match (regionOf a).target with
  | some t => c.chCount n t bs.length
  | none => c

/-- A status record (R506). -/
def Chip.statusRecord (e : Env) (c : Chip) (n reason cause residue addr : Nat) : Chip :=
  let pc := if c.chProgram n then c.chPc n else 0
  let ws := [word (reason * 2 ^ 24 + cause % 256 * 65536 + n), word residue, word addr, word pc]
  let c := (List.range 4).foldl (fun c i => c.wr (A.CHn_SRi n i) (ws.getD i 0)) c
  if !c.bit (A.CHn_CFG n) 29 then c
  else
    let a := (c.rd (A.CHn_SREC_ADDR n)).toNat
    if (regionOf a).target = some 8 then
      { c with dma := { c.dma with words := c.dma.words ++ (List.range 4).map (fun i => (n, a + 4 * i, ws.getD i 0)) } }
    else
      match c.busCause (.dma n) true false a 16 with
      | some (cause, t) => c.busError (.dma n) t cause a true
      | none => c.chPut e n a (ws.flatMap (fun w => leBytes 4 w.toNat))

/-- The channel halts (R506, R507). -/
def Chip.chHalt (e : Env) (c : Chip) (n reason cause addr : Nat) : Chip :=
  let c := c.statusRecord e n reason cause (c.chResidue n) addr
  let c := (c.setBit (A.CHn_STAT n) 4).setChState n 5
  let c := c.modCh n fun x => { x with wait := none, pre := none, x := none, tries := 0 }
  if reason = 2 then c.report e 0x0B clsRecoverable n addr else c

/-- BAD_PROG, ALIGN and BAD_WAIT. -/
def Chip.chBadProg (e : Env) (c : Chip) (n : Nat) : Chip := c.chHalt e n 3 0 (c.rd (A.CHn_SRC n)).toNat
def Chip.chBadWait (e : Env) (c : Chip) (n : Nat) : Chip := c.chHalt e n 5 0 (c.rd (A.CHn_SRC n)).toNat

/-- A copy or program is complete (R489). -/
def Chip.chDone (e : Env) (c : Chip) (n : Nat) : Chip :=
  let c := c.modCh n fun x => { x with x := none, wait := none, pre := none }
  let c := if c.bit (A.CHn_CFG n) 29 then c.statusRecord e n 0 0 0 (c.rd (A.CHn_SRC n)).toNat else c
  (c.setBit (A.CHn_STAT n) 1).setChState n 0

/-- CHn_CTL.START (R487, R490). -/
def dmaStart (n : Nat) (e : Env) (c : Chip) : Chip :=
  if c.chActive n then c.setBit (A.CHn_STAT n) 15
  else
    let c := c.modCh n fun x => { x with loops := [], wait := none, pre := none, x := none, tries := 0, post := none }
    if c.chProgram n then (c.wr (A.CHn_PC n) (c.rd (A.CHn_PROG n))).setChState n 1
    else
      let cfg := c.rd (A.CHn_CFG n)
      let count := (c.rd (A.CHn_COUNT n)).toNat
      let x : Xfer := { src := (c.rd (A.CHn_SRC n)).toNat, dst := (c.rd (A.CHn_DST n)).toNat, smode := bits cfg 13 12
                        dmode := bits cfg 17 16, width := count }
      let c := c.modCh n fun k => { k with x := some x }
      if x.smode = 3 ∨ x.dmode = 3 then c.chBadProg e n
      else if count = 0 then c.chDone e n
      else c.setChState n 1

/-- The channel's commits that wait under HOLD are dropped (R504, R505). -/
def Chip.dropHeld (c : Chip) (n : Nat) : Chip :=
  { c with que := { c.que with skid := c.que.skid.filter (fun i => !(i.byMaster && i.r.source == 0x40 + n && c.holding i.queue)) } }

/-- CHn_CTL.DISABLE (R504): the four registers are undefined. -/
def dmaDisable (n : Nat) (c : Chip) : Chip :=
  let (k, c) := c.draw
  let free := fun i => Config.freeWord (k + i)
  let c := c.dropHeld n
  let c := (((c.wr (A.CHn_SRC n) (free 0)).wr (A.CHn_DST n) (free 1)).wr (A.CHn_COUNT n) (free 2 &&& 0xFFFFF)).wr (A.CHn_PC n) (free 3 &&& 0xFFFFFFFC)
  (c.modCh n fun x => { x with loops := [], wait := none, pre := none, x := none, tries := 0, post := none }).setChState n 0

/-- A register of a channel that only an inactive channel takes (R488). -/
def chGuarded (off : Nat) : Bool := [0x00, 0x10, 0x14, 0x18, 0x1C, 0x28].contains off

/-- DMA_EVT_SET and DMA_EVT_CLR (R501). -/
def evtSet (v : Word) (c : Chip) : Chip := c.wr A.DMA_EVT (c.rd A.DMA_EVT ||| (v &&& 0xFFFF))
def evtClr (v : Word) (c : Chip) : Chip := c.wr A.DMA_EVT (c.rd A.DMA_EVT &&& ~~~ v)

/-- An abort is asked for; the channel's own accesses carry it out within the command (R505). -/
def dmaAskAbort (n : Nat) (c : Chip) : Chip :=
  if c.chActive n then { c with dma := { c.dma with aborts := c.dma.aborts ++ [n] } } else c

/-- A write of a DMA register. -/
def dmaWrite (a : Nat) (v : Word) (e : Env) (c : Chip) : Chip :=
  if a = A.DMA_EVT_SET then evtSet v c
  else if a = A.DMA_EVT_CLR then evtClr v c
  else if a < A.CHn_CFG 0 ∨ A.CHn_CFG 16 ≤ a then c
  else
    let n := (a - A.CHn_CFG 0) / 0x40
    let off := (a - A.CHn_CFG 0) % 0x40
    if off = 4 then
      if v.getLsbD 2 then dmaDisable n c
      else
        let c := if v.getLsbD 1 then dmaAskAbort n c else c
        if v.getLsbD 0 then dmaStart n e c else c
    else if chGuarded off && c.chActive n then c.setBit (A.CHn_STAT n) 15
    else c.writeCoded a v

/-- Source 32 + n. -/
def Chip.dmaIrq (c : Chip) (n : Nat) : Bool := (c.rd (A.CHn_STAT n) &&& c.rd (A.CHn_INT_EN n) &&& 0xFFFF) ≠ 0

/-- DMA_ACTIVE and DMA_INT_SUM as read. -/
def Chip.dmaActive (c : Chip) : Word := word (bitsOf 16 c.chActive)
def Chip.dmaIntSum (c : Chip) : Word := word (bitsOf 16 c.dmaIrq)

/-! ### Allowances (R502, R503) -/

/-- The stream entry that applies to a channel: its target and BYTES, summed over a crossfade's two Charters. -/
def streamOf (live old : Option Charter) (n : Nat) : Option (Nat × Nat) :=
  let f := fun (ch : Option Charter) => ch.bind (fun ch => (ch.streams.find? (fun s => s.channel = n)).map (fun s => (s.target, s.bytes)))
  match f live, f old with
  | some (t, b), some (_, b') => some (t, b + b')
  | some x, none => some x
  | none, x => x

/-- The structure's stream entries apply (R503). -/
def Chip.dmaStreams (c : Chip) : Chip :=
  (List.range 16).foldl (fun c n =>
    match streamOf c.ldr.live c.ldr.old n with
    | some (t, b) => c.wr (A.CHn_STREAM n) (word (2 ^ 31 + t % 16 * 2 ^ 24 + b % 2 ^ 24))
    | none => c.wr (A.CHn_STREAM n) 0) c

/-- The block tick renews the allowances (R502). -/
def Chip.dmaRenew (c : Chip) : Chip :=
  (List.range 16).foldl (fun c n =>
    let x := c.ch n
    let bytes := c.fld (A.CHn_STREAM n) 23 0
    let excess := x.used - x.allow
    let c := if c.chTarget n = none then (if x.used = 0 && x.allow = 0 then c else c.setCh n { x with used := 0, allow := 0 })
      else c.setCh n { x with used := 0, allow := bytes - excess }
    if c.chState n = 4 then c.setChState n 1 else c) c

/-- The channel may issue no burst to its target in this block (R502). -/
def Chip.overBudget (c : Chip) (n target : Nat) : Bool :=
  c.chTarget n = some target && decide ((c.ch n).allow ≤ (c.ch n).used)

/-! ### Waits (R496, R508) -/

/-- The count at which a tick that falls every `unit` counts is met, `t` being its count: one that a slow run of the count
has passed over is met at the first tick of its kind after it (R508). -/
def Chip.tickAt (c : Chip) (unit t : Nat) : Nat :=
  if c.met.gap.1 < t && t < c.met.gap.2 then (c.met.gap.2 + unit - 1) / unit * unit else t

/-- The count at which a pending wait's condition is met, if it can be told; a count in the past is now. -/
def Chip.waitDue (e : Env) (c : Chip) (n : Nat) : Option Nat :=
  let x := c.ch n
  match x.wait with
  | none => none
  | some (.block d) => some (c.tickAt c.met.ticks.cb d)
  | some (.sample d) => some (c.tickAt c.met.ticks.cs d)
  | some (.bif b) =>
    let f := c.met.ticks.f
    let k := c.sinceFrame0 { e with now := x.waitFrom } + 1
    -- the first later block whose place in the frame is b
    some (c.tickAt c.met.ticks.cb (c.met.frame0 + (k + (b + f - k % f) % f) * c.met.ticks.cb))
  | some (.abs k) =>
    let cur := c.met.ticks.block x.waitFrom
    some (c.tickAt c.met.ticks.cb ((x.waitFrom / c.met.ticks.cb + ahead k.toNat cur) * c.met.ticks.cb))
  | some (.line l) =>
    match c.dkind with
    | 1 =>
      let next := fun start => let f := c.frameStart start
        let t := c.lineCount f l
        if start < t then t else c.lineCount (f + c.frameCounts) l
      let t := next x.waitFrom
      some (if c.met.gap.1 < t && t < c.met.gap.2 then next c.met.gap.2 else t)
    | 2 | 3 =>
      c.disp.push.bind (fun p =>
        let t := min p.finish (p.start + cyclesToCounts (c.xfersBefore p.rects (l + 1) * c.xferCycles))
        if x.waitFrom < t then some t else none)
    | _ => some x.waitFrom
  | some (.queue q) => if (c.qItems q).isEmpty then none else some e.now
  | some (.event f) =>
    if c.bit A.DMA_EVT f && !(List.range n).any (fun m => c.chState m = 2 && (c.ch m).wait = some (.event f)) then some e.now else none

/-- The events that the channels report to the power controller (R508). -/
def Chip.dmaEvents (e : Env) (c : Chip) : List Nat :=
  (List.range 16).filterMap (fun n =>
    if c.chState n = 4 then some ((e.now / c.met.ticks.cb + 1) * c.met.ticks.cb)
    else if c.chState n = 2 then
      match (c.ch n).wait with
      | some (.queue _) => none
      | some (.event _) => none
      | _ => c.waitDue e n
    else none)

/-- A channel in RUN or BACKOFF vetoes Doze and Drowse (R508). -/
def Chip.dmaVeto (c : Chip) : Bool := (List.range 16).any (fun n => c.chState n = 1 || c.chState n = 3)

end Sys2Proof.Machine
end

