-- ==== Sys2Proof/Machine/Timers.lean ====
section
/-! DEFINITION. Machine/Timers.lean: the general timers and the real-time clock (16_timers_clock_random.md, R542 to
R555). -/

namespace Sys2Proof.Machine

/-! ### General timers (R542 to R546) -/

def Chip.tim (c : Chip) (n : Nat) : Timer := getS {} c.tims n
def Chip.setTim (c : Chip) (n : Nat) (t : Timer) : Chip := { c with tims := putS {} c.tims n t }
def Chip.timRunning (c : Chip) (n : Nat) : Bool := c.bit (A.TIMn_STAT n) 1
/-- The applied SHIFT, and the applied RELOAD with 0 used as 1. -/
def Chip.timShift (c : Chip) (n : Nat) : Nat := c.fld (A.TIMn_PRESC n) 3 0
def Chip.timReload (c : Chip) (n : Nat) : Nat := max 1 (c.rd (A.TIMn_RELOAD n)).toNat

/-- How a running timer counts. -/
inductive TimRate where
  | fast
  | slow
  | stopped
  deriving DecidableEq, Repr

/-- A core named in DBG_CORE is in debug halt. -/
def Chip.timHalted (c : Chip) (n : Nat) : Bool :=
  (c.bit (A.TIMn_CFG n) 4 && c.core0.run = .halted) || (c.bit (A.TIMn_CFG n) 5 && c.core1.run = .halted)

/-- The rate in force (R545). -/
def Chip.timRate (c : Chip) (n : Nat) : TimRate :=
  if c.slow then .slow
  else if c.timHalted n then
    match c.fld (A.TIMn_CFG n) 2 1 with
    | 1 => .stopped
    | 2 => .fast
    | _ => .slow
  else .fast

/-- A pending group that was armed at least one count before `t` applies (R544). -/
def Chip.timApply (c : Chip) (n t : Nat) : Chip :=
  match c.pendingGroup (A.TIMn_RELOAD n) with
  | some (at0, _) => if at0 < t then c.applyGroup (A.TIMn_RELOAD n) else c
  | none => c

/-- A timer takes `m` MCLK counts that end at absolute count `t` (R542, R545). -/
def Chip.timTake (c : Chip) (n m t : Nat) (slow : Bool) : Chip :=
  let x := c.tim n
  let sh := c.timShift n
  let total := x.pre + m
  let d := total / 2 ^ sh
  let cnt := (c.rd (A.TIMn_COUNT n)).toNat
  let c := c.setTim n { pre := total % 2 ^ sh, asOf := max x.asOf t }
  if d < cnt then c.wr (A.TIMn_COUNT n) (word (cnt - d))
  else
    let first := if slow then t else x.asOf + (cnt * 2 ^ sh - x.pre)
    let c := (c.setBit (A.TIMn_STAT n) 0).timApply n first
    let c := if c.bit (A.TIMn_CFG n) 8 && slow then c.askWake else c
    if c.bit (A.TIMn_CFG n) 0 then
      let r := c.timReload n
      if slow then
        let past := d - cnt
        let c := c.wr (A.TIMn_COUNT n) (word (r - past % r))
        if r ≤ past then c.setBit (A.TIMn_STAT n) 2 else c
      else
        -- the prescaler restarts at the zero instant (R542)
        let rest := total - cnt * 2 ^ sh
        let sh := c.timShift n
        (c.setTim n { pre := rest % 2 ^ sh, asOf := max x.asOf t }).wr (A.TIMn_COUNT n) (word (r - rest / 2 ^ sh % r))
    else (c.wr (A.TIMn_COUNT n) 0).clrBit (A.TIMn_STAT n) 1

/-- A timer brought up to the present count. -/
def Chip.timSync (e : Env) (c : Chip) (n : Nat) : Chip :=
  if !c.timRunning n then c
  else
    let x := c.tim n
    if c.timRate n = .fast then (if x.asOf < e.now then c.timTake n (e.now - x.asOf) e.now false else c)
    else if x.asOf < e.now then c.setTim n { x with asOf := e.now } else c

/-- Every timer brought up to the present count: done before the way they count changes. -/
def Chip.timSyncAll (e : Env) (c : Chip) : Chip := (List.range 16).foldl (fun c n => c.timSync e n) c

/-- The next zero instant of a timer that counts MCLK. -/
def Chip.timDue (c : Chip) (n : Nat) : Option Nat :=
  if c.timRunning n then
    let x := c.tim n
    some (x.asOf + ((c.rd (A.TIMn_COUNT n)).toNat * 2 ^ c.timShift n - x.pre))
  else none

/-- A Vault-clock edge at which timers that count slowly take `a` counts (R545). -/
def Chip.timSlowEdge (e : Env) (a : Nat) (c : Chip) : Chip :=
  (List.range 16).foldl (fun c n =>
    if c.timRunning n && c.timRate n = .slow then c.timTake n a (e.now + a) true else c) c

/-- TIMn_COUNT as read. -/
def Chip.timCount (e : Env) (c : Chip) (n : Nat) : Word :=
  let x := c.tim n
  if c.timRunning n && c.timRate n = .fast then
    let d := (x.pre + (e.now - x.asOf)) / 2 ^ c.timShift n
    word ((c.rd (A.TIMn_COUNT n)).toNat - d)
  else c.rd (A.TIMn_COUNT n)

/-- TIMn_CTL.START (R543). -/
def timStart (n : Nat) (e : Env) (c : Chip) : Chip :=
  let c := (c.timSync e n).timApply n e.now
  ((c.wr (A.TIMn_COUNT n) (word (c.timReload n))).setTim n { pre := 0, asOf := e.now }).setBit (A.TIMn_STAT n) 1

/-- TIMn_CTL.STOP (R543). -/
def timStop (n : Nat) (e : Env) (c : Chip) : Chip := (c.timSync e n).clrBit (A.TIMn_STAT n) 1

/-- A write of TIMn_CTL. -/
def timCtl (n : Nat) (v : Word) (e : Env) (c : Chip) : Chip :=
  if v.getLsbD 1 then timStop n e c else if v.getLsbD 0 then timStart n e c else c

/-- A write of a timer register outside its group. -/
def timWrite (a : Nat) (v : Word) (e : Env) (c : Chip) : Chip :=
  if a < A.TIMn_CFG 0 ∨ A.TIMn_CFG 16 ≤ a then c
  else
    let n := (a - A.TIMn_CFG 0) / 0x20
    if a = A.TIMn_CTL n then timCtl n v e c else (c.timSync e n).writeCoded a v

/-- TIMn_STAT as read. -/
def Chip.timStat (c : Chip) (n : Nat) : Word :=
  putFld (c.rd (A.TIMn_STAT n)) 3 3 (if (c.pendingGroup (A.TIMn_RELOAD n)).isSome then 1 else 0)

/-- Source 112 + n. -/
def Chip.timIrq (c : Chip) (n : Nat) : Bool := c.bit (A.TIMn_STAT n) 0 && c.bit (A.TIMn_CFG n) 8

def Chip.timExpSum (c : Chip) : Word := word (bitsOf 16 (fun n => c.bit (A.TIMn_STAT n) 0))
def Chip.timRunSum (c : Chip) : Word := word (bitsOf 16 c.timRunning)

/-! ### The real-time clock (R547 to R555) -/

def Chip.rtcDo (c : Chip) (f : Rtc → Rtc) : Chip := { c with rtc := f c.rtc }

/-- Days in a month. -/
def isLeap (y : Nat) : Bool := y % 4 = 0 && (y % 100 ≠ 0 || y % 400 = 0)
def monthDays (y m : Nat) : Nat :=
  if m = 2 then (if isLeap y then 29 else 28) else if m = 4 ∨ m = 6 ∨ m = 9 ∨ m = 11 then 30 else 31

/-- Days of the years from `y` on, `n` of them. -/
def yearsDays : Nat → Nat → Nat
  | _, 0 => 0
  | y, n + 1 => (if isLeap y then 366 else 365) + yearsDays (y + 1) n

/-- Days of the months of a year before month `m`. -/
def monthsDays (y : Nat) : Nat → Nat
  | 0 => 0
  | 1 => 0
  | m + 1 => monthDays y m + monthsDays y m

/-- Seconds since 2000-01-01 00:00:00. -/
def secondsOf (y mo d h mi s : Nat) : Nat :=
  (yearsDays 2000 (y - 2000) + monthsDays y mo + (d - 1)) * 86400 + h * 3600 + mi * 60 + s

/-- The year and the day within it of a day number. -/
def yearOf : Nat → Nat → Nat → Nat × Nat
  | 0, y, d => (y, d)
  | fuel + 1, y, d =>
    let n := if isLeap y then 366 else 365
    if d < n then (y, d) else yearOf fuel (y + 1) (d - n)

/-- The month and the day of a day within a year. -/
def monthOf (y : Nat) : Nat → Nat → Nat → Nat × Nat
  | 0, m, d => (m, d + 1)
  | fuel + 1, m, d => if d < monthDays y m then (m, d + 1) else monthOf y fuel (m + 1) (d - monthDays y m)

/-- The first count that the calendar does not show (R553). -/
def calEnd : Nat := 0x2F0605980

/-- RTC_CAL_DATE and RTC_CAL_TIME of a seconds count (R553). -/
def calendar (secs : Nat) : Word × Word :=
  let s := min secs (calEnd - 1)
  let days := s / 86400
  let t := s % 86400
  let (y, dy) := yearOf 400 2000 days
  let (m, d) := monthOf y 12 1 dy
  (word (y * 2 ^ 20 + m * 65536 + d * 256 + (5 + days) % 7), word (t / 3600 * 65536 + t / 60 % 60 * 256 + t % 60))

/-- The staged date and time are valid (R554). -/
def setValid (date time : Word) : Bool :=
  let y := bits date 31 20
  let m := bits date 19 16
  let d := bits date 12 8
  decide (2000 ≤ y ∧ y ≤ 2399 ∧ 1 ≤ m ∧ m ≤ 12 ∧ 1 ≤ d ∧ d ≤ monthDays y m ∧ bits time 20 16 ≤ 23 ∧ bits time 13 8 ≤ 59
    ∧ bits time 5 0 ≤ 59)

def Chip.rtcHalt (c : Chip) : Bool := c.bit A.RTC_CTL 0

/-- The read window as it stands: the six registers from RTC_FRAC up (R552). -/
def Chip.rtcWindow (c : Chip) : List Word :=
  let s := c.rtc.secs.toNat
  let (date, time) := calendar s
  [word (c.rtc.frac.toNat / 65536), word s, word (s / 2 ^ 32), date, time,
    word ((if c.bit A.RTC_CAL_STATUS 1 then 2 else 0) + (if calEnd ≤ s then 1 else 0))]

/-- A read of the window (R552). -/
def rtcWindowRead (a : Nat) (c : Chip) : Word × Chip :=
  let c := match c.rtc.freeze with
    | some _ => c
    | none => c.rtcDo fun r => { r with freeze := some (c.rtcWindow, 33) }
  let v := ((c.rtc.freeze.map (·.1)).getD []).getD ((a - A.RTC_FRAC) / 4) 0
  (v, if a = A.RTC_CAL_STATUS then c.rtcDo fun r => { r with freeze := none } else c)

/-- RTC_STAT as read. -/
def Chip.rtcStat (c : Chip) : Word := putFld (c.rd A.RTC_STAT) 3 3 (if c.rtc.writes.isEmpty then 0 else 1)

/-- A write reaches a register of the Vault domain (R550): it waits for its edges; beyond eight, its master waits too. -/
def rtcWrite (a : Nat) (v : Word) (c : Chip) : Chip :=
  if (regFind a).isNone then c else c.rtcDo fun r => { r with writes := r.writes ++ [(a, v, 2)] }

/-- A write takes effect (R550, R551, R554). -/
def rtcEffect (a : Nat) (v : Word) (e : Env) (c : Chip) : Chip :=
  if isLedgerReg a then ledgerWrite a v e c
  else if a = A.RTC_FRAC ∨ a = A.RTC_SEC_LO ∨ a = A.RTC_SEC_HI then
    if !c.rtcHalt then c.setBit A.RTC_STAT 4
    else if a = A.RTC_FRAC then
      let (k, c) := c.draw
      c.rtcDo fun r => { r with frac := BitVec.ofNat 40 (bits v 23 0 * 65536 + Config.freeNat k % 65536) }
    else if a = A.RTC_SEC_LO then c.rtcDo fun r => { r with secs := BitVec.ofNat 40 (r.secs.toNat / 2 ^ 32 * 2 ^ 32 + v.toNat) }
    else c.rtcDo fun r => { r with secs := BitVec.ofNat 40 (bits v 7 0 * 2 ^ 32 + r.secs.toNat % 2 ^ 32) }
  else if a = A.RTC_CTL then
    let c :=
      if v.getLsbD 1 then
        let d := c.rd A.RTC_SET_DATE
        let t := c.rd A.RTC_SET_TIME
        if setValid d t then
          c.rtcDo fun r => { r with
            secs := BitVec.ofNat 40 (secondsOf (bits d 31 20) (bits d 19 16) (bits d 12 8) (bits t 20 16) (bits t 13 8) (bits t 5 0))
            frac := 0 }
        else c.setBit A.RTC_CAL_STATUS 1
      else c
    c.putBit A.RTC_CTL 0 (v.getLsbD 0)
  else c.writeCoded a v

/-- TC at a temperature in 1/16 °C (R548). -/
def Chip.rtcTc (c : Chip) (t : Int) : Int :=
  let node := fun i => sgn 16 (c.fld (A.RTC_TCOMPi i) 15 0)
  if t ≤ -640 then node 0
  else if 1600 ≤ t then node 7
  else
    let i := ((t + 640) / 320).toNat
    node i + openDiv ((node (i + 1) - node i) * ((t + 640) % 320)) 320

/-- An alarm's seconds. -/
def Chip.almSecs (c : Chip) (n : Nat) : Nat := c.fld (A.RTC_ALMn_HI n) 7 0 * 2 ^ 32 + (c.rd (A.RTC_ALMn_LO n)).toNat

/-- What one edge adds to the fraction, in units of 2^-40 s (R547, R548). -/
def Chip.rtcStep (c : Chip) : Nat :=
  (512 * 65536 + clampI (-32768) 32767 (sgn 16 (c.fld A.RTC_TRIM 15 0) + c.rtc.tc)).toNat

/-- The next edge carries into the seconds. -/
def Chip.rtcCarries (c : Chip) : Bool := !c.rtcHalt && decide (2 ^ 40 ≤ c.rtc.frac.toNat + c.rtcStep)

/-- The next edge fires alarm `n` (R555). -/
def Chip.almDue (c : Chip) (n : Nat) : Bool :=
  c.rtcCarries && c.bit (A.RTC_ALMn_HI n) 31 && decide ((c.rtc.secs.toNat + 1) % 2 ^ 40 = c.almSecs n)

/-- Alarm `n` fires (R555). -/
def Chip.almFires (e : Env) (c : Chip) (n : Nat) : Chip :=
  let c := c.setBit A.RTC_STAT n
  if c.mode = .vault then c
  else
    (c.askWake).post e { source := 0x60, kind := 0x60, key := n, flags := 0, time := e.stamp, valueA := 0
                         valueB := word c.rtc.secs.toNat }

/-- The count advances by one edge; `temp` is what the sensor gives (R547, R548, R555). -/
def Chip.rtcAdvance (temp : Int) (e : Env) (c : Chip) : Chip :=
  if c.rtcHalt then c
  else
    let carry := c.rtcCarries
    let fire := (List.range 2).filter (c.almDue ·)
    let sum := c.rtc.frac.toNat + c.rtcStep
    let c := c.rtcDo fun r => { r with
      frac := BitVec.ofNat 40 sum, secs := if carry then r.secs + 1 else r.secs, carries := if carry then (r.carries + 1) % 64 else r.carries }
    if !carry then c
    else
      let c := if c.mode ≠ .vault || c.rtc.carries = 0 then
          let c := (c.wr A.RTC_TEMP (word ((temp % 65536).toNat))).rtcDo fun r => { r with tc := c.rtcTc temp }
          if c.mode = .vault then c else c.countStress e temp
        else c
      let c := c.ledgerCarry
      fire.foldl (fun c n => c.almFires e n) c

/-- Count the edges of the waiting writes; those that are due take effect in order (R550). -/
def rtcWrites (e : Env) : Nat → Chip → Chip
  | 0, c => c
  | fuel + 1, c =>
    match c.rtc.writes with
    | (a, v, 0) :: l => rtcWrites e fuel (rtcEffect a v e (c.rtcDo fun r => { r with writes := l }))
    | _ => c

/-- One Vault-clock edge at the RTC (R547 to R555). -/
def rtcEdge (temp : Int) (e : Env) (c : Chip) : Chip :=
  let c := c.rtcAdvance temp e
  let c := c.rtcDo fun r => { r with
    writes := (r.writes.take 8).map (fun w => (w.1, w.2.1, w.2.2 - 1)) ++ r.writes.drop 8 }
  let c := rtcWrites e (c.rtc.writes.length + 1) c
  match c.rtc.freeze with
  | some (_, 1) => (c.rtcDo fun r => { r with freeze := none }).setBit A.RTC_STAT 5
  | some (l, k) => c.rtcDo fun r => { r with freeze := some (l, k - 1) }
  | none => c

/-- The oldest write takes effect at the next edge. -/
def Chip.rtcWriteDue (c : Chip) : Bool := match c.rtc.writes with
  | (_, _, 1) :: _ => true
  | _ => false

/-- The freeze runs out at the next edge. -/
def Chip.rtcFreezeDue (c : Chip) : Bool := match c.rtc.freeze with
  | some (_, 1) => true
  | _ => false

/-- Whole Vault-clock periods until alarm `n` (R575); none where it is not enabled or does not advance. -/
def Chip.almPeriods (c : Chip) (n : Nat) : Option Nat :=
  if !c.bit (A.RTC_ALMn_HI n) 31 || c.rtcHalt then none
  else
    let ahead := (c.almSecs n + 2 ^ 40 - c.rtc.secs.toNat) % 2 ^ 40
    if ahead = 0 then none else some ((ahead * 2 ^ 40 - c.rtc.frac.toNat - 1) / max 1 c.rtcStep)

/-- Source 128. -/
def Chip.rtcIrq (c : Chip) : Bool := (c.rd A.RTC_STAT &&& c.rd A.RTC_INT_EN &&& 3) ≠ 0

/-- A Vault-domain reset of the RTC (R549). -/
def Chip.rtcReset (c : Chip) : Chip :=
  { c with rtc := {}, regs := dropS (fun a => a / 65536 == 0x6010) c.regs }

end Sys2Proof.Machine
end

