-- ==== Sys2Proof/Machine/Host.lean ====
section
/-! DEFINITION. Machine/Host.lean: the host port's frames, replies, replay caches and registers (15_host_port.md). What
a request does stands in Machine/HostRun.lean, over the bus. -/

namespace Sys2Proof.Machine

/-! ### Channels -/

def Chip.hc (c : Chip) (n : Nat) : HostChan := getS {} c.host.chans n
def Chip.setHc (c : Chip) (n : Nat) (h : HostChan) : Chip := { c with host := { c.host with chans := putS {} c.host.chans n h } }
def Chip.modHc (c : Chip) (n : Nat) (f : HostChan → HostChan) : Chip := c.setHc n (f (c.hc n))

/-- The input pins of a channel are selected (R511, R624, R629): GPC0 to GPC10, GPC12 to GPC14, and GPC16 and GPC17. -/
def hostPins (n : Nat) : List Nat :=
  if n = 0 then (List.range 11).map (· + 64) else if n = 1 then [76, 77, 78] else [80, 81]

/-- Channel `n` sees what its host does: enabled, with its pins, and the chip out of reset and VAULT (R512, R539). -/
def Chip.hostListens (c : Chip) (n : Nat) : Bool :=
  decide (n < 3) && c.bit A.HOST_CFG n && (hostPins n).all (fun p => c.pinFunc p == 1) && c.mode != .vault
    && c.pwr.boot != .inReset && c.pwr.boot != .noSupply

/-- A channel's request is pending. -/
def Chip.hostPending (c : Chip) (n : Nat) : Bool := (c.hc n).pending.isSome

/-- A new frame begins: the unread rest of the current reply is discarded (R517). -/
def Chip.hostBegin (c : Chip) (n : Nat) : Chip := c.modHc n fun h => { h with current := .none }

/-- A reply becomes the channel's current reply; a BUSY or replayed one sets its flag. -/
def Chip.hostCurrent (c : Chip) (n : Nat) (r : HostReply) : Chip :=
  let c := if r.busy then (c.setBit (A.HOST_CHc_STAT n) 5).inc (A.HOST_CHc_BUSYS n) else c
  let c := if r.replay then c.setBit (A.HOST_CHc_STAT n) 6 else c
  c.modHc n fun h => { h with current := .ready r 0 0 }

/-- A reply with no payload. -/
def hostReply (tag code : Nat) : HostReply := { tag := tag, code := code, payload := [], errf := code ≠ 0 }

/-- The BUSY reply (R523). -/
def Chip.hostBusy (c : Chip) (tag cause : Nat) : HostReply :=
  let retry := if cause = 1 then 1 else c.fld A.HOST_BUSY_CFG 7 0
  { tag := tag, code := 0x86, payload := leBytes 2 retry ++ leBytes 2 cause, errf := false, busy := true }

/-- An accepted request enters the cache (R516, R520). -/
def Chip.hostAccept (c : Chip) (n tag crc : Nat) : Chip :=
  let c := c.inc (A.HOST_CHc_REQS n)
  c.modHc n fun h =>
    let l := h.cache.filter (fun x => x.tag ≠ tag) ++ [{ tag := tag, crc := crc, reply := none }]
    { h with cache := l.drop (l.length - 16), current := .waiting tag false }

/-- The reply to an accepted request is formed: it enters its cache entry and every current reply that waits for it. -/
def Chip.hostForm (c : Chip) (n : Nat) (r : HostReply) : Chip :=
  let h := c.hc n
  let c := c.setHc n { h with
    cache := h.cache.map (fun x => if x.tag = r.tag && x.reply.isNone then { x with reply := some r } else x) }
  match h.current with
  | .waiting tag replay => if tag = r.tag then c.hostCurrent n { r with replay := replay } else c
  | _ => c

/-- A request waits for its reply (R516). -/
def Chip.hostWait (c : Chip) (n : Nat) (p : HostPending) : Chip :=
  ((c.modHc n fun h => { h with pending := some p }).setBit (A.HOST_CHc_STAT n) 0).wr (A.HOST_CHc_PEND n)
    (word (p.op * 256 + p.tag % 256))

/-- A pending request is answered. -/
def Chip.hostAnswer (c : Chip) (n : Nat) (r : HostReply) : Chip :=
  (((c.modHc n fun h => { h with pending := none }).clrBit (A.HOST_CHc_STAT n) 0).wr (A.HOST_CHc_PEND n) 0).hostForm n r

/-- A cache entry's reply is given again (R516, step 3, R521), or is awaited. -/
def Chip.hostReplay (c : Chip) (n : Nat) (x : HostEntry) : Chip :=
  match x.reply with
  | some r => c.hostCurrent n { r with replay := true }
  | none => c.modHc n fun h => { h with current := .waiting x.tag true }

/-- FETCH (R530). -/
def Chip.hostFetch (c : Chip) (n tag : Nat) (payload : List Byte) : Chip :=
  match payload with
  | [t] =>
    match (c.hc n).cache.find? (fun x => x.tag = t.toNat) with
    | some { reply := some r, .. } => c.hostCurrent n { r with replay := true }
    | some _ => c.hostCurrent n (c.hostBusy tag 1)
    | none => c.hostCurrent n (hostReply tag 0x87)
  | _ => c.hostCurrent n (hostReply tag 0x83)

/-- A LEN above 1,024 (R515); its SYNC byte wakes the device (R539). -/
def hostLenFault (n tag : Nat) (c : Chip) : Chip :=
  if c.hostListens n then
    let c := (c.hostBegin n).askWake.hostCurrent n (hostReply tag 0x82)
    (c.setBit (A.HOST_CHc_STAT n) 3).inc (A.HOST_CHc_ERRS n)
  else c

/-- An abandoned frame (R515). -/
def hostGap (n : Nat) (c : Chip) : Chip :=
  if c.hostListens n then ((c.hostBegin n).askWake.setBit (A.HOST_CHc_STAT n) 1).inc (A.HOST_CHc_ERRS n) else c

/-- Counts of the gap limit (R515): a millisecond is a tenth of ten. -/
def Chip.gapCounts (c : Chip) : Nat :=
  max 1 (c.fld A.HOST_CFG 15 8) * (if c.family441 then 45158 else 49152)

/-- A parallel write of 0xC3 with A0 = 1 (R535). -/
def hostAbandon (c : Chip) : Chip := if c.hostListens 0 && c.pinFunc 75 = 1 then c.hostBegin 0 else c

/-! ### Reading a reply (R517 to R519, R535) -/

/-- The bytes of a reply whose STATUS is known. -/
def HostReply.bytes (r : HostReply) (status : Nat) : List Byte :=
  let body := [BitVec.ofNat 8 status, BitVec.ofNat 8 r.tag, BitVec.ofNat 8 r.code] ++ leBytes 2 r.payload.length ++ r.payload
  body ++ leBytes 2 (crc16 body).toNat

/-- The major mode's number (R566). -/
def Mode.value : Mode → Nat
  | .configure => 0
  | .perform => 1
  | .hush => 2
  | .vault => 3

/-- STATUS (R518). -/
def Chip.hostStatus (c : Chip) (attn : Bool) (r : HostReply) : Nat :=
  bitsOf 8 (fun i => match i with
    | 7 => attn
    | 6 => c.faultStatus
    | 5 => r.replay
    | 4 => r.busy
    | 1 => c.wear
    | 0 => r.errf
    | _ => false) + 4 * (c.mode.value % 3)

/-- A host reads the next byte of channel `n` (R517); a channel that does not listen drives nothing (R512). -/
def hostRead (n : Nat) (attn : Bool) (c : Chip) : Chip :=
  if !c.hostListens n then c
  else
  let give := fun (c : Chip) (b : Nat) => { c with host := { c.host with byte := b } }
  match (c.hc n).current with
  | .ready r k st =>
    let st := if k = 0 then c.hostStatus attn r else st
    let bs := r.bytes st
    if k < bs.length then
      give (c.modHc n fun h => { h with current := .ready r (k + 1) st }) ((bs.getD k 0).toNat)
    else give c 0xFF
  | _ => give c 0xFF

/-- The next byte is a reply byte and not filler. -/
def Chip.hostReady (c : Chip) (n : Nat) : Bool :=
  match (c.hc n).current with
  | .ready r k _ => decide (k < r.payload.length + 7)
  | _ => false

/-- The parallel port's status (R535): the receive FIFO always has room (log entry 40). -/
def hostPortStatus (attn : Bool) (c : Chip) : Chip :=
  { c with host := { c.host with
      byte := (if attn then 128 else 0) + (if c.faultStatus then 64 else 0) + 2 + (if c.hostReady 0 then 1 else 0) } }

/-! ### Registers -/

/-- Clear the replay caches of a mask of channels (R520). -/
def hostCacheClear (mask : Word) (c : Chip) : Chip :=
  (List.range 3).foldl (fun c n => if mask.getLsbD n then c.modHc n fun h => { h with cache := [] } else c) c

/-- A write of HOST_CFG: a channel that is disabled abandons its frame and keeps its cache (R512, R541). -/
def hostWrite (a : Nat) (v : Word) (c : Chip) : Chip :=
  if a = A.HOST_CTL then hostCacheClear v c else c.writeCoded a v

/-- A byte of a buffer (R533). -/
def Chip.hostBufByte (c : Chip) (n i : Nat) : Byte :=
  BitVec.ofNat 8 (bits (c.rd (A.HOST_RPLBUFc_w n (i / 4))) (8 * (i % 4) + 7) (8 * (i % 4)))

/-- A request's payload is copied into HOST_REQBUFc (R532). The bytes beyond it keep their values. -/
def Chip.hostPutReq (c : Chip) (n : Nat) (bs : List Byte) : Chip :=
  (List.range bs.length).foldl (fun c i =>
    c.setFld (A.HOST_REQBUFc_w n (i / 4)) (8 * (i % 4) + 7) (8 * (i % 4)) (bs.getD i 0).toNat) c

/-- The port takes the next reply record (R533). -/
def hostTakeReply (c : Chip) : Chip :=
  match (List.range 64).find? (fun q => (c.qe q).depth ≠ 0 && (c.qe q).consumer = 0xE2) with
  | none => c
  | some q =>
    match c.popRec q with
    | none => c
    | some (it, c) =>
      let vb := it.r.valueB.toNat
      let n := vb / 256 % 4
      let stray := c.setBit A.HOST_STAT 0
      match (c.hc n).pending with
      | some { op := _, tag := tag, what := .software, since := _ } =>
        if it.r.kind = 0x38 && tag = vb % 256 && it.r.valueA.toNat ≤ 1024 && n < 3 then
          let bs := (List.range it.r.valueA.toNat).map (c.hostBufByte n)
          c.hostAnswer n { tag := tag, code := it.r.key, payload := bs, errf := it.r.valueB.getLsbD 16 }
        else stray
      | _ => stray

/-- The software timeout of channel `n` runs out (R534). -/
def hostSwTimeout (n : Nat) (e : Env) (c : Chip) : Chip :=
  let blocks := c.fld A.HOST_CFG 31 16
  match (c.hc n).pending with
  | some { op := _, tag := tag, what := .software, since := t } =>
    if blocks ≠ 0 && decide (t + blocks * c.met.ticks.cb ≤ e.now) then
      (c.hostAnswer n (hostReply tag 0x88)).setBit (A.HOST_CHc_STAT n) 7
    else c
  | _ => c

/-- When the software timeout of channel `n` runs out. -/
def Chip.hostTimeoutAt (c : Chip) (n : Nat) : Option Nat :=
  let blocks := c.fld A.HOST_CFG 31 16
  match (c.hc n).pending with
  | some { op := _, tag := _, what := .software, since := t } => if blocks = 0 then none else some (t + blocks * c.met.ticks.cb)
  | _ => none

end Sys2Proof.Machine
end

