-- ==== Sys2Proof/Machine/Pins.lean ====
section
/-! DEFINITION. Machine/Pins.lean: the pin functions, filters, interrupts and records (19_pins_and_gpio.md). -/

namespace Sys2Proof.Machine

/-- The alternates that R624 assigns to a pin; 0 is the general-purpose port. -/
def pinAssigned (p func : Nat) : Bool :=
  func == 0
  || (func == 1 && (decide (p < 8) || decide (24 ≤ p ∧ p ≤ 26) || decide (32 ≤ p ∧ p ≤ 49) || decide (64 ≤ p ∧ p ≤ 81)
        || p == 84 || p == 94 || p == 95))
  || (func == 2 && decide (16 ≤ p ∧ p ≤ 23))

def Chip.pinBusy (c : Chip) (p : Nat) : Bool := c.bit (A.PINp_MUX p) 31
def Chip.pinLevel (c : Chip) (p : Nat) : Bool := c.pins.level.getLsbD p
def Chip.setPinLevel (c : Chip) (p : Nat) (b : Bool) : Chip :=
  { c with pins := { c.pins with
      level := if b then c.pins.level ||| BitVec.ofNat 96 (2 ^ p) else c.pins.level &&& ~~~ BitVec.ofNat 96 (2 ^ p) } }

/-- FMODE with 3 used as 0, and COUNT with 0 used as 1 and at most 15 in FMODE 1 (R637). -/
def Chip.pinFmode (c : Chip) (p : Nat) : Nat := c.fld (A.PINp_FILT p) 1 0 % 3
def Chip.pinCount (c : Chip) (p : Nat) : Nat :=
  let n := max 1 (c.fld (A.PINp_FILT p) 11 4)
  if c.pinFmode p = 1 then min 15 n else n

/-- IRQ with 6 and 7 used as 0 (R640). -/
def Chip.pinIrqMode (c : Chip) (p : Nat) : Nat :=
  let m := c.fld (A.PINp_FILT p) 18 16
  if m < 6 then m else 0

/-- The level the general-purpose port drives onto a pin, if it drives (R635, R636, R643); the boundary cells drive it under
EXTEST and CLAMP, and nothing under HIGHZ (R664, log entry 43). -/
def Chip.pinDriven (c : Chip) (p : Nat) : Option Bool :=
  let out := c.bit (A.PIN_OUTx (p / 32)) (p % 32)
  if c.mode = .vault then none
  else match c.jtag.ins with
  | .extest => some (c.jtag.cells.getLsbD p)
  | .clamp => some (c.jtag.cells.getLsbD p)
  | .highz => none
  | _ => if c.pinFunc p = 0 && c.bit (A.PIN_OEx (p / 32)) (p % 32) && !(out && c.bit (A.PINp_MUX p) 9) then some out else none

/-- The mask window of a pin runs from `start`, two counts before its filter does (R631). -/
def Chip.pinMaskFrom (c : Chip) (p start : Nat) : Chip :=
  { c with pins := { c.pins with mask := putS (0, 0) c.pins.mask p (start, if c.pinFmode p = 2 then c.pinCount p else 0) } }

/-- A write of PINp_MUX (R628, R630, R633). -/
def pinMuxWrite (p : Nat) (v : Word) (e : Env) (c : Chip) : Chip :=
  if 96 ≤ p then c
  else if !pinAssigned p (bits v 3 0) then c.setBit A.PIN_STAT 0
  else
    let old := c.pinFunc p
    let c := c.writeCoded (A.PINp_MUX p) v
    if c.pinFunc p = old then c
    else
      (c.pinMaskFrom p e.now).setBit (A.PINp_MUX p) 31

/-- The count at which a pin's mask window ends at the earliest, cycle 5 being two counts after cycle 0 (R631). -/
def Chip.pinMaskDue (c : Chip) (p : Nat) : Nat :=
  (getS (0, 0) c.pins.mask p).1 + 2 + (if c.pinFmode p = 1 then c.pinCount p else 1)

/-- The mask of a pin lifts with `level` as its filtered level (R631). -/
def pinMaskEnd (p : Nat) (level : Bool) (c : Chip) : Chip :=
  if decide (p < 96) && c.pinBusy p && (getS (0, 0) c.pins.mask p).2 == 0 then
    let c := (c.setPinLevel p ((c.pinDriven p).getD level)).clrBit (A.PINp_MUX p) 31
    { c with pins := { c.pins with mask := putS (0, 0) c.pins.mask p (0, 0) } }
  else c

/-- A Vault-clock edge at the mask windows of debounced pins, from cycle 5 on. -/
def pinMaskEdge (e : Env) (c : Chip) : Chip :=
  { c with pins := { c.pins with mask := c.pins.mask.map (fun m => (m.1, (m.2.1, if e.now < m.2.1 + 2 then m.2.2 else m.2.2 - 1))) } }

/-- A write of PIN_SETx or PIN_CLRx (R635). -/
def pinSet (x : Nat) (v : Word) (c : Chip) : Chip := c.wr (A.PIN_OUTx x) (c.rd (A.PIN_OUTx x) ||| v)
def pinClr (x : Nat) (v : Word) (c : Chip) : Chip := c.wr (A.PIN_OUTx x) (c.rd (A.PIN_OUTx x) &&& ~~~ v)

/-- A write of PINp_FILT: the filter restarts from the present synchronised level, which `level` gives where the pin
is not driven by the port and its filtered level may lag; otherwise it is free (log entry 42). In a mask window, the window
starts anew. -/
def pinFiltWrite (p : Nat) (v : Word) (level : Option Bool) (e : Env) (c : Chip) : Chip :=
  if 96 ≤ p then c
  else
    let lag := c.pinFmode p ≠ 0
    let (k, c) := c.draw
    let now := match c.pinDriven p, level with
      | some b, _ => b
      | none, some b => b
      | none, none => if lag then Config.freeBool k else c.pinLevel p
    let c := (c.writeCoded (A.PINp_FILT p) v).setPinLevel p now
    let c := if c.pinBusy p then c.pinMaskFrom p (max (getS (0, 0) c.pins.mask p).1 (e.now - 2)) else c
    if 1 ≤ c.pinIrqMode p && c.pinIrqMode p ≤ 3 then c.clrBit (A.PIN_IRQx (p / 32)) (p % 32) else c

/-- A filter that has seen its new level for `age` counts may accept it (R637, R642). -/
def Chip.pinRunDone (c : Chip) (p age : Nat) : Bool :=
  match c.pinFmode p with
  | 1 => c.slow || decide (c.pinCount p ≤ age + 1)
  | 2 => decide ((c.pinCount p - 1) * (if c.family441 then 1378 else 1500) ≤ age)
  | _ => true

/-- The filter of a pin accepts the other level, whose pad edge lies `age` counts back (R637 to R640, R642). -/
def pinAccept (p age : Nat) (e : Env) (c : Chip) : Chip :=
  let b := !c.pinLevel p
  if 96 ≤ p || c.mode == .vault || c.pinBusy p || c.pinDriven p == some (!b) || !c.pinRunDone p age then c
  else
    let stamp := if c.slow then e.now else e.now - age
    let c := c.setPinLevel p b
    let m := c.pinIrqMode p
    let c := if m = 3 || m = (if b then 1 else 2) then c.setBit (A.PIN_IRQx (p / 32)) (p % 32) else c
    let c := if c.bit (A.PINp_FILT p) 20 then
        c.post e { source := 0x20, kind := 0x20, key := p, flags := 0, time := BitVec.ofNat 48 stamp
                   valueA := if b then 1 else 0, valueB := 0 }
      else c
    let c := if c.slow && c.bit (A.PINp_FILT p) 20 then c.askWake else c
    c.countInsertion e p b

/-- PIN_IRQx bit of a pin as read (R640); a masked pin presents no level (R631). -/
def Chip.pinIrq (c : Chip) (p : Nat) : Bool :=
  match c.pinIrqMode p with
  | 0 => false
  | 4 => c.pinLevel p && !c.pinBusy p
  | 5 => !c.pinLevel p && !c.pinBusy p
  | _ => c.bit (A.PIN_IRQx (p / 32)) (p % 32)

/-- Source 188 + j (R641). -/
def Chip.pinSource (c : Chip) (j : Nat) : Bool := (List.range 3).any (fun x => c.pinIrq (32 * x + j))

/-- PIN_INx as read (R634): the level the port drives, the filtered level where the filter follows the pad, else a
level the environment gives, which is free (log entry 42). -/
def Chip.pinIn (c : Chip) (x : Nat) : Word × Chip :=
  let (k, c) := c.draw
  let free := Config.freeWord k
  (word (bitsOf 32 (fun i =>
    let p := 32 * x + i
    if c.pinBusy p then free.getLsbD i
    else match c.pinDriven p with
      | some b => b
      | none => if c.pinFmode p = 0 then c.pinLevel p else free.getLsbD i)), c)

/-- A read of a pin register. -/
def pinRead (a : Nat) (c : Chip) : Word × Chip :=
  match (List.range 3).find? (fun x => decide (A.PIN_INx x ≤ a ∧ a < A.PIN_INx (x + 1))) with
  | none => c.readCoded a
  | some x =>
    if a = A.PIN_INx x then c.pinIn x
    else if a = A.PIN_LEVELx x then (word (bitsOf 32 (fun i => c.pinLevel (32 * x + i))), c)
    else if a = A.PIN_IRQx x then (word (bitsOf 32 (fun i => c.pinIrq (32 * x + i))), c)
    else if a = A.PIN_BUSYx x then (word (bitsOf 32 (fun i => c.pinBusy (32 * x + i))), c)
    else c.readCoded a

/-- A write of a pin register. -/
def pinWrite (a : Nat) (v : Word) (e : Env) (c : Chip) : Chip :=
  if A.PINp_MUX 0 ≤ a && a < A.PINp_MUX 96 then pinMuxWrite ((a - A.PINp_MUX 0) / 4) v e c
  else if A.PINp_FILT 0 ≤ a && a < A.PINp_FILT 96 then pinFiltWrite ((a - A.PINp_FILT 0) / 4) v none e c
  else
    match (List.range 3).find? (fun x => decide (A.PIN_INx x ≤ a ∧ a < A.PIN_INx (x + 1))) with
    | none => c.writeCoded a v
    | some x =>
      if a = A.PIN_SETx x then pinSet x v c
      else if a = A.PIN_CLRx x then pinClr x v c
      else if a = A.PIN_IRQx x then
        c.wr a (c.rd a &&& ~~~ (v &&& word (bitsOf 32 (fun i => decide (c.pinIrqMode (32 * x + i) ≤ 3)))))
      else c.writeCoded a v

/-! ### The clock outputs (R627, R642) -/

/-- BLOCK_TICK and FRAME_TICK. -/
def Chip.clockOutsHeld (c : Chip) : Bool := c.pwr.sub = .doze || c.pwr.sub = .drowse
def Chip.blockTickOut (e : Env) (c : Chip) : Bool := !c.clockOutsHeld && decide (e.now % c.met.ticks.cb < 64)
def Chip.frameTickOut (e : Env) (c : Chip) : Bool := !c.clockOutsHeld && c.blockInFrame e == 0

end Sys2Proof.Machine
end

