-- ==== Sys2Proof/Machine/Intc.lean ====
section
/-! DEFINITION. Machine/Intc.lean: the interrupt controller (11_clerk_cores_and_interrupts.md, R395 to R406, R678). -/

namespace Sys2Proof.Machine

/-! ### Requests (R395, R396) -/

/-- A private source of a core is requested. -/
def Chip.privRequested (c : Chip) (core n : Nat) : Bool :=
  let k := c.core core
  if n = 0 then (k.crw 0x53).getLsbD 0
  else if n = 1 then (k.crw 0x5D).getLsbD 0
  else if n < 10 then k.swi.getLsbD (n - 2)
  else n == 10 && (k.crw 0x72).getLsbD 0

/-- CHT_INT bits of a mask that are enabled. -/
def Chip.chtIrq (c : Chip) (mask : Word) : Bool := (c.rd A.CHT_INT &&& c.rd A.CHT_INT_EN &&& mask) ≠ 0

/-- A shared source is requested. -/
def Chip.sharedRequested (c : Chip) (n : Nat) : Bool :=
  if n < 48 then c.dmaIrq (n - 32)
  else if n < 112 then c.qIrq (n - 48)
  else if n < 128 then c.timIrq (n - 112)
  else if n = 128 then c.rtcIrq
  else if n = 129 then c.rngIrq
  else if n = 130 then (c.rd A.LDG_EVT &&& c.rd A.LDG_INT_EN) ≠ 0
  else if n = 131 then (c.rd A.FLT_STAT &&& c.rd A.FLT_INT_EN &&& 0x30) ≠ 0
  else if n < 136 then false
  else if n < 140 then c.sapIrq (n - 136)
  else if n = 140 then c.spdifIrq
  else if n < 152 then false
  else if n < 156 then c.midiInIrq (n - 152)
  else if n < 160 then c.midiOutIrq (n - 156)
  else if n = 168 then c.usbIrq
  else if n = 176 then c.keyIrq
  else if n = 177 then c.adcIrq
  else if n < 184 then false
  else if n < 187 then c.scrIrq (n - 184)
  else if n < 188 then false
  else if n < 220 then c.pinSource (n - 188)
  else if n = 220 then c.chtIrq 1
  else if n = 221 then c.chtIrq 0xE
  else if n = 222 then c.chtIrq 0x10
  else n == 223 && (c.rd A.SYS_MODE_EVT &&& c.rd A.SYS_MODE_EVT_EN &&& 0xF) ≠ 0

/-! ### Routing (R397 to R399) -/

/-- The enable bit of a target for a source. -/
def Chip.irqEnabled (c : Chip) (t n : Nat) : Bool := c.bit (A.INTC_ENk t (n / 32)) (n % 32)

/-- The rotation pointer's order from a target. -/
def rotationOrder (p : Nat) : List Nat := [p % 3, (p + 1) % 3, (p + 2) % 3]

/-- The target a shared source is routed to (R398); 3 is none. -/
def Chip.irqTarget (c : Chip) (n : Nat) : Nat :=
  let cfg := c.rd (A.INTC_SRCn_CFG n)
  if cfg.getLsbD 4 then
    ((rotationOrder (bits cfg 17 16)).find? (fun t => cfg.getLsbD (12 + t) && c.irqEnabled t n)).getD 3
  else bits cfg 9 8

/-- A source is presented to a target: 0 Core 0, 1 Core 1, 2 Host (R398). -/
def Chip.presented (c : Chip) (t n : Nat) : Bool :=
  if n < 32 then
    decide (t < 2) && c.privRequested t n && !c.intc.privService.contains (n, t) && c.irqEnabled t n
  else
    decide (n < 224) && c.sharedRequested n && !c.intc.inService.any (fun s => s.1 == n) && c.irqTarget n == t
      && c.irqEnabled t n

/-- PRIO of a source as a target sees it. -/
def Chip.irqPrio (c : Chip) (t n : Nat) : Nat :=
  if n < 32 then getS 0 c.intc.priv (t * 32 + n) else c.fld (A.INTC_SRCn_CFG n) 1 0

/-- A core's level line (R399). -/
def Chip.levelLine (c : Chip) (core l : Nat) : Bool := (List.range 224).any (fun n => c.presented core n && c.irqPrio core n == l)

/-- Some source is presented to a target. -/
def Chip.anyPresented (c : Chip) (t : Nat) : Bool := (List.range 224).any (c.presented t)

/-- STATUS.ATTN (R405). -/
def Chip.attn (c : Chip) : Bool := c.anyPresented 2

/-- The highest asserted level of a core that satisfies `p`. -/
def Chip.highestLevel (c : Chip) (core : Nat) (p : Nat → Bool) : Option Nat :=
  [3, 2, 1, 0].find? (fun l => p l && c.levelLine core l)

/-! ### Claims (R400 to R404) -/

/-- Claims and DONE are accepted from the target itself (R401). -/
def claimant (t : Nat) : Master → Bool
  | .core n => n % 2 == t
  | .host _ => t == 2
  | _ => false

/-- A write of INTC_CLAIM in window `t` (R400). -/
def intcClaim (m : Master) (t : Nat) (v : Word) (c : Chip) : Chip :=
  if !claimant t m then c
  else
    let n := bits v 7 0
    if c.presented t n then
      let c := c.wr (A.INTC_CLAIM t) (word n)
      if n < 32 then
        let c := { c with intc := { c.intc with privService := (n, t) :: c.intc.privService } }
        if 2 ≤ n && n < 10 then c.modCore t fun k => { k with swi := k.swi &&& ~~~ BitVec.ofNat 8 (2 ^ (n - 2)) } else c
      else
        let c := { c with intc := { c.intc with inService := (n, t) :: c.intc.inService } }
        if c.bit (A.INTC_SRCn_CFG n) 4 then c.setFld (A.INTC_SRCn_CFG n) 17 16 ((t + 1) % 3) else c
    else (c.wr (A.INTC_CLAIM t) 255).setBit (A.INTC_TSTAT t) 0

/-- A write of INTC_DONE in window `t` (R402). -/
def intcDone (m : Master) (t : Nat) (v : Word) (c : Chip) : Chip :=
  if !claimant t m then c
  else
    let n := bits v 7 0
    if n < 32 && c.intc.privService.contains (n, t) then
      { c with intc := { c.intc with privService := c.intc.privService.filter (· ≠ (n, t)) } }
    else if c.intc.inService.contains (n, t) then
      { c with intc := { c.intc with inService := c.intc.inService.filter (· ≠ (n, t)) } }
    else c.setBit (A.INTC_TSTAT t) 1

/-- A write of INTC_SWI_SET or INTC_SWI_CLR (R404). -/
def intcSwi (set : Bool) (v : Word) (c : Chip) : Chip :=
  let b := BitVec.ofNat 8 (2 ^ bits v 2 0)
  c.modCore (bits v 8 8) fun k => { k with swi := if set then k.swi ||| b else k.swi &&& ~~~ b }

/-- A core reset at the controller (R406). -/
def intcCoreReset (n : Nat) (c : Chip) : Chip :=
  let c := { c with intc := { c.intc with
    inService := c.intc.inService.filter (fun s => s.2 ≠ n), privService := c.intc.privService.filter (fun s => s.2 ≠ n)
    priv := dropS (fun k => k / 32 == n) c.intc.priv } }
  let c := (List.range 7).foldl (fun c k => c.wr (A.INTC_ENk n k) 0) c
  (c.wr (A.INTC_TSTAT n) 0).modCore n fun k => { k with swi := 0 }

/-! ### Registers -/

/-- The window address of the accessing core (R678); none where the master is no core. -/
def intcAlias (m : Master) (a : Nat) : Option Nat :=
  if 0x600E1300 ≤ a && a < 0x600E1400 then
    match m with
    | .core n => some (a - 0x300 + 0x100 * (n % 2))
    | _ => none
  else some a

/-- The core whose private bank a master sees. -/
def coreNo : Master → Option Nat
  | .core n => some (n % 2)
  | _ => none

/-- Word `k` of a banked bit vector of sources. -/
def sourceWord (m : Master) (k : Nat) (priv : Nat → Nat → Bool) (shared : Nat → Bool) : Word :=
  if k = 0 then
    match coreNo m with
    | some core => word (bitsOf 32 (priv core))
    | none => 0
  else word (bitsOf 32 (fun j => shared (32 * k + j)))

/-- A read of the controller. -/
def intcRead (m : Master) (a : Nat) (c : Chip) : Word × Chip :=
  match intcAlias m a with
  | none => (0, c)
  | some a =>
    if a < A.INTC_RAWk 7 then
      (sourceWord m ((a - A.INTC_RAWk 0) / 4) c.privRequested c.sharedRequested, c)
    else if A.INTC_INSVCk 0 ≤ a && a < A.INTC_INSVCk 7 then
      (sourceWord m ((a - A.INTC_INSVCk 0) / 4) (fun core j => c.intc.privService.contains (j, core))
        (fun n => c.intc.inService.any (fun s => s.1 == n)), c)
    else if A.INTC_SRCn_CFG 0 ≤ a && a < A.INTC_SRCn_CFG 32 then
      (match coreNo m with
        | some core => word (getS 0 c.intc.priv (core * 32 + (a - A.INTC_SRCn_CFG 0) / 4))
        | none => 0, c)
    else if 0x600E1000 ≤ a && a < 0x600E1300 then
      let t := (a - 0x600E1000) / 0x100
      let off := a % 0x100
      if off < 0x1C then
        let k := off / 4
        (if t = 2 && k = 0 then 0 else word (bitsOf 32 (fun j => c.presented t (32 * k + j))), c)
      else if off = 0x48 then
        let lines := if t < 2 then bitsOf 4 (c.levelLine t) else 0
        (word (lines + (if c.anyPresented t then 256 else 0)), c)
      else c.readCoded a
    else c.readCoded a

/-- A write of the controller. -/
def intcWrite (m : Master) (a : Nat) (v : Word) (c : Chip) : Chip :=
  match intcAlias m a with
  | none => c
  | some a =>
    if a = A.INTC_SWI_SET then intcSwi true v c
    else if a = A.INTC_SWI_CLR then intcSwi false v c
    else if A.INTC_SRCn_CFG 0 ≤ a && a < A.INTC_SRCn_CFG 32 then
      match coreNo m with
      | some core =>
        { c with intc := { c.intc with priv := putS 0 c.intc.priv (core * 32 + (a - A.INTC_SRCn_CFG 0) / 4) (bits v 1 0) } }
      | none => c
    else if a = A.INTC_ENk 2 0 then c
    else if 0x600E1000 ≤ a && a < 0x600E1300 then
      let t := (a - 0x600E1000) / 0x100
      if a = A.INTC_CLAIM t then intcClaim m t v c
      else if a = A.INTC_DONE t then intcDone m t v c
      else c.writeCoded a v
    else c.writeCoded a v

end Sys2Proof.Machine
end

