-- ==== Sys2Proof/Machine/Modes.lean ====
section
/-! DEFINITION. Machine/Modes.lean: the major modes, the HUSH sub-states and the entry to VAULT
(17_modes_power_reset.md, R566 to R580). -/

namespace Sys2Proof.Machine

def Chip.pwrDo (c : Chip) (f : Power → Power) : Chip := { c with pwr := f c.pwr }

/-- The mode becomes `m`, as SYS_MODE.MODE shows. -/
def Chip.setMode (c : Chip) (m : Mode) : Chip := { c.setFld A.SYS_MODE 1 0 m.value with mode := m }

/-! ### Requests (R567 to R569) -/

/-- The request is refused (R567). -/
def Chip.modeRefused (c : Chip) : Chip := c.setBit A.SYS_MODE_EVT 3

/-- The mute ramp toward CONFIGURE begins: its first block is the one whose computation begins at the first block tick
after the request. An armed swap is cancelled (R90, R568). -/
def Chip.startRamp (e : Env) (c : Chip) : Chip :=
  if c.pwr.ramp.isSome then c
  else
    let c := c.pwrDo fun p => { p with ramp := some (multAfter c.met.ticks.cb e.now + c.met.ticks.cb) }
    c.cancelArmed 4 1

/-- A request of MODE 0 (R567, R568). -/
def requestConfigure (e : Env) (c : Chip) : Chip :=
  match c.mode with
  | .configure => c
  | .perform => (c.clrBit A.SYS_MODE 31).startRamp e
  | _ => c.modeRefused

/-- A request of MODE 1 (R567). -/
def requestPerform (c : Chip) : Chip := if c.mode = .perform then c.clrBit A.SYS_MODE 31 else c.modeRefused

/-- A request of MODE 2 (R567, R569). -/
def requestHush (c : Chip) : Chip :=
  match c.mode with
  | .perform => c.setBit A.SYS_MODE 31
  | .hush => c
  | _ => c.modeRefused

/-- A request of MODE 3 that is allowed (R567, R578): in PERFORM the mute ramp runs first. -/
def enterVault (e : Env) (c : Chip) : Chip :=
  match c.mode with
  | .configure => c.pwrDo fun p => { p with toVault := true }
  | .perform => (c.startRamp e).pwrDo fun p => { p with toVault := true }
  | _ => c.modeRefused

/-- A request of MODE 3 by SYS_MODE_REQ, with its KEY (R569). -/
def requestVault (key : Nat) (e : Env) (c : Chip) : Chip := if key = 0x5641 then enterVault e c else c

/-- A write of SYS_MODE_REQ (R569). -/
def modeReqWrite (v : Word) (e : Env) (c : Chip) : Chip :=
  match bits v 1 0 with
  | 0 => requestConfigure e c
  | 1 => requestPerform c
  | 2 => requestHush c
  | _ => requestVault (bits v 31 16) e c

/-! ### Sleep (R570 to R577) -/

/-- The vetoes of R574: KEYS, DISPLAY, SDRAM, DMA, DEBUG, NVM, USB, MIDI and HOST in bits 0 to 8. -/
def Chip.vetoes (c : Chip) : Nat :=
  bitsOf 9 (fun i => match i with
    | 0 => c.sleepVeto
    | 1 => c.displayVeto
    | 2 => c.sdrReady && !c.bit A.XMC_SDR_CTL 2
    | 3 => c.dmaVeto
    | 4 => c.core0.run == .halted || c.core1.run == .halted
    | 5 => c.ldr.nvm.isSome || c.pwr.prog.isSome
    | 6 => c.usbConfig != 0 && !c.bit A.USB_STAT 1
    | 7 => !c.bit A.SYS_PWR_CFG 4 && (List.range 4).any (fun n => c.bit (A.MID_INn_CFG n) 31)
    | _ => (List.range 3).any c.hostPending)

/-- SYS_PWR_STAT as read. -/
def Chip.pwrStat (c : Chip) : Word := putFld (c.rd A.SYS_PWR_STAT) 8 0 c.vetoes

/-- Vault-clock periods as counts from the present edge counter (R29). -/
def Chip.periodCounts (c : Chip) (n : Nat) : Nat :=
  if c.family441 then 1378 * n + (c.met.vaultEdges.toNat + n) / 8 else 1500 * n

/-- The counts of the known events (R575). -/
def Chip.knownEvents (e : Env) (c : Chip) : List Nat :=
  ((List.range 16).filterMap (fun n => if c.bit (A.TIMn_CFG n) 8 then c.timDue n else none))
  ++ [c.core0.tmrZero, c.core1.tmrZero].filterMap id
  ++ ((List.range 2).filterMap (fun n => (c.almPeriods n).map (fun p => e.now + c.periodCounts p)))
  ++ ((List.range 4).filterMap (fun i => c.headSendAt i e.now))
  ++ ((List.range 4).filterMap (fun i => (c.mout i).slot.map (·.2)))
  ++ c.dmaEvents e
  ++ (if c.displayDuty then [c.frameStart e.now + c.frameCounts] else [])

/-- The earliest of some counts. -/
def earliest : List Nat → Option Nat
  | [] => none
  | t :: l => match earliest l with
    | none => some t
    | some u => some (min t u)

/-- The minimum horizons of Doze and Drowse (R572). -/
def Chip.dozeMin (c : Chip) : Nat := if c.family441 then 9032 else 9831
def Chip.drowseMin (c : Chip) : Nat := if c.family441 then 225792 else 245760

/-- The wake lead in counts: whole Vault-clock periods (R572). -/
def Chip.wakeLead (c : Chip) (sub : Sub) : Nat :=
  let n := if sub = .drowse then 31 else 3
  if c.family441 then (n * 11025 + 7) / 8 else n * 1500

/-- The sub-state that R573 selects for a horizon; none where there is no known event. -/
def Chip.selectSub (c : Chip) (h : Option Nat) : Sub :=
  let far := fun m => match h with
    | none => true
    | some h => decide (m ≤ h)
  let max := c.fld A.SYS_PWR_CFG 1 0
  if c.vetoes = 0 && max = 3 && far c.drowseMin then .drowse
  else if c.vetoes = 0 && decide (2 ≤ max) && far c.dozeMin then .doze
  else .nap

/-- The number of a sub-state in SYS_MODE.LAST_SUB. -/
def Sub.value : Sub → Nat
  | .none => 0
  | .nap => 1
  | .doze => 2
  | .drowse => 3

/-- A core that waits or is stopped lets the device sleep (R570). -/
def Chip.coreQuiet (c : Chip) (n : Nat) : Bool :=
  let r := (c.core n).run
  (r == .waiting && !c.anyPresented n) || r == .halted || r == .lockup

/-- The conditions of R570 at a block tick. -/
def Chip.mayHush (c : Chip) : Bool :=
  c.mode == .perform && c.bit A.SYS_MODE 31 && c.bit A.FX_SILENCE 0
    && !(List.range 64).any (fun q => (c.qe q).consumer == 8 && !(c.qItems q).isEmpty)
    && (c.ldr.state == .empty || c.ldr.state == .admitted || c.ldr.state == .refused)
    && c.outAlt == 0 && c.inAlt == 0 && c.coreQuiet 0 && c.coreQuiet 1 && c.pwr.ramp.isNone && !c.pwr.toVault

/-- What Drowse loses (R572): wave-cache lines and delay RAM. -/
def Chip.drowseLost (c : Chip) : Chip :=
  let (k, c) := c.draw
  let inDelay := fun (a : Nat) => decide (0x21000000 ≤ a ∧ a < 0x21080000)
  let lost := (c.mem.filter (fun x => inDelay x.1)).map (fun x => (x.1, BitVec.ofNat 8 (Config.freeNat (k + x.1))))
  { c with
    mem := lost.foldl (fun m x => putB m x.1 x.2) c.mem
    caches := { c.caches with w := [] } }

/-- MCLK stops (R29, R572). -/
def Chip.stopClock (e : Env) (c : Chip) (sub : Sub) : Chip :=
  let c := (c.timSyncAll e).slowSeen
  let c := if c.bit A.XMC_SDR_CTL 2 then sdrSleep c else c
  let c := if sub = .drowse then c.drowseLost else c
  let c := ({ c with adc := { c.adc with cycle := [] } } : Chip).rngPause
  { c with met := { c.met with stopped := true } }

/-- HUSH is entered (R570, R571, R573). -/
def enterHush (e : Env) (c : Chip) : Chip :=
  let ev := earliest (c.knownEvents e)
  let h := ev.map (· - e.now)
  let sub := c.selectSub h
  let c := c.wr A.SYS_PWR_HORIZON (word (min 0xFFFFFFFF (h.getD 0xFFFFFFFF)))
  let c := c.inc (match sub with
    | .drowse => A.SYS_DROWSES
    | .doze => A.SYS_DOZES
    | _ => A.SYS_NAPS)
  let c := (c.setFld A.SYS_MODE 9 8 sub.value).setMode .hush
  let deep := sub == .doze || sub == .drowse
  let c := c.pwrDo fun p => { p with
    sub := sub, waking := false, wakeAt := if deep then ev.map (· - c.wakeLead sub) else none }
  if deep then c.stopClock e sub else c

/-- HUSH entry at a block tick (R570). -/
def hushTick (e : Env) (c : Chip) : Chip := if c.mayHush then enterHush e c else c

/-- What one Vault-clock edge adds to the count now. -/
def Chip.slowAdd (c : Chip) : Nat := slowStep c.family441 c.met.vaultEdges

/-- The scheduled wake comes at this Vault-clock edge: the next lies beyond its latest count (R573). -/
def Chip.wakeDue (e : Env) (c : Chip) : Bool := c.pwr.wakeAt.any (fun t => decide (t < e.now + c.slowAdd))

/-- A condition of R576 holds. -/
def Chip.wakeCause (e : Env) (c : Chip) : Bool :=
  c.pwr.waking || c.wakeDue e || c.anyPresented 0 || c.anyPresented 1
    || (List.range 64).any (fun q => (c.qe q).consumer == 8 && !(c.qItems q).isEmpty)

/-- A sub-state ends where a waking event has come (R576). -/
def hushWake (e : Env) (c : Chip) : Chip :=
  if c.pwr.sub != .none && c.wakeCause e then c.pwrDo fun p => { p with waking := true, wakeAt := none } else c

/-- The clocks run again after a wake (R576). -/
def hushResume (e : Env) (c : Chip) : Chip :=
  if c.pwr.sub = .none || !c.pwr.waking then c
  else
    let sub := c.pwr.sub
    let deep := sub = .doze || sub = .drowse
    let c := ((c.setBit A.SYS_MODE_EVT 2).setBit A.SYS_MODE_EVT 1).setMode .perform
    let c := { c with met := { c.met with stopped := false } }
    let c := c.pwrDo fun p => { p with sub := .none, waking := false, wakeAt := none, resumeAt := multAfter c.met.ticks.cb e.now }
    if !deep then c
    else
      let c := (c.ticksFrom e.now).adcWake
      let c := { c with key := { c.key with resume := true } }
      let c := c.portsResume (multAfter c.met.ticks.cb e.now)
      if sub = .drowse then { c with fx := { c.fx with clearAll := true } } else c

/-! ### Into VAULT and out of it (R578 to R580) -/

/-- Steps 2 to 5 of the entry sequence, once the mode is CONFIGURE and no NVM operation runs (R578, R643). -/
def vaultEntry (e : Env) (c : Chip) : Chip :=
  if c.pwr.toVault && c.mode == .configure && c.ldr.nvm.isNone && c.pwr.prog.isNone then
    let c := (c.logEntry e 3 (c.rd A.FLT_FIRST_SRC) (c.rd A.FLT_FIRST_ADDR) 0).snapshot
    let live := c.ldr.liveSrc
    let c := c.wr A.SYS_VAULT_SLOT (word (if c.ldr.live.isSome && (live == 1 || live == 2) then live else 0))
    let atOnce := c.pwr.wakeAtOnce
    let c := if atOnce then c.setBit A.SYS_VAULT_STAT 2 else c
    (c.setMode .vault).pwrDo fun p => { p with toVault := false, pwrEn := atOnce, wakeAtOnce := false }
  else c

/-- An alarm fires while the device enters VAULT or is in it (R555, R579, R594). -/
def alarmWake (c : Chip) : Chip :=
  if c.mode = .vault then (c.setBit A.SYS_VAULT_STAT 2).pwrDo fun p => { p with pwrEn := true }
  else if c.pwr.toVault then c.pwrDo fun p => { p with wakeAtOnce := true }
  else c

/-- A debounced edge on VWAKEn in VAULT (R579). -/
def vwakeEdge (n : Nat) (rising : Bool) (c : Chip) : Chip :=
  if c.mode == .vault && decide (n < 2) && c.bit A.SYS_VAULT_CFG (4 * n) && c.bit A.SYS_VAULT_CFG (4 * n + 1) == rising then
    (c.setBit A.SYS_VAULT_STAT n).pwrDo fun p => { p with pwrEn := true }
  else c

end Sys2Proof.Machine
end

