-- ==== Sys2Proof/Machine/Boot.lean ====
section
/-! DEFINITION. Machine/Boot.lean: resets, the reset sequence, the boot ROM, DFU and SYS_NVM_PROG
(17_modes_power_reset.md, R582 to R593, R670, R671; 20_electrical_and_package.md, R648 to R652). -/

namespace Sys2Proof.Machine

/-! ### The chip reset (R465, R582, R583) -/

/-- A register of the Vault domain: RTC, Ledger and SYS_VAULT (R583). -/
def vaultReg (a : Nat) : Bool :=
  a / 65536 == 0x6010 || a / 65536 == 0x6012 || (decide (0x60000100 ≤ a) && decide (a < 0x60000140))

/-- Memory whose contents are undefined after power-on and after exit from VAULT and that nothing initialises: Carrel RAM
(R382) and the SDRAM (R465, R479). -/
def losesPower (a : Nat) : Bool :=
  (decide (0x08100000 ≤ a) && decide (a < 0x08210000)) || decide (0x80000000 ≤ a)

/-- That memory's contents are undefined (log entry 9). -/
def Chip.powerLost (c : Chip) : Chip :=
  let (k, c) := c.draw
  let lost := (c.mem.filter (fun x => losesPower x.1)).map (fun x => (x.1, BitVec.ofNat 8 (Config.freeNat (k + x.1))))
  { c with mem := lost.foldl (fun m x => putB m x.1 x.2) c.mem }

/-- What a chip reset leaves: every register outside the Vault domain at its reset value (R583); L3 follows KEY_BTOP0
(R595). `wipe`: the core domain
was without power, so memory is initialised before any master is released (R465). -/
def Chip.resetChip (c : Chip) (wipe warm : Bool) : Chip :=
  let c := if wipe then c.powerLost else c
  let cause := c.rd A.SYS_RST_CAUSE
  let fresh : Chip := {
    regs := c.regs.filter (fun r => vaultReg r.1)
    mem := c.mem
    free := c.free
    rtc := c.rtc
    ldg := c.ldg
    pins := { c.pins with mask := [] }
    jtag := if wipe then {} else c.jtag
    met := { vaultEdges := c.met.vaultEdges }
    pwr := { wipe := wipe || (c.pwr.wipe && c.pwr.boot == .inReset), warm := warm } }
  let c := (fresh.wr A.SYS_RST_CAUSE cause).wr (A.LDG_Ln_VALUE 3) 0
  c.putBit A.LDG_STAT 3 (c.inWarning 3)

/-- The power-on causes: POR set and every other bit clear (R582). -/
def Chip.causePor (c : Chip) : Chip := c.wr A.SYS_RST_CAUSE 1

/-- The reset of the Vault domain (R549, R583). -/
def Chip.resetVault (c : Chip) : Chip :=
  let c := c.rtcReset
  { c with regs := c.regs.filter (fun r => !vaultReg r.1), met := { c.met with vaultEdges := 0 } }

/-- Apply a chip reset: the count starts again from 0 (R28). -/
def State.chipReset (s : State) (f : Env → Chip → Chip) : State :=
  { s with chip := f s.env s.chip, clock := { count := 0, epoch := 0 } }

/-- A chip reset with a cause bit, unless VDD_VAULT holds the chip in reset (R649). -/
def chipResetBy (cause : Nat) (wipe warm : Bool) (_ : Env) (c : Chip) : Chip :=
  (c.resetChip wipe warm).setBit A.SYS_RST_CAUSE cause

/-- The chip is held in reset for want of VDD_VAULT. -/
def State.noSupply (s : State) : Bool := s.chip.pwr.boot == .noSupply

/-- A power-on reset (R582, R607, R649). -/
def powerOn (vaultApplied : Bool) (s : State) : State :=
  if s.noSupply && !vaultApplied then s
  else
    let s := s.chipReset (fun _ c => (c.resetChip true false).causePor)
    if vaultApplied then s.on (fun e c => ledgerRestore e c.resetVault) else s

/-- RST_N low for a number of nanoseconds: below 200 it is ignored, from 1,000 it resets, and between it may or may not
(R644, R652). During VAULT the core domain has been without power (R579, R594). -/
def rstN (ns : Nat) (s : State) : State :=
  let (k, c) := s.chip.draw
  let s := { s with chip := c }
  if s.noSupply || ns < 200 || (ns < 1000 && !Config.freeBool k) then s
  else s.chipReset (chipResetBy 1 (s.chip.mode == .vault) false)

/-- VDD_CORE falls below V_BOR (R648, R669); in VAULT it is off. -/
def brownOut (s : State) : State :=
  if s.noSupply || s.chip.mode == .vault then s else s.chipReset (chipResetBy 2 false false)

/-- VDD_VAULT falls below V_VRST (R549, R648, R649). -/
def vaultSupplyLost (s : State) : State :=
  let s := s.chipReset (fun _ c => c.resetChip true false)
  s.on (fun _ c => c.resetVault.pwrDo fun p => { p with boot := .noSupply })

/-- The warm reset that ends VAULT (R580, R608). -/
def vaultPowerUp (s : State) : State :=
  if s.chip.mode == .vault && s.chip.pwr.pwrEn then
    s.chipReset (fun e c => chipResetBy 4 true true e (c.logEntry e 4 0 0 0))
  else s

/-- A write of SYS_RST_REQ (R582): the resets it asks for are due. -/
def rstReqWrite (v : Word) (c : Chip) : Chip :=
  if bits v 31 16 ≠ 0x5EC7 then c
  else
    let c := if v.getLsbD 0 then (c.setBit A.SYS_RST_CAUSE 11).pwrDo fun p => { p with due := { p.due with core0 := true } } else c
    let c := if v.getLsbD 1 then (c.setBit A.SYS_RST_CAUSE 12).pwrDo fun p => { p with due := { p.due with core1 := true } } else c
    if v.getLsbD 2 then c.pwrDo fun p => { p with due := { p.due with chip := some 3 } } else c

/-! ### The reset sequence (R585, R586, R671) -/

/-- The straps are sampled and VIO_C18 takes the detector's value; the pads stand at `pads` (R585, R625, R671). -/
def sampleStraps (boot : BitVec 2) (pads : BitVec 96) (lowB lowC : Bool) (c : Chip) : Chip :=
  let c := { c with pins := { c.pins with level := pads } }
  let as' := (if pads.getLsbD 82 then 1 else 0) + (if pads.getLsbD 83 then 2 else 0)
  let c := c.wr A.SYS_STRAPS (word (boot.toNat + 4 * as'))
  let c := c.wr A.HOST_I2C_ADDR (word (0x38 + as'))
  c.wr A.PIN_IOV (word ((if lowC then 8 + 2 else 0) + (if lowB then 4 else 0)))

/-- The sequencer tries the other source (R586). -/
def trySource (c : Chip) : Chip :=
  if c.pwr.boot == .inReset && !c.bit A.SYS_CLK_STAT 0 then c.putBit A.SYS_CLK_CFG 0 (!c.bit A.SYS_CLK_CFG 0) else c

/-- Both PLLs lock. -/
def Chip.lockPlls (c : Chip) : Chip :=
  let c := (c.setBit A.SYS_CLK_STAT 0).setBit A.SYS_CLK_STAT 1
  if c.bit A.SYS_CLK_CFG 0 then c.setBit A.SYS_CLK_STAT 3 else c

/-! ### The boot ROM (R588 to R592) -/

/-- The host channels of the boot configuration are enabled. -/
def Chip.bootHost (c : Chip) : Chip := c.setFld A.HOST_CFG 2 0 (c.bootField 11 1 7)

/-- The device presents its pull-up as a DFU device (R262). -/
def Chip.bootDfu (c : Chip) : Chip := c.usbDo fun u => { u with pullup := true, dfuAlt := 0, dfuData := [], dfuError := false }

/-- SYS_BOOT_STAT.CODE. -/
def Chip.bootCode (c : Chip) (code : Nat) : Chip := c.setFld A.SYS_BOOT_STAT 7 0 code

/-- Recovery (R592). -/
def Chip.bootRecovery (c : Chip) : Chip :=
  (((c.setBit A.SYS_BOOT_STAT 31).bootHost).bootDfu).pwrDo fun p => { p with boot := .recovery }

/-- A slot is verified as the loader's VERIFY does; whether it was admitted (R581, R588). -/
def bootVerify (slot : Nat) (e : Env) (c : Chip) : Bool × Chip :=
  let c := verifyComplete e (verifyStart slot c)
  (c.ldr.state == .admitted, c)

/-- A slot is verified, and the other if it fails. -/
def bootVerifyTwo (slot : Nat) (e : Env) (c : Chip) : Bool × Chip :=
  match bootVerify slot e c with
  | (true, c) => (true, c)
  | (false, c) => bootVerify (1 - slot) e c

/-- Before a warm boot hands over: the Charter of SYS_VAULT_SLOT, or of DEF_SLOT, is left as the candidate and its slot
stands in SYS_BOOT_STAT.CHARTER; whether one was admitted (R581). -/
def warmVerify (e : Env) (c : Chip) : Bool × Chip :=
  let slot := match c.fld A.SYS_VAULT_SLOT 1 0 with
    | 1 => 0
    | 2 => 1
    | _ => c.bootField 6 1 0 % 2
  let c := c.pwrDo fun p => { p with warm := false }
  match bootVerifyTwo slot e c with
  | (true, c) => (true, c.setFld A.SYS_BOOT_STAT 21 20 c.ldr.candSrc)
  | (false, c) => (false, c)

/-- Registers that the boot ROM leaves with values the manual does not state: g1 and g3 to g31, A0 and A1. -/
def Chip.bootRegs (c : Chip) (entry : Word) : Chip :=
  let (k, c) := c.draw
  c.modCore 0 fun x =>
    let g := (List.range 32).foldl (fun m i => if i = 0 then m else putS 0 m i (if i = 2 then 0x0800F000 else Config.freeWord (k + i))) []
    let acc := fun (i : Nat) => (Config.freeWord (k + 40 + 3 * i) ++ Config.freeWord (k + 41 + 3 * i)
      ++ (Config.freeWord (k + 42 + 3 * i)).setWidth 8 : BitVec 72)
    { x with g := g, a0 := acc 0, a1 := acc 1, pc := entry, psw := 0, depth := 0, run := .running }

/-- The jump to the firmware (R591), after the warm boot's VERIFY (R581). A hand-over from recovery leaves the CODE that
led there. -/
def handOver (entry : Word) (e : Env) (c : Chip) : Chip :=
  let again := c.pwr.boot == .recovery
  let (ok, c) := if c.pwr.warm then warmVerify e c else (true, c)
  if !ok then c.bootRecovery
  else
    let c := if again then c else c.bootCode (if c.bootCfg.isSome then 0 else 7)
    let c := (List.range 2).foldl (fun c n => (c.setBit (A.REGY_COREn_CFG n) 0).setBit (A.REGY_COREn_CFG n) 1) c
    let c := if c.dfuMode then c.usbDetach else c
    let c := (c.setCache 3 []).bootRegs entry
    c.pwrDo fun p => { p with boot := .handedOver }

/-- An address range lies where an image may lie (R590). -/
def imageArea (a n : Nat) : Bool :=
  (decide (0x10000000 ≤ a) && decide (a + n ≤ 0x10200000)) || (decide (0x08000000 ≤ a) && decide (a + n ≤ 0x0800F000))

/-- The checks of R590: the code, 0 where the image is good. -/
def imageCode (f : Fuses) (img : List Byte) : Nat :=
  let w := fun o => leNat ((img.drop o).take 4)
  let load := w 8
  let len := w 12
  let entry := w 16
  let payload := (img.drop 32).take len
  let auth := w 4 % 2 == 1
  if img.take 4 ≠ [0x4C, 0x4B, 0x46, 0x57] then 1
  else if !imageArea load len || !(decide (load ≤ entry) && decide (entry < load + len)) || entry % 2 == 1 then 2
  else if payload.length < len || (crc32 payload).toNat ≠ w 20 then 3
  else if auth && (hmac256 (charterKey f) (img.take (32 + len))).take 16 ≠ (img.drop (32 + len)).take 16 then 4
  else if !auth && otpBit f 2 then 4
  else 0

/-- An address as Core 0 uses it, where its byte is held. -/
def heldAt (a : Nat) : Nat := if 0x08000000 ≤ a && a < 0x08010000 then a - 0x08000000 + 0x08100000 else a

/-- A checked image is placed and runs (R590, R591). -/
def runImage (img : List Byte) (e : Env) (c : Chip) : Chip :=
  let w := fun o => leNat ((img.drop o).take 4)
  handOver (word (w 16)) e (c.setMem (heldAt (w 8)) ((img.drop 32).take (w 12)))

/-- The boot ROM sets device 0 for 8D-8D-8D window reads (R589). -/
def Chip.bootXspi (c : Chip) : Chip :=
  if c.bootField 7 1 0 = 1 then
    let c := xmcConfigWrite (A.XMC_XSPI_DEVn_CFG 0) (word (256 + 9 * 16 + 1)) c
    xmcConfigWrite (A.XMC_XSPI_DEVn_TIM 0) (putFld (putFld (c.rd (A.XMC_XSPI_DEVn_TIM 0)) 19 16 1) 4 0 (c.bootField 10 1 0)) c
  else c

/-- Boot from xSPI flash; `flash`: the device answers (R588 to R590, R592). -/
def bootFlash (flash : Bool) (e : Env) (c : Chip) : Chip :=
  let c := c.bootXspi
  let a := 0x30000000 + c.bootField 12 4 0
  let len := leNat (getBytes c.mem (a + 12) 4)
  let img := getBytes c.mem a (if len ≤ 0x200000 then 32 + len + 16 else 32)
  let code := if !flash then 5 else imageCode e.fuses img
  if code = 0 then runImage img e c else (c.bootCode code).bootRecovery

/-- The boot ROM runs on Core 0 (R588, R670). After a reset of Core 0 alone it does not write SYS_CLK_CFG and leaves the
mode and the live Charter (R584). -/
def bootRom (coreOnly flash : Bool) (e : Env) (c : Chip) : Chip :=
  let source := c.fld A.SYS_STRAPS 1 0
  let c := c.wr A.SYS_BOOT_STAT (word ((if c.pwr.warm then 2 ^ 30 else 0) + 65536 * source))
  let c := c.bootCode (if c.bootCfg.isSome then 0 else 7)
  let clk := c.bootField 5 1 0 % 4
  let c := if coreOnly || c.fld A.SYS_CLK_CFG 1 0 = clk then c else writeClkCfg (word clk) c
  match source with
  | 0 => bootFlash flash e c
  | 1 => c.bootHost.pwrDo fun p => { p with boot := .waitHost }
  | 2 => c.bootDfu.pwrDo fun p => { p with boot := .waitDfu }
  | _ =>
    if coreOnly then c.bootHost.pwrDo fun p => { p with boot := .waitHost }
    else
      match bootVerifyTwo 0 e c with
      | (false, c) => c.bootRecovery
      | (true, c) => ((commitOp e c).bootHost).pwrDo fun p => { p with boot := .waitHost }

/-- MCLK counts in which memory is initialised: 131,072 interconnect cycles (R465). -/
def initCounts : Nat := 52429

/-- The memory initialisation after a reset (R465): SRAM, queue RAM and delay RAM after power-on and VAULT. -/
def finishInit (c : Chip) : Chip := if c.pwr.wipe then memoryInit c else c.setBit A.SYS_BUS_INIT 0

/-- The reset sequence (R585): straps, PLL lock where the source carries a clock, memory, and Core 0 starts the boot ROM. -/
def resetSequence (boot : BitVec 2) (pads : BitVec 96) (lowB lowC edges flash : Bool) (s : State) : State :=
  if s.chip.pwr.boot != .inReset then s
  else
    let s := s.on fun _ c => sampleStraps boot pads lowB lowC c
    if !edges then s
    else
      let s := s.on fun _ c => c.lockPlls
      let s := if s.chip.pwr.wipe && !s.chip.bit A.SYS_BUS_INIT 0 then s.advTo (s.clock.abs + initCounts) else s
      s.on fun e c => bootRom false flash e ((finishInit c).ticksFrom e.now)

/-- The initialisation alone (R465). -/
def initComplete (s : State) : State :=
  if s.chip.pwr.boot == .inReset && !s.chip.bit A.SYS_BUS_INIT 0 && s.chip.bit A.SYS_CLK_STAT 0 then
    (if s.chip.pwr.wipe then s.advTo (s.clock.abs + initCounts) else s).on fun _ c => finishInit c
  else s

/-- The boot ROM waits for RUN: in an NVM-slot boot, once the commit has taken effect (R588). -/
def Chip.runWaits (c : Chip) : Bool :=
  (c.pwr.boot == .waitHost && !(c.fld A.SYS_STRAPS 1 0 == 3 && c.ldr.state == .armed)) || c.pwr.boot == .recovery

/-- A RUN request (R529, R591): the reply's CODE. -/
def hostRunCode (c : Chip) (entry : Nat) : Nat :=
  if !c.runWaits then 0x85
  else if entry % 2 = 1 || !imageArea entry 1 then 0x83
  else 0

/-! ### DFU (R262, R591) -/

/-- The DFU device is configured. -/
def Chip.dfuOn (c : Chip) : Bool := c.dfuMode && c.usbUp && c.usbConfig != 0

/-- One block of a download. -/
def dfuDownload (data : List Byte) (c : Chip) : Chip :=
  if !c.dfuOn then c
  else if 1024 < data.length then c.usbSays .stall
  else (c.usbDo fun u => { u with dfuData := u.dfuData ++ data }).usbSays .ack

/-- An upload is stalled; there is no run-time DFU interface. -/
def dfuUpload (c : Chip) : Chip := if c.usbUp then c.usbSays .stall else c

/-- The downloaded data are put to use. -/
def dfuManifest (e : Env) (c : Chip) : Chip :=
  if !c.dfuOn then c
  else
    let data := c.usb.dfuData
    let c := c.usbDo fun u => { u with dfuData := [], dfuError := false }
    if c.usb.dfuAlt = 0 then
      let code := imageCode e.fuses data
      if code = 0 then runImage data e c
      else (c.bootCode code).usbDo fun u => { u with dfuError := true }
    else
      let slot := c.usb.dfuAlt - 1
      if c.slotRefused slot then (c.result 6 0x61 slot).usbDo fun u => { u with dfuError := true }
      else
        let c := programBytes slot (.ok (data.length, data)) e c
        if c.ldr.nvm.isSome then c else c.usbDo fun u => { u with dfuError := true }

/-! ### SYS_NVM_PROG (R593) -/

/-- SYS_NVM_PROG as read. -/
def Chip.nvmProgWord (c : Chip) : Word := putFld (c.rd A.SYS_NVM_PROG) 31 31 (if c.pwr.prog.isSome then 1 else 0)

/-- A write of SYS_NVM_PROG. -/
def nvmProgWrite (v : Word) (e : Env) (c : Chip) : Chip :=
  if c.mode != .configure || c.pwr.prog.isSome || c.ldr.nvm.isSome then c.setFld A.SYS_NVM_PROG 23 16 0x60
  else
    let data := (List.range 16).map (fun i => c.rd (A.SYS_BOOTCFG_BUFw i))
    match bits v 1 0 with
    | 1 =>
      let c := ({ c with mem := dropS (fun a => decide (0x220D0000 ≤ a ∧ a < 0x220D0040)) c.mem }).countErase e 2
      c.pwrDo fun p => { p with prog := some { op := 1, word := 0, data := data } }
    | 2 => c.pwrDo fun p => { p with prog := some { op := 2, word := bits v 11 4, data := data } }
    | _ => c

/-- The operation finishes, or fails its verify: what was programmed then is open. -/
def nvmProgDone (ok : Bool) (s : State) : State :=
  match s.chip.pwr.prog with
  | none => s
  | some j =>
    let (k, c) := s.chip.draw
    let c := (c.pwrDo fun p => { p with prog := none }).setFld A.SYS_NVM_PROG 23 16 (if ok then 0 else 0x64)
    if j.op = 1 then
      let bytes := j.data.flatMap (fun w => leBytes 4 w.toNat)
      let bytes := if ok then bytes else (List.range 64).map (fun i => BitVec.ofNat 8 (Config.freeNat (k + i)))
      { s with chip := c.setMem 0x220D0000 bytes }
    else
      let old := getS 0 s.fuses.otp j.word
      let new := old ||| (if ok then j.data.getD 0 0 else j.data.getD 0 0 &&& Config.freeWord k)
      { s with chip := c, fuses := { s.fuses with otp := putS 0 s.fuses.otp j.word new } }

end Sys2Proof.Machine
end

