-- ==== Sys2Proof/Machine/Bus.lean ====
section
/-! DEFINITION. Machine/Bus.lean: what a read and a write of every register do, by window, and an access on the
interconnect: its checks, its locks, its arbitration and its completion (00_scope.md, 13_interconnect_and_memory.md). -/

namespace Sys2Proof.Machine

/-! ### Registers by window (R445) -/

/-- SYS registers whose value is not simply stored. -/
def sysRead (a : Nat) (e : Env) (c : Chip) : Word × Chip :=
  if a = A.SYS_FEAT0 then ((if e.fuses.grade = .lk7_128 then 0x04104080 else c.rd a), c)
  else if a = A.SYS_PWR_STAT then (c.pwrStat, c)
  else if a = A.SYS_NVM_PROG then (c.nvmProgWord, c)
  else if 0x60000400 ≤ a && a < 0x60000540 then
    let t := [1, 2, 4, 5, 6].getD ((a - 0x60000400) / 0x40) 1
    let w := (a - 0x60000400) % 0x40 / 4
    (word (leNat ((List.range 4).map (fun j => BitVec.ofNat 8 ((c.wheel t).getD (4 * w + j) 0xFF)))), c)
  else c.readCoded a

/-- The Metronome's registers: MET_COUNT_LO captures, the shadow set answers the others (R48, R49). -/
def metRead (m : Master) (a : Nat) (e : Env) (c : Chip) : Word × Chip :=
  let s := c.shadow m.port
  if a = A.MET_COUNT_LO then readCountLo m.port e c
  else if a = A.MET_COUNT_HI then (word s.hi.toNat, c)
  else if a = A.MET_EPOCH then (s.epoch, c)
  else if a = A.MET_BLOCK then (s.block, c)
  else if a = A.MET_POS then (s.pos, c)
  else if a = A.MET_FRAME then (s.frame, c)
  else if a = A.MET_TICK_CFG then (c.tickCfg, c)
  else if a = A.MET_FRAME_CFG then (c.frameCfg, c)
  else if a = A.MET_STAT then (putFld (c.rd a) 2 2 (if c.slow then 1 else 0), c)
  else c.readCoded a

/-- The queue registers (R110, R111). -/
def queRead (m : Master) (a : Nat) (c : Chip) : Word × Chip :=
  if a = A.QUE_INT_SUM0 then (word (bitsOf 32 c.qIrq), c)
  else if a = A.QUE_INT_SUM1 then (word (bitsOf 32 (fun i => c.qIrq (32 + i))), c)
  else if 0x60031000 ≤ a && a < 0x60033000 then
    let n := (a - 0x60031000) / 0x80
    let p := getS {} c.que.pop m.port
    match (a - 0x60031000) % 0x80 with
    | 0x00 => (qCfgWord (c.qe n), c)
    | 0x04 => (qGeomWord (c.qe n), c)
    | 0x08 => (qWmWord (c.qe n), c)
    | 0x0C => (word (c.qFill n), c)
    | 0x10 => peakRead n c
    | 0x60 => popRead m n c
    | 0x64 => (p.w1, c)
    | 0x68 => (p.w2, c)
    | 0x6C => (p.w3, c)
    | 0x70 => (peekRead n c, c)
    | _ => c.readCoded a
  else c.readCoded a

/-- Voices that the grade does not have (R2). -/
def absentVoice (f : Fuses) (a : Nat) : Bool := f.grade == .lk7_128 && decide (0x70002000 ≤ a ∧ a < 0x70004000)

/-- A read of voice parameter space (R123, R173). -/
def voiceRead (a : Nat) (e : Env) (c : Chip) : Word × Chip :=
  if absentVoice e.fuses a then (0, c)
  else if a < 0x70004000 then
    let v := (a - 0x70000000) / 0x40
    if a = A.Vn_STATUS v then (c.voiceStatus v, c)
    else if a = A.Vn_POS v then (c.voicePos v, c)
    else c.readCoded a
  else if a < 0x70004100 && a % 16 = 12 then ((if (c.chime ((a - 0x70004000) / 16)).on then 1 else 0), c)
  else c.readCoded a

/-- TIM, RTC, RNG and LDG registers whose value is not simply stored. -/
def timRead (a : Nat) (e : Env) (c : Chip) : Word × Chip :=
  if a = A.TIM_EXP_SUM then ((c.timSyncAll e).timExpSum, c.timSyncAll e)
  else if a = A.TIM_RUN_SUM then ((c.timSyncAll e).timRunSum, c.timSyncAll e)
  else if A.TIMn_CFG 0 ≤ a && a < A.TIMn_CFG 16 then
    let n := (a - A.TIMn_CFG 0) / 0x20
    if a = A.TIMn_COUNT n then (c.timCount e n, c)
    else if a = A.TIMn_STAT n then ((c.timSync e n).timStat n, c.timSync e n)
    else c.readCoded a
  else c.readCoded a

/-- What a read of a register by master `m` returns, and what it changes (R13, R14, R16). -/
def regRead (m : Master) (a : Nat) (e : Env) (c : Chip) : Word × Chip :=
  match a / 65536 with
  | 0x6000 => sysRead a e c
  | 0x6001 => metRead m a e c
  | 0x6002 => if a = A.CHT_STATE then (c.chtState, c) else c.readCoded a
  | 0x6003 => queRead m a c
  | 0x6004 => if A.STK_ACTIVEm 0 ≤ a && a < A.STK_ACTIVEm 8 then (c.activeWord ((a - A.STK_ACTIVEm 0) / 4), c) else c.readCoded a
  | 0x6006 => if a = A.SPDIF_STAT then (c.spdifStat, c) else c.readCoded a
  | 0x6007 => if a = A.KEY_STAT then (c.keyStat, c) else c.readCoded a
  | 0x6009 =>
    if A.MID_OUTn_CFG 0 ≤ a && a < A.MID_OUTn_CFG 4 && a % 0x20 = 4 then (c.moutStat ((a - A.MID_OUTn_CFG 0) / 0x20) e.now, c)
    else c.readCoded a
  | 0x600A => if a = A.USB_RING then (c.usbRing, c) else c.readCoded a
  | 0x600B => if a = A.DISP_BEAM then (c.beamWord e.now, c) else c.readCoded a
  | 0x600D =>
    if a = A.DMA_ACTIVE then (c.dmaActive, c) else if a = A.DMA_INT_SUM then (c.dmaIntSum, c) else c.readCoded a
  | 0x600E => intcRead m a c
  | 0x600F => timRead a e c
  | 0x6010 => if a ≤ A.RTC_CAL_STATUS && a % 4 = 0 then rtcWindowRead a c else if a = A.RTC_STAT then (c.rtcStat, c) else c.readCoded a
  | 0x6011 =>
    if a = A.RNG_OUT then rngRead c
    else if a = A.RNG_LEVEL then (c.rngLevel, c)
    else c.readCoded a
  | 0x6012 => if a = A.LDG_STAT then (c.ldgStat, c) else c.readCoded a
  | 0x6014 => pinRead a c
  | 0x6018 => if a < 0x60182000 then dbgRead e ((a - 0x60180000) / 0x1000) (a % 0x1000) c else (0, c)
  | 0x7000 => voiceRead a e c
  | _ => c.readCoded a

/-- A write of CHT_CMD (R74). -/
def chtCmd (v : Word) (e : Env) (c : Chip) : Chip :=
  match bits v 3 0 with
  | 0 => c
  | 1 => verifyStart (bits v 5 4) c
  | 2 => commitOp e c
  | 3 => planSwap e c
  | 4 => armSwap e c
  | 5 => cancelOp c
  | 6 => programSlot (bits v 9 8) e c
  | 7 => eraseOp (bits v 9 8) e c
  | op => c.refuseOp op

/-- Core 1 starts at SYS_C1_ENTRY (R587). -/
def startCore1 (e : Env) (c : Chip) : Chip :=
  if c.core1.run = .held && !c.bit A.FLT_STAT 3 then
    c.modCore 1 fun k => { k with run := .running, pc := c.rd A.SYS_C1_ENTRY, cycFrom := e.now }
  else c

/-- A write of SYS_CORE_CTL: C1_RUN releases Core 1 (R587). -/
def coreCtlWrite (v : Word) (e : Env) (c : Chip) : Chip :=
  let was := c.bit A.SYS_CORE_CTL 1
  let c := c.writeCoded A.SYS_CORE_CTL v
  if !was && v.getLsbD 1 then startCore1 e c else c

/-- SYS registers with an effect of their own. -/
def sysWrite (a : Nat) (v : Word) (e : Env) (c : Chip) : Chip :=
  if a = A.SYS_PROFILE_LOCK then c
  else if a = A.SYS_CLK_CFG then writeClkCfg v c
  else if a = A.SYS_MODE_REQ then modeReqWrite v e c
  else if a = A.SYS_RST_REQ then rstReqWrite v c
  else if a = A.SYS_CORE_CTL then coreCtlWrite v e c
  else if a = A.SYS_NVM_PROG then nvmProgWrite v e c
  else if 0x60000100 ≤ a && a < 0x60000140 then rtcWrite a v c
  else c.writeCoded a v

/-- A write of a queue register (R110). -/
def queWrite (m : Master) (a : Nat) (v : Word) (e : Env) (c : Chip) : Chip :=
  if 0x60031000 ≤ a && a < 0x60033000 then
    let n := (a - 0x60031000) / 0x80
    match (a - 0x60031000) % 0x80 with
    | 0x40 => pushStage m 1 v c
    | 0x44 => pushStage m 2 v c
    | 0x48 => pushStage m 3 v c
    | 0x4C => pushCommit m n false v e c
    | 0x50 => pushCommit m n true v e c
    | _ => c.writeCoded a v
  else c.writeCoded a v

/-- The restart of both cores after CORES_HELD (R616). -/
def releaseCores (m : Master) (dbg : Bool) (c : Chip) : Chip :=
  let may := dbg || (match m with
    | .host _ => true
    | _ => false)
  if may && c.bit A.FLT_STAT 3 then
    (c.clrBit A.FLT_STAT 3).pwrDo fun p => { p with due := { p.due with core0 := true, core1 := true } }
  else c

/-- A write of FLT_CTL (R615, R616). -/
def fltCtl (m : Master) (dbg : Bool) (v : Word) (c : Chip) : Chip :=
  let c := if v.getLsbD 0 then faultUnmute c else c
  if v.getLsbD 1 then releaseCores m dbg c else c

/-- Fault unit registers with an effect of their own. -/
def fltWrite (m : Master) (a : Nat) (v : Word) (e : Env) (c : Chip) : Chip :=
  if a = A.FLT_ACK then faultAck v c
  else if a = A.FLT_CTL then fltCtl m false v c
  else if a = A.FLT_INJECT then faultInject v e c
  else c.writeCoded a v

/-- A write of the DBG window; DBG_CTL.RESUME leaves debug halt (R411, R412). -/
def dbgWindow (a : Nat) (v : Word) (e : Env) (c : Chip) : Chip :=
  if a < 0x60182000 then
    let n := (a - 0x60180000) / 0x1000
    let c := dbgWrite e n (a % 0x1000) v c
    if a % 0x1000 = 0x980 && v.getLsbD 5 then resumeCore e n (c.timSyncAll e) else c
  else c

/-- A write of an external memory register. -/
def xmcWrite (a : Nat) (v : Word) (c : Chip) : Chip :=
  if a = A.XMC_SDR_CTL then sdrCtlWrite v c
  else if a = A.XMC_XSPI_SEQ then xspiSequence v c
  else xmcConfigWrite a v c

/-- A write of a cache or Registry register (R439 to R441). -/
def regyWrite (a : Nat) (v : Word) (e : Env) (c : Chip) : Chip :=
  if a = A.REGY_COREn_CFG 0 then regyConfigWrite 0 v e c
  else if a = A.REGY_COREn_CFG 1 then regyConfigWrite 1 v e c
  else if a = A.REGY_COREn_OP 0 then regyOpWrite 0 (bits v 2 0) c
  else if a = A.REGY_COREn_OP 1 then regyOpWrite 1 (bits v 2 0) c
  else if a = A.WCC_OP then wccOpWrite (bits v 1 0) c
  else if a = A.WCC_RANGE_ADDR || a = A.WCC_RANGE_LEN then wccRangeWrite a v c
  else c.writeCoded a v

/-- A write of voice parameter space: coupled members stage, the others apply at a block tick (R85, R125). -/
def voiceSpaceWrite (a : Nat) (v : Word) (e : Env) (c : Chip) : Chip :=
  if absentVoice e.fuses a || (regFind a).isNone then c
  else if (groupOf a).isSome then groupWrite a v e c
  else voiceWrite a v e c

/-- The writes of windows 0x6000 to 0x600B. -/
def lowWrite (m : Master) (a : Nat) (v : Word) (e : Env) (c : Chip) : Chip :=
  match a / 65536 with
  | 0x6000 => sysWrite a v e c
  | 0x6002 =>
    if a = A.CHT_CMD then chtCmd v e c
    else if a = A.CHT_SWAP_BLOCK then swapParamWrite false v c
    else if a = A.CHT_XFADE then swapParamWrite true v c
    else c.writeCoded a v
  | 0x6003 => queWrite m a v e c
  | 0x6004 => if a = A.STK_VCMD then vcmdWrite (bits v 1 0) (bits v 15 8) (masterSource m) c else c.writeCoded a v
  | 0x6005 => if (groupOf a).isSome then groupWrite a v e c else c.writeCoded a v
  | 0x6007 =>
    if a = A.KEY_CFG || a = A.KEY_MAP then keyCfgWrite a v c else if a = A.KEY_SCAN then keyScanWrite v c
    else if 0x60070400 ≤ a && a < 0x60070600 then keyAvgWrite a v c else c.writeCoded a v
  | 0x6008 =>
    if A.ADCn_CFG 0 ≤ a && a < A.ADCn_CFG 16 && a % 0x20 = 0 then adcCfgWrite ((a - A.ADCn_CFG 0) / 0x20) v c
    else c.writeCoded a v
  | 0x6009 => if (groupOf a).isSome then groupWrite a v e c else midWrite a v e c
  | 0x600A => usbCfgWrite a v c
  | 0x600B => dispWrite a v e c
  | _ => c.writeCoded a v

/-- What a write of a register by master `m` does (R13, R14, R16). -/
def regWrite (m : Master) (a : Nat) (v : Word) (e : Env) (c : Chip) : Chip :=
  match a / 65536 with
  | 0x600C => scrWrite a v e c
  | 0x600D => dmaWrite a v e c
  | 0x600E => intcWrite m a v c
  | 0x600F => if (groupOf a).isSome then groupWrite a v e c else timWrite a v e c
  | 0x6010 => rtcWrite a v c
  | 0x6011 => if a = A.RNG_CTL then rngCtlWrite v c else c.writeCoded a v
  | 0x6012 => rtcWrite a v c
  | 0x6013 => fltWrite m a v e c
  | 0x6014 => pinWrite a v e c
  | 0x6015 => hostWrite a v c
  | 0x6016 => xmcWrite a v c
  | 0x6017 => regyWrite a v e c
  | 0x6018 => dbgWindow a v e c
  | 0x7000 => voiceSpaceWrite a v e c
  | _ => lowWrite m a v e c

/-! ### An access at its target -/

/-- The master's reads and writes are coherent (R434 to R436). -/
def Chip.isCoherent (c : Chip) : Master → Bool
  | .core _ => true
  | .dma ch => c.chCoh ch
  | .wave => true
  | .host _ => true
  | _ => false

/-- Where the bytes of an address are held: a core's local alias is its Carrel RAM (R379, R380). -/
def heldBy (m : Master) (a : Nat) : Nat :=
  match m with
  | .core n => if regionOf a = .local then carrelBase (n % 2) + (a - 0x08000000) else a
  | _ => a

/-- What an ECC event does to an access: whether the access ends with CAUSE 6 (R382, R464). A write of whole protected
words reads nothing. -/
def eccCheck (r : BusAccess) (a : Nat) (e : Env) (c : Chip) : Bool × Chip :=
  let region := regionOf a
  let t := (region.target).getD 8
  let unit := if t = 1 || t = 2 then 8 else 4
  let whole := r.write && a % unit == 0 && r.size % unit == 0
  let carrel := match region with
    | .carrel n => some n
    | _ => none
  match r.ecc with
  | .clean => (false, c)
  | .single =>
    if whole then (false, c)
    else match carrel with
      | some n => (false, c.report e 0x03 clsCorrected n a)
      | none => (false, if hasEcc t then c.eccCorrected e t a else c)
  | .double =>
    if whole then (false, c)
    else match carrel with
      | some n => (true, c.report e 0x04 clsRecoverable n a)
      | none => if hasEcc t then (true, c.eccLost e r.m a) else (false, c)

/-- An access that breaks no rule completes: the bytes read. -/
def perform (r : BusAccess) (e : Env) (c : Chip) : List Byte × Chip :=
  let a := heldBy r.m r.addr
  let region := regionOf a
  let reg := region == .periph || region == .voice
  if r.write then
    ([], if reg then regWrite r.m a (word (leNat r.data)) e c
      else if c.isCoherent r.m && region.cacheable then coherentWrite a r.data e c
      else c.setMemBytes a r.data)
  else if reg then
    let (v, c) := regRead r.m a e c
    (leBytes 4 v.toNat, c)
  else if r.fetch && region.icacheable && isCoreMaster r.m then
    match coreNo r.m with
    | some n =>
      if c.icOn n then
        let (l, c) := c.fetchLine e n (a / 32)
        ((l.drop (a % 32)).take r.size, c)
      else (c.fetchBytes e a r.size, c)
    | none => (c.fetchBytes e a r.size, c)
  else if c.isCoherent r.m && region.cacheable then coherentRead r.m a r.size e c
  else (c.fetchBytes e a r.size, c)

/-- The beats of an access (R451). -/
def accBeats (r : BusAccess) : Nat := (r.addr % 8 + r.size + 7) / 8

/-- A locked beat at a lockable target: none if a breach of R461 ends the sequence. -/
def lockBeat (r : BusAccess) (t : Nat) (e : Env) (c : Chip) : Option Chip × Chip :=
  if !r.locked then (some c, c)
  else if c.bus.lostLock.contains r.m then
    (none, { c with bus := { c.bus with lostLock := c.bus.lostLock.filter (· ≠ r.m) } })
  else
    let (had, since) := match c.bus.lock with
      | some l => if l.m = r.m && l.target = t then (l.beats, l.since) else (0, e.now)
      | none => (0, e.now)
    if 8 < had + accBeats r then (none, { c with bus := { c.bus with lock := none } })
    else
      let l : Option Lock := if r.last then none else some { m := r.m, target := t, beats := had + accBeats r, since := since }
      let c := { c with bus := { c.bus with lock := l } }
      (some c, c)

/-- One access, granted: its bytes, or the CAUSE of its bus error (R448, R450, R461, R464, R672). A core's access to its own
Carrel RAM takes no lock, and an error there is the core's alone (R367, R379, R382). -/
def access (r : BusAccess) (e : Env) (c : Chip) : Except Nat (List Byte) × Chip :=
  match c.busCause r.m r.write r.locked r.addr r.size with
  | some (cause, t) => (.error cause, c.busError r.m t cause r.addr r.write)
  | none =>
    let t := ((regionOf r.addr).target).getD 8
    let inside := regionOf r.addr = .local
    match lockBeat { r with locked := r.locked && !inside } t e c with
    | (none, c) => (.error 5, c.busError r.m t 5 r.addr r.write)
    | (some c, _) =>
      match eccCheck r (heldBy r.m r.addr) e c with
      | (true, c) => (.error 6, if inside then c else c.busError r.m t 6 r.addr r.write)
      | (false, c) =>
        let (bs, c) := perform r e c
        (.ok bs, c)

/-- A read of `size` bytes by a master, with no error in the memory and no lock. -/
def busRead (m : Master) (a size : Nat) (e : Env) (c : Chip) : Except Nat (List Byte) × Chip :=
  access { m := m, write := false, fetch := false, addr := a, size := size, data := [], locked := false, last := true, ecc := .clean } e c

/-- A write of bytes by a master. -/
def busWrite (m : Master) (a : Nat) (bs : List Byte) (e : Env) (c : Chip) : Except Nat (List Byte) × Chip :=
  access { m := m, write := true, fetch := false, addr := a, size := bs.length, data := bs, locked := false, last := true, ecc := .clean } e c

/-- The data last returned to a master. -/
def Chip.answered (c : Chip) (m : Master) (v : Word) : Chip := { c with readback := putS 0 c.readback m.port v }

/-- A bus error reaches the core that made the access (R372): FETCH_BUS, DATA_BUS, or a store's, to be reported. -/
def Chip.coreError (r : BusAccess) (c : Chip) : Chip :=
  match r.m with
  | .core n => c.modCore (n % 2) fun k =>
      if r.write then { k with storeErr := k.storeErr ++ [word r.addr] }
      else { k with fault := some (if r.fetch then 3 else 4, word r.addr) }
  | _ => c

/-- An access completes for its master. -/
def complete (r : BusAccess) (e : Env) (c : Chip) : Chip :=
  match access r e c with
  | (.ok bs, c) => if r.write then c else c.answered r.m (word (leNat (bs.take 4)))
  | (.error _, c) => c.coreError r

/-! ### The accesses that wait at a target (R452 to R455, R460) -/

/-- The target of an access. -/
def accTarget (r : BusAccess) : Nat := ((regionOf r.addr).target).getD 15

/-- The level of a DMA channel at its port (R482): 4 for a stream channel, else PRIO. -/
def Chip.chLevel (c : Chip) (n : Nat) : Nat := if c.bit (A.CHn_STREAM n) 31 then 4 else c.fld (A.CHn_CFG n) 21 20

/-- The channel of an access by the DMA engine. -/
def chanOf : Master → Option Nat
  | .dma ch => some (ch % 16)
  | _ => none

/-- Among the channels of a DMA port that have an access waiting, the one that the port issues (R482). -/
def dmaPick (ws : List (BusAccess × Nat)) (c : Chip) : Option Nat :=
  let chs := ws.filterMap (fun w => chanOf w.1.m)
  match (chs.map c.chLevel).max? with
  | none => none
  | some l => roundRobin (getS 16 c.dma.last (chs.headD 0 / 8 * 8 + l)) (chs.filter (fun n => c.chLevel n == l))

/-- A port has issued a channel's access. -/
def Chip.dmaIssued (c : Chip) (n : Nat) : Chip :=
  { c with dma := { c.dma with last := putS 16 c.dma.last (n / 8 * 8 + c.chLevel n) n } }

/-- The access that a granted master makes: at a DMA port, the chosen channel's. -/
def pickAccess (p : Nat) (ws : List (BusAccess × Nat)) (c : Chip) : Option (BusAccess × Nat) × Chip :=
  let mine := ws.filter (fun w => w.1.m.port == p)
  match dmaPick mine c with
  | none => (mine.head?, c)
  | some n => (mine.find? (fun w => chanOf w.1.m == some n), c.dmaIssued n)

/-- Serve the accesses that wait for a target, one a cycle, as far as a lock lets them: `i` cycles from now. -/
def serveTarget (t : Nat) (e : Env) : Nat → Nat → Chip → Chip
  | 0, _, c => c
  | fuel + 1, i, c =>
    let here := c.bus.waiting.filter (fun w => accTarget w.1 == t)
    match c.arbitrate e t i (here.map (fun w => (w.1.m.port, icCycle e.now - icCycle w.2))) with
    | none => c
    | some (p, step) =>
      match pickAccess p here c with
      | (none, c) => c
      | (some w, c) =>
        let parked := i == 0 && getS 16 c.bus.parked t == p
        let wait := icCycle e.now - icCycle w.2 + i + (if parked then 0 else 1)
        let c := { c with bus := { c.bus with waiting := c.bus.waiting.erase w } }
        let c := (c.granted e t p step).peak (A.SYS_BUS_WAITt t) (min 65535 wait)
        serveTarget t e fuel (i + 1) (complete w.1 e c)

/-- Every target serves what waits for it. -/
def serveAll (e : Env) (c : Chip) : Chip :=
  (List.range 9).foldl (fun c t => serveTarget t e c.bus.waiting.length 0 c) c

/-- An access reaches the interconnect: refused at once, or waiting for its target's grant. -/
def arrive (r : BusAccess) (e : Env) (c : Chip) : Chip :=
  if (c.busCause r.m r.write r.locked r.addr r.size).isSome || accTarget r = 15 then complete r e c
  else { c with bus := { c.bus with waiting := c.bus.waiting ++ [(r, e.now)] } }

/-- BUS_ACCESS: accesses that reach the interconnect in one cycle. -/
def busAccess (r : BusAccess) (rivals : List BusAccess) (e : Env) (c : Chip) : Chip :=
  serveAll e ((r :: rivals).foldl (fun c q => arrive q e c) c)

/-- Sixteen interconnect cycles of the lock's limit, as counts (R461). -/
def lockCounts : Nat := 7

/-- LOCK_TIMEOUT: the lock is released, and the next locked beat of its master fails (R461). -/
def lockTimeout (e : Env) (c : Chip) : Chip :=
  match c.bus.lock with
  | none => c
  | some l => serveAll e { c with bus := { c.bus with lock := none, lostLock := c.bus.lostLock ++ [l.m] } }

end Sys2Proof.Machine
end

