-- ==== Sys2Proof/Machine/DmaRun.lean ====
section
/-! DEFINITION. Machine/DmaRun.lean: what the DMA engine's channels do on the interconnect: copies, program
instructions, bus errors and aborts (14_dma.md). -/

namespace Sys2Proof.Machine

/-! ### Accesses and their errors (R502, R507) -/

/-- The back-off before retry `r`, in counts (R507): 16 × 2^r interconnect cycles. -/
def backoffCounts (r : Nat) : Nat := cyclesToCounts (16 * 2 ^ r)

/-- The target of an address, 15 where there is none. -/
def targetOf (a : Nat) : Nat := ((regionOf a).target).getD 15

/-- An access of channel `n` ended with a bus error (R507). No target is not an idempotent one. -/
def Chip.chError (e : Env) (c : Chip) (n a cause : Nat) : Chip :=
  let t := targetOf a
  let x := c.ch n
  if t < 8 && x.tries < c.fld (A.CHn_CFG n) 26 24 then
    (c.setCh n { x with tries := x.tries + 1, backoff := e.now + backoffCounts x.tries }).setChState n 3
  else c.chHalt e n 2 cause a

/-- The access succeeded; a reissued one sets RETRIED (R507). -/
def Chip.chGood (c : Chip) (n : Nat) : Chip :=
  if (c.ch n).tries = 0 then c else (c.modCh n fun x => { x with tries := 0 }).setBit (A.CHn_STAT n) 12

/-- Read bytes for channel `n`: none where the channel stopped. -/
def Chip.chRead (e : Env) (c : Chip) (n a size : Nat) (fetch : Bool) : Option (List Byte) × Chip :=
  if c.overBudget n (targetOf a) then (none, c.setChState n 4)
  else
    match access { m := .dma n, write := false, fetch := fetch, addr := a, size := size, data := [], locked := false, last := true, ecc := .clean } e c with
    | (.error cause, c) => (none, c.chError e n a cause)
    | (.ok bs, c) => (some bs, (c.chGood n).chCount n (targetOf a) size)

/-- Write bytes for channel `n`; whether the channel goes on. -/
def Chip.chWrite (e : Env) (c : Chip) (n a : Nat) (bs : List Byte) : Bool × Chip :=
  if c.overBudget n (targetOf a) then (false, c.setChState n 4)
  else
    match busWrite (.dma n) a bs e c with
    | (.error cause, c) => (false, c.chError e n a cause)
    | (.ok _, c) => (true, (c.chGood n).chCount n (targetOf a) bs.length)

/-! ### Copies (R483 to R485, R492, R493) -/

/-- The address of byte `i` of a row that starts at `a` (R483). -/
def modeAddr (mode a i : Nat) : Nat :=
  match mode with
  | 1 => a + i % 4
  | 2 => a / 16 * 16 + (a + i) % 16
  | _ => (a + i) % 2 ^ 32

/-- Source and destination of the present row. -/
def Xfer.rowSrc (x : Xfer) : Nat := (((x.src : Int) + x.row * x.sstride) % 2 ^ 32).toNat
def Xfer.rowDst (x : Xfer) : Nat := (((x.dst : Int) + x.row * x.dstride) % 2 ^ 32).toNat

/-- Bytes of a burst from address `a` in mode `mode`, `left` bytes being left (R451, R483, R484): to the 64-byte
boundary in INC mode, one word at target 8 and in the other modes. -/
def burstLen (mode a left : Nat) : Nat :=
  if mode ≠ 0 || targetOf a = 8 then min 4 left else min left (64 - a % 64)

/-- Bytes read and not written, with those written, of the present row. -/
def Xfer.readPos (x : Xfer) : Nat := x.pos + x.buf.length

/-- The registers of a running register-mode copy show its next addresses; every copy shows its bytes to go (R487, R492). -/
def Chip.chShow (c : Chip) (n : Nat) : Chip :=
  match (c.ch n).x with
  | none => c
  | some x =>
    let c := c.wr (A.CHn_COUNT n) (word (x.residue % 2 ^ 20))
    if c.chProgram n then c
    else (c.wr (A.CHn_SRC n) (word (modeAddr x.smode x.src x.readPos))).wr (A.CHn_DST n) (word (modeAddr x.dmode x.dst x.pos))

/-- A copy has written its last byte: the address registers, and the end of the instruction or of the channel. -/
def Chip.chCopied (e : Env) (c : Chip) (n : Nat) (x : Xfer) (size : Nat) : Chip :=
  let total := x.rows * x.width
  let after := fun (mode a : Nat) (stride : Int) =>
    if x.two then (((a : Int) + (if total = 0 then 0 else x.rows * stride)) % 2 ^ 32).toNat
    else if mode = 0 then (a + x.width) % 2 ^ 32
    else a
  if c.chProgram n then
    let c := (c.wr (A.CHn_SRC n) (word (after x.smode x.src x.sstride))).wr (A.CHn_DST n) (word (after x.dmode x.dst x.dstride))
    let c := c.wr (A.CHn_COUNT n) 0
    (c.modCh n fun k => { k with x := none, pre := none }).wr (A.CHn_PC n) (word (c.chPc n + size))
  else
    let c := (c.wr (A.CHn_SRC n) (word (modeAddr x.smode x.src x.width))).wr (A.CHn_DST n) (word (modeAddr x.dmode x.dst x.width))
    (c.wr (A.CHn_COUNT n) 0).chDone e n

/-- One burst of a copy: a read, or the next part of the buffer's write-out. Answers whether the channel goes on. -/
def Chip.chBurst (e : Env) (c : Chip) (n : Nat) (x : Xfer) : Bool × Chip :=
  if x.buf.isEmpty then
    let a := modeAddr x.smode x.rowSrc x.pos
    match c.chRead e n a (burstLen x.smode a (x.width - x.pos)) false with
    | (none, c) => (false, c)
    | (some bs, c) => (true, (c.modCh n fun k => { k with x := some { x with buf := bs } }).chShow n)
  else
    let a := modeAddr x.dmode x.rowDst x.pos
    let k := burstLen x.dmode a x.buf.length
    match c.chWrite e n a (x.buf.take k) with
    | (false, c) => (false, c)
    | (true, c) =>
      let pos := x.pos + k
      let rest := x.buf.drop k
      let x := if pos = x.width && rest.isEmpty then { x with row := x.row + 1, pos := 0, buf := [] } else { x with pos := pos, buf := rest }
      (true, (c.modCh n fun q => if q.x.isSome then { q with x := some x } else q).chShow n)

/-- Run a copy until it ends or the channel stops. `size` is the length of its instruction. -/
def chCopy (n size : Nat) (e : Env) : Nat → Chip → Chip
  | 0, c => c
  | fuel + 1, c =>
    match (c.ch n).x with
    | none => c
    | some x =>
      if c.chState n ≠ 1 then c
      else if x.residue = 0 then c.chCopied e n x size
      else
        match c.chBurst e n x with
        | (true, c) => chCopy n size e fuel c
        | (false, c) => c

/-- A bound on the bursts of a copy. -/
def Xfer.bursts (x : Xfer) : Nat := 4 * x.residue + 2

/-- The rules of R484: the address whose alignment a copy breaks. -/
def Xfer.misaligned (x : Xfer) : Option Nat :=
  let lastRow : Xfer := { x with row := x.rows - 1 }
  let touches := [x.rowSrc, x.rowSrc + x.width - 1, lastRow.rowSrc, x.rowDst, x.rowDst + x.width - 1, lastRow.rowDst].any (fun a => targetOf a == 8)
  if x.rows * x.width = 0 || !(x.smode ≠ 0 || x.dmode ≠ 0 || touches) then none
  else if x.width % 4 ≠ 0 || x.src % 4 ≠ 0 || (x.rows ≠ 1 && x.sstride % 4 ≠ 0) then some x.src
  else if x.dst % 4 ≠ 0 || (x.rows ≠ 1 && x.dstride % 4 ≠ 0) then some x.dst
  else none

/-- A copy begins or goes on (R484, R487). -/
def chRun (n size : Nat) (e : Env) (c : Chip) : Chip :=
  match (c.ch n).x with
  | none => c
  | some x =>
    match (if x.row = 0 && x.pos = 0 && x.buf.isEmpty then x.misaligned else none) with
    | some a => c.chHalt e n 4 0 a
    | none => chCopy n size e x.bursts c

/-- The words of 8 bytes that a range touches. -/
def doubles (a n : Nat) : Nat := if n = 0 then 0 else (a + n - 1) / 8 - a / 8 + 1

/-- R494's conditions on a locked MOVE. -/
def Xfer.lockFits (x : Xfer) : Bool :=
  let t := targetOf x.src
  x.smode == 0 && x.dmode == 0 && (t == 1 || t == 2) && targetOf x.dst == t && targetOf (x.src + x.width - 1) == t
    && targetOf (x.dst + x.width - 1) == t && decide (doubles x.src x.width + doubles x.dst x.width ≤ 8)

/-- A locked MOVE: every read beat, then every write beat (R494); a failed one is retried as a whole (R507). -/
def chLocked (n size : Nat) (x : Xfer) (e : Env) (c : Chip) : Chip :=
  let c := if c.chCoh n then (linesOf x.src x.width).foldl (fun c l => c.dropCopies e l) c else c
  match c.chRead e n x.src x.width false with
  | (none, c) => c
  | (some bs, c) =>
    match c.chWrite e n x.dst bs with
    | (false, c) => c
    | (true, c) => if (c.ch n).x.isSome then c.chCopied e n x size else c

/-! ### Program instructions (R490, R491) -/

/-- The length in words of an instruction, from its first word. -/
def insWords (w : Word) : Nat :=
  let two := (if w.getLsbD 27 then 1 else 0) + (if w.getLsbD 26 then 1 else 0)
  match bits w 31 28 with
  | 1 => 1 + two
  | 2 => 3 + two
  | 5 => if bits w 27 24 = 1 then 2 else 1
  | 7 => 3
  | _ => 1

/-- The fields of an instruction hold no reserved code and its reserved fields are 0 (R491, R493, R496, R499). -/
def insValid (w : Word) (w1 : Word) : Bool :=
  let modes := bits w 25 24 ≠ 3 && bits w 23 22 ≠ 3
  match bits w 31 28 with
  | 0 => bits w 27 0 == 0
  | 1 => modes && !w.getLsbD 20
  | 2 => modes && bits w 21 16 == 0 && bits w1 31 16 == 0
  | 3 => bits w 27 16 == 0
  | 4 => bits w 27 0 == 0
  | 5 =>
    match bits w 27 24 with
    | 0 => if w.getLsbD 23 then bits w 22 9 == 0 else bits w 22 16 == 0
    | 1 => bits w 23 0 == 0
    | 2 => bits w 23 16 == 0
    | 3 => bits w 23 11 == 0
    | 4 => bits w 23 6 == 0
    | 5 => bits w 23 4 == 0
    | _ => false
  | 6 =>
    bits w 25 22 == 0 && (match bits w 27 26 with
      | 2 => bits w 15 4 == 0
      | 3 => false
      | _ => true)
  | 7 => bits w 27 0 == 0
  | _ => false

/-- A program may lie there (R490). -/
def progTarget (a : Nat) : Bool := [0, 1, 2, 5, 6].contains (targetOf a)

/-- The outcome of fetching an instruction. -/
inductive Fetched where
  /-- the channel stopped: an error or its allowance -/
  | stopped
  /-- the program does not lie where it may -/
  | badPlace
  | words (l : List Word)
  deriving DecidableEq, Repr

/-- Fetch `k` words from address `a`. -/
def chFetchWords (n : Nat) (e : Env) : Nat → Nat → Chip → Fetched × Chip
  | 0, _, c => (.words [], c)
  | k + 1, a, c =>
    if !progTarget a then (.badPlace, c)
    else
      match c.chRead e n a 4 true with
      | (none, c) => (.stopped, c)
      | (some bs, c) =>
        match chFetchWords n e k (a + 4) c with
        | (.words l, c) => (.words (word (leNat bs) :: l), c)
        | (o, c) => (o, c)

/-- Fetch the instruction at an address, or take the one that was fetched while a WAIT was pending (R490, R498). -/
def chFetch (n a : Nat) (e : Env) (c : Chip) : Fetched × Chip :=
  match ((c.ch n).pre.filter (fun p => p.1 == a)) with
  | some p => (.words p.2, c)
  | none =>
    match chFetchWords n e 1 a c with
    | (.words [w], c) =>
      match chFetchWords n e (insWords w - 1) (a + 4) c with
      | (.words l, c) => (.words (w :: l), c)
      | (o, c) => (o, c)
    | (o, c) => (o, c)

/-- While a WAIT is pending the next instruction is fetched, where that can succeed (R498). -/
def chPrefetch (n : Nat) (e : Env) (c : Chip) : Chip :=
  let a := c.chPc n + 4 * insWords (((c.ch n).pre.map (fun p => p.2.headD 0)).getD 0)
  match chFetchWords n e 1 a { c with dma := { c.dma with chans := modS {} c.dma.chans n (fun x => { x with pre := none }) } } with
  | (.words [w], c1) =>
    match chFetchWords n e (insWords w - 1) (a + 4) c1 with
    | (.words l, c2) => c2.modCh n fun x => { x with pre := some (a, w :: l) }
    | _ => c
  | _ => c

/-- Execution continues at `a`. -/
def Chip.chGoto (c : Chip) (n a : Nat) : Chip := (c.modCh n fun x => { x with pre := none }).wr (A.CHn_PC n) (word a)

/-- The instruction is over. -/
def Chip.chNext (c : Chip) (n : Nat) (ws : List Word) : Chip := c.chGoto n (c.chPc n + 4 * ws.length)

/-- MOVE (R492, R494). -/
def chMove (n : Nat) (ws : List Word) (e : Env) (c : Chip) : Chip :=
  let w := ws.headD 0
  let rest := ws.drop 1
  let c := if w.getLsbD 27 then c.wr (A.CHn_SRC n) (rest.getD 0 0) else c
  let c := if w.getLsbD 26 then c.wr (A.CHn_DST n) (rest.getD (if w.getLsbD 27 then 1 else 0) 0) else c
  let x : Xfer := { src := (c.rd (A.CHn_SRC n)).toNat, dst := (c.rd (A.CHn_DST n)).toNat, smode := bits w 25 24
                    dmode := bits w 23 22, width := bits w 19 0, lock := w.getLsbD 21 }
  let c := (c.modCh n fun k => { k with x := some x, pre := some (c.chPc n, ws) }).chShow n
  if x.lock && !x.lockFits then c.chBadProg e n
  else if x.width = 0 then c.chCopied e n x (4 * ws.length)
  else if x.lock then chLocked n (4 * ws.length) x e c
  else chRun n (4 * ws.length) e c

/-- MOVE2D (R493). -/
def chMove2d (n : Nat) (ws : List Word) (e : Env) (c : Chip) : Chip :=
  let w := ws.headD 0
  let st := ws.getD 2 0
  let c := if w.getLsbD 27 then c.wr (A.CHn_SRC n) (ws.getD 3 0) else c
  let c := if w.getLsbD 26 then c.wr (A.CHn_DST n) (ws.getD (if w.getLsbD 27 then 4 else 3) 0) else c
  let x : Xfer := { src := (c.rd (A.CHn_SRC n)).toNat, dst := (c.rd (A.CHn_DST n)).toNat, smode := bits w 25 24
                    dmode := bits w 23 22, width := bits w 15 0, rows := bits (ws.getD 1 0) 15 0
                    sstride := sgn 16 (bits st 15 0), dstride := sgn 16 (bits st 31 16), two := true }
  let c := (c.modCh n fun k => { k with x := some x, pre := some (c.chPc n, ws) }).chShow n
  if x.rows * x.width = 0 then c.chCopied e n x (4 * ws.length) else chRun n (4 * ws.length) e c

/-- LOOP (R495). -/
def chLoop (n : Nat) (ws : List Word) (e : Env) (c : Chip) : Chip :=
  let k := bits (ws.headD 0) 15 0
  if 2 ≤ (c.ch n).loops.length then c.chBadProg e n
  else (c.modCh n fun x => { x with loops := (c.chPc n + 4, k, k == 0) :: x.loops }).chNext n ws

/-- ENDLOOP (R495). -/
def chEndloop (n : Nat) (ws : List Word) (e : Env) (c : Chip) : Chip :=
  match (c.ch n).loops with
  | [] => c.chBadProg e n
  | (a, left, endless) :: l =>
    if endless then c.chGoto n a
    else if 1 < left then (c.modCh n fun x => { x with loops := (a, left - 1, endless) :: l }).chGoto n a
    else (c.modCh n fun x => { x with loops := l }).chNext n ws

/-- The condition that a WAIT names (R496); none where its operand is out of range. -/
def chCond (ws : List Word) (e : Env) (c : Chip) : Option DmaWait :=
  let w := ws.headD 0
  let t := c.met.ticks
  match bits w 27 24 with
  | 0 =>
    if w.getLsbD 23 then (if bits w 8 0 < t.f then some (.bif (bits w 8 0)) else none)
    else some (.block ((e.now / t.cb + max 1 (bits w 15 0)) * t.cb))
  | 1 => some (.abs (ws.getD 1 0))
  | 2 => some (.sample ((e.now / t.cs + max 1 (bits w 15 0)) * t.cs))
  | 3 =>
    let l := bits w 10 0
    match c.dkind with
    | 1 => if l < c.vTotal then some (.line l) else none
    | 2 => if l < c.dsec.h then some (.line l) else none
    | 3 => if l < c.dsec.h then some (.line l) else none
    | _ => some (.line l)
  | 4 => if (c.qe (bits w 5 0)).depth = 0 then none else some (.queue (bits w 5 0))
  | _ => some (.event (bits w 3 0))

/-- A WAIT completes: its flag is cleared, and the program goes on (R496). -/
def chWaitDone (n size : Nat) (e : Env) (c : Chip) : Chip :=
  let x := c.ch n
  let c := match x.wait with
    | some (.event f) => c.clrBit A.DMA_EVT f
    | some (.abs k) => if k = word (c.block e) && decide (x.waitFrom / c.met.ticks.cb < e.now / c.met.ticks.cb) then c else c.setBit (A.CHn_STAT n) 14
    | _ => c
  ((c.modCh n fun x => { x with wait := none }).wr (A.CHn_PC n) (word (c.chPc n + size))).setChState n 1

/-- WAIT (R496 to R498). One whose condition holds already completes at once. -/
def chWait (n : Nat) (ws : List Word) (e : Env) (c : Chip) : Chip :=
  match chCond ws e c with
  | none => c.chBadWait e n
  | some k =>
    let c := (c.modCh n fun x => { x with wait := some k, waitFrom := e.now, pre := some (c.chPc n, ws) }).setChState n 2
    let atOnce := match k with
      | .abs b => !isFuture b.toNat (c.block e)
      | .block _ => false
      | .sample _ => false
      | .bif _ => false
      | .line _ => c.dkind == 0 || c.dkind == 4
      | _ => (c.waitDue e n).isSome
    if atOnce then
      let c := chWaitDone n (4 * ws.length) e c
      c.modCh n fun x => { x with pre := none }
    else chPrefetch n e c

/-- The record of a SIGNAL (R499). -/
def signalRec (n operand : Nat) (e : Env) : Rec :=
  { source := 0x40 + n, kind := 0x40, key := n, flags := 0, time := e.stamp, valueA := BitVec.ofNat 16 operand, valueB := 0 }

/-- The port of queue `q` accepts what stands before and with channel `n`'s record; whether that record was kept. -/
def drainTo (n q : Nat) (e : Env) : Nat → Chip → Bool × Chip
  | 0, c => (true, c)
  | fuel + 1, c =>
    match c.nextSkid q with
    | none => (true, c)
    | some (i, _) =>
      let c' := c.portCycle e q
      if i.byMaster && i.r.source = 0x40 + n then (c'.que.seq ≠ c.que.seq, c') else drainTo n q e fuel c'

/-- SIGNAL QUEUE (R499, R112, R109). -/
def chSignalQueue (n : Nat) (ws : List Word) (e : Env) (c : Chip) : Chip :=
  let w := ws.headD 0
  let q := bits w 21 16
  let k := c.qe q
  if k.depth = 0 || k.producer ≠ 0 then ((c.setBit (A.QUEn_STAT q) 6).setBit (A.CHn_STAT n) 13).chNext n ws
  else
    let i : SkidItem := { queue := q, r := signalRec n (bits w 15 0) e, byMaster := true, since := e.now }
    let c := { c with que := { c.que with skid := c.que.skid ++ [i] } }
    if c.holding q then c.modCh n fun x => { x with post := some q }
    else
      match drainTo n q e (c.que.skid.length) c with
      | (kept, c) => ((if kept then c else c.setBit (A.CHn_STAT n) 13)).chNext n ws

/-- SIGNAL (R499). -/
def chSignal (n : Nat) (ws : List Word) (e : Env) (c : Chip) : Chip :=
  let w := ws.headD 0
  match bits w 27 26 with
  | 0 => ((c.wr (A.CHn_SIGVAL n) (word (bits w 15 0))).setBit (A.CHn_STAT n) 2).chNext n ws
  | 1 => chSignalQueue n ws e c
  | _ => (evtSet (word (2 ^ bits w 3 0)) c).chNext n ws

/-- SET (R500). -/
def chSet (n : Nat) (ws : List Word) (e : Env) (c : Chip) : Chip :=
  let a := (ws.getD 1 0).toNat
  if a % 4 ≠ 0 then c.chHalt e n 4 0 a
  else
    match c.chWrite e n a (leBytes 4 (ws.getD 2 0).toNat) with
    | (true, c) => if c.chState n = 1 then c.chNext n ws else c
    | (false, c) => c

/-- The meaning of a fetched instruction (R491). -/
def chInstr (n : Nat) (ws : List Word) (e : Env) (c : Chip) : Chip :=
  let w := ws.headD 0
  if !insValid w (ws.getD 1 0) then c.chBadProg e n
  else
    match bits w 31 28 with
    | 0 => c.chDone e n
    | 1 => chMove n ws e c
    | 2 => chMove2d n ws e c
    | 3 => chLoop n ws e c
    | 4 => chEndloop n ws e c
    | 5 => chWait n ws e c
    | 6 => chSignal n ws e c
    | _ => chSet n ws e c

/-- The channel is ready to execute its next instruction. -/
def Chip.chReady (c : Chip) (n : Nat) : Bool :=
  decide (n < 16) && c.chProgram n && c.chState n == 1 && (c.ch n).x.isNone && (c.ch n).post.isNone

/-- The channel executes its next instruction if `want` holds of its first word. -/
def chExec (n : Nat) (want : Word → Bool) (e : Env) (c : Chip) : Chip :=
  if !c.chReady n then c
  else
    match chFetch n (c.chPc n) e c with
    | (.words ws, c') => if want (ws.headD 0) && insValid (ws.headD 0) (ws.getD 1 0) then chInstr n ws e c' else c
    | (.stopped, c') => c'
    | (.badPlace, _) => c

/-- A copy that the channel's allowance or a back-off broke off goes on. The length of its instruction is that of the
words at the PC. -/
def chResume (n : Nat) (e : Env) (c : Chip) : Chip :=
  match (c.ch n).x with
  | none => c
  | some x =>
    if c.chState n ≠ 1 then c
    else if !c.chProgram n then chRun n 0 e c
    else
      let a := c.chPc n
      let w := ((c.ch n).pre.map (fun p => p.2.headD 0)).getD (word (leNat (c.fetchBytes e a 4)))
      let size := 4 * insWords w
      if x.lock then chLocked n size x e c else chRun n size e c

/-- DMA_MOVE and DMA_MOVE2D: the instruction, or the rest of it. -/
def chCopyRow (n op : Nat) (e : Env) (c : Chip) : Chip :=
  match (c.ch n).x with
  | some x => if c.chProgram n && decide (n < 16) && (x.two == (op == 2)) then chResume n e c else c
  | none => chExec n (fun w => bits w 31 28 == op) e c

/-- DMA_COPY_COMPLETE: a register-mode copy runs to its end (R489). -/
def chCopyComplete (n : Nat) (e : Env) (c : Chip) : Chip :=
  if n < 16 && !c.chProgram n then chResume n e c else c

/-- DMA_BAD_PROG: an instruction that R490, R491 or R495 makes the channel halt on. -/
def chBadRow (n : Nat) (e : Env) (c : Chip) : Chip :=
  if !c.chReady n then c
  else
    match chFetch n (c.chPc n) e c with
    | (.badPlace, c') => c'.chBadProg e n
    | (.stopped, c') => c'
    | (.words ws, c') => if insValid (ws.headD 0) (ws.getD 1 0) then c else c'.chBadProg e n

/-- The channel waits for a tick or for the beam, which a slow count brings no nearer (R508). -/
def Chip.waitsTick (c : Chip) (n : Nat) : Bool :=
  match (c.ch n).wait with
  | some (.queue _) => false
  | some (.event _) => false
  | _ => true

/-- DMA_WAIT_COMPLETE at the count at which the condition is met (R496, R497). -/
def chWaitComplete (n : Nat) (e : Env) (c : Chip) : Chip :=
  if c.chState n ≠ 2 || (c.slow && c.waitsTick n) then c
  else
    match c.waitDue e n with
    | none => c
    | some t =>
      if t ≤ e.now then
        let size := match (c.ch n).wait with
          | some (.abs _) => 8
          | _ => 4
        chWaitDone n size e c
      else c

/-- The access that channel `n` would make next: whether it writes, its address and its size. -/
def Chip.chNextAccess (c : Chip) (n : Nat) : Option (Bool × Nat × Nat) :=
  if c.chState n ≠ 1 then none
  else
    match (c.ch n).x with
    | some x =>
      if x.buf.isEmpty then
        let a := modeAddr x.smode x.rowSrc x.pos
        some (false, a, burstLen x.smode a (x.width - x.pos))
      else
        let a := modeAddr x.dmode x.rowDst x.pos
        some (true, a, burstLen x.dmode a x.buf.length)
    | none => if c.chProgram n && (c.ch n).post.isNone then some (false, c.chPc n, 4) else none

/-- DMA_BUS_ERROR: the channel's next access ends with a bus error (R507): by a rule it breaks, by a double-bit error
(CAUSE 6) or by a strobe timeout (CAUSE 7). -/
def chBusError (n cause : Nat) (e : Env) (c : Chip) : Chip :=
  match c.chNextAccess n with
  | none => c
  | some (write, a, size) =>
    match c.busCause (.dma n) write false a size with
    | some (k, t) => (c.busError (.dma n) t k a write).chError e n a k
    | none =>
      if cause = 6 && hasEcc (targetOf a) then
        (((c.eccLost e (.dma n) a).busError (.dma n) (targetOf a) 6 a write)).chError e n a 6
      else if cause = 7 && targetOf a = 5 && !write then (strobeTimeout (.dma n) a e c).chError e n a 7
      else c

/-- DMA_BACKOFF_END: the access is issued again (R507). -/
def chBackoffEnd (n : Nat) (e : Env) (c : Chip) : Chip :=
  if c.chState n = 3 && decide ((c.ch n).backoff ≤ e.now) then
    let c := c.setChState n 1
    if (c.ch n).x.isSome then chResume n e c else chExec n (fun _ => true) e c
  else c

/-! ### What a command leaves for the channels (R505, R506, R499) -/

/-- The bytes in the buffer are written, as far as they can be. -/
def chFlush (n : Nat) (e : Env) : Nat → Chip → Chip
  | 0, c => c
  | fuel + 1, c =>
    match (c.ch n).x with
    | none => c
    | some x =>
      if x.buf.isEmpty then c
      else
        let a := modeAddr x.dmode x.rowDst x.pos
        let k := burstLen x.dmode a x.buf.length
        match busWrite (.dma n) a (x.buf.take k) e c with
        | (.error _, c) => c
        | (.ok _, c) => chFlush n e fuel (((c.chCount n (targetOf a) k).modCh n fun q => { q with x := some { x with pos := x.pos + k, buf := x.buf.drop k } }).chShow n)

/-- ABORT (R505). -/
def chAbort (n : Nat) (e : Env) (c : Chip) : Chip :=
  if !c.chActive n then c
  else
    let c := if c.chState n = 3 then c else chFlush n e 65 c
    let c := c.dropHeld n
    let c := c.statusRecord e n 1 0 (c.chResidue n) (c.rd (A.CHn_SRC n)).toNat
    ((c.modCh n fun x => { x with wait := none, pre := none, x := none, tries := 0, post := none }).setBit (A.CHn_STAT n) 3).setChState n 0

/-- A SIGNAL QUEUE that a full HOLD queue kept waiting has been accepted: the program goes on (R499). -/
def chPosted (c : Chip) : Chip :=
  (List.range 16).foldl (fun c n =>
    match (c.ch n).post with
    | none => c
    | some q =>
      if c.que.skid.any (fun i => i.byMaster && i.r.source == 0x40 + n && i.queue == q) then c
      else (c.modCh n fun x => { x with post := none }).chGoto n (c.chPc n + 4)) c

/-- The aborts asked for, and the words of status records that go to target 8, within the command. -/
def dmaSettle (e : Env) (c : Chip) : Chip :=
  let asked := c.dma.aborts
  let c := asked.foldl (fun c n => chAbort n e c) { c with dma := { c.dma with aborts := [] } }
  let ws := c.dma.words
  let c := ws.foldl (fun c w => (busWrite (.dma w.1) w.2.1 (leBytes 4 w.2.2.toNat) e c).2) { c with dma := { c.dma with words := [] } }
  chPosted c

end Sys2Proof.Machine
end

