-- ==== Sys2Proof/Machine/HostRun.lean ====
section
/-! DEFINITION. Machine/HostRun.lean: what the host port does with a complete frame: the order of R516, the requests it
executes itself and those it forwards (15_host_port.md). -/

namespace Sys2Proof.Machine

/-- A reply with a payload. -/
def hostOk (tag : Nat) (payload : List Byte) : HostReply := { tag := tag, code := 0, payload := payload, errf := false }

/-- The CRC of a request's bytes from OP on (R514). -/
def requestCrc (op tag : Nat) (payload : List Byte) : Nat :=
  (crc16 ([BitVec.ofNat 8 op, BitVec.ofNat 8 tag] ++ leBytes 2 payload.length ++ payload)).toNat

/-- A number in a payload. -/
def payNat (p : List Byte) (off n : Nat) : Nat := leNat ((p.drop off).take n)

/-! ### Accesses (R527) -/

/-- The reply to a bus error (R527). -/
def hostBusErr (tag addr done cause : Nat) : HostReply :=
  { tag := tag, code := 0x84, payload := leBytes 4 addr ++ leBytes 2 done ++ leBytes 2 cause, errf := true }

/-- The address of word `i` of a READ32 or WRITE32. -/
def wordAddr (addr i : Nat) : Nat := if addr % 2 = 1 then addr - 1 else (addr + 4 * i) % 2 ^ 32

/-- The words of a READ32 from word `i` on. -/
def hostReads (ch tag addr : Nat) (e : Env) : Nat → Nat → List Byte → Chip → HostReply × Chip
  | 0, _, acc, c => (hostOk tag acc, c)
  | k + 1, i, acc, c =>
    match busRead (.host ch) (wordAddr addr i) 4 e c with
    | (.error cause, c) => (hostBusErr tag (wordAddr addr i) i cause, c)
    | (.ok bs, c) => hostReads ch tag addr e k (i + 1) (acc ++ bs) c

/-- The words of a WRITE32. -/
def hostWrites (ch tag addr : Nat) (e : Env) : Nat → List Byte → Nat → Chip → HostReply × Chip
  | 0, _, _, c => (hostOk tag [], c)
  | k + 1, bs, i, c =>
    match busWrite (.host ch) (wordAddr addr i) (bs.take 4) e c with
    | (.error cause, c) => (hostBusErr tag (wordAddr addr i) i cause, c)
    | (.ok _, c) => hostWrites ch tag addr e k (bs.drop 4) (i + 1) c

/-- The length of a burst of READ_MEM and WRITE_MEM: registers are reached byte by byte, which R11 forbids. -/
def hostBurst (a left : Nat) : Nat :=
  match regionOf a with
  | .periph => 1
  | .voice => 1
  | _ => min left (64 - a % 64)

/-- The bytes of a READ_MEM, `done` of them already read. -/
def hostReadMem (ch tag : Nat) (e : Env) : Nat → Nat → Nat → List Byte → Chip → HostReply × Chip
  | 0, _, _, acc, c => (hostOk tag acc, c)
  | fuel + 1, a, left, acc, c =>
    if left = 0 then (hostOk tag acc, c)
    else
      let k := hostBurst a left
      match busRead (.host ch) a k e c with
      | (.error cause, c) => (hostBusErr tag a acc.length cause, c)
      | (.ok bs, c) => hostReadMem ch tag e fuel ((a + k) % 2 ^ 32) (left - k) (acc ++ bs) c

/-- The bytes of a WRITE_MEM. -/
def hostWriteMem (ch tag : Nat) (e : Env) : Nat → Nat → List Byte → Nat → Chip → HostReply × Chip
  | 0, _, _, _, c => (hostOk tag [], c)
  | fuel + 1, a, bs, done, c =>
    if bs.isEmpty then (hostOk tag [], c)
    else
      let k := hostBurst a bs.length
      match busWrite (.host ch) a (bs.take k) e c with
      | (.error cause, c) => (hostBusErr tag a done cause, c)
      | (.ok _, c) => hostWriteMem ch tag e fuel ((a + k) % 2 ^ 32) (bs.drop k) (done + k) c

/-- READ32 (R526, R527). -/
def hostRead32 (ch tag : Nat) (p : List Byte) (e : Env) (c : Chip) : HostReply × Chip :=
  let n := payNat p 4 2
  if p.length ≠ 6 ∨ n = 0 ∨ 256 < n ∨ payNat p 0 4 / 2 % 2 = 1 then (hostReply tag 0x83, c)
  else hostReads ch tag (payNat p 0 4) e n 0 [] c

/-- WRITE32 (R526, R527). -/
def hostWrite32 (ch tag : Nat) (p : List Byte) (e : Env) (c : Chip) : HostReply × Chip :=
  if p.length < 8 ∨ p.length % 4 ≠ 0 ∨ payNat p 0 4 / 2 % 2 = 1 then (hostReply tag 0x83, c)
  else hostWrites ch tag (payNat p 0 4) e (p.length / 4 - 1) (p.drop 4) 0 c

/-- READ_MEM (R526, R527). -/
def hostReadMemory (ch tag : Nat) (p : List Byte) (e : Env) (c : Chip) : HostReply × Chip :=
  let n := payNat p 4 2
  if p.length ≠ 6 ∨ n = 0 ∨ 1024 < n then (hostReply tag 0x83, c) else hostReadMem ch tag e n (payNat p 0 4) n [] c

/-- WRITE_MEM (R526, R527). -/
def hostWriteMemory (ch tag : Nat) (p : List Byte) (e : Env) (c : Chip) : HostReply × Chip :=
  if p.length < 5 then (hostReply tag 0x83, c) else hostWriteMem ch tag e p.length (payNat p 0 4) (p.drop 4) 0 c

/-! ### CHARTER, MODE and RUN (R528, R529) -/

/-- The fields of a CHARTER payload keep R528. -/
def charterFields (p : List Byte) : Bool :=
  let op := payNat p 0 1
  let arg := payNat p 1 1
  let hasArg := op == 1 || op == 3 || op == 6 || op == 7
  let hasAddr := (op == 1 && arg == 2) || op == 6
  p.length == 12 && decide (1 ≤ op ∧ op ≤ 7) && payNat p 2 2 == 0 && (hasArg || arg == 0) && (op == 3 || decide (arg < 4))
    && (hasAddr || payNat p 4 4 == 0) && (op == 3 || payNat p 8 4 == 0)

/-- CHARTER writes the loader's registers and then CHT_CMD (R528). -/
def hostCharter (ch : Nat) (p : List Byte) (e : Env) (c : Chip) : Chip :=
  let w := fun (a : Nat) (v : Nat) (c : Chip) => regWrite (.host ch) a (word v) e c
  let op := payNat p 0 1
  let arg := payNat p 1 1
  let c := if (op = 1 ∧ arg = 2) ∨ op = 6 then w A.CHT_SRC_ADDR (payNat p 4 4) c else c
  let c := if op = 3 then w A.CHT_SWAP_BLOCK (payNat p 8 4) (w A.CHT_XFADE arg c) else c
  w A.CHT_CMD (op + (if op = 1 then arg * 16 else 0) + (if op = 6 ∨ op = 7 then arg * 256 else 0)) c

/-- A request of a major mode that R567 allows. -/
def Chip.modeAllowed (c : Chip) (m : Nat) : Bool :=
  match m with
  | 0 => c.mode == .configure || c.mode == .perform
  | 1 => c.mode == .perform
  | 2 => c.mode == .perform || c.mode == .hush
  | _ => c.mode == .configure || c.mode == .perform

/-- The request itself; the desk protocol's VAULT request carries no key (R529). -/
def requestMode (m : Nat) (e : Env) (c : Chip) : Chip :=
  match m with
  | 0 => requestConfigure e c
  | 1 => requestPerform c
  | 2 => requestHush c
  | _ => enterVault e c

/-! ### A complete frame (R516) -/

/-- An accepted request is executed and its reply formed. -/
def hostNow (f : HostFrame) (run : HostReply × Chip) : Chip := run.2.hostForm f.ch run.1

/-- A forwarded request (R532). -/
def hostForward (f : HostFrame) (e : Env) (c : Chip) : Chip :=
  let c := c.hostPutReq f.ch f.payload
  let c := c.post e { source := 0x38 + f.ch, kind := 0x38, key := f.op, flags := 0, time := BitVec.ofNat 48 f.stamp
                      valueA := BitVec.ofNat 16 f.payload.length, valueB := word f.tag }
  c.hostWait f.ch { op := f.op, tag := f.tag, what := .software, since := e.now }

/-- Step 7 of R516. -/
def hostExecute (f : HostFrame) (e : Env) (c : Chip) : Chip :=
  let c := c.hostAccept f.ch f.tag f.crc
  match f.op with
  | 0x10 => hostNow f (hostRead32 f.ch f.tag f.payload e c)
  | 0x11 => hostNow f (hostWrite32 f.ch f.tag f.payload e c)
  | 0x12 => hostNow f (hostReadMemory f.ch f.tag f.payload e c)
  | 0x13 => hostNow f (hostWriteMemory f.ch f.tag f.payload e c)
  | 0x20 =>
    if charterFields f.payload then
      let before := c.ldr.results
      (hostCharter f.ch f.payload e c).hostWait f.ch
        { op := f.op, tag := f.tag, what := .charter (payNat f.payload 0 1) before, since := e.now }
    else c.hostForm f.ch (hostReply f.tag 0x83)
  | 0x21 =>
    let m := payNat f.payload 0 1
    if f.payload.length ≠ 1 ∨ 3 < m then c.hostForm f.ch (hostReply f.tag 0x83)
    else if !c.modeAllowed m then (requestMode m e c).hostForm f.ch (hostReply f.tag 0x85)
    else if m = 3 then requestMode m e (c.hostForm f.ch (hostOk f.tag []))
    else (requestMode m e c).hostWait f.ch { op := f.op, tag := f.tag, what := .mode m, since := e.now }
  | 0x22 =>
    if f.payload.length ≠ 4 then c.hostForm f.ch (hostReply f.tag 0x83)
    else
      let code := hostRunCode c (payNat f.payload 0 4)
      let c := c.hostForm f.ch (hostReply f.tag code)
      if code = 0 then handOver (word (payNat f.payload 0 4)) e c else c
  | op => if 0x80 ≤ op then hostForward f e c else c.hostForm f.ch (hostReply f.tag 0x80)

/-- The request queue has no room for one record (R516, step 6). -/
def Chip.noRoom (c : Chip) (q : Nat) : Bool := decide ((c.qe q).depth < c.qFill q + 4)

/-- A complete frame (R516). -/
def hostFrame (f : HostFrame) (e : Env) (c : Chip) : Chip :=
  if 1024 < f.payload.length then hostLenFault f.ch f.tag c
  else if requestCrc f.op f.tag f.payload ≠ f.crc then
    ((c.hostCurrent f.ch (hostReply f.tag 0x81)).setBit (A.HOST_CHc_STAT f.ch) 2).inc (A.HOST_CHc_ERRS f.ch)
  else if f.op = 0 then c.hostCurrent f.ch (hostReply f.tag (if f.payload.isEmpty then 0 else 0x83))
  else if f.op = 1 then c.hostFetch f.ch f.tag f.payload
  else
    match (c.hc f.ch).cache.find? (fun x => x.tag == f.tag && x.crc == f.crc) with
    | some x => (c.inc (A.HOST_CHc_REPLAYS f.ch)).hostReplay f.ch x
    | none =>
      if c.hostPending f.ch then c.hostCurrent f.ch (c.hostBusy f.tag 1)
      else if f.op < 0x80 then hostExecute f e c
      else
        match c.route (0x38 + f.ch) 0x38 with
        | none => (c.hostAccept f.ch f.tag f.crc).hostForm f.ch (hostReply f.tag 0x89)
        | some q => if c.noRoom q then c.hostCurrent f.ch (c.hostBusy f.tag 2) else hostExecute f e c

/-- A frame whose bytes have come: in HUSH it wakes the device and is held until the clocks run (R539). In Doze and Drowse
a channel holds 64 bytes: what a longer frame loses makes its CRC wrong. -/
def hostArrive (f : HostFrame) (e : Env) (c : Chip) : Chip :=
  if !c.hostListens f.ch then c
  else
    let c := c.hostBegin f.ch
    if c.pwr.sub = .none then hostFrame f e c
    else
      let deep := c.pwr.sub = .doze || c.pwr.sub = .drowse
      let held := ((c.host.held.filter (fun g => g.ch == f.ch)).map (fun g => g.payload.length + 7)).foldl (· + ·) 0
      let c := c.askWake
      if deep && decide (64 < held + f.payload.length + 7) then
        ({ c with host := { c.host with held := c.host.held ++ [{ f with crc := requestCrc f.op f.tag f.payload ^^^ 1 }] } }).setBit (A.HOST_CHc_STAT f.ch) 4
      else { c with host := { c.host with held := c.host.held ++ [f] } }

/-- A request whose frame takes `dur` counts from the first edge of its SYNC byte to its last bit (R513). -/
def hostRequest (ch op tag : Nat) (payload : List Byte) (crc dur : Nat) (s : State) : State :=
  let f : HostFrame := { ch := ch, op := op, tag := tag, payload := payload, crc := crc, stamp := s.clock.abs }
  (if s.chip.slow then s else s.advTo (s.clock.abs + dur)).on (hostArrive f)

/-! ### What a command leaves for the port (R528, R529, R539) -/

/-- The reply of a pending CHARTER or MODE request, when what it waits for has come. -/
def hostDue (n : Nat) (e : Env) (c : Chip) : Chip :=
  match (c.hc n).pending with
  | some { op := _, tag := tag, what := .charter op before, since := _ } =>
    if before < c.ldr.results && c.fld A.CHT_RESULT 15 8 = op then
      let code := c.fld A.CHT_RESULT 7 0
      c.hostAnswer n { tag := tag, code := code, errf := code ≠ 0
                       payload := leBytes 4 (c.rd A.CHT_RESULT).toNat ++ leBytes 4 (regRead (.host n) A.CHT_STATE e c).1.toNat }
    else c
  | some { op := _, tag := tag, what := .mode m, since := _ } =>
    if c.mode.value = m then c.hostAnswer n (hostOk tag [])
    else if m = 2 && !c.bit A.SYS_MODE 31 then c.hostAnswer n (hostReply tag 0x85)
    else c
  | _ => c

/-- Frames that were held while the clocks were stopped, and replies that are due. -/
def hostSettle (e : Env) (c : Chip) : Chip :=
  let c :=
    if c.pwr.sub = .none then
      let l := c.host.held
      l.foldl (fun c f => hostFrame f e c) { c with host := { c.host with held := [] } }
    else c
  (List.range 3).foldl (fun c n => hostDue n e c) c

end Sys2Proof.Machine
end

