-- ==== Sys2Proof/Machine/Quire.lean ====
section
/-! DEFINITION. Machine/Quire.lean: what the instructions of a Clerk core share: its data accesses and write buffer,
exceptions, interrupt entry and return, debug halt, and the execution of one instruction (10_quire_instruction_set.md;
11_clerk_cores_and_interrupts.md, R379 to R394, R409 to R411; 12_caches_and_coherence.md, R422 to R424, R438). -/

namespace Sys2Proof.Machine

/-! ### The write buffer (R422, R423) -/

/-- Runs of consecutive bytes. -/
def byteRuns : List (Nat × Byte) → List (Nat × List Byte)
  | [] => []
  | (a, b) :: l => match byteRuns l with
    | (a', bs) :: rs => if a' = a + 1 then (a, b :: bs) :: rs else (a, [b]) :: (a', bs) :: rs
    | [] => [(a, [b])]

/-- A store's bus error is reported to core `n` (R372, R385). -/
def Chip.storeError (c : Chip) (n a : Nat) : Chip := c.modCore n fun k => { k with storeErr := k.storeErr ++ [word a] }

/-- Bytes go out onto the interconnect; an error is reported to the core. -/
def writeRun (n : Nat) (r : Nat × List Byte) (e : Env) (c : Chip) : Chip :=
  match busWrite (.core n) r.1 r.2 e c with
  | (.error _, c) => c.storeError n r.1
  | (.ok _, c) => c

/-- The oldest entry of core `n`'s write buffer leaves (R423). -/
def wbLeave (n : Nat) (e : Env) (c : Chip) : Chip :=
  match (c.core n).wb with
  | [] => c
  | en :: rest =>
    let c := c.modCore n fun k => { k with wb := rest }
    let first := (en.bytes.map (·.1)).headD en.addr
    if en.line && c.dcOn n then
      match c.busCause (.core n) true false first 1 with
      | some (cause, t) => (c.busError (.core n) t cause first true).storeError n first
      | none => (c.coreLine e n (en.addr / 32) true).storeLine n (en.addr / 32) en.bytes
    else (byteRuns en.bytes).foldl (fun c r => writeRun n r e c) c

/-- The write buffer empties (R423). -/
def wbDrain (n : Nat) (e : Env) (c : Chip) : Chip :=
  (c.core n).wb.foldl (fun c _ => wbLeave n e c) c

/-- The entry is a store to the peripheral bridge. -/
def WbEntry.bridge (en : WbEntry) : Bool := (regionOf en.addr).target == some 8

/-- Every earlier store to the peripheral bridge leaves, and what entered before it (R378, R423). -/
def wbBridge (n : Nat) (e : Env) (c : Chip) : Chip :=
  (c.core n).wb.foldl (fun c _ => if (c.core n).wb.any WbEntry.bridge then wbLeave n e c else c) c

/-- A byte joins an entry's bytes. -/
def addByte : List (Nat × Byte) → Nat → Byte → List (Nat × Byte)
  | [], a, b => [(a, b)]
  | (k, v) :: l, a, b =>
    if a < k then (a, b) :: (k, v) :: l else if a = k then (a, b) :: l else (k, v) :: addByte l a b

/-- Bytes join an entry from an address up. -/
def addBytes : List (Nat × Byte) → Nat → List Byte → List (Nat × Byte)
  | l, _, [] => l
  | l, a, b :: bs => addBytes (addByte l a b) (a + 1) bs

/-- A store joins the youngest entry where R422 lets it. -/
def mergeYoungest (a : Nat) (bs : List Byte) : List WbEntry → Option (List WbEntry)
  | [] => none
  | [en] => if en.line && en.addr / 32 = a / 32 then some [{ en with bytes := addBytes en.bytes a bs }] else none
  | en :: rest => (mergeYoungest a bs rest).map (en :: ·)

/-- A store of core `n` (R381, R422). -/
def coreStore (n a : Nat) (bs : List Byte) (e : Env) (c : Chip) : Chip :=
  let r := regionOf a
  if r = .local then c.setMemBytes (heldBy (.core n) a) bs
  else
    match if r.cacheable then mergeYoungest a bs (c.core n).wb else none with
    | some wb => c.modCore n fun k => { k with wb := wb }
    | none =>
      let c := if 4 ≤ (c.core n).wb.length then wbLeave n e c else c
      c.modCore n fun k => { k with wb := k.wb ++ [{ addr := a, line := r.cacheable, bytes := addBytes [] a bs }] }

/-! ### Loads (R378, R414, R424) -/

/-- The bytes of the core's own write buffer merged over what memory or the cache holds (R424). -/
def overlay (wb : List WbEntry) : Nat → List Byte → List Byte
  | _, [] => []
  | a, b :: bs => (wbByte wb a).getD b :: overlay wb (a + 1) bs

/-- A load of core `n`: its bytes, or the CAUSE of its bus error. -/
def coreLoad (n a size : Nat) (e : Env) (c : Chip) : Except Nat (List Byte) × Chip :=
  let r := regionOf a
  let c := if r.target = some 8 then wbBridge n e c else c
  match c.busCause (.core n) false false a size with
  | some (cause, t) => (.error cause, c.busError (.core n) t cause a false)
  | none =>
    if r.cacheable && c.dcOn n then
      let c := c.coreLine e n (a / 32) false
      (.ok (overlay (c.core n).wb a (((c.lineData e n (a / 32)).drop (a % 32)).take size)), c)
    else
      match busRead (.core n) a size e c with
      | (.error cause, c) => (.error cause, c)
      | (.ok bs, c) => (.ok (overlay (c.core n).wb a bs), c)

/-! ### Lockup, frames and exceptions (R383 to R387) -/

/-- The core enters lockup (R386). -/
def lockup (n : Nat) (e : Env) (c : Chip) : Chip :=
  let pc := (c.core n).pc.toNat
  (c.modCore n fun k => { k with run := .lockup }).report e 0x11 clsSevere n pc

/-- The frame's words, from offset 0 up (R389). -/
def Core.frame (k : Core) : List Word :=
  [k.pc, k.psw, word k.depth] ++ [3, 4, 5, 6, 7].map k.reg

/-- Write the words of a frame from address `a` up; answers whether no access met a bus error. -/
def pushWords (n : Nat) (e : Env) : List Word → Nat → Chip → Bool × Chip
  | [], _, c => (true, c)
  | w :: ws, a, c =>
    match c.busCause (.core n) true false a 4 with
    | some (cause, t) => (false, c.busError (.core n) t cause a true)
    | none => pushWords n e ws (a + 4) (coreStore n a (leBytes 4 w.toNat) e c)

/-- Read `count` words from address `a` up; none where an access met a bus error. -/
def pullWords (n : Nat) (e : Env) : Nat → Nat → Chip → Option (List Word) × Chip
  | 0, _, c => (some [], c)
  | count + 1, a, c =>
    match coreLoad n a 4 e c with
    | (.error _, c) => (none, c)
    | (.ok bs, c) =>
      match pullWords n e count (a + 4) c with
      | (none, c) => (none, c)
      | (some ws, c) => (some (word (leNat bs) :: ws), c)

/-- Word `i` of the vector table (R383). -/
def Chip.vectorWord (c : Chip) (n i : Nat) : Word :=
  c.memW (carrelBase n + 64 * bits ((c.core n).crw 0x40) 9 0 + 4 * i)

/-- The PSW of a handler (R384, R389). -/
def handlerPsw (psw : Word) (level : Nat) (ie : Bool) : Word :=
  setBitTo (putFld (setBitTo psw pswHND true) 10 9 level) pswIE ie

/-- An exception: its cause, its TRAP or BKPT code and the address that EXC_ADDR takes (R372, R384). -/
structure Exc where
  cause : Nat
  code : Nat := 0
  addr : Option Word := none
  deriving DecidableEq, Repr

/-- EXC_CAUSE and EXC_ADDR of an exception (R384). -/
def Core.noteExc (k : Core) (x : Exc) : Core :=
  let k := k.setCrw 0x41 (word (2 ^ 31 + x.code % 512 * 65536 + x.cause))
  match x.addr with
  | some a => k.setCrw 0x42 a
  | none => k

/-- Taking an exception (R384, R386): the frame, the vector and the new PSW, or lockup. -/
def takeExc (n : Nat) (x : Exc) (e : Env) (c : Chip) : Chip :=
  let k := c.core n
  let sp := k.reg 2
  if (k.crw 0x41).getLsbD 31 || sp.toNat % 4 ≠ 0 then lockup n e c
  else
    match pushWords n e k.frame (sp - 32).toNat c with
    | (false, c) => lockup n e c
    | (true, c) =>
      let v := c.vectorWord n 0
      if v.getLsbD 0 then lockup n e c
      else c.modCore n fun k => { (k.setReg 2 (sp - 32)).noteExc x with
        psw := handlerPsw k.psw k.level false, depth := 0, pc := v }

/-! ### Interrupt entry and return (R388 to R393) -/

/-- The highest level that a PSW lets in (R388, R391). -/
def Chip.admitted (c : Chip) (n : Nat) (psw : Word) : Option Nat :=
  if psw.getLsbD pswIE then
    c.highestLevel n (fun l => !psw.getLsbD pswHND || decide (bits psw 10 9 < l))
  else none

/-- The entry sequence of level `l` (R386, R389). -/
def enterLevel (n l : Nat) (e : Env) (c : Chip) : Chip :=
  let k := c.core n
  let sp := k.reg 2
  let v := c.vectorWord n (4 + l)
  if sp.toNat % 4 ≠ 0 || v.getLsbD 0 then lockup n e c
  else
    match pushWords n e k.frame (sp - 32).toNat c with
    | (false, c) => lockup n e c
    | (true, c) => c.modCore n fun k => { k.setReg 2 (sp - 32) with
        psw := handlerPsw k.psw l true, depth := 0, pc := v }

/-- A tail chain into level `p` (R393): g3 to g7 are free values. -/
def tailChain (n p : Nat) (e : Env) (c : Chip) : Chip :=
  let v := c.vectorWord n (4 + p)
  if v.getLsbD 0 then lockup n e c
  else
    let (f, c) := c.draw
    c.modCore n fun k =>
      let k := [3, 4, 5, 6, 7].foldl (fun k r => k.setReg r (Config.freeWord (f + r))) k
      { k with psw := handlerPsw k.psw p true, depth := 0, pc := v }

/-- The restored context of RETI (R391): PC, PSW, LOOPSTAT, g3 to g7, and g2 + 32. -/
def Core.unstack (k : Core) (ws : List Word) : Core :=
  let k := [3, 4, 5, 6, 7].foldl (fun k r => k.setReg r (ws.getD r 0)) k
  let k := k.setReg 2 (k.reg 2 + 32)
  { k with pc := ws.getD 0 0 &&& ~~~ 1, psw := ws.getD 1 0 &&& 0xF1F, depth := min 4 (bits (ws.getD 2 0) 2 0) }

/-! ### Debug halt at a boundary (R410) -/

/-- An enabled BRKn matches an instruction's address. -/
def Core.breakAt (k : Core) : Bool :=
  [0x64, 0x65, 0x66, 0x67].any fun r => (k.crw r).getLsbD 0 && (k.crw r).toNat / 2 == k.pc.toNat / 2

/-- The REASON of a halt that is due at this boundary (R410). A single step executes its instruction (R411). -/
def Core.haltDue (k : Core) : Option Nat :=
  if k.watchHit then some 3
  else if (k.crw 0x60).getLsbD 4 then some 0
  else if k.run = .running && !k.stepping && k.breakAt then some 2
  else none

/-- A watchpoint matches a load or a store of the word at `a` (R410). -/
def Core.watch (k : Core) (a : Nat) (isLoad isStore : Bool) : Core :=
  let hit := [0, 1].any fun i =>
    let acc := bits (k.crw (0x6A + i)) 1 0
    ((isLoad && acc % 2 == 1) || (isStore && acc / 2 == 1)) && (k.crw (0x68 + i)).toNat / 4 == a / 4
  if hit then { k with watchHit := true } else k

/-- A core halts; the general timers that its halt slows or freezes are brought up to the present count first (R545). -/
def haltNow (e : Env) (n reason : Nat) (c : Chip) : Chip := haltCore e n reason (c.timSyncAll e)

/-- A halt of core `n` that is due takes place; a core in WFI halts on a request (R409, R410). -/
def debugHalt (n : Nat) (e : Env) (c : Chip) : Chip :=
  let k := c.core n
  if k.run = .running || k.run = .waiting then
    match k.haltDue with
    | some r => haltNow e n r c
    | none => c
  else c

/-! ### One instruction -/

/-- What an instruction does: it completes, or it raises an exception and has had no effect (R373). -/
inductive Res where
  | done (c : Chip)
  | raise (x : Exc) (c : Chip)

/-- The single step that a resume asked for is complete (R411). -/
def stepDone (n : Nat) (e : Env) (c : Chip) : Chip :=
  let r := (c.core n).run
  if (c.core n).stepping && (r == .running || r == .waiting) then haltNow e n 4 c else c

/-- Core `n` executes one instruction, unless a halt is due before it. -/
def instr (n : Nat) (op : Env → Chip → Res) (e : Env) (c : Chip) : Chip :=
  let k := c.core n
  if k.run = .running then
    match k.haltDue with
    | some r => haltNow e n r c
    | none =>
      stepDone n e (match op e c with
        | .done c => c
        | .raise x c => takeExc n x e c)
  else c

/-- The exceptions by name (R372). -/
def excIllegal : Exc := { cause := 1 }
def excAlign (a : Word) : Exc := { cause := 2, addr := some a }
def excDataBus (a : Word) : Exc := { cause := 4, addr := some a }
def excLoopDepth : Exc := { cause := 5 }
def excAtomic (a : Word) : Exc := { cause := 6, addr := some a }

/-- The size in bytes of an encoding. -/
def isz (c16 : Bool) : Nat := if c16 then 2 else 4

/-- An instruction that only changes its core and goes on to its successor (R359). -/
def coreOp (n : Nat) (c16 : Bool) (f : Core → Core) (_ : Env) (c : Chip) : Res :=
  .done (c.modCore n fun k => (f k).sequential (isz c16))

/-- One that performs no loop-end step (R360). -/
def jumpOp (n : Nat) (f : Core → Core) (_ : Env) (c : Chip) : Res := .done (c.modCore n f)

/-- A result written to rd, with the status word it leaves where `f` holds. -/
def Core.result (k : Core) (rd : BitVec 5) (f : Bool) (v psw : Word) : Core :=
  { k.setReg rd.toNat v with psw := if f then psw else k.psw }

/-- A result with its four flags. -/
def Core.nzcv (k : Core) (rd : BitVec 5) (f : Bool) (r : Word × Nzcv) : Core := k.result rd f r.1 (withNzcv k.psw r.2)

/-- A result with N and Z. -/
def Core.nz (k : Core) (rd : BitVec 5) (f : Bool) (v : Word) : Core := k.result rd f v (withNZ k.psw v)

/-- Source values by field. -/
def Core.src (k : Core) (r : BitVec 5) : Word := k.reg r.toNat

/-- The carry flag. -/
def Core.carry (k : Core) : Bool := k.psw.getLsbD pswC

/-! ### The shifts (R344, R345) -/

/-- The four shifts of an amount. -/
inductive Shift where
  | sll
  | srl
  | sra
  | ror
  deriving DecidableEq, Repr

/-- Value and carry of a shift by `n`. -/
def shiftBy (op : Shift) (a : Word) (n : Nat) (c : Bool) : Word × Bool :=
  match op with
  | .sll => (a <<< n, sllCarry a n c)
  | .srl => (a >>> n, srCarry a n c)
  | .sra => (a.sshiftRight n, srCarry a n c)
  | .ror => let r := a.rotateRight n; (r, signBit r)

/-- A shift instruction. -/
def Core.shift (k : Core) (op : Shift) (rd ra : BitVec 5) (n : Nat) (f : Bool) : Core :=
  let (v, cy) := shiftBy op (k.src ra) n k.carry
  k.result rd f v (withNZC k.psw v cy)

/-! ### Fixed point and accumulators (R349, R350) -/

/-- A result that a clamp may have changed (R338). -/
def Core.clamped (k : Core) (rd : BitVec 5) (r : Int × Bool) : Core := (k.setReg rd.toNat (wordI r.1)).stick r.2

/-- Lane `i` of a Q15 pair. -/
def lane (w : Word) (i : Nat) : Int := sgn 16 (w.toNat / 2 ^ (16 * i))

/-- A Q15 pair from two clamped lanes. -/
def Core.lanes (k : Core) (rd : BitVec 5) (r0 r1 : Int × Bool) : Core :=
  (k.setReg rd.toNat (word ((r0.1 % 65536).toNat + 65536 * (r1.1 % 65536).toNat))).stick (r0.2 || r1.2)

/-- Lanes combined one by one. -/
def Core.perLane (k : Core) (rd ra rb : BitVec 5) (op : Int → Int → Int) : Core :=
  let f := fun i => satS 16 (op (lane (k.src ra) i) (lane (k.src rb) i))
  k.lanes rd (f 0) (f 1)

/-- Accumulate an exact value: modulo 2^72, Q where the exact sum lies outside the range (R350). -/
def Core.accumulate (k : Core) (a : BitVec 1) (x : Int) : Core :=
  let exact := (k.acc a.toNat).toInt + x
  (k.setAcc a.toNat (BitVec.ofInt 72 exact)).stick (satS 72 exact).2

/-- Sum of the two lane products. -/
def laneDot (a b : Word) : Int := lane a 0 * lane b 0 + lane a 1 * lane b 1

/-! ### Bit fields (R351) -/

/-- The width that is used at a position. -/
def fieldWidth (pos wm1 : Nat) : Nat := min (wm1 + 1) (32 - pos)

/-! ### Loads and stores (R352 to R355) -/

/-- A load: the loaded value wins over the base update where both name one register (R355). -/
def loadAt (n : Nat) (c16 : Bool) (sz : Nat) (rd : BitVec 5) (a : Word) (base : Option (Nat × Word)) (e : Env) (c : Chip) : Res :=
  if !loadSz sz then .raise excIllegal c
  else if a.toNat % szBytes sz ≠ 0 then .raise (excAlign a) c
  else
    match coreLoad n a.toNat (szBytes sz) e c with
    | (.error _, c) => .raise (excDataBus a) c
    | (.ok bs, c) =>
      .done (c.modCore n fun k =>
        let k := match base with
          | some (r, v) => k.setReg r v
          | none => k
        ((k.setReg rd.toNat (loadExt sz (leNat bs))).watch a.toNat true false).sequential (isz c16))

/-- A store. -/
def storeAt (n : Nat) (c16 : Bool) (sz : Nat) (rd : BitVec 5) (a : Word) (base : Option (Nat × Word)) (e : Env) (c : Chip) : Res :=
  if 2 < sz then .raise excIllegal c
  else if a.toNat % szBytes sz ≠ 0 then .raise (excAlign a) c
  else
    let v := (c.core n).src rd
    let c := coreStore n a.toNat (leBytes (szBytes sz) v.toNat) e c
    .done (c.modCore n fun k =>
      let k := match base with
        | some (r, v) => k.setReg r v
        | none => k
      (k.watch a.toNat false true).sequential (isz c16))

/-- LDX and STX: the address and the base update of their MODE (R353). -/
def indexedAt (n : Nat) (mode : BitVec 3) (sc : BitVec 2) (sz : BitVec 3) (ra rb : BitVec 5)
    (acc : Word → Option (Nat × Word) → Env → Chip → Res) (e : Env) (c : Chip) : Res :=
  if 4 < mode.toNat then .raise excIllegal c
  else
    let k := c.core n
    let (a, upd) := indexed mode.toNat (szBytes sz.toNat) (k.src ra) (k.src rb <<< sc.toNat)
    acc a (upd.map (ra.toNat, ·)) e c

/-! ### Control transfers and loops (R356 to R364) -/

/-- A taken branch or jump, with its link. -/
def Core.jump (k : Core) (size : Nat) (link : BitVec 5) (target : Word) : Core :=
  let l := k.pc + word size
  { k.setReg link.toNat l with pc := target }

/-- LOOP and LOOPI with their count (R358). -/
def loopOp (n : Nat) (count : Word) (endoff : BitVec 10) (_ : Env) (c : Chip) : Res :=
  let k := c.core n
  let ls := k.pc + 4
  let le := ls + 2 * word endoff.toNat
  if endoff = 0 then .raise excIllegal c
  else if count = 0 then .done (c.setCore n { k with pc := le })
  else if 4 ≤ k.depth then .raise excLoopDepth c
  else
    .done (c.setCore n { k with
      ls := putS 0 k.ls k.depth ls, le := putS 0 k.le k.depth le, lc := putS 0 k.lc k.depth count,
      depth := k.depth + 1, pc := ls })

/-! ### Atomic instructions (R365 to R367) -/

/-- SWAP and CAS: `f` says from the word read what is written and how the core changes. -/
def atomicAt (n : Nat) (a : Word) (f : Word → Option Word × (Core → Core)) (e : Env) (c : Chip) : Res :=
  let fin := fun (c : Chip) (w : Word) =>
    c.modCore n fun k => (((f w).2 k).watch a.toNat true (f w).1.isSome).sequential 4
  if a.toNat % 4 ≠ 0 then .raise (excAlign a) c
  else
    match regionOf a.toNat with
    | .local =>
      let at' := heldBy (.core n) a.toNat
      let w := word (leNat (c.fetchBytes e at' 4))
      .done (fin (match (f w).1 with
        | some v => c.setMemBytes at' (leBytes 4 v.toNat)
        | none => c) w)
    | .sram _ =>
      let c := wbDrain n e c
      let c := c.dropCopies e (a.toNat / 32)
      match busRead (.core n) a.toNat 4 e c with
      | (.error _, c) => .raise (excDataBus a) c
      | (.ok bs, c) =>
        let w := word (leNat bs)
        .done (fin (match (f w).1 with
          | some v => (busWrite (.core n) a.toNat (leBytes 4 v.toNat) e c).2
          | none => c) w)
    | _ => .raise (excAtomic a) c

/-! ### System instructions (R368, R391, R409, R438) -/

/-- MFC. -/
def mfcOp (n : Nat) (rd : BitVec 5) (ctl : Nat) (e : Env) (c : Chip) : Res :=
  let (v, c) := crRead e n ctl false c
  .done (c.modCore n fun k => (k.setReg rd.toNat v).sequential 4)

/-- MTC to LOOPSTAT or to a loop register performs no loop-end step (R360). -/
def loopCr (ctl : Nat) : Bool := ctl == 1 || (decide (4 ≤ ctl) && decide (ctl < 16))

/-- MTC. -/
def mtcOp (n : Nat) (ctl : Nat) (ra : BitVec 5) (e : Env) (c : Chip) : Res :=
  let v := (c.core n).src ra
  let c := crWrite e n ctl false v c
  .done (c.modCore n fun k => if loopCr ctl then k.plainNext 4 else k.sequential 4)

/-- BKPT: debug halt where a debugger has enabled it, else the exception (R368, R410). -/
def bkptOp (n : Nat) (c16 : Bool) (code : BitVec 9) (e : Env) (c : Chip) : Res :=
  if ((c.core n).crw 0x60).getLsbD 0 then .done (haltNow e n 1 (c.modCore n fun k => k.sequential (isz c16)))
  else .raise { cause := 8, code := code.toNat } c

/-- RETI (R387, R391, R393). -/
def retiOp (n : Nat) (e : Env) (c : Chip) : Res :=
  let k := c.core n
  let sp := k.reg 2
  if !k.psw.getLsbD pswHND then .raise excIllegal c
  else if sp.toNat % 4 ≠ 0 then .raise (excAlign sp) c
  else
    match pullWords n e 8 sp.toNat c with
    | (none, c) => .done (lockup n e c)
    | (some ws, c) =>
      match c.admitted n (ws.getD 1 0 &&& 0xF1F) with
      | some p => .done (tailChain n p e c)
      | none => .done (c.modCore n fun k => k.unstack ws)

/-- WFI: the write buffer leaves and the core waits, its PC after the instruction (R409, R423). -/
def wfiOp (n : Nat) (c16 : Bool) (e : Env) (c : Chip) : Res :=
  .done ((wbDrain n e c).modCore n fun k => { k.sequential (isz c16) with run := .waiting })

/-- A cache instruction on the line of an address, where the region is cached at all (R438). -/
def cacheOpAt (n : Nat) (a : Word) (holds : Region → Bool) (f : Env → Chip → Chip) (e : Env) (c : Chip) : Res :=
  let c := wbDrain n e c
  let c := if holds (regionOf a.toNat) then f e c else c
  .done (c.modCore n fun k => k.sequential 4)

/-- A level that ends WFI is presented (R409). -/
def Chip.wfiEnds (c : Chip) (n : Nat) : Bool :=
  let k := c.core n
  (c.highestLevel n (fun l => !k.psw.getLsbD pswHND || decide (k.level < l))).isSome || (k.crw 0x60).getLsbD 4

/-- A WFI that has its condition completes (R409). -/
def wakeCore (n : Nat) (c : Chip) : Chip :=
  if (c.core n).run = .waiting && c.wfiEnds n then c.modCore n (fun k => { k with run := .running }) else c

/-! ### What happens at an instruction boundary -/

/-- STORE_BUS is taken at a boundary (R385). -/
def takeStoreBus (n : Nat) (e : Env) (c : Chip) : Chip :=
  let k := c.core n
  match k.storeErr with
  | [] => c
  | a :: rest =>
    if k.run = .running then takeExc n { cause := 9, addr := some a } e (c.modCore n fun k => { k with storeErr := rest })
    else c

/-- At an instruction boundary the core accepts the highest acceptable level, unless a STORE_BUS is due (R388, R389). A
single step takes an interrupt only where STEP_IRQ says so, and halts at the handler (R411). -/
def interruptEntry (n : Nat) (e : Env) (c : Chip) : Chip :=
  let k := c.core n
  if k.run = .running then
    if k.storeErr ≠ [] then takeStoreBus n e c
    else if k.stepping && !(k.crw 0x60).getLsbD 3 then c
    else
      match c.admitted n k.psw with
      | some l => stepDone n e (enterLevel n l e c)
      | none => c
  else c

/-- A fetch or a load of the core's that met a bus error raises its exception (R384). -/
def takeFault (n : Nat) (e : Env) (c : Chip) : Chip :=
  let k := c.core n
  match k.fault with
  | none => c
  | some (cause, a) =>
    if k.run = .running then takeExc n { cause := cause, addr := some a } e (c.modCore n fun k => { k with fault := none })
    else c

end Sys2Proof.Machine
end

