-- ==== Sys2Proof/Machine/Settle.lean ====
section
/-! DEFINITION. Machine/Settle.lean: what a command makes due at once in the rest of the device, and the forms that every
meaning takes: an effect, an effect at the count at which it is due, an effect on the Vault domain (log entry 20). -/

namespace Sys2Proof.Machine

/-! ### What a command has left to do -/

/-- Steps 1 and 2 of the FATAL action that take no time (R614); the muting has its own row. -/
def fatalStop (e : Env) (c : Chip) : Chip :=
  if c.pwr.due.fatal then
    let c := c.pwrDo fun p => { p with due := { p.due with fatal := false } }
    ((scrAbort 0 e c).cancelArmed 4 2).displayFatal e.now
  else c

/-- A core whose reset is due executes nothing until the reset is performed (R584). -/
def stopForReset (e : Env) (n : Nat) (c : Chip) : Chip :=
  if (if n = 0 then c.pwr.due.core0 else c.pwr.due.core1) then
    (c.timSyncAll e).modCore n fun k => if k.run = .held then k else { k with run := .held, cyc := k.cycles e.now }
  else c

/-- Effects on the device that follow a command at once. -/
def follow (e : Env) (c : Chip) : Chip :=
  let c := fatalStop e c
  let c := stopForReset e 1 (stopForReset e 0 c)
  let c := dmaSettle e c
  let c := takeFault 1 e (takeFault 0 e c)
  let c := hushWake e c
  let c := if c.pwr.sub = .none then wakeCore 1 (wakeCore 0 c) else c
  let c := ledgerFollow e c
  hostSettle e c

/-- A core waits for what `follow` does to it. -/
def Core.expects (k : Core) : Bool := k.fault.isSome || k.run == .waiting

/-- A host channel has a request that its reply waits for. -/
def HostChan.expects (h : HostChan) : Bool := h.pending.isSome

/-- Something is left that `follow` may have to do. -/
def Chip.duties (c : Chip) : Bool :=
  c.pwr.due != {} || c.pwr.sub != .none || c.ldg.recheck
    || !c.dma.aborts.isEmpty || !c.dma.words.isEmpty || c.dma.chans.any (fun x => x.2.post.isSome)
    || c.core0.expects || c.core1.expects
    || !c.host.held.isEmpty || c.host.chans.any (fun x => x.2.expects)

/-- A chip reset that a command has asked for takes place (R582, R583). -/
def dueReset (s : State) : State :=
  match s.chip.pwr.due.chip with
  | some cause => s.chipReset (chipResetBy cause false false)
  | none => s

/-- The state after what follows a command at once. -/
def State.settle (s : State) : State :=
  if s.chip.duties then dueReset ((s.on follow).on follow) else s

/-! ### The forms of a meaning -/

/-- The core domain has its supplies (R579, R649). -/
def Chip.powered (c : Chip) : Bool := c.mode != .vault && c.pwr.boot != .noSupply

/-- A command on a device whose core domain is powered; on another it has no effect (log entry 21). -/
def State.cmd (f : State → State) (s : State) : State := if s.chip.powered then (f s).settle else s

/-- An effect on the chip. -/
def run (f : Env → Chip → Chip) (s : State) : Host.Outcome State Fault Refusal := .next (s.cmd (·.on f))

/-- An effect on the chip that is due at absolute count `t`: the count moves on to `t`, unless a longer command has moved it
further, and the effect is that at `t` (log entry 22). A count that runs slow moves at Vault-clock edges alone, and nothing is
due before it has come to `t` (R29). -/
def runAt (t : Nat) (f : Env → Chip → Chip) (s : State) : Host.Outcome State Fault Refusal :=
  .next (s.cmd fun s => if s.chip.slow && decide (s.clock.abs < t) then s else (s.advTo t).onAt t f)

/-- An effect that has a count of its own, or does not happen. -/
def runDue (t : Option Nat) (f : Env → Chip → Chip) (s : State) : Host.Outcome State Fault Refusal :=
  match t with
  | some t => runAt t f s
  | none => run (fun _ c => c) s

/-- An effect on the chip at the end of `d` counts of time from now, which a slow count does not count. -/
def runAfter (d : Nat) (f : Env → Chip → Chip) (s : State) : Host.Outcome State Fault Refusal :=
  if s.chip.slow then run f s else runAt (s.clock.abs + d) f s

/-- Time passes with no command waiting: one count of MCLK while the metronome runs (R27, R29; DESIGN CHOICE, log entry
23). -/
def State.idle (s : State) : State :=
  if s.chip.powered && !s.chip.slow then s.advTo (s.clock.abs + 1) else s

/-- An effect on the state. -/
def runState (f : State → State) (s : State) : Host.Outcome State Fault Refusal := .next (s.cmd f)

/-- An effect that reaches the Vault domain too, in any mode. -/
def runVault (f : State → State) (s : State) : Host.Outcome State Fault Refusal := .next (f s).settle

/-! ### Accesses to registers by a master (R11 to R16, R448) -/

/-- A word written by master `m` to the register at `a`. -/
def regStore (m : Master) (a : Nat) (v : Word) (e : Env) (c : Chip) : Chip :=
  if admits 8 m.port then regWrite m a v e c else c.busError m 8 2 a true

/-- A word read by master `m` from the register at `a`: the master receives it. -/
def regLoad (m : Master) (a : Nat) (e : Env) (c : Chip) : Chip :=
  if admits 8 m.port then
    let (v, c) := regRead m a e c
    c.answered m v
  else c.busError m 8 2 a false

/-- A command that is the write of a register. -/
def store (m : Master) (a : Nat) (v : Word) (s : State) : Host.Outcome State Fault Refusal := run (regStore m a v) s

/-- A command that is the read of a register. -/
def load (m : Master) (a : Nat) (s : State) : Host.Outcome State Fault Refusal := run (regLoad m a) s

/-- An effect at a tick, at the count `t` at which it is due; no tick fires while MCLK is stopped (R29). -/
def runTick (t : Nat) (f : Env → Chip → Chip) (s : State) : Host.Outcome State Fault Refusal :=
  if s.chip.slow then run (fun _ c => c) s else runAt t f s

/-- An effect at a tick that is due only sometimes. -/
def runTickDue (t : Option Nat) (f : Env → Chip → Chip) (s : State) : Host.Outcome State Fault Refusal :=
  if s.chip.slow then run (fun _ c => c) s else runDue t f s

/-- One instruction of a core. -/
def quire (core : BitVec 1) (op : Env → Chip → Res) (s : State) : Host.Outcome State Fault Refusal :=
  run (instr core.toNat op) s

end Sys2Proof.Machine
end

