-- ==== Sys2Proof/Machine/Ticks.lean ====
section
/-! DEFINITION. Machine/Ticks.lean: what happens at a block tick: the output block that begins to play, pending settings,
commits and swaps, and the computation that begins (01_metronome.md, R31 to R47; 02_charter.md, R76 to R89;
17_modes_power_reset.md, R568, R570; 18_ledger_and_faults.md, R614 to R618). -/

namespace Sys2Proof.Machine

/-! ### When the ticks come (R31, R32, R35, R40) -/

/-- The commit tick of a waiting commit, as seen from `now`: the first multiple of the new Cb after the COMMIT that the
slow count has not passed (R40). -/
def Chip.commitTick (c : Chip) (now : Nat) : Option Nat :=
  c.ldr.commitAt.map fun (at', ch, _) =>
    let cb := ({ fs := ch.fs, blk := ch.blk, lat := ch.lat, fclass := 0 } : Ticks).cb
    let t := multAfter cb at'
    match c.met.lastBlock with
    | some l => if t ≤ l then multAfter cb l else t
    | none => if t < now then multAt cb now else t

/-- The next block tick that has not fired. -/
def Chip.nextBlock (c : Chip) (now : Nat) : Nat :=
  let cb := c.met.ticks.cb
  let t := match c.met.lastBlock with
    | some l => multAfter cb l
    | none => multAt cb now
  match c.commitTick now with
  | some u => min t u
  | none => t

/-- The next sample tick that has not fired. -/
def Chip.nextSample (c : Chip) (now : Nat) : Nat :=
  match c.met.lastSample with
  | some l => multAfter c.met.ticks.cs l
  | none => multAt c.met.ticks.cs now

/-- The next frame tick that has not fired: every F blocks from the start of frame 0. -/
def Chip.nextFrame (c : Chip) (now : Nat) : Nat :=
  let from0 := c.met.frame0
  match c.met.lastFrame with
  | some l => if l < from0 then from0 else from0 + multAfter c.frameCounts (l - from0)
  | none => from0 + multAt c.frameCounts (now - from0)

/-! ### The output block that begins to play -/

/-- Multiply every output channel by num m / den at sample m of the block. -/
def Chip.scaleOutputs (c : Chip) (den : Nat) (num : Nat → Int) : Chip :=
  c.audDo fun a => { a with out := scaleAll den num a.out }

/-- The fabrics were computing the block that plays from the tick at `t` (R76, R566, R576). -/
def Chip.computed (c : Chip) (t : Nat) : Bool :=
  c.mode == .perform && c.ldr.live.isSome && c.pwr.sub == .none && decide (c.pwr.resumeAt < t)

/-- The two-block ramp that begins at the tick at `t0` (R83, R568). -/
def Chip.twoBlockRamp (c : Chip) (t0 t : Nat) : Chip :=
  let b := c.met.ticks.b
  if decide (t0 ≤ t ∧ t < t0 + 2 * c.met.ticks.cb) then
    let m0 := (t - t0) / c.met.ticks.cs
    c.scaleOutputs (2 * b) (fun m => ((2 * b : Nat) : Int) - ((m0 + m + 1 : Nat) : Int))
  else c

/-- What the mute does to the block that begins to play (R614, R615). -/
def Chip.playMuted (c : Chip) (m : Mute) : Chip :=
  let b := c.met.ticks.b
  match m with
  | .off => c
  | .due => c
  | .ramp => c.scaleOutputs b (fun m => ((b - 1 - m : Nat) : Int))
  | .on => c.audDo fun a => { a with out := [] }
  | .lifting => c.audDo fun a => { a with out := [] }
  | .rise => c.scaleOutputs b (fun m => ((m + 1 : Nat) : Int))
  | .riseDue => c.scaleOutputs b (fun m => ((m + 1 : Nat) : Int))

/-- The mute moves on at the block tick at `t`; answers by what the block that begins to play is played. -/
def muteTick (t : Nat) (c : Chip) : Mute × Chip :=
  match c.flt.muteAt with
  | some (u, m) => if u = t then (m, c) else go c
  | none => go c
where
  /-- the step itself -/
  go (c : Chip) : Mute × Chip :=
    let m := c.flt.mute
    let set := fun (n : Mute) (c : Chip) => { c with flt := { c.flt with mute := n, muteAt := some (t, m) } }
    match m with
    | .off => (m, c)
    | .due => (m, set .ramp (c.setBit A.FLT_STAT 2))
    | .ramp => (m, set .on c)
    | .on => (m, c)
    | .lifting => (m, set .rise c)
    | .rise => (m, set .off c)
    | .riseDue => (m, set .ramp (c.setBit A.FLT_STAT 2))

/-- The run of consecutive blocks with an overrun. -/
def Chip.setRun (c : Chip) (n : Nat) : Chip := { c with flt := { c.flt with overrunRun := n } }

/-- Overruns of the block whose tick is at `t`: bits 0 to 7 the lanes, bit 8 the effect fabric (R617, R618); their faults are
taken in the order of R611. -/
def overruns (late t : Nat) (e : Env) (c : Chip) : Chip :=
  if late % 512 = 0 then { c with flt := { c.flt with overrunRun := 0 } }
  else
    let k := c.met.ticks.block t
    let lanes := late % 256
    let fx := late / 256 % 2
    let c := ((c.inc A.FLT_OVERRUNS).wr A.FLT_OVR_LAST (word k)).wr A.FLT_OVR_LANES (word (256 * fx + lanes))
    let run := c.flt.overrunRun + 1
    let limit := c.fld A.FLT_CFG 11 8
    let c := if limit ≠ 0 && decide (limit ≤ run) then (c.report e 0x10 clsSevere run k).setRun 0 else c.setRun run
    let c := if lanes = 0 then c else c.report e 0x0E clsRecoverable lanes k
    if fx = 0 then c else c.report e 0x0F clsRecoverable 0 k

/-- The block that plays from the tick at `t`: computed to its end, ramped and muted (R42, R83, R568, R614, R617). -/
def playBlock (late t : Nat) (e : Env) (c : Chip) : Chip :=
  let (m, c) := muteTick t c
  if c.computed t then
    let c := c.computeVoices e t (late % 256)
    let c := c.drainVoiceRecords e c.que.skid.length
    let c := (c.fabricBlock t (late / 256 % 2 == 1)).fabricPeak
    let c := match c.ldr.ramp with
      | some r => c.twoBlockRamp (r + c.met.ticks.cb) t
      | none => c
    let c := match c.pwr.ramp with
      | some t0 => c.twoBlockRamp t0 t
      | none => c
    overruns late t e (c.playMuted m)
  else (c.setRun 0).audDo fun a => { a with out := [] }

/-! ### CONFIGURE is entered (R568) -/

/-- The mute ramp toward CONFIGURE has been played. -/
def configureTick (t : Nat) (e : Env) (c : Chip) : Chip :=
  match c.pwr.ramp with
  | some t0 =>
    if t0 + 2 * c.met.ticks.cb ≤ t then
      let c := c.endVoices e (fun _ => true) (BitVec.ofNat 48 t)
      let c := (c.chimesOff.setMode .configure).setBit A.SYS_MODE_EVT 0
      c.pwrDo fun p => { p with ramp := none }
    else c
  | none => c

/-! ### Pending settings (R86, R125) -/

/-- The node of effect unit `u` in the structure that owns it. -/
def Chip.unitOwner (c : Chip) (u : Nat) : Option (Charter × Node) :=
  match c.ldr.live.bind (fun ch => (ch.unitNode u).map (ch, ·)) with
  | some x => some x
  | none => c.ldr.old.bind (fun ch => (ch.unitNode u).map (ch, ·))

/-- The group applies at a reload, not at a block tick (R86). -/
def timerGroup (arm : Nat) : Bool := arm / 65536 == 0x600F

/-- A pending copy applies at the block tick at `t`, with what its block does then. -/
def applyArm (arm t : Nat) (e : Env) (c : Chip) : Chip :=
  if (c.pendingGroup arm).isNone || timerGroup arm then c
  else
    let c := c.applyGroup arm
    if arm / 65536 = 0x6005 then
      let u := arm % 4096 / 64
      match c.unitOwner u with
      | some (ch, n) => c.unitApplied (some n) (hasFb ch n) u
      | none => c.unitApplied none false u
    else if arm / 65536 = 0x6009 then directApplied (arm % 256 / 32) e c
    else if 0x70004000 ≤ arm then c.chimeKey ((arm - 0x70004000) / 16) t
    else c

/-- Every pending copy armed before the tick at `t` applies. -/
def applyArmed (t : Nat) (e : Env) (c : Chip) : Chip :=
  (c.armed.filter (fun g => decide (g.2.1 < t))).foldl (fun c g => applyArm g.1 t e c) c

/-! ### Wheels and streams of a structure (R456, R458, R503) -/

/-- Wheels apply; the accounts of masters that hold slots in them are kept. -/
def Chip.setWheels (c : Chip) (ws : List (Nat × List Nat)) : Chip :=
  let holds := fun (t m : Nat) => ws.any (fun w => w.1 == t && w.2.contains m)
  { c with bus := { c.bus with wheels := ws, accounts := dropS (fun k => !holds (k / 16) (k % 16)) c.bus.accounts } }

/-! ### The commit (R40, R76, R84, R89, R102, R182, R199, R253, R301, R328) -/

/-- A fence's line loses its meaning: the frame length, the display's kind or its mode changes (R328). -/
def fenceMoves (c : Chip) (n : Nat) (d : DisplaySec) : Bool :=
  c.met.ticks.n ≠ n || c.dkind ≠ d.kind || c.dsec.mode ≠ d.mode

/-- The structure `ch` becomes live at the commit tick `t`; COMMIT has then completed (R73). -/
def commitNow (ch : Charter) (src t : Nat) (e : Env) (c : Chip) : Chip :=
  let old := c.ldr.live
  let ticks : Ticks := { fs := ch.fs, blk := ch.blk, lat := ch.lat, fclass := ch.display.fclass }
  let moves := fenceMoves c ticks.n ch.display
  let was := c.met.ticks
  let c := c.ldrDo fun l => { l with
    live := some ch, liveSrc := src, old := none, oldSrc := 0, plan := none, swapAt := none, ramp := none, commitAt := none }
  let c := (c.wr A.CHT_LIVE_SERIAL ch.serial).result 2 0 0
  let c := { c with met := { c.met with
    ticks := ticks, frame0 := t, lastFrame := some (t - 1), lastBlock := some (max (t - 1) (c.met.lastBlock.getD 0)) } }
  let c := if ticks.cb = was.cb then c else c.setBit A.MET_STAT 4
  let c := ((c.setMode .perform).setBit A.SYS_MODE_EVT 1).pwrDo fun p => { p with resumeAt := t }
  let c := (c.commitQueues ch).setFld A.XMC_XSPI_CTL 1 0 ch.xspiDiv
  let c := { c with
    bus := { c.bus with wheels := ch.wheels, accounts := [] }
    flt := { c.flt with mute := .off }
    fx := { c.fx with prev := [], bus := [], lastOut := [], fade := false } }
  let c := (c.clrBit A.FLT_STAT 2).audDo fun a => { a with out := [] }
  let shared := fun v => (old.map (fun o => sharedVoice o ch v)).getD false
  let c := ((c.changeVoices shared).changeUnits ch (fun _ => false) true).publishTh ch
  let c := ((c.displayCommit ch.display).portsChange ch).dmaStreams
  let c := if moves then c.fenceChange e else c
  if ticks.fs = was.fs then c else c.usbRetune t

/-- A waiting commit takes effect if the tick at `t` is a commit tick of it (R40). -/
def commitTick (t : Nat) (e : Env) (c : Chip) : Chip :=
  match c.ldr.commitAt with
  | some (at', ch, src) =>
    let cb := ({ fs := ch.fs, blk := ch.blk, lat := ch.lat, fclass := 0 } : Ticks).cb
    if decide (at' < t) && t % cb == 0 then commitNow ch src t e c else c
  | none => c

/-! ### The swap (R78 to R84, R89, R102, R182, R458, R503) -/

/-- The hard change's ramp begins at the tick that begins computation of block s − 2 (R83). -/
def hardRamp (t : Nat) (c : Chip) : Chip :=
  match c.ldr.plan with
  | some p =>
    if c.ldr.state = .armed && p.hard && c.ldr.ramp.isNone && decide (p.atAbs ≤ t + 3 * c.met.ticks.cb) then
      c.ldrDo fun l => { l with ramp := some (p.atAbs - 3 * c.met.ticks.cb) }
    else c
  | none => c

/-- Computation of swap block s begins: the new structure computes, with the old one beside it in a crossfade. -/
def swapBegin (p : Plan) (cand live : Charter) (e : Env) (c : Chip) : Chip :=
  let time := BitVec.ofNat 48 p.atAbs
  let fades := !p.hard && decide (1 ≤ p.x)
  let voice := sharedVoice live cand
  let unit := sharedUnit live cand
  let c := if p.hard then c.endVoices e (fun _ => true) time
    else if fades then c
    else c.endVoices e (fun v => !voice v) time
  let c := if fades then
      c.ldrDo fun l => { l with live := some cand, old := some live, oldSrc := l.liveSrc, liveSrc := l.candSrc,
                                 state := .xfade, swapAt := some p.atAbs, plan := some { p with begun := true }, ramp := none }
    else
      ((c.ldrDo fun l => { l with live := some cand, liveSrc := l.candSrc, candSrc := 0, cand := none, state := .empty,
                                  swapAt := some p.atAbs, plan := none, ramp := none }).wr A.CHT_LIVE_SERIAL cand.serial).wr
        A.CHT_CAND_SERIAL 0
  let c := c.changeVoices voice
  let leaving := fun u => fades && (live.unitNode u).isSome && (cand.unitNode u).isNone
  let c := (c.oldOuts fades).changeUnits cand (fun u => unit u || leaving u) p.hard
  let c := ((List.range 12).filter leaving).foldl (fun c u =>
    c.resetUnitCopies (((live.unitNode u).map (·.kind)).getD 0) u) c
  let c := c.publishTh cand
  let c := c.setWheels (if fades then unionWheels live.wheels cand.wheels else cand.wheels)
  (c.setFld A.XMC_XSPI_CTL 1 0 cand.xspiDiv).dmaStreams

/-- At the tick at `t`: the computation of an armed swap's block s begins at the tick one block before s. -/
def swapBeginTick (t : Nat) (e : Env) (c : Chip) : Chip :=
  match c.ldr.plan, c.ldr.cand, c.ldr.live with
  | some p, some cand, some live =>
    if c.ldr.state = .armed && decide (p.atAbs ≤ t + c.met.ticks.cb) then swapBegin p cand live e c else c
  | _, _, _ => c

/-- At swap block s itself: CHT_INT.SWAP, the queue map, the ports, the display and frame 0 (R84, R102, R301). -/
def swapTick (t : Nat) (e : Env) (c : Chip) : Chip :=
  match c.ldr.swapAt, c.ldr.live with
  | some u, some ch =>
    if u ≤ t then
      let new : Ticks := { c.met.ticks with fclass := ch.display.fclass }
      let moves := fenceMoves c new.n ch.display
      let newN := c.met.ticks.n ≠ new.n
      let c := (c.ldrDo fun l => { l with swapAt := none }).setBit A.CHT_INT 1
      let c := c.swapQueues ch
      let c := { c with met := { c.met with ticks := new, frame0 := if newN then u else c.met.frame0
                                            lastFrame := if newN then some (u - 1) else c.met.lastFrame } }
      let c := c.displaySwap ch.display newN
      let c := c.portsChange ch
      if moves then c.fenceChange e else c
    else c
  | _, _ => c

/-- The old structure stops at the tick that begins computation of the block after the crossfade (R81, R458, R503). -/
def dropTick (t : Nat) (e : Env) (c : Chip) : Chip :=
  match c.ldr.plan, c.ldr.old, c.ldr.live with
  | some p, some _, some ch =>
    let cb := c.met.ticks.cb
    let stop := p.atAbs + p.x * cb
    if c.ldr.state = .xfade && decide (stop ≤ t + cb) then
      let c := c.endVoices e (fun v => (entryIn (some ch) v).kind == 0) (BitVec.ofNat 48 stop)
      let c := (c.ldrDo fun l => { l with old := none }).dropOld
      let c := c.changeUnits ch (fun u => (ch.unitNode u).isSome) false
      (c.setWheels ch.wheels).dmaStreams
    else c
  | _, _, _ => c

/-- The last crossfade block has been played (R74, R84). -/
def xfadeTick (t : Nat) (c : Chip) : Chip :=
  match c.ldr.plan, c.ldr.live with
  | some p, some ch =>
    if c.ldr.state = .xfade && decide (p.atAbs + p.x * c.met.ticks.cb ≤ t) then
      let c := c.ldrDo fun l => { l with state := .empty, plan := none, cand := none, candSrc := 0, oldSrc := 0 }
      ((c.wr A.CHT_LIVE_SERIAL ch.serial).wr A.CHT_CAND_SERIAL 0).setBit A.CHT_INT 2
    else c
  | _, _ => c

/-- What the loader does at a block tick. -/
def loaderTick (t : Nat) (e : Env) (c : Chip) : Chip :=
  let c := swapTick t e (commitTick t e c)
  let c := xfadeTick t (dropTick t e c)
  swapBeginTick t e (hardRamp t c)

/-! ### The block tick -/

/-- Every effect unit resumes cleared after Drowse (R194). -/
def clearUnits (c : Chip) : Chip :=
  if c.fx.clearAll then
    let c := (List.range 12).foldl (fun c u => c.clearUnit u) c
    { c with fx := { c.fx with clearAll := false } }
  else c

/-- The chime sum of the block whose computation begins at the tick at `t`. -/
def chimesBegin (t : Nat) (c : Chip) : Chip := if c.computed (t + 1) then c.chimeBlock else c

/-- The block tick at the present count; `late`: the lanes (bits 0 to 7) and the effect fabric (bit 8) that have not
completed the block that begins to play. -/
def blockTick (late : Nat) (e : Env) (c : Chip) : Chip :=
  let t := e.now
  let c := { c with met := { c.met with lastBlock := some t } }
  let c := playBlock late t e (configureTick t e c)
  let c := (c.closeInput t).ringExchange
  let c := (List.range 16).foldl (fun c n => Chip.chimePass n t c) c
  let c := applyArmed t e (c.applyVoiceWrites t)
  let c := clearUnits (loaderTick t e c)
  let c := (chimesBegin t c).dmaRenew
  hushTick e c

/-- The next intake close that has not happened, and the tick of the block that it closes (R43). -/
def Chip.nextClose (c : Chip) (now : Nat) : Nat × Nat :=
  let cb := c.met.ticks.cb
  let t := match c.met.lastBlock with
    | some l => if l % cb = 0 then l + cb else multAfter cb l + cb
    | none => let u := multAfter cb now; if now ≤ u - cb + cb / 4 then u else u + cb
  let t := if c.stk.closed = some t then t + cb else t
  (t - cb + cb / 4, t)

/-- The allocator dispatches: a structure runs and the device does not sleep (R102, R572). -/
def Chip.allocates (c : Chip) : Bool := c.mode == .perform && c.ldr.live.isSome && c.pwr.sub == .none

end Sys2Proof.Machine
end

