-- ==== Sys2Proof/Machine/CharterRows.lean ====
section
/-! DEFINITION. Machine/CharterRows.lean: the meanings of the commands of the Charter's loader, of commits and swaps, and of
the coupled groups (02_charter.md, R74 to R87; R40). -/

namespace Sys2Proof.Machine

/-! ### The loader's operations (R72 to R80) -/

/-- VERIFY (R74). -/
def execVerify (src : Nat) (s : State) : Host.Outcome State Fault Refusal := run (fun _ c => verifyStart src c) s

/-- VERIFY_COMPLETE (R72). -/
def execVerifyComplete (s : State) : Host.Outcome State Fault Refusal := run verifyComplete s

/-- COMMIT (R76). -/
def execCommit (s : State) : Host.Outcome State Fault Refusal := run commitOp s

/-- COMMIT_TAKES_EFFECT (R40): at the commit tick of a waiting commit. -/
def execCommitTakesEffect (s : State) : Host.Outcome State Fault Refusal :=
  runTickDue (s.chip.commitTick s.clock.abs) (fun e c => commitTick e.now e c) s

/-- PLAN_SWAP (R78). -/
def execPlanSwap (s : State) : Host.Outcome State Fault Refusal := run planSwap s

/-- ARM_SWAP (R79). -/
def execArmSwap (s : State) : Host.Outcome State Fault Refusal := run armSwap s

/-- CANCEL (R74). -/
def execCancel (s : State) : Host.Outcome State Fault Refusal := run (fun _ c => cancelOp c) s

/-- PROGRAM (R77). -/
def execProgram (slot : Nat) (s : State) : Host.Outcome State Fault Refusal := run (programSlot slot) s

/-- ERASE (R74). -/
def execErase (slot : Nat) (s : State) : Host.Outcome State Fault Refusal := run (eraseOp slot) s

/-- NVM_OPERATION_COMPLETE (R77); `ok`: its verify succeeds. -/
def execNvmOperationComplete (ok : Bool) (s : State) : Host.Outcome State Fault Refusal := run (fun _ c => nvmDone ok c) s

/-- CHT_SWAP_PARAM_WRITE (R80). -/
def execChtSwapParamWrite (xfade : Bool) (v : Word) (s : State) : Host.Outcome State Fault Refusal :=
  run (fun _ c => swapParamWrite xfade v c) s

/-! ### A swap in time (R81, R83) -/

/-- The tick at which an armed hard change's ramp begins (R83). -/
def Chip.rampDue (c : Chip) : Option Nat :=
  match c.ldr.plan with
  | some p => if c.ldr.state = .armed && p.hard then some (p.atAbs - 3 * c.met.ticks.cb) else none
  | none => none

/-- The tick of swap block s, of a swap that is armed or has begun to compute (R81). -/
def Chip.swapDue (c : Chip) : Option Nat :=
  match c.ldr.swapAt, c.ldr.plan with
  | some u, _ => some u
  | none, some p => if c.ldr.state = .armed then some p.atAbs else none
  | none, none => none

/-- The tick after the last crossfade block (R81). -/
def Chip.xfadeDue (c : Chip) : Option Nat :=
  match c.ldr.plan with
  | some p => if c.ldr.state = .xfade then some (p.atAbs + p.x * c.met.ticks.cb) else none
  | none => none

/-- HARD_CHANGE_RAMP (R83). -/
def execHardChangeRamp (s : State) : Host.Outcome State Fault Refusal :=
  runTickDue s.chip.rampDue (fun e c => hardRamp e.now c) s

/-- SWAP_TAKES_EFFECT (R81). -/
def execSwapTakesEffect (s : State) : Host.Outcome State Fault Refusal :=
  runTickDue s.chip.swapDue (fun e c => swapTick e.now e (swapBeginTick e.now e c)) s

/-- XFADE_END (R81, R84). -/
def execXfadeEnd (s : State) : Host.Outcome State Fault Refusal :=
  runTickDue s.chip.xfadeDue (fun e c => xfadeTick e.now (dropTick e.now e (swapTick e.now e c))) s

/-! ### Coupled groups (R85 to R87) -/

/-- GROUP_MEMBER_WRITE (R85). -/
def execGroupMemberWrite (m : Master) (addr : Nat) (v : Word) (s : State) : Host.Outcome State Fault Refusal :=
  store m addr v s

/-- GROUP_ARM (R85, R87). -/
def execGroupArm (m : Master) (addr : Nat) (v : Word) (s : State) : Host.Outcome State Fault Refusal := store m addr v s

/-- The timer of a timer group's arming register. -/
def timerOfGroup (arm : Nat) : Nat := (arm - A.TIMn_CFG 0) / 0x20

/-- When the pending copy of a group is due: at the next block tick after the arming, or at the next reload (R86). -/
def Chip.groupDue (c : Chip) (arm now : Nat) : Option Nat :=
  match c.pendingGroup arm with
  | none => none
  | some (armedAt, _) =>
    if timerGroup arm then c.timDue (timerOfGroup arm)
    else
      let t := c.nextBlock now
      some (if armedAt < t then t else t + c.met.ticks.cb)

/-- GROUP_APPLY (R86). -/
def execGroupApply (arm : Nat) (s : State) : Host.Outcome State Fault Refusal :=
  if timerGroup arm then runDue (s.chip.groupDue arm s.clock.abs) (fun e c => c.timSync e (timerOfGroup arm)) s
  else runTickDue (s.chip.groupDue arm s.clock.abs) (fun e c => applyArm arm e.now e c) s

end Sys2Proof.Machine
end

