-- ==== Sys2Proof/Machine/DisplayRows.lean ====
section
/-! DEFINITION. Machine/DisplayRows.lean: the meanings of the commands of the display and the Scriptorium (08_display.md,
R270 to R302; 09_scriptorium.md, R303 to R330). -/

namespace Sys2Proof.Machine

/-! ### The display (R270 to R302) -/

/-- DISP_CTL_WRITE (R270). -/
def execDispCtlWrite (m : Master) (v : Word) (s : State) : Host.Outcome State Fault Refusal := store m A.DISP_CTL v s

/-- A line start, with the overtaking of the line whose fetch begins (R272, R329). -/
def lineTick (late : List (Nat × Nat)) (e : Env) (c : Chip) : Chip :=
  let c := lineStart late e c
  c.overtakeFetch (((c.beamAt e.now).1 + 1) % c.vTotal)

/-- DISP_LINE_START (R272); `late`: layers and the pixels of theirs that the fetch has brought in time. -/
def execDispLineStart (late : List (Nat × Nat)) (s : State) : Host.Outcome State Fault Refusal :=
  runTick (s.chip.nextLine s.clock.abs) (lineTick late) s

/-- DISP_TE_EDGE (R292). -/
def execDispTeEdge (s : State) : Host.Outcome State Fault Refusal := run teEdge s

/-- When the push or refresh in progress is complete. -/
def Chip.pushDue (c : Chip) : Option Nat := c.disp.push.map (·.finish)

/-- A push ends: a command that has drawn since it began may have overtaken it, and a fence armed for it fires at the
latest now (R293, R326, R329). -/
def pushEnd (e : Env) (c : Chip) : Chip :=
  let c := c.overtakePush c.scr.began e.now
  let c := if c.dirtyMap && c.disp.push.isSome then c.armedFires e false else c
  pushComplete e c

/-- PUSH_COMPLETE (R293). -/
def execPushComplete (s : State) : Host.Outcome State Fault Refusal := runTickDue s.chip.pushDue pushEnd s

/-- DISP_DBI_CMD (R293). -/
def execDispDbiCmd (m : Master) (v : Word) (s : State) : Host.Outcome State Fault Refusal := store m A.DISP_DBI_CMD v s

/-- DISP_DIRTY_MARK (R288). -/
def execDispDirtyMark (m : Master) (v : Word) (s : State) : Host.Outcome State Fault Refusal := store m A.DISP_DIRTY_MARK v s

/-- DISP_DIRTY_ALL (R288). -/
def execDispDirtyAll (m : Master) (v : Word) (s : State) : Host.Outcome State Fault Refusal := store m A.DISP_DIRTY_ALL v s

/-- DISP_CHR_CMD (R297). -/
def execDispChrCmd (m : Master) (v : Word) (s : State) : Host.Outcome State Fault Refusal := store m A.DISP_CHR_CMD v s

/-- RESYNC (R296): a write of DISP_CHR_CFG with RESYNC = 1. -/
def execResync (m : Master) (v : Word) (s : State) : Host.Outcome State Fault Refusal :=
  store m A.DISP_CHR_CFG (setBitTo v 17 true) s

/-- DISP_SR_WRITE (R298). -/
def execDispSrWrite (m : Master) (v : Word) (s : State) : Host.Outcome State Fault Refusal := store m A.DISP_SR v s

/-! ### The Scriptorium's engine (R319 to R323) -/

/-- SCR_EXECUTE (R319). -/
def execScrExecute (m : Master) (s : State) : Host.Outcome State Fault Refusal := store m A.SCR_GO 1 s

/-- SCR_START_LIST (R319). -/
def execScrStartList (m : Master) (s : State) : Host.Outcome State Fault Refusal := store m A.SCR_GO 2 s

/-- SCR_ABORT (R322): the command in progress ends after `rows` of its rows. -/
def execScrAbort (m : Master) (rows : Nat) (s : State) : Host.Outcome State Fault Refusal :=
  run (fun e c => if admits 8 m.port then scrAbort rows e c else c.busError m 8 2 A.SCR_CTL true) s

/-! ### The commands the engine carries out (R309 to R325) -/

/-- The engine carries out the command it has reached, if that has operation code `op`. -/
def engine (op : Nat) (f : ScrCmd → Env → Chip → Chip) (s : State) : Host.Outcome State Fault Refusal :=
  run (scrAt (· == op) f) s

/-- SCR_NOP (R309). -/
def execScrNop (s : State) : Host.Outcome State Fault Refusal := engine 0 (fun _ e c => c.scrNext e) s

/-- SCR_FILL (R310). -/
def execScrFill (s : State) : Host.Outcome State Fault Refusal := engine 1 scrWork s

/-- SCR_RECT (R310). -/
def execScrRect (s : State) : Host.Outcome State Fault Refusal := engine 2 scrWork s

/-- SCR_LINE (R311). -/
def execScrLine (s : State) : Host.Outcome State Fault Refusal := engine 3 scrWork s

/-- SCR_COPY (R313). -/
def execScrCopy (s : State) : Host.Outcome State Fault Refusal := engine 4 scrWork s

/-- SCR_KEYCOPY (R310). -/
def execScrKeycopy (s : State) : Host.Outcome State Fault Refusal := engine 5 scrWork s

/-- SCR_BLEND (R310). -/
def execScrBlend (s : State) : Host.Outcome State Fault Refusal := engine 6 scrWork s

/-- SCR_GLYPH (R312). -/
def execScrGlyph (s : State) : Host.Outcome State Fault Refusal := engine 7 scrWork s

/-- SCR_TILEW (R314). -/
def execScrTilew (s : State) : Host.Outcome State Fault Refusal := engine 8 scrWork s

/-- SCR_PACK (R315). -/
def execScrPack (s : State) : Host.Outcome State Fault Refusal := engine 9 scrWork s

/-- SCR_TARGET (R310). -/
def execScrTarget (s : State) : Host.Outcome State Fault Refusal := engine 0x0F scrTargetCmd s

/-- SCR_CLIP (R318). -/
def execScrClip (s : State) : Host.Outcome State Fault Refusal := engine 0x10 scrClip s

/-- SCR_FENCE (R325). -/
def execScrFence (s : State) : Host.Outcome State Fault Refusal := engine 0x11 scrFence s

/-- SCR_JUMP (R321). -/
def execScrJump (s : State) : Host.Outcome State Fault Refusal := engine 0x12 scrJump s

/-- END (R322): the engine stops with DONE. -/
def scrEnd (_ : ScrCmd) (_ : Env) (c : Chip) : Chip := c.scrStop 4

/-- SCR_END (R322). -/
def execScrEnd (s : State) : Host.Outcome State Fault Refusal := engine 0x13 scrEnd s

/-- SCR_UNKNOWN_OP (R309). -/
def execScrUnknownOp (s : State) : Host.Outcome State Fault Refusal :=
  run (scrAt (fun op => !scrOps.contains op) (fun _ e c => c.scrFail e { code := 1 })) s

/-- FENCE_FIRE (R327). -/
def execFenceFire (s : State) : Host.Outcome State Fault Refusal :=
  runDue (s.chip.fenceDue s.env) (fun e c => c.armedFires e false) s

end Sys2Proof.Machine
end

