-- ==== Sys2Proof/Machine/DmaRows.lean ====
section
/-! DEFINITION. Machine/DmaRows.lean: the meanings of the commands of the DMA channels (14_dma.md, R487 to R507). -/

namespace Sys2Proof.Machine

/-- The operation code and the condition, kind or reserved field of a program instruction's first word. -/
def insOp (w : Word) : Nat := bits w 31 28

/-! ### Channel control (R487, R504, R505, R501) -/

/-- DMA_START (R487). -/
def execDmaStart (m : Master) (ch : BitVec 4) (s : State) : Host.Outcome State Fault Refusal := store m (A.CHn_CTL ch.toNat) 1 s

/-- DMA_DISABLE (R504). -/
def execDmaDisable (m : Master) (ch : BitVec 4) (s : State) : Host.Outcome State Fault Refusal := store m (A.CHn_CTL ch.toNat) 4 s

/-- DMA_ABORT (R505). -/
def execDmaAbort (m : Master) (ch : BitVec 4) (s : State) : Host.Outcome State Fault Refusal := store m (A.CHn_CTL ch.toNat) 2 s

/-- DMA_COPY_COMPLETE (R489). -/
def execDmaCopyComplete (ch : BitVec 4) (s : State) : Host.Outcome State Fault Refusal := run (chCopyComplete ch.toNat) s

/-- DMA_EVT_SET (R501). -/
def execDmaEvtSet (m : Master) (v : Word) (s : State) : Host.Outcome State Fault Refusal := store m A.DMA_EVT_SET v s

/-- DMA_EVT_CLR (R501). -/
def execDmaEvtClr (m : Master) (v : Word) (s : State) : Host.Outcome State Fault Refusal := store m A.DMA_EVT_CLR v s

/-! ### Program instructions (R490 to R501) -/

/-- The channel's next instruction, if it is one of `want`. -/
def program (ch : BitVec 4) (want : Word → Bool) (s : State) : Host.Outcome State Fault Refusal :=
  run (chExec ch.toNat want) s

/-- A WAIT with the given COND; both forms of BLOCK have 0 (R496). -/
def waitOn (ch : BitVec 4) (cond : Nat) (s : State) : Host.Outcome State Fault Refusal :=
  program ch (fun w => insOp w == 5 && bits w 27 24 == cond) s

/-- A SIGNAL of the given kind (R499). -/
def signalOf (ch : BitVec 4) (kind : Nat) (s : State) : Host.Outcome State Fault Refusal :=
  program ch (fun w => insOp w == 6 && bits w 27 26 == kind) s

/-- DMA_END (R489). -/
def execDmaEnd (ch : BitVec 4) (s : State) : Host.Outcome State Fault Refusal := program ch (fun w => insOp w == 0) s

/-- DMA_MOVE (R492). -/
def execDmaMove (ch : BitVec 4) (s : State) : Host.Outcome State Fault Refusal := run (chCopyRow ch.toNat 1) s

/-- DMA_MOVE2D (R493). -/
def execDmaMove2d (ch : BitVec 4) (s : State) : Host.Outcome State Fault Refusal := run (chCopyRow ch.toNat 2) s

/-- DMA_LOOP (R495). -/
def execDmaLoop (ch : BitVec 4) (s : State) : Host.Outcome State Fault Refusal := program ch (fun w => insOp w == 3) s

/-- DMA_ENDLOOP (R495). -/
def execDmaEndloop (ch : BitVec 4) (s : State) : Host.Outcome State Fault Refusal := program ch (fun w => insOp w == 4) s

/-- WAIT_BLOCK (R496). -/
def execWaitBlock (ch : BitVec 4) (s : State) : Host.Outcome State Fault Refusal := waitOn ch 0 s

/-- WAIT_ABSBLOCK (R496). -/
def execWaitAbsblock (ch : BitVec 4) (s : State) : Host.Outcome State Fault Refusal := waitOn ch 1 s

/-- WAIT_SAMPLE (R496). -/
def execWaitSample (ch : BitVec 4) (s : State) : Host.Outcome State Fault Refusal := waitOn ch 2 s

/-- WAIT_LINE (R496). -/
def execWaitLine (ch : BitVec 4) (s : State) : Host.Outcome State Fault Refusal := waitOn ch 3 s

/-- WAIT_QUEUE (R496). -/
def execWaitQueue (ch : BitVec 4) (s : State) : Host.Outcome State Fault Refusal := waitOn ch 4 s

/-- WAIT_EVENT (R496). -/
def execWaitEvent (ch : BitVec 4) (s : State) : Host.Outcome State Fault Refusal := waitOn ch 5 s

/-- DMA_WAIT_COMPLETE (R497, R498). -/
def execDmaWaitComplete (ch : BitVec 4) (s : State) : Host.Outcome State Fault Refusal :=
  runDue (s.chip.waitDue s.env ch.toNat) (chWaitComplete ch.toNat) s

/-- SIGNAL_INT (R499). -/
def execSignalInt (ch : BitVec 4) (s : State) : Host.Outcome State Fault Refusal := signalOf ch 0 s

/-- SIGNAL_QUEUE (R499). -/
def execSignalQueue (ch : BitVec 4) (s : State) : Host.Outcome State Fault Refusal := signalOf ch 1 s

/-- SIGNAL_EVENT (R499). -/
def execSignalEvent (ch : BitVec 4) (s : State) : Host.Outcome State Fault Refusal := signalOf ch 2 s

/-- DMA_SET (R500). -/
def execDmaSet (ch : BitVec 4) (s : State) : Host.Outcome State Fault Refusal := program ch (fun w => insOp w == 7) s

/-! ### Errors (R491, R507) -/

/-- DMA_BUS_ERROR (R507). -/
def execDmaBusError (ch cause : BitVec 4) (s : State) : Host.Outcome State Fault Refusal :=
  run (chBusError ch.toNat cause.toNat) s

/-- When a channel's back-off ends (R507). -/
def Chip.backoffDue (c : Chip) (n : Nat) : Option Nat := if c.chState n = 3 then some (c.ch n).backoff else none

/-- DMA_BACKOFF_END (R507). -/
def execDmaBackoffEnd (ch : BitVec 4) (s : State) : Host.Outcome State Fault Refusal :=
  runDue (s.chip.backoffDue ch.toNat) (chBackoffEnd ch.toNat) s

/-- DMA_BAD_PROG (R490, R491, R495). -/
def execDmaBadProg (ch : BitVec 4) (s : State) : Host.Outcome State Fault Refusal := run (chBadRow ch.toNat) s

end Sys2Proof.Machine
end

