-- ==== Sys2Proof/Machine/HostRows.lean ====
section
/-! DEFINITION. Machine/HostRows.lean: the meanings of the commands of the host port (15_host_port.md, R513 to R535). -/

namespace Sys2Proof.Machine

/-- A frame with operation code `op` arrives (R513 to R516). -/
def request (ch op : Nat) (tag : BitVec 8) (payload : List Byte) (crc : BitVec 16) (dur : Nat) (s : State) :
    Host.Outcome State Fault Refusal :=
  runState (hostRequest ch op tag.toNat payload crc.toNat dur) s

/-! ### Frames (R515 to R535) -/

/-- HOST_LEN_FAULT (R515). -/
def execHostLenFault (ch : Nat) (tag : BitVec 8) (s : State) : Host.Outcome State Fault Refusal :=
  run (fun _ c => hostLenFault ch tag.toNat c) s

/-- HOST_GAP_TIMEOUT (R515): GAP_MS after the last byte of a frame. -/
def execHostGapTimeout (ch : Nat) (s : State) : Host.Outcome State Fault Refusal :=
  runAfter s.chip.gapCounts (fun _ c => hostGap ch c) s

/-- HOST_NOP (R516). -/
def execHostNop (ch : Nat) (tag : BitVec 8) (payload : List Byte) (crc : BitVec 16) (dur : Nat) (s : State) :
    Host.Outcome State Fault Refusal := request ch 0x00 tag payload crc dur s

/-- FETCH (R530). -/
def execFetch (ch : Nat) (tag : BitVec 8) (payload : List Byte) (crc : BitVec 16) (dur : Nat) (s : State) :
    Host.Outcome State Fault Refusal := request ch 0x01 tag payload crc dur s

/-- READ32 (R527). -/
def execRead32 (ch : Nat) (tag : BitVec 8) (payload : List Byte) (crc : BitVec 16) (dur : Nat) (s : State) :
    Host.Outcome State Fault Refusal := request ch 0x10 tag payload crc dur s

/-- WRITE32 (R527). -/
def execWrite32 (ch : Nat) (tag : BitVec 8) (payload : List Byte) (crc : BitVec 16) (dur : Nat) (s : State) :
    Host.Outcome State Fault Refusal := request ch 0x11 tag payload crc dur s

/-- READ_MEM (R527). -/
def execReadMem (ch : Nat) (tag : BitVec 8) (payload : List Byte) (crc : BitVec 16) (dur : Nat) (s : State) :
    Host.Outcome State Fault Refusal := request ch 0x12 tag payload crc dur s

/-- WRITE_MEM (R527). -/
def execWriteMem (ch : Nat) (tag : BitVec 8) (payload : List Byte) (crc : BitVec 16) (dur : Nat) (s : State) :
    Host.Outcome State Fault Refusal := request ch 0x13 tag payload crc dur s

/-- HOST_CHARTER (R528). -/
def execHostCharter (ch : Nat) (tag : BitVec 8) (payload : List Byte) (crc : BitVec 16) (dur : Nat) (s : State) :
    Host.Outcome State Fault Refusal := request ch 0x20 tag payload crc dur s

/-- HOST_MODE (R529). -/
def execHostMode (ch : Nat) (tag : BitVec 8) (payload : List Byte) (crc : BitVec 16) (dur : Nat) (s : State) :
    Host.Outcome State Fault Refusal := request ch 0x21 tag payload crc dur s

/-- HOST_RUN (R529). -/
def execHostRun (ch : Nat) (tag : BitVec 8) (payload : List Byte) (crc : BitVec 16) (dur : Nat) (s : State) :
    Host.Outcome State Fault Refusal := request ch 0x22 tag payload crc dur s

/-- HOST_UNASSIGNED_OP (R526): `op` is a code that the table of R525 does not assign. -/
def execHostUnassignedOp (ch : Nat) (op : BitVec 7) (tag : BitVec 8) (payload : List Byte) (crc : BitVec 16) (dur : Nat)
    (s : State) : Host.Outcome State Fault Refusal := request ch op.toNat tag payload crc dur s

/-- HOST_FORWARDED_REQUEST (R532): OP is 0x80 + `op`. -/
def execHostForwardedRequest (ch : Nat) (op : BitVec 7) (tag : BitVec 8) (payload : List Byte) (crc : BitVec 16) (dur : Nat)
    (s : State) : Host.Outcome State Fault Refusal := request ch (0x80 + op.toNat) tag payload crc dur s

/-! ### Replies (R517, R520, R533 to R535) -/

/-- HOST_SW_REPLY (R533). -/
def execHostSwReply (s : State) : Host.Outcome State Fault Refusal := run (fun _ c => hostTakeReply c) s

/-- HOST_SW_TIMEOUT (R534). -/
def execHostSwTimeout (ch : Nat) (s : State) : Host.Outcome State Fault Refusal :=
  runDue (s.chip.hostTimeoutAt ch) (hostSwTimeout ch) s

/-- HOST_REPLY_READ (R517 to R519, R535); `a0`: a parallel read of the port status. -/
def execHostReplyRead (ch : Nat) (a0 : Bool) (s : State) : Host.Outcome State Fault Refusal :=
  run (fun _ c => if a0 && ch == 0 && c.hostListens 0 && c.pinFunc 75 == 1 then hostPortStatus c.attn c else hostRead ch c.attn c) s

/-- HOST_ABANDON (R535). -/
def execHostAbandon (s : State) : Host.Outcome State Fault Refusal := run (fun _ c => hostAbandon c) s

/-- CACHE_CLR (R520): bit c of `mask` clears the cache of channel c. -/
def execCacheClr (m : Master) (mask : BitVec 3) (s : State) : Host.Outcome State Fault Refusal :=
  store m A.HOST_CTL (mask.setWidth 32) s

end Sys2Proof.Machine
end

