-- ==== Sys2Proof/Machine/LedgerRows.lean ====
section
/-! DEFINITION. Machine/LedgerRows.lean: the meanings of the commands of the Ledger, of faults, of the pins and of JTAG
(18_ledger_and_faults.md, R596 to R616; 19_pins_and_gpio.md, R630 to R642; R664). -/

namespace Sys2Proof.Machine

/-! ### The Ledger (R596 to R601) -/

/-- RING_OSCILLATOR_MEASURE (R596), at the temperature RTC_TEMP shows. -/
def execRingOscillatorMeasure (c0 c1 : BitVec 32) (s : State) : Host.Outcome State Fault Refusal :=
  runVault (·.on (fun _ c => ringMeasure c0.toNat c1.toNat (sgn 16 (c.rd A.RTC_TEMP).toNat) c)) s

/-- DAILY_SAMPLE (R601); `margin` is the least margin found in L2's cells and `verified` says that the record's write
verified. -/
def execDailySample (margin : Nat) (verified : Bool) (s : State) : Host.Outcome State Fault Refusal :=
  runVault (·.on (dailySample margin verified)) s

/-- LEDGER_INDICATOR_RESET (R600). -/
def execLedgerIndicatorReset (m : Master) (v : Word) (s : State) : Host.Outcome State Fault Refusal := store m A.LDG_CTL v s

/-! ### Faults (R610 to R616) -/

/-- The mute of a FATAL fault begins (R614). -/
def fatalMute (e : Env) (c : Chip) : Chip :=
  if c.flt.mute = .due || c.flt.mute = .riseDue then (muteTick e.now c).2 else c

/-- FATAL_MUTE (R614): at the next block tick. -/
def execFatalMute (s : State) : Host.Outcome State Fault Refusal := runTick (s.chip.nextBlock s.clock.abs) fatalMute s

/-- FLT_ACK (R613). -/
def execFltAck (m : Master) (v : Word) (s : State) : Host.Outcome State Fault Refusal := store m A.FLT_ACK v s

/-- UNMUTE (R615). -/
def execUnmute (m : Master) (s : State) : Host.Outcome State Fault Refusal := store m A.FLT_CTL 1 s

/-- RELEASE (R616); `debug`: the write comes through the DBG window. -/
def execRelease (m : Master) (debug : Bool) (s : State) : Host.Outcome State Fault Refusal :=
  run (fun e c => if debug then fltCtl m true 2 c else regStore m A.FLT_CTL 2 e c) s

/-- FLT_INJECT (R610). -/
def execFltInject (m : Master) (v : Word) (s : State) : Host.Outcome State Fault Refusal := store m A.FLT_INJECT v s

/-! ### Pins (R630 to R642) -/

/-- PIN_MUX_WRITE (R630, R633). -/
def execPinMuxWrite (m : Master) (p : Nat) (v : Word) (s : State) : Host.Outcome State Fault Refusal :=
  store m (A.PINp_MUX p) v s

/-- PIN_MASK_WINDOW_END (R631). -/
def execPinMaskWindowEnd (p : Nat) (level : Bool) (s : State) : Host.Outcome State Fault Refusal :=
  runDue (if s.chip.pinBusy p then some (s.chip.pinMaskDue p) else none) (fun _ c => pinMaskEnd p level c) s

/-- PIN_SET (R635). -/
def execPinSet (m : Master) (x : Nat) (v : Word) (s : State) : Host.Outcome State Fault Refusal := store m (A.PIN_SETx x) v s

/-- PIN_CLR (R635). -/
def execPinClr (m : Master) (x : Nat) (v : Word) (s : State) : Host.Outcome State Fault Refusal := store m (A.PIN_CLRx x) v s

/-- PIN_FILT_WRITE (R637); `level`: the pin's synchronised level, where it is known. -/
def execPinFiltWrite (m : Master) (p : Nat) (v : Word) (level : Option Bool) (s : State) : Host.Outcome State Fault Refusal :=
  run (fun e c => if admits 8 m.port then pinFiltWrite p v level e c else c.busError m 8 2 (A.PINp_FILT p) true) s

/-- PIN_FILTER_ACCEPT (R637 to R640). -/
def execPinFilterAccept (p age : Nat) (s : State) : Host.Outcome State Fault Refusal := run (pinAccept p age) s

/-! ### JTAG (R412, R664) -/

/-- IDCODE: bits [31:28] follow the revision's letter. -/
def Chip.idcode (c : Chip) : Word := putFld 0x04C3762B 31 28 ((c.rd A.SYS_REV).toNat - 0x41)

/-- An address in the DBG window. -/
def inDbg (a : Nat) : Bool := decide (0x60180000 ≤ a ∧ a < 0x60182000) && a % 4 == 0

/-- A scan of the data register that the instruction selects. -/
def jtagScan (cells : BitVec 96) (c : Chip) : Chip :=
  match c.jtag.ins with
  | .idcode => { c with jtag := { c.jtag with dr := c.idcode } }
  | .sample => { c with jtag := { c.jtag with captured := c.pins.level, cells := cells } }
  | .extest => { c with jtag := { c.jtag with captured := c.pins.level, cells := cells } }
  | .bypass => c
  | .clamp => c
  | .highz => c

/-- What a debugger does at the TAP. -/
def jtagOp (op : JtagOp) (e : Env) (c : Chip) : Chip :=
  match op with
  | .reset => { c with jtag := { c.jtag with ins := .idcode } }
  | .load i => { c with jtag := { c.jtag with ins := i } }
  | .scan cells => jtagScan cells c
  | .read a =>
    if inDbg a then
      let (v, c) := dbgRead e ((a - 0x60180000) / 0x1000) (a % 0x1000) c
      { c with jtag := { c.jtag with dr := v } }
    else c
  | .write a v => if inDbg a then dbgWindow a v e c else c

/-- JTAG_ACCESS (R664). -/
def execJtagAccess (op : JtagOp) (s : State) : Host.Outcome State Fault Refusal := run (jtagOp op) s

end Sys2Proof.Machine
end

