-- ==== Sys2Proof/Machine/MemoryRows.lean ====
section
/-! DEFINITION. Machine/MemoryRows.lean: the meanings of the commands of the caches, the Registry and the external memory
controllers (12_caches_and_coherence.md, R423 to R441; 13_interconnect_and_memory.md, R461 to R478). -/

namespace Sys2Proof.Machine

/-! ### The Registry (R427 to R436) -/

/-- REGISTRY_READ (R427): by member `x`, for wave-cache requester `r`. -/
def execRegistryRead (x line r : Nat) (streaming : Bool) (s : State) : Host.Outcome State Fault Refusal :=
  run (registryRequest x .read line r streaming) s

/-- The requester of a member's own requests: its core, or the recording voices of the wave cache (R417). -/
def ownRequester (x : Nat) : Nat := if x = 2 then 0 else 4 + x

/-- REGISTRY_OWN (R427). -/
def execRegistryOwn (x line : Nat) (s : State) : Host.Outcome State Fault Refusal :=
  run (registryRequest x .own line (ownRequester x) false) s

/-- REGISTRY_UPGRADE (R427). -/
def execRegistryUpgrade (x line : Nat) (s : State) : Host.Outcome State Fault Refusal :=
  run (registryRequest x .upgrade line (ownRequester x) false) s

/-- REGISTRY_WRITEBACK (R427, R428). -/
def execRegistryWriteback (x line : Nat) (evict : Bool) (s : State) : Host.Outcome State Fault Refusal :=
  run (fun _ c => registryWriteback x line evict c) s

/-- CONTESTED_GRANT (R429). -/
def execContestedGrant (line : Nat) (reqs : List (Nat × RegReq)) (s : State) : Host.Outcome State Fault Refusal :=
  run (contestedGrant line reqs) s

/-- When the tenure of a line ends (R431). -/
def Chip.tenureDue (c : Chip) (line : Nat) : Option Nat :=
  match ([0, 1, 2].filterMap (fun i => (c.findLine i line).map (fun k => (c.way i k).tenure))).max? with
  | some t => if t = 0 then none else some t
  | none => none

/-- TENURE_END (R430, R431). -/
def execTenureEnd (line : Nat) (s : State) : Host.Outcome State Fault Refusal :=
  match s.chip.tenureDue line with
  | some t => runAt t (tenureEnds line) s
  | none => run (tenureEnds line) s

/-- WRITE_BUFFER_LEAVE (R423). -/
def execWriteBufferLeave (core : BitVec 1) (s : State) : Host.Outcome State Fault Refusal := run (wbLeave core.toNat) s

/-- COHERENT_READ (R434): the access of a coherent master, which its bytes answer. -/
def execCoherentRead (m : Master) (addr size : Nat) (s : State) : Host.Outcome State Fault Refusal :=
  run (complete { m := m, write := false, fetch := false, addr := addr, size := size, data := [], locked := false,
                  last := true, ecc := .clean }) s

/-- COHERENT_WRITE (R435). -/
def execCoherentWrite (m : Master) (addr : Nat) (data : List Byte) (s : State) : Host.Outcome State Fault Refusal :=
  run (complete { m := m, write := true, fetch := false, addr := addr, size := data.length, data := data, locked := false,
                  last := true, ecc := .clean }) s

/-! ### Whole-cache and range operations (R439 to R441) -/

/-- A write of REGY_COREn_OP. -/
def regyOp (m : Master) (core : BitVec 1) (op : Nat) (s : State) : Host.Outcome State Fault Refusal :=
  store m (A.REGY_COREn_OP core.toNat) (word op) s

/-- REGY_CLEAN_ALL (R439). -/
def execRegyCleanAll (m : Master) (core : BitVec 1) (s : State) : Host.Outcome State Fault Refusal := regyOp m core 1 s

/-- REGY_INVAL_ALL (R439). -/
def execRegyInvalAll (m : Master) (core : BitVec 1) (s : State) : Host.Outcome State Fault Refusal := regyOp m core 2 s

/-- REGY_CLINV_ALL (R439). -/
def execRegyClinvAll (m : Master) (core : BitVec 1) (s : State) : Host.Outcome State Fault Refusal := regyOp m core 3 s

/-- REGY_ICACHE_INVAL (R439). -/
def execRegyIcacheInval (m : Master) (core : BitVec 1) (s : State) : Host.Outcome State Fault Refusal := regyOp m core 4 s

/-- REGY_OP_COMPLETE (R439, R441). -/
def execRegyOpComplete (core : BitVec 1) (s : State) : Host.Outcome State Fault Refusal := run (regyOpDone core.toNat) s

/-- REGY_CORE_CFG_WRITE (R441). -/
def execRegyCoreCfgWrite (m : Master) (core : BitVec 1) (v : Word) (s : State) : Host.Outcome State Fault Refusal :=
  store m (A.REGY_COREn_CFG core.toNat) v s

/-- WCC_RANGE_CLEAN (R440). -/
def execWccRangeClean (m : Master) (s : State) : Host.Outcome State Fault Refusal := store m A.WCC_OP 1 s

/-- WCC_RANGE_INVAL (R440). -/
def execWccRangeInval (m : Master) (s : State) : Host.Outcome State Fault Refusal := store m A.WCC_OP 2 s

/-- WCC_RANGE_CLINV (R440). -/
def execWccRangeClinv (m : Master) (s : State) : Host.Outcome State Fault Refusal := store m A.WCC_OP 3 s

/-- WCC_OP_COMPLETE (R440). -/
def execWccOpComplete (s : State) : Host.Outcome State Fault Refusal := run wccOpDone s

/-! ### Memory (R461, R465, R470 to R478) -/

/-- LOCK_TIMEOUT (R461): 16 interconnect cycles after the sequence began. -/
def execLockTimeout (s : State) : Host.Outcome State Fault Refusal :=
  runDue (s.chip.bus.lock.map (fun l => l.since + lockCounts)) lockTimeout s

/-- MEMORY_INIT_COMPLETE (R465). -/
def execMemoryInitComplete (s : State) : Host.Outcome State Fault Refusal := runState initComplete s

/-- XMC_CONFIG_WRITE (R470, R475, R477). -/
def execXmcConfigWrite (m : Master) (addr : Nat) (v : Word) (s : State) : Host.Outcome State Fault Refusal := store m addr v s

/-- A read of an xSPI device by `m` that gets no strobe (R471, R672). -/
def dsTimeout (m : Master) (addr : Nat) (e : Env) (c : Chip) : Chip :=
  match regionOf addr with
  | .xspi _ _ =>
    if (c.busCause m false false addr 1).isSome then c
    else (strobeTimeout m addr e c).coreError (wordAccess m addr)
  | _ => c
where
  /-- the read -/
  wordAccess (m : Master) (a : Nat) : BusAccess :=
    { m := m, write := false, fetch := false, addr := a, size := 4, data := [], locked := false, last := true, ecc := .clean }

/-- DS_TIMEOUT (R471). -/
def execDsTimeout (m : Master) (addr : Nat) (s : State) : Host.Outcome State Fault Refusal := run (dsTimeout m addr) s

/-- XSPI_SEQUENCE (R472, R474): a write of XMC_XSPI_SEQ with GO = 1. -/
def execXspiSequence (m : Master) (v : Word) (s : State) : Host.Outcome State Fault Refusal :=
  store m A.XMC_XSPI_SEQ (setBitTo v 15 true) s

/-- XSPI_SEQUENCE_COMPLETE (R472, R473). -/
def execXspiSequenceComplete (data : List Byte) (s : State) : Host.Outcome State Fault Refusal :=
  run (fun _ c => xspiSequenceDone data c) s

/-- XSPI_POLL (R473). -/
def execXspiPoll (status : Byte) (s : State) : Host.Outcome State Fault Refusal := run (fun _ c => xspiPoll status c) s

/-- SDR_INIT (R478): a write of XMC_SDR_CTL with INIT = 1. -/
def execSdrInit (m : Master) (v : Word) (s : State) : Host.Outcome State Fault Refusal :=
  store m A.XMC_SDR_CTL (setBitTo v 0 true) s

/-- SDR_INIT_COMPLETE (R478): at the earliest when the initialisation's steps have taken their time. -/
def execSdrInitComplete (s : State) : Host.Outcome State Fault Refusal :=
  if s.chip.bit A.XMC_SDR_CTL 0 then runAfter s.chip.sdrInitCounts (fun _ c => sdrInitDone c) s else run (fun _ c => c) s

/-- SDR_REFRESH (R476): the controller refreshes rows between two lines; no contents and no register change. -/
def execSdrRefresh (s : State) : Host.Outcome State Fault Refusal := run (fun _ c => c) s

end Sys2Proof.Machine
end

