-- ==== Sys2Proof/Machine/QuireSys.lean ====
section
/-! DEFINITION. Machine/QuireSys.lean: the loads, stores, branches, loops, atomic and system instructions of Quire, and
what happens at a core's instruction boundaries (R352 to R370, R385 to R393, R407 to R411, R423, R438, R584). -/

namespace Sys2Proof.Machine

/-! ### Loads and stores (R352 to R355) -/

/-- LD (R353). -/
def execLd (core : BitVec 1) (c16 : Bool) (rd ra : BitVec 5) (sz : BitVec 3) (imm : BitVec 12) (s : State) : Host.Outcome State Fault Refusal :=
  quire core (fun e c =>
    loadAt core.toNat c16 sz.toNat rd ((c.core core.toNat).src ra + imm.signExtend 32) none e c) s

/-- ST (R353). -/
def execSt (core : BitVec 1) (c16 : Bool) (rd ra : BitVec 5) (sz : BitVec 3) (imm : BitVec 12) (s : State) : Host.Outcome State Fault Refusal :=
  quire core (fun e c =>
    storeAt core.toNat c16 sz.toNat rd ((c.core core.toNat).src ra + imm.signExtend 32) none e c) s

/-- LDX (R353, R355). -/
def execLdx (core : BitVec 1) (c16 : Bool) (rd ra rb : BitVec 5) (mode : BitVec 3) (sc : BitVec 2) (sz : BitVec 3) (s : State) :
    Host.Outcome State Fault Refusal :=
  quire core (indexedAt core.toNat mode sc sz ra rb (loadAt core.toNat c16 sz.toNat rd)) s

/-- STX (R353). -/
def execStx (core : BitVec 1) (rd ra rb : BitVec 5) (mode : BitVec 3) (sc : BitVec 2) (sz : BitVec 3) (s : State) :
    Host.Outcome State Fault Refusal :=
  quire core (indexedAt core.toNat mode sc sz ra rb (storeAt core.toNat false sz.toNat rd)) s

/-! ### Branches, jumps and loops (R356 to R362) -/

/-- Bcc: not taken, it performs the loop-end step (R356, R357, R360). -/
def execBcc (core : BitVec 1) (c16 : Bool) (cond : BitVec 4) (off : BitVec 20) (s : State) : Host.Outcome State Fault Refusal :=
  quire core (fun e c =>
    let k := c.core core.toNat
    if cond = 15 then .raise excIllegal c
    else if condHolds k.psw cond.toNat then
      jumpOp core.toNat (fun k => { k with pc := k.pc + 2 * off.signExtend 32 }) e c
    else coreOp core.toNat c16 id e c) s

/-- JAL (R356). -/
def execJal (core : BitVec 1) (c16 : Bool) (rd : BitVec 5) (off : BitVec 20) (s : State) : Host.Outcome State Fault Refusal :=
  quire core (jumpOp core.toNat fun k => k.jump (isz c16) rd (k.pc + 2 * off.signExtend 32)) s

/-- JALR: the target is computed before the link is written (R356). -/
def execJalr (core : BitVec 1) (c16 : Bool) (rd ra : BitVec 5) (imm : BitVec 15) (s : State) : Host.Outcome State Fault Refusal :=
  quire core (jumpOp core.toNat fun k => k.jump (isz c16) rd ((k.src ra + imm.signExtend 32) &&& ~~~ 1)) s

/-- LOOP (R358). -/
def execLoop (core : BitVec 1) (ra : BitVec 5) (endoff : BitVec 10) (s : State) : Host.Outcome State Fault Refusal :=
  quire core (fun e c => loopOp core.toNat ((c.core core.toNat).src ra) endoff e c) s

/-- LOOPI (R358). -/
def execLoopi (core : BitVec 1) (count : BitVec 15) (endoff : BitVec 10) (s : State) : Host.Outcome State Fault Refusal :=
  quire core (loopOp core.toNat (count.setWidth 32) endoff) s

/-- LPOP (R362). -/
def execLpop (core : BitVec 1) (c16 : Bool) (s : State) : Host.Outcome State Fault Refusal :=
  quire core (jumpOp core.toNat fun k => ({ k with depth := k.depth - 1 } : Core).plainNext (isz c16)) s

/-! ### Atomic instructions (R365 to R367) -/

/-- SWAP (R365). -/
def execSwap (core : BitVec 1) (rd ra rb : BitVec 5) (s : State) : Host.Outcome State Fault Refusal :=
  quire core (fun e c =>
    let k := c.core core.toNat
    atomicAt core.toNat (k.src ra) (fun w => (some (k.src rb), fun k => k.setReg rd.toNat w)) e c) s

/-- CAS changes Z alone (R365). -/
def execCas (core : BitVec 1) (rd ra rb : BitVec 5) (s : State) : Host.Outcome State Fault Refusal :=
  quire core (fun e c =>
    let k := c.core core.toNat
    let same := fun w => w == k.src rd
    atomicAt core.toNat (k.src ra) (fun w => (if same w then some (k.src rb) else none,
      fun k => { k.setReg rd.toNat w with psw := setBitTo k.psw pswZ (same w) })) e c) s

/-! ### System instructions (R368) -/

/-- MFC (R368, R370). -/
def execMfc (core : BitVec 1) (rd : BitVec 5) (ctl : BitVec 9) (s : State) : Host.Outcome State Fault Refusal :=
  quire core (mfcOp core.toNat rd ctl.toNat) s

/-- MTC (R364, R368, R370). -/
def execMtc (core : BitVec 1) (ctl : BitVec 9) (ra : BitVec 5) (s : State) : Host.Outcome State Fault Refusal :=
  quire core (mtcOp core.toNat ctl.toNat ra) s

/-- TRAP (R368, R372). -/
def execTrap (core : BitVec 1) (code : BitVec 9) (s : State) : Host.Outcome State Fault Refusal :=
  quire core (fun _ c => .raise { cause := 7, code := code.toNat } c) s

/-- BKPT (R368, R372, R410). -/
def execBkpt (core : BitVec 1) (c16 : Bool) (code : BitVec 9) (s : State) : Host.Outcome State Fault Refusal :=
  quire core (bkptOp core.toNat c16 code) s

/-- RETI (R387, R391 to R393). -/
def execReti (core : BitVec 1) (s : State) : Host.Outcome State Fault Refusal := quire core (retiOp core.toNat) s

/-- WFI (R409). -/
def execWfi (core : BitVec 1) (c16 : Bool) (s : State) : Host.Outcome State Fault Refusal := quire core (wfiOp core.toNat c16) s

/-- SYNC (R368, R423). -/
def execSync (core : BitVec 1) (c16 : Bool) (s : State) : Host.Outcome State Fault Refusal :=
  quire core (fun e c => coreOp core.toNat c16 id e (wbDrain core.toNat e c)) s

/-- CLEAN (R438). -/
def execClean (core : BitVec 1) (ra : BitVec 5) (s : State) : Host.Outcome State Fault Refusal :=
  quire core (fun e c =>
    let a := (c.core core.toNat).src ra
    cacheOpAt core.toNat a Region.cacheable (fun e c => c.cleanLine e (a.toNat / 32)) e c) s

/-- INVAL (R438). -/
def execInval (core : BitVec 1) (ra : BitVec 5) (s : State) : Host.Outcome State Fault Refusal :=
  quire core (fun e c =>
    let a := (c.core core.toNat).src ra
    cacheOpAt core.toNat a Region.cacheable (fun _ c => c.invalLine core.toNat (a.toNat / 32)) e c) s

/-- CLINV (R438). -/
def execClinv (core : BitVec 1) (ra : BitVec 5) (s : State) : Host.Outcome State Fault Refusal :=
  quire core (fun e c =>
    let a := (c.core core.toNat).src ra
    cacheOpAt core.toNat a Region.cacheable
      (fun e c => (c.cleanLine e (a.toNat / 32)).invalLine core.toNat (a.toNat / 32)) e c) s

/-- ICINV (R368, R369, R438). -/
def execIcinv (core : BitVec 1) (ra : BitVec 5) (s : State) : Host.Outcome State Fault Refusal :=
  quire core (fun e c =>
    let a := (c.core core.toNat).src ra
    cacheOpAt core.toNat a Region.icacheable (fun _ c => c.invalLine (3 + core.toNat) (a.toNat / 32)) e c) s

/-- A halfword or word that is no instruction (R341). -/
def execIllegalInstruction (core : BitVec 1) (s : State) : Host.Outcome State Fault Refusal :=
  quire core (fun _ c => .raise excIllegal c) s

/-! ### Instruction boundaries (R385 to R393) -/

/-- STORE_BUS (R385). -/
def execStoreBus (core : BitVec 1) (s : State) : Host.Outcome State Fault Refusal := run (takeStoreBus core.toNat) s

/-- Interrupt entry (R388, R389). -/
def execInterruptEntry (core : BitVec 1) (s : State) : Host.Outcome State Fault Refusal := run (interruptEntry core.toNat) s

/-! ### The interrupt controller (R400 to R404) -/

/-- A write of INTC_CLAIM in window `t` (R400, R401). -/
def execIntcClaim (m : Master) (t : BitVec 2) (v : Word) (s : State) : Host.Outcome State Fault Refusal :=
  store m (A.INTC_CLAIM t.toNat) v s

/-- A write of INTC_DONE in window `t` (R402, R403). -/
def execIntcDone (m : Master) (t : BitVec 2) (v : Word) (s : State) : Host.Outcome State Fault Refusal :=
  store m (A.INTC_DONE t.toNat) v s

/-- INTC_SWI_SET (R404). -/
def execIntcSwiSet (m : Master) (v : Word) (s : State) : Host.Outcome State Fault Refusal :=
  store m A.INTC_SWI_SET v s

/-- INTC_SWI_CLR (R404). -/
def execIntcSwiClr (m : Master) (v : Word) (s : State) : Host.Outcome State Fault Refusal :=
  store m A.INTC_SWI_CLR v s

/-! ### Timer, watchdog and debug unit (R407, R408, R410, R411) -/

/-- A core's private timer reaches zero, at the count at which it does (R407). -/
def execTmrExpire (core : BitVec 1) (s : State) : Host.Outcome State Fault Refusal :=
  runDue (s.chip.core core.toNat).tmrZero (tmrExpire · core.toNat) s

/-- A write of WDG_KICK by the core (R408). -/
def execWdgKick (core : BitVec 1) (v : Word) (s : State) : Host.Outcome State Fault Refusal :=
  run (fun _ c => c.modCore core.toNat (·.kick v)) s

/-- The watchdog's count reaches WDG_WARN (R408). -/
def execWdgWarning (core : BitVec 1) (s : State) : Host.Outcome State Fault Refusal :=
  run (fun e c =>
    let warn := ((c.core core.toNat).crw 0x5A).toNat
    if warn < ((c.core core.toNat).crw 0x5B).toNat then wdgReach e core.toNat warn c else c) s

/-- The watchdog's count reaches 0 (R408). -/
def execWdgExpiry (core : BitVec 1) (s : State) : Host.Outcome State Fault Refusal :=
  run (fun e c => wdgReach e core.toNat 0 c) s

/-- The address of DBG_CTL in the DBG window (R412). -/
def dbgCtlAddr (core : Nat) : Nat := 0x60180000 + 0x1000 * core + 0x800 + 4 * 0x60

/-- A write of DBG_CTL with HALT_REQ = 1 (R410). -/
def execHaltReq (m : Master) (core : BitVec 1) (v : Word) (s : State) : Host.Outcome State Fault Refusal :=
  store m (dbgCtlAddr core.toNat) (setBitTo v 4 true) s

/-- A core enters debug halt (R410). -/
def execDebugHalt (core : BitVec 1) (s : State) : Host.Outcome State Fault Refusal := run (debugHalt core.toNat) s

/-- A write of DBG_CTL with RESUME = 1 (R411). -/
def execResume (m : Master) (core : BitVec 1) (v : Word) (s : State) : Host.Outcome State Fault Refusal :=
  store m (dbgCtlAddr core.toNat) (setBitTo v 5 true) s

/-! ### Core reset (R584) -/

/-- Where core `n` restarts, if it does; none where it is held (R584, R616). Core 0's restart at the boot ROM has the
address 0. -/
def Chip.restartAt (c : Chip) (n : Nat) : Option Word :=
  if c.bit A.FLT_STAT 3 then none
  else if n = 0 then some (if c.bit A.SYS_CORE_CTL 0 then c.rd A.SYS_C0_ENTRY else 0)
  else if c.bit A.SYS_CORE_CTL 1 then some (c.rd A.SYS_C1_ENTRY)
  else none

/-- A core reset (R584): the write buffer is drained, operations 3 and 4 of R439 run, the core's registers and its part of
the interrupt controller are reset, and it restarts or is held. `flash`: see RESET_SEQUENCE. -/
def coreReset (n : Nat) (flash : Bool) (e : Env) (c : Chip) : Chip :=
  let d := c.pwr.due
  if !(if n = 0 then d.core0 else d.core1) then c
  else
    let reload := if n = 0 then d.reload0 else d.reload1
    let c := c.pwrDo fun p => { p with due :=
      if n = 0 then { p.due with core0 := false, reload0 := false } else { p.due with core1 := false, reload1 := false } }
    let c := wbDrain n e (c.timSyncAll e)
    let c := (c.wholeCacheOp e n 3).wholeCacheOp e n 4
    let pc := c.restartAt n
    let c := intcCoreReset n (c.modCore n (·.resetRegs e.now pc reload))
    if n = 0 && pc.isSome && !c.bit A.SYS_CORE_CTL 0 then bootRom true flash e c else c

/-- CORE_RESET (R584). -/
def execCoreReset (core : BitVec 1) (flash : Bool) (s : State) : Host.Outcome State Fault Refusal :=
  run (coreReset core.toNat flash) s

end Sys2Proof.Machine
end

