-- ==== Sys2Proof/Machine/MetronomeRows.lean ====
section
/-! DEFINITION. Machine/MetronomeRows.lean: the meanings of register accesses, of accesses on the interconnect, and of the
commands of the clock and the Metronome (00_scope.md, 01_metronome.md; R452). -/

namespace Sys2Proof.Machine

/-! ### Registers and the interconnect (R6, R16, R452) -/

/-- A word access by master `m`. -/
def wordAccess (m : Master) (write : Bool) (a : Nat) (v : Word) : BusAccess :=
  { m := m, write := write, fetch := false, addr := a, size := 4, data := leBytes 4 v.toNat, locked := false, last := true, ecc := .clean }

/-- PROFILE_LOCK_WRITE (R6). -/
def execProfileLockWrite (m : Master) (v : Word) (s : State) : Host.Outcome State Fault Refusal :=
  store m A.SYS_PROFILE_LOCK v s

/-- REGISTER_WRITE (R16). -/
def execRegisterWrite (m : Master) (addr : Nat) (v : Word) (s : State) : Host.Outcome State Fault Refusal :=
  run (complete (wordAccess m true addr v)) s

/-- RC_REGISTER_READ (R16). -/
def execRcRegisterRead (m : Master) (addr : Nat) (s : State) : Host.Outcome State Fault Refusal :=
  run (complete (wordAccess m false addr 0)) s

/-- BUS_ACCESS (R448 to R461, R672). -/
def execBusAccess (r : BusAccess) (rivals : List BusAccess) (s : State) : Host.Outcome State Fault Refusal :=
  run (busAccess r rivals) s

/-! ### The clock (R20 to R30) -/

/-- SYS_CLK_CFG_WRITE (R21). -/
def execSysClkCfgWrite (m : Master) (v : Word) (s : State) : Host.Outcome State Fault Refusal := store m A.SYS_CLK_CFG v s

/-- PLL_LOCK (R22). -/
def execPllLock (edges : Bool) (s : State) : Host.Outcome State Fault Refusal := run (pllLock edges) s

/-- CLOCK_MEASUREMENT (R24, R25). -/
def execClockMeasurement (cycles : BitVec 17) (s : State) : Host.Outcome State Fault Refusal :=
  run (fun _ c => clockMeasurement cycles.toNat c) s

/-- The entry to holdover (R25): a SEVERE fault 0x09. -/
def holdoverEntry (e : Env) (c : Chip) : Chip :=
  if c.canHoldover then (holdoverBits c).report e 0x09 clsSevere 0 0 else c

/-- HOLDOVER_ENTRY (R25). -/
def execHoldoverEntry (s : State) : Host.Outcome State Fault Refusal := run holdoverEntry s

/-- A Vault-clock edge while MCLK is stopped: the timers that count slowly, SLOW_SEEN and the count (R29, R545). -/
def slowCountStep (s : State) : State :=
  if s.chip.slow then
    let a := s.chip.slowAdd
    (s.on (fun e c => (tmrSlowEdge e a 0 (tmrSlowEdge e a 1 (c.timSlowEdge e a))).slowSeen)).advTo (s.clock.abs + a)
  else s

/-- SLOW_COUNT_STEP (R29). -/
def execSlowCountStep (s : State) : Host.Outcome State Fault Refusal := runState slowCountStep s

/-- COUNT_WRAP (R27): the count passes from its maximum to 0. -/
def execCountWrap (s : State) : Host.Outcome State Fault Refusal :=
  runAt (multAfter (2 ^ 48) s.clock.abs) (fun _ c => c) s

/-- The sample tick at the present count (R31, R198, R204). -/
def sampleTick (rx : List (Nat × Word)) (e : Env) (c : Chip) : Chip :=
  sampleFrame e.now rx { c with met := { c.met with lastSample := some e.now } }

/-- SAMPLE_TICK (R31). -/
def execSampleTick (rx : List (Nat × Word)) (s : State) : Host.Outcome State Fault Refusal :=
  runTick (s.chip.nextSample s.clock.abs) (sampleTick rx) s

/-- BLOCK_TICK (R32, R42). -/
def execBlockTick (late : Nat) (s : State) : Host.Outcome State Fault Refusal :=
  runTick (s.chip.nextBlock s.clock.abs) (blockTick late) s

/-- The frame tick at the present count (R35, R38). -/
def frameTick (e : Env) (c : Chip) : Chip :=
  ({ c with met := { c.met with lastFrame := some e.now } } : Chip).displayFrame e

/-- FRAME_TICK (R35). -/
def execFrameTick (s : State) : Host.Outcome State Fault Refusal := runTick (s.chip.nextFrame s.clock.abs) frameTick s

/-- MET_COUNT_LO_READ (R48). -/
def execMetCountLoRead (m : Master) (s : State) : Host.Outcome State Fault Refusal := load m A.MET_COUNT_LO s

end Sys2Proof.Machine
end

