-- ==== Sys2Proof/Machine/MidiRows.lean ====
section
/-! DEFINITION. Machine/MidiRows.lean: the meanings of the commands of the MIDI ports and the USB device
(07_midi_and_usb.md, R236 to R263; R591). -/

namespace Sys2Proof.Machine

/-! ### DIN inputs (R236 to R243) -/

/-- MIDI_IN_MESSAGE (R237). -/
def execMidiInMessage (i : Nat) (bytes : List (Nat × Byte × Bool)) (s : State) : Host.Outcome State Fault Refusal :=
  runState (midiArrive i bytes) s

/-- MIDI_REALTIME_BYTE (R238): the byte 0xF8 + b after `idle` counts. -/
def execMidiRealtimeByte (i idle : Nat) (b : BitVec 3) (s : State) : Host.Outcome State Fault Refusal :=
  runState (midiArrive i [(idle, 0xF8 + b.setWidth 8, true)]) s

/-- SYSEX_RECORD (R240). -/
def execSysexRecord (i : Nat) (bytes : List (Nat × Byte × Bool)) (s : State) : Host.Outcome State Fault Refusal :=
  runState (midiArrive i bytes) s

/-- ACTIVE_SENSING_TIMEOUT (R242). -/
def execActiveSensingTimeout (i : Nat) (s : State) : Host.Outcome State Fault Refusal :=
  runTickDue (s.chip.senseDue i) (senseLost i) s

/-! ### DIN outputs (R244 to R247) -/

/-- MIDI_OUT_RECORD (R244). -/
def execMidiOutRecord (i : Nat) (s : State) : Host.Outcome State Fault Refusal := runState (outRecord i false) s

/-- MIDI_OUT_SEND_AT (R246). -/
def execMidiOutSendAt (i : Nat) (s : State) : Host.Outcome State Fault Refusal := runState (outRecord i true) s

/-- DIRECT_SLOT_SEND (R247). -/
def execDirectSlotSend (i : Nat) (s : State) : Host.Outcome State Fault Refusal := runState (slotRun i) s

/-- ACTIVE_SENSING_TX (R245). -/
def execActiveSensingTx (i : Nat) (s : State) : Host.Outcome State Fault Refusal := runState (senseSend i) s

/-! ### The USB bus (R248, R249, R253, R263) -/

/-- USB_CFG_WRITE (R249). -/
def execUsbCfgWrite (m : Master) (addr : Nat) (v : Word) (s : State) : Host.Outcome State Fault Refusal := store m addr v s

/-- USB_RECONNECT (R253). -/
def execUsbReconnect (s : State) : Host.Outcome State Fault Refusal :=
  runDue s.chip.usb.reconnect (fun _ c => usbReconnect c) s

/-- USB_BUS_RESET (R263). -/
def execUsbBusReset (hs : Bool) (s : State) : Host.Outcome State Fault Refusal := run (fun _ c => usbBusReset hs c) s

/-- USB_SUSPEND (R248). -/
def execUsbSuspend (s : State) : Host.Outcome State Fault Refusal := run (fun _ c => usbSuspend c) s

/-- USB_RESUME (R248). -/
def execUsbResume (s : State) : Host.Outcome State Fault Refusal := run (fun _ c => usbResume c) s

/-! ### Requests (R250 to R252, R261) -/

/-- USB_STANDARD_REQUEST (R261). -/
def execUsbStandardRequest (r : UsbRequest) (s : State) : Host.Outcome State Fault Refusal := run (fun _ c => usbRequest r c) s

/-- SET_CONFIGURATION (R261). -/
def execSetConfiguration (v : Nat) (s : State) : Host.Outcome State Fault Refusal := run (setConfiguration v) s

/-- SET_INTERFACE (R261). -/
def execSetInterface (i alt : Nat) (s : State) : Host.Outcome State Fault Refusal := run (setInterface i alt) s

/-- FEATURE_UNIT_SET_CUR (R252, R261). -/
def execFeatureUnitSetCur (entity control v : Nat) (s : State) : Host.Outcome State Fault Refusal :=
  run (featureSetCur entity control v) s

/-- CLOCK_SET_CUR (R252). -/
def execClockSetCur (hz : Nat) (s : State) : Host.Outcome State Fault Refusal := run (fun _ c => clockSetCur hz c) s

/-! ### Audio and MIDI endpoints (R254 to R259) -/

/-- USB_AUDIO_OUT_PACKET (R255). -/
def execUsbAudioOutPacket (toggle : Bool) (frames : List (List Word)) (s : State) : Host.Outcome State Fault Refusal :=
  run (fun _ c => audioOut toggle frames c) s

/-- USB_AUDIO_IN_PACKET (R255). -/
def execUsbAudioInPacket (s : State) : Host.Outcome State Fault Refusal := run (fun _ c => audioIn c) s

/-- USB_FEEDBACK (R256); `counts` is C. -/
def execUsbFeedback (counts : Nat) (s : State) : Host.Outcome State Fault Refusal := run (fun _ c => usbFeedback counts c) s

/-- USB_MIDI_EVENT_PACKET (R257). -/
def execUsbMidiEventPacket (toggle : Bool) (events : List Word) (s : State) : Host.Outcome State Fault Refusal :=
  run (eventPacket toggle events) s

/-- UNIVERSAL_MIDI_PACKET (R258). -/
def execUniversalMidiPacket (toggle : Bool) (ws : List Word) (s : State) : Host.Outcome State Fault Refusal :=
  run (umpPacket toggle ws) s

/-- USB_MIDI_IN_SEND (R259). -/
def execUsbMidiInSend (s : State) : Host.Outcome State Fault Refusal := run (fun _ c => usbMidiSend c) s

/-! ### DFU (R262, R591) -/

/-- DFU_DOWNLOAD (R262). -/
def execDfuDownload (data : List Byte) (s : State) : Host.Outcome State Fault Refusal := run (fun _ c => dfuDownload data c) s

/-- DFU_UPLOAD (R262). -/
def execDfuUpload (s : State) : Host.Outcome State Fault Refusal := run (fun _ c => dfuUpload c) s

/-- DFU_MANIFEST (R591). -/
def execDfuManifest (s : State) : Host.Outcome State Fault Refusal := run dfuManifest s

end Sys2Proof.Machine
end

