-- ==== Sys2Proof/Machine/PortRows.lean ====
section
/-! DEFINITION. Machine/PortRows.lean: the meanings of the commands of the audio ports, the key scanner and the ADC
(05_effects_and_audio_ports.md, R198 to R206; 06_keys_and_controls.md, R211 to R233). -/

namespace Sys2Proof.Machine

/-! ### Audio ports (R200 to R206) -/

/-- SAP_SLAVE_FRAME (R200 to R203). -/
def execSapSlaveFrame (i phase edges : Nat) (rx : List (Nat × Word)) (s : State) : Host.Outcome State Fault Refusal :=
  run (sapFrame i phase edges rx) s

/-- SAP_SLAVE_LOCK (R201). -/
def execSapSlaveLock (i : Nat) (s : State) : Host.Outcome State Fault Refusal := run (fun _ c => sapLock i c) s

/-- SAP_FRAME_START_TIMEOUT (R203). -/
def execSapFrameStartTimeout (i : Nat) (s : State) : Host.Outcome State Fault Refusal :=
  runTickDue (s.chip.sapDue i) (sapTimeout i) s

/-- The sample tick at which the next 192-frame block begins (R206). -/
def Chip.spdifDue (c : Chip) (now : Nat) : Option Nat :=
  if !c.spdifOn then none
  else
    let left := if c.aud.spdifAt.isNone then 0 else (192 - c.aud.spdifFrame) % 192
    some (c.nextSample now + left * c.met.ticks.cs)

/-- SPDIF_BLOCK_START (R206). -/
def execSpdifBlockStart (s : State) : Host.Outcome State Fault Refusal :=
  runTickDue (s.chip.spdifDue s.clock.abs) (fun e c => c.spdifStart e.now) s

/-! ### The key scanner (R211 to R225) -/

/-- KEY_SCAN (R211). -/
def execKeyScan (levels : BitVec 256) (edges : List (Nat × Nat)) (s : State) : Host.Outcome State Fault Refusal :=
  runTick (s.chip.scanDue s.clock.abs) (fun e c => keyScan e.now levels edges c) s

/-- LOCKOUT_END (R214, R215). -/
def execLockoutEnd (contact : Nat) (s : State) : Host.Outcome State Fault Refusal :=
  runTickDue (s.chip.lockoutDue contact) (lockoutEnd contact) s

/-- When the first record of the scanner's buffer is formed, if that is still to come (R213). -/
def Chip.formDue (c : Chip) (now : Nat) : Option Nat :=
  match c.key.buf with
  | x :: _ => if now < x.formed && !c.slow then some x.formed else none
  | [] => none

/-- KEY_RECORD_PRESENT (R213). -/
def execKeyRecordPresent (s : State) : Host.Outcome State Fault Refusal :=
  let present := fun (e : Env) (c : Chip) => presentKeys e c.key.buf.length c
  match s.chip.formDue s.clock.abs with
  | some t => runAt t present s
  | none => run present s

/-- KEY_CFG_WRITE (R218, R219). -/
def execKeyCfgWrite (m : Master) (addr : Nat) (v : Word) (s : State) : Host.Outcome State Fault Refusal := store m addr v s

/-- SLEEP_SCAN_SAMPLE (R224). -/
def execSleepScanSample (low : BitVec 16) (s : State) : Host.Outcome State Fault Refusal := run (sleepSample low) s

/-! ### The ADC (R227 to R233) -/

/-- ADC_CONVERSION (R227, R228). -/
def execAdcConversion (value : BitVec 12) (s : State) : Host.Outcome State Fault Refusal :=
  runTick (s.chip.convDue s.clock.abs) (adcConversion value) s

/-- ADC_CFG_WRITE (R233). -/
def execAdcCfgWrite (m : Master) (n : Nat) (v : Word) (s : State) : Host.Outcome State Fault Refusal :=
  store m (A.ADCn_CFG n) v s

end Sys2Proof.Machine
end

