-- ==== Sys2Proof/Machine/PowerRows.lean ====
section
/-! DEFINITION. Machine/PowerRows.lean: the meanings of the commands of the modes, of power and reset, of boot and of the
NVM programmer (17_modes_power_reset.md, R567 to R593; 20_electrical_and_package.md, R648 to R652). -/

namespace Sys2Proof.Machine

/-! ### Requests for a mode (R567 to R569) -/

/-- The word of SYS_MODE_REQ for a mode and a key. -/
def modeWord (mode : Nat) (key : BitVec 16) : Word := word (key.toNat * 65536 + mode)

/-- MODE_REQUEST_CONFIGURE (R568). -/
def execModeRequestConfigure (m : Master) (key : BitVec 16) (s : State) : Host.Outcome State Fault Refusal :=
  store m A.SYS_MODE_REQ (modeWord 0 key) s

/-- MODE_REQUEST_PERFORM (R567). -/
def execModeRequestPerform (m : Master) (key : BitVec 16) (s : State) : Host.Outcome State Fault Refusal :=
  store m A.SYS_MODE_REQ (modeWord 1 key) s

/-- MODE_REQUEST_HUSH (R569). -/
def execModeRequestHush (m : Master) (key : BitVec 16) (s : State) : Host.Outcome State Fault Refusal :=
  store m A.SYS_MODE_REQ (modeWord 2 key) s

/-- MODE_REQUEST_VAULT (R578). -/
def execModeRequestVault (m : Master) (key : BitVec 16) (s : State) : Host.Outcome State Fault Refusal :=
  store m A.SYS_MODE_REQ (modeWord 3 key) s

/-- The tick after the ramp toward CONFIGURE (R568). -/
def Chip.configureDue (c : Chip) : Option Nat := c.pwr.ramp.map (fun t => t + 2 * c.met.ticks.cb)

/-- CONFIGURE_ENTERED (R568). -/
def execConfigureEntered (s : State) : Host.Outcome State Fault Refusal :=
  runTickDue s.chip.configureDue (fun e c => configureTick e.now e c) s

/-! ### Sleep and VAULT (R573 to R580) -/

/-- HUSH_WAKE (R576): a sub-state ends where a waking event or the scheduled wake has come. -/
def execHushWake (s : State) : Host.Outcome State Fault Refusal := run hushWake s

/-- HUSH_CLOCKS_RESUME (R576). -/
def execHushClocksResume (s : State) : Host.Outcome State Fault Refusal := run hushResume s

/-- VAULT_ENTRY (R578). -/
def execVaultEntry (s : State) : Host.Outcome State Fault Refusal := run vaultEntry s

/-- VAULT_WAKE (R579): a debounced edge on VWAKEn. -/
def execVaultWake (n : BitVec 1) (rising : Bool) (s : State) : Host.Outcome State Fault Refusal :=
  runVault (·.on (fun _ c => vwakeEdge n.toNat rising c)) s

/-- VAULT_POWER_UP (R580). -/
def execVaultPowerUp (s : State) : Host.Outcome State Fault Refusal := runVault vaultPowerUp s

/-! ### Resets (R549, R582, R648 to R652) -/

/-- POWER_ON_RESET (R582). -/
def execPowerOnReset (vaultApplied : Bool) (s : State) : Host.Outcome State Fault Refusal := runVault (powerOn vaultApplied) s

/-- RST_N_RESET (R652). -/
def execRstNReset (ns : Nat) (s : State) : Host.Outcome State Fault Refusal := runVault (rstN ns) s

/-- BROWN_OUT_RESET (R648). -/
def execBrownOutReset (s : State) : Host.Outcome State Fault Refusal := runVault brownOut s

/-- VAULT_SUPPLY_RESET (R549). -/
def execVaultSupplyReset (s : State) : Host.Outcome State Fault Refusal := runVault vaultSupplyLost s

/-- The word of SYS_RST_REQ for a reset and a key. -/
def resetWord (which : Nat) (key : BitVec 16) : Word := word (key.toNat * 65536 + which)

/-- CHIP (R582). -/
def execChip (m : Master) (key : BitVec 16) (s : State) : Host.Outcome State Fault Refusal :=
  store m A.SYS_RST_REQ (resetWord 4 key) s

/-- CORE0 (R582). -/
def execCore0 (m : Master) (key : BitVec 16) (s : State) : Host.Outcome State Fault Refusal :=
  store m A.SYS_RST_REQ (resetWord 1 key) s

/-- CORE1 (R582). -/
def execCore1 (m : Master) (key : BitVec 16) (s : State) : Host.Outcome State Fault Refusal :=
  store m A.SYS_RST_REQ (resetWord 2 key) s

/-! ### After a reset (R585 to R592) -/

/-- RESET_SEQUENCE (R585). -/
def execResetSequence (boot : BitVec 2) (pads : BitVec 96) (lowB lowC edges flash : Bool) (s : State) :
    Host.Outcome State Fault Refusal := runState (resetSequence boot pads lowB lowC edges flash) s

/-- RESET_CLOCK_SOURCE_TRY (R586). -/
def execResetClockSourceTry (s : State) : Host.Outcome State Fault Refusal := run (fun _ c => trySource c) s

/-- C1_RUN (R587). -/
def execC1Run (m : Master) (s : State) : Host.Outcome State Fault Refusal :=
  run (fun e c => regStore m A.SYS_CORE_CTL (setBitTo (c.rd A.SYS_CORE_CTL) 1 true) e c) s

/-! ### The NVM programmer (R593) -/

/-- BOOT_CONFIGURATION_PROGRAM (R593). -/
def execBootConfigurationProgram (m : Master) (s : State) : Host.Outcome State Fault Refusal := store m A.SYS_NVM_PROG 1 s

/-- OTP_PROGRAM (R593). -/
def execOtpProgram (m : Master) (w : BitVec 8) (s : State) : Host.Outcome State Fault Refusal :=
  store m A.SYS_NVM_PROG (word (16 * w.toNat + 2)) s

/-- NVM_PROG_COMPLETE (R593); `ok`: its verify succeeds. -/
def execNvmProgComplete (ok : Bool) (s : State) : Host.Outcome State Fault Refusal := runState (nvmProgDone ok) s

end Sys2Proof.Machine
end

