-- ==== Sys2Proof/Machine/QueueRows.lean ====
section
/-! DEFINITION. Machine/QueueRows.lean: the meanings of the commands of the queues and of the intake (03_queues_and_events.md,
R103 to R117). -/

namespace Sys2Proof.Machine

/-- QUEN_PUSH_STAGE (R110); words 1 to 3. -/
def execQuenPushStage (m : Master) (q i : Nat) (v : Word) (s : State) : Host.Outcome State Fault Refusal :=
  store m (A.QUEn_PUSH1 q + 4 * (i - 1)) v s

/-- QUEN_PUSH (R110, R112). -/
def execQuenPush (m : Master) (q : Nat) (v : Word) (s : State) : Host.Outcome State Fault Refusal :=
  store m (A.QUEn_PUSH q) v s

/-- QUEN_PUSH_T (R110, R112). -/
def execQuenPushT (m : Master) (q : Nat) (v : Word) (s : State) : Host.Outcome State Fault Refusal :=
  store m (A.QUEn_PUSH_T q) v s

/-- RECORD_ACCEPT (R103, R105 to R108): one cycle of a write port. -/
def execRecordAccept (q : Nat) (s : State) : Host.Outcome State Fault Refusal := run (fun e c => c.portCycle e q) s

/-- HOLD_RELEASE (R109): the port of a HOLD queue that has room again. -/
def execHoldRelease (q : Nat) (s : State) : Host.Outcome State Fault Refusal := run (fun e c => c.portCycle e q) s

/-- The commit that has waited longest at a full HOLD queue (R109). -/
def Chip.heldCommit (c : Chip) (q : Nat) : Option SkidItem :=
  if c.holding q then c.que.skid.find? (fun i => i.byMaster && i.queue == q) else none

/-- When that commit has waited 65,536 interconnect cycles. -/
def Chip.holdDue (c : Chip) (q : Nat) : Option Nat := (c.heldCommit q).map (fun i => i.since + cyclesToCounts 65536)

/-- The DMA channel that committed a record, by its source number. -/
def commitChannel (i : SkidItem) : Option Nat := if 0x40 ≤ i.r.source ∧ i.r.source < 0x50 then some (i.r.source - 0x40) else none

/-- A held commit is dropped (R109); a channel that posted it by SIGNAL sets SIG_LOST (R499). -/
def holdTimeout (q : Nat) (e : Env) (c : Chip) : Chip :=
  match c.heldCommit q with
  | none => c
  | some i =>
    let c := { c with que := { c.que with skid := c.que.skid.erase i } }
    let c := ((c.drop1 q).setBit (A.QUEn_STAT q) 5).report e 0x07 clsRecoverable q 0
    match commitChannel i with
    | some n => if (c.ch n).post = some q then c.setBit (A.CHn_STAT n) 13 else c
    | none => c

/-- HOLD_TIMEOUT (R109). -/
def execHoldTimeout (q : Nat) (s : State) : Host.Outcome State Fault Refusal := runDue (s.chip.holdDue q) (holdTimeout q) s

/-- QUEN_POP (R111, R112). -/
def execQuenPop (m : Master) (q : Nat) (s : State) : Host.Outcome State Fault Refusal := load m (A.QUEn_POP q) s

/-- The intake close that is due, of the block whose tick is at `t` (R117); it dispatches where a structure runs. -/
def intakeAt (t : Nat) (e : Env) (c : Chip) : Chip := if c.allocates then c.intakeClose e t else c

/-- ALLOCATOR_INTAKE_CLOSE (R43, R117). -/
def execAllocatorIntakeClose (s : State) : Host.Outcome State Fault Refusal :=
  runTick (s.chip.nextClose s.clock.abs).1 (intakeAt (s.chip.nextClose s.clock.abs).2) s

end Sys2Proof.Machine
end

