-- ==== Sys2Proof/Machine/QuireAlu.lean ====
section
/-! DEFINITION. Machine/QuireAlu.lean: the integer, fixed-point, accumulator and bit-field instructions of Quire
(10_quire_instruction_set.md, R344 to R351). -/

namespace Sys2Proof.Machine

/-! ### Integer ALU (R344, R345) -/

/-- ADD (R344). -/
def execAdd (core : BitVec 1) (c16 f : Bool) (rd ra rb : BitVec 5) (s : State) : Host.Outcome State Fault Refusal :=
  quire core (coreOp core.toNat c16 fun k => k.nzcv rd f (addFlags (k.src ra) (k.src rb) false)) s

/-- SUB (R344). -/
def execSub (core : BitVec 1) (c16 f : Bool) (rd ra rb : BitVec 5) (s : State) : Host.Outcome State Fault Refusal :=
  quire core (coreOp core.toNat c16 fun k => k.nzcv rd f (subFlags (k.src ra) (k.src rb) true)) s

/-- ADC (R344). -/
def execAdc (core : BitVec 1) (f : Bool) (rd ra rb : BitVec 5) (s : State) : Host.Outcome State Fault Refusal :=
  quire core (coreOp core.toNat false fun k => k.nzcv rd f (addFlags (k.src ra) (k.src rb) k.carry)) s

/-- SBC (R344). -/
def execSbc (core : BitVec 1) (f : Bool) (rd ra rb : BitVec 5) (s : State) : Host.Outcome State Fault Refusal :=
  quire core (coreOp core.toNat false fun k => k.nzcv rd f (subFlags (k.src ra) (k.src rb) k.carry)) s

/-- AND (R344). -/
def execAnd (core : BitVec 1) (c16 f : Bool) (rd ra rb : BitVec 5) (s : State) : Host.Outcome State Fault Refusal :=
  quire core (coreOp core.toNat c16 fun k => k.nz rd f (k.src ra &&& k.src rb)) s

/-- OR (R344). -/
def execOr (core : BitVec 1) (c16 f : Bool) (rd ra rb : BitVec 5) (s : State) : Host.Outcome State Fault Refusal :=
  quire core (coreOp core.toNat c16 fun k => k.nz rd f (k.src ra ||| k.src rb)) s

/-- XOR (R344). -/
def execXor (core : BitVec 1) (c16 f : Bool) (rd ra rb : BitVec 5) (s : State) : Host.Outcome State Fault Refusal :=
  quire core (coreOp core.toNat c16 fun k => k.nz rd f (k.src ra ^^^ k.src rb)) s

/-- ANDN (R344). -/
def execAndn (core : BitVec 1) (f : Bool) (rd ra rb : BitVec 5) (s : State) : Host.Outcome State Fault Refusal :=
  quire core (coreOp core.toNat false fun k => k.nz rd f (k.src ra &&& ~~~ k.src rb)) s

/-- Shift amount from a register: rb[4:0] (R344). -/
def Core.amount (k : Core) (rb : BitVec 5) : Nat := bits (k.src rb) 4 0

/-- SLL (R344). -/
def execSll (core : BitVec 1) (f : Bool) (rd ra rb : BitVec 5) (s : State) : Host.Outcome State Fault Refusal :=
  quire core (coreOp core.toNat false fun k => k.shift .sll rd ra (k.amount rb) f) s

/-- SRL (R344). -/
def execSrl (core : BitVec 1) (f : Bool) (rd ra rb : BitVec 5) (s : State) : Host.Outcome State Fault Refusal :=
  quire core (coreOp core.toNat false fun k => k.shift .srl rd ra (k.amount rb) f) s

/-- SRA (R344). -/
def execSra (core : BitVec 1) (f : Bool) (rd ra rb : BitVec 5) (s : State) : Host.Outcome State Fault Refusal :=
  quire core (coreOp core.toNat false fun k => k.shift .sra rd ra (k.amount rb) f) s

/-- ROR (R344). -/
def execRor (core : BitVec 1) (f : Bool) (rd ra rb : BitVec 5) (s : State) : Host.Outcome State Fault Refusal :=
  quire core (coreOp core.toNat false fun k => k.shift .ror rd ra (k.amount rb) f) s

/-- SLLI (R344). -/
def execSlli (core : BitVec 1) (c16 f : Bool) (rd ra n : BitVec 5) (s : State) : Host.Outcome State Fault Refusal :=
  quire core (coreOp core.toNat c16 fun k => k.shift .sll rd ra n.toNat f) s

/-- SRLI (R344). -/
def execSrli (core : BitVec 1) (c16 f : Bool) (rd ra n : BitVec 5) (s : State) : Host.Outcome State Fault Refusal :=
  quire core (coreOp core.toNat c16 fun k => k.shift .srl rd ra n.toNat f) s

/-- SRAI (R344). -/
def execSrai (core : BitVec 1) (c16 f : Bool) (rd ra n : BitVec 5) (s : State) : Host.Outcome State Fault Refusal :=
  quire core (coreOp core.toNat c16 fun k => k.shift .sra rd ra n.toNat f) s

/-- RORI (R344). -/
def execRori (core : BitVec 1) (f : Bool) (rd ra n : BitVec 5) (s : State) : Host.Outcome State Fault Refusal :=
  quire core (coreOp core.toNat false fun k => k.shift .ror rd ra n.toNat f) s

/-- 1 where a condition holds. -/
def oneIf (b : Bool) : Word := if b then 1 else 0

/-- SLT (R344). -/
def execSlt (core : BitVec 1) (f : Bool) (rd ra rb : BitVec 5) (s : State) : Host.Outcome State Fault Refusal :=
  quire core (coreOp core.toNat false fun k => k.nz rd f (oneIf ((k.src ra).slt (k.src rb)))) s

/-- SLTU (R344). -/
def execSltu (core : BitVec 1) (f : Bool) (rd ra rb : BitVec 5) (s : State) : Host.Outcome State Fault Refusal :=
  quire core (coreOp core.toNat false fun k => k.nz rd f (oneIf ((k.src ra).ult (k.src rb)))) s

/-- MIN (R344). -/
def execMin (core : BitVec 1) (f : Bool) (rd ra rb : BitVec 5) (s : State) : Host.Outcome State Fault Refusal :=
  quire core (coreOp core.toNat false fun k => k.nz rd f (if (k.src rb).slt (k.src ra) then k.src rb else k.src ra)) s

/-- MAX (R344). -/
def execMax (core : BitVec 1) (f : Bool) (rd ra rb : BitVec 5) (s : State) : Host.Outcome State Fault Refusal :=
  quire core (coreOp core.toNat false fun k => k.nz rd f (if (k.src ra).slt (k.src rb) then k.src rb else k.src ra)) s

/-- MINU (R344). -/
def execMinu (core : BitVec 1) (f : Bool) (rd ra rb : BitVec 5) (s : State) : Host.Outcome State Fault Refusal :=
  quire core (coreOp core.toNat false fun k => k.nz rd f (if (k.src rb).ult (k.src ra) then k.src rb else k.src ra)) s

/-- MAXU (R344). -/
def execMaxu (core : BitVec 1) (f : Bool) (rd ra rb : BitVec 5) (s : State) : Host.Outcome State Fault Refusal :=
  quire core (coreOp core.toNat false fun k => k.nz rd f (if (k.src ra).ult (k.src rb) then k.src rb else k.src ra)) s

/-- Leading zeros of a word, 32 for 0. -/
def leadingZeros (w : Word) : Nat :=
  (((List.range 32).find? (fun i => w.getLsbD (31 - i)))).getD 32

/-- CLZ (R344). -/
def execClz (core : BitVec 1) (f : Bool) (rd ra : BitVec 5) (s : State) : Host.Outcome State Fault Refusal :=
  quire core (coreOp core.toNat false fun k => k.nz rd f (word (leadingZeros (k.src ra)))) s

/-- ABS: 0x8000_0000 gives itself with V = 1 (R344, R345). -/
def execAbs (core : BitVec 1) (f : Bool) (rd ra : BitVec 5) (s : State) : Host.Outcome State Fault Refusal :=
  quire core (coreOp core.toNat false fun k =>
    let a := k.src ra
    let r := if signBit a then -a else a
    k.result rd f r (withNZV k.psw r (a == 0x80000000))) s

/-- A word with its bytes reversed. -/
def reverseBytes (w : Word) : Word := word (leNat (leBytes 4 w.toNat).reverse)

/-- REV (R344). -/
def execRev (core : BitVec 1) (f : Bool) (rd ra : BitVec 5) (s : State) : Host.Outcome State Fault Refusal :=
  quire core (coreOp core.toNat false fun k => k.nz rd f (reverseBytes (k.src ra))) s

/-- SEXTB (R344). -/
def execSextb (core : BitVec 1) (f : Bool) (rd ra : BitVec 5) (s : State) : Host.Outcome State Fault Refusal :=
  quire core (coreOp core.toNat false fun k => k.nz rd f (wordI (sgn 8 (k.src ra).toNat))) s

/-- SEXTH (R344). -/
def execSexth (core : BitVec 1) (f : Bool) (rd ra : BitVec 5) (s : State) : Host.Outcome State Fault Refusal :=
  quire core (coreOp core.toNat false fun k => k.nz rd f (wordI (sgn 16 (k.src ra).toNat))) s

/-- ZEXTH (R344). -/
def execZexth (core : BitVec 1) (f : Bool) (rd ra : BitVec 5) (s : State) : Host.Outcome State Fault Refusal :=
  quire core (coreOp core.toNat false fun k => k.nz rd f (k.src ra &&& 0xFFFF)) s

/-- CMP always sets its flags (R344). -/
def execCmp (core : BitVec 1) (c16 : Bool) (ra rb : BitVec 5) (s : State) : Host.Outcome State Fault Refusal :=
  quire core (coreOp core.toNat c16 fun k => k.nzcv 0 true (subFlags (k.src ra) (k.src rb) true)) s

/-- TST always sets its flags (R344). -/
def execTst (core : BitVec 1) (ra rb : BitVec 5) (s : State) : Host.Outcome State Fault Refusal :=
  quire core (coreOp core.toNat false fun k => k.nz 0 true (k.src ra &&& k.src rb)) s

/-! ### Immediates (R346) -/

/-- ADDI (R346). -/
def execAddi (core : BitVec 1) (c16 : Bool) (rd ra : BitVec 5) (imm : BitVec 15) (s : State) : Host.Outcome State Fault Refusal :=
  quire core (coreOp core.toNat c16 fun k => k.setReg rd.toNat (k.src ra + imm.signExtend 32)) s

/-- ANDI (R346). -/
def execAndi (core : BitVec 1) (rd ra : BitVec 5) (imm : BitVec 15) (s : State) : Host.Outcome State Fault Refusal :=
  quire core (coreOp core.toNat false fun k => k.setReg rd.toNat (k.src ra &&& imm.setWidth 32)) s

/-- ORI (R346). -/
def execOri (core : BitVec 1) (rd ra : BitVec 5) (imm : BitVec 15) (s : State) : Host.Outcome State Fault Refusal :=
  quire core (coreOp core.toNat false fun k => k.setReg rd.toNat (k.src ra ||| imm.setWidth 32)) s

/-- XORI (R346). -/
def execXori (core : BitVec 1) (rd ra : BitVec 5) (imm : BitVec 15) (s : State) : Host.Outcome State Fault Refusal :=
  quire core (coreOp core.toNat false fun k => k.setReg rd.toNat (k.src ra ^^^ imm.setWidth 32)) s

/-- CMPI (R346). -/
def execCmpi (core : BitVec 1) (c16 : Bool) (ra : BitVec 5) (imm : BitVec 15) (s : State) : Host.Outcome State Fault Refusal :=
  quire core (coreOp core.toNat c16 fun k => k.nzcv 0 true (subFlags (k.src ra) (imm.signExtend 32) true)) s

/-- SLTI (R346). -/
def execSlti (core : BitVec 1) (rd ra : BitVec 5) (imm : BitVec 15) (s : State) : Host.Outcome State Fault Refusal :=
  quire core (coreOp core.toNat false fun k => k.setReg rd.toNat (oneIf ((k.src ra).slt (imm.signExtend 32)))) s

/-- LUI (R346). -/
def execLui (core : BitVec 1) (rd : BitVec 5) (imm : BitVec 20) (s : State) : Host.Outcome State Fault Refusal :=
  quire core (coreOp core.toNat false fun k => k.setReg rd.toNat (imm.setWidth 32 <<< 12)) s

/-- AUIPC (R346). -/
def execAuipc (core : BitVec 1) (rd : BitVec 5) (imm : BitVec 20) (s : State) : Host.Outcome State Fault Refusal :=
  quire core (coreOp core.toNat false fun k => k.setReg rd.toNat (k.pc + imm.setWidth 32 <<< 12)) s

/-! ### Multiply and divide (R347, R348) -/

/-- MUL (R347). -/
def execMul (core : BitVec 1) (rd ra rb : BitVec 5) (s : State) : Host.Outcome State Fault Refusal :=
  quire core (coreOp core.toNat false fun k => k.setReg rd.toNat (k.src ra * k.src rb)) s

/-- Bits [63:32] of an exact product. -/
def highHalf (x : Int) : Word := wordI (x / 2 ^ 32)

/-- MULH (R347). -/
def execMulh (core : BitVec 1) (rd ra rb : BitVec 5) (s : State) : Host.Outcome State Fault Refusal :=
  quire core (coreOp core.toNat false fun k => k.setReg rd.toNat (highHalf ((k.src ra).toInt * (k.src rb).toInt))) s

/-- MULHU (R347). -/
def execMulhu (core : BitVec 1) (rd ra rb : BitVec 5) (s : State) : Host.Outcome State Fault Refusal :=
  quire core (coreOp core.toNat false fun k => k.setReg rd.toNat (highHalf ((k.src ra).toNat * (k.src rb).toNat))) s

/-- MULHSU (R347). -/
def execMulhsu (core : BitVec 1) (rd ra rb : BitVec 5) (s : State) : Host.Outcome State Fault Refusal :=
  quire core (coreOp core.toNat false fun k => k.setReg rd.toNat (highHalf ((k.src ra).toInt * (k.src rb).toNat))) s

/-- Signed quotient, truncated toward zero (R347, R348). -/
def quoS (a b : Word) : Word := if b = 0 then 0xFFFFFFFF else wordI (a.toInt.tdiv b.toInt)

/-- Unsigned quotient (R347, R348). -/
def quoU (a b : Word) : Word := if b = 0 then 0xFFFFFFFF else word (a.toNat / b.toNat)

/-- DIV (R347, R348). -/
def execDiv (core : BitVec 1) (rd ra rb : BitVec 5) (s : State) : Host.Outcome State Fault Refusal :=
  quire core (coreOp core.toNat false fun k => k.setReg rd.toNat (quoS (k.src ra) (k.src rb))) s

/-- DIVU (R347, R348). -/
def execDivu (core : BitVec 1) (rd ra rb : BitVec 5) (s : State) : Host.Outcome State Fault Refusal :=
  quire core (coreOp core.toNat false fun k => k.setReg rd.toNat (quoU (k.src ra) (k.src rb))) s

/-- REM: ra where rb is 0 (R347, R348). -/
def execRem (core : BitVec 1) (rd ra rb : BitVec 5) (s : State) : Host.Outcome State Fault Refusal :=
  quire core (coreOp core.toNat false fun k => k.setReg rd.toNat (k.src ra - quoS (k.src ra) (k.src rb) * k.src rb)) s

/-- REMU (R347, R348). -/
def execRemu (core : BitVec 1) (rd ra rb : BitVec 5) (s : State) : Host.Outcome State Fault Refusal :=
  quire core (coreOp core.toNat false fun k => k.setReg rd.toNat (k.src ra - quoU (k.src ra) (k.src rb) * k.src rb)) s

/-! ### Saturating fixed point (R349) -/

/-- QADD (R349). -/
def execQadd (core : BitVec 1) (rd ra rb : BitVec 5) (s : State) : Host.Outcome State Fault Refusal :=
  quire core (coreOp core.toNat false fun k => k.clamped rd (satS 32 ((k.src ra).toInt + (k.src rb).toInt))) s

/-- QSUB (R349). -/
def execQsub (core : BitVec 1) (rd ra rb : BitVec 5) (s : State) : Host.Outcome State Fault Refusal :=
  quire core (coreOp core.toNat false fun k => k.clamped rd (satS 32 ((k.src ra).toInt - (k.src rb).toInt))) s

/-- QNEG (R349). -/
def execQneg (core : BitVec 1) (rd ra : BitVec 5) (s : State) : Host.Outcome State Fault Refusal :=
  quire core (coreOp core.toNat false fun k => k.clamped rd (satS 32 (-(k.src ra).toInt))) s

/-- QABS (R349). -/
def execQabs (core : BitVec 1) (rd ra : BitVec 5) (s : State) : Host.Outcome State Fault Refusal :=
  quire core (coreOp core.toNat false fun k => k.clamped rd (satS 32 (k.src ra).toInt.natAbs)) s

/-- QADD16 (R349). -/
def execQadd16 (core : BitVec 1) (rd ra rb : BitVec 5) (s : State) : Host.Outcome State Fault Refusal :=
  quire core (coreOp core.toNat false fun k => k.perLane rd ra rb (· + ·)) s

/-- QSUB16 (R349). -/
def execQsub16 (core : BitVec 1) (rd ra rb : BitVec 5) (s : State) : Host.Outcome State Fault Refusal :=
  quire core (coreOp core.toNat false fun k => k.perLane rd ra rb (· - ·)) s

/-- QMUL (R349). -/
def execQmul (core : BitVec 1) (rd ra rb : BitVec 5) (s : State) : Host.Outcome State Fault Refusal :=
  quire core (coreOp core.toNat false fun k => k.clamped rd (satS 32 (roundShift ((k.src ra).toInt * (k.src rb).toInt) 31))) s

/-- QMUL16 (R349). -/
def execQmul16 (core : BitVec 1) (rd ra rb : BitVec 5) (s : State) : Host.Outcome State Fault Refusal :=
  quire core (coreOp core.toNat false fun k => k.perLane rd ra rb fun x y => roundShift (x * y) 15) s

/-- SATS: n is the rb field + 1 (R349). -/
def execSats (core : BitVec 1) (rd ra rb : BitVec 5) (s : State) : Host.Outcome State Fault Refusal :=
  quire core (coreOp core.toNat false fun k => k.clamped rd (satS (rb.toNat + 1) (k.src ra).toInt)) s

/-- SATU: n is the rb field + 1 (R349). -/
def execSatu (core : BitVec 1) (rd ra rb : BitVec 5) (s : State) : Host.Outcome State Fault Refusal :=
  quire core (coreOp core.toNat false fun k => k.clamped rd (satU (rb.toNat + 1) (k.src ra).toInt)) s

/-- PACKLL (R349). -/
def execPackll (core : BitVec 1) (rd ra rb : BitVec 5) (s : State) : Host.Outcome State Fault Refusal :=
  quire core (coreOp core.toNat false fun k =>
    k.setReg rd.toNat (k.src rb <<< 16 ||| (k.src ra &&& 0xFFFF))) s

/-- PACKHH (R349). -/
def execPackhh (core : BitVec 1) (rd ra rb : BitVec 5) (s : State) : Host.Outcome State Fault Refusal :=
  quire core (coreOp core.toNat false fun k =>
    k.setReg rd.toNat ((k.src rb &&& 0xFFFF0000) ||| k.src ra >>> 16)) s

/-! ### Accumulators (R350) -/

/-- MAC (R350). -/
def execMac (core : BitVec 1) (c16 : Bool) (a : BitVec 1) (ra rb : BitVec 5) (s : State) : Host.Outcome State Fault Refusal :=
  quire core (coreOp core.toNat c16 fun k => k.accumulate a ((k.src ra).toInt * (k.src rb).toInt)) s

/-- MSU (R350). -/
def execMsu (core : BitVec 1) (a : BitVec 1) (ra rb : BitVec 5) (s : State) : Host.Outcome State Fault Refusal :=
  quire core (coreOp core.toNat false fun k => k.accumulate a (-((k.src ra).toInt * (k.src rb).toInt))) s

/-- MACU (R350). -/
def execMacu (core : BitVec 1) (a : BitVec 1) (ra rb : BitVec 5) (s : State) : Host.Outcome State Fault Refusal :=
  quire core (coreOp core.toNat false fun k => k.accumulate a ((k.src ra).toNat * (k.src rb).toNat)) s

/-- MULA (R350). -/
def execMula (core : BitVec 1) (a : BitVec 1) (ra rb : BitVec 5) (s : State) : Host.Outcome State Fault Refusal :=
  quire core (coreOp core.toNat false fun k =>
    k.setAcc a.toNat (BitVec.ofInt 72 ((k.src ra).toInt * (k.src rb).toInt))) s

/-- MACQ (R350). -/
def execMacq (core : BitVec 1) (a : BitVec 1) (ra rb : BitVec 5) (s : State) : Host.Outcome State Fault Refusal :=
  quire core (coreOp core.toNat false fun k => k.accumulate a (2 * ((k.src ra).toInt * (k.src rb).toInt))) s

/-- MAC16 (R350). -/
def execMac16 (core : BitVec 1) (a : BitVec 1) (ra rb : BitVec 5) (s : State) : Host.Outcome State Fault Refusal :=
  quire core (coreOp core.toNat false fun k => k.accumulate a (laneDot (k.src ra) (k.src rb))) s

/-- MACQ16 (R350). -/
def execMacq16 (core : BitVec 1) (a : BitVec 1) (ra rb : BitVec 5) (s : State) : Host.Outcome State Fault Refusal :=
  quire core (coreOp core.toNat false fun k => k.accumulate a (2 * laneDot (k.src ra) (k.src rb))) s

/-- ACCR: rounded and saturated (R350). -/
def execAccr (core : BitVec 1) (rd : BitVec 5) (a : BitVec 1) (sh : BitVec 6) (s : State) : Host.Outcome State Fault Refusal :=
  quire core (coreOp core.toNat false fun k => k.clamped rd (satS 32 (roundShift (k.acc a.toNat).toInt sh.toNat))) s

/-- ACCRL (R350). -/
def execAccrl (core : BitVec 1) (rd : BitVec 5) (a : BitVec 1) (s : State) : Host.Outcome State Fault Refusal :=
  quire core (coreOp core.toNat false fun k => k.setReg rd.toNat ((k.acc a.toNat).extractLsb' 0 32)) s

/-- ACCRH (R350). -/
def execAccrh (core : BitVec 1) (rd : BitVec 5) (a : BitVec 1) (s : State) : Host.Outcome State Fault Refusal :=
  quire core (coreOp core.toNat false fun k => k.setReg rd.toNat ((k.acc a.toNat).extractLsb' 32 32)) s

/-- ACCRG (R350). -/
def execAccrg (core : BitVec 1) (rd : BitVec 5) (a : BitVec 1) (s : State) : Host.Outcome State Fault Refusal :=
  quire core (coreOp core.toNat false fun k => k.setReg rd.toNat (((k.acc a.toNat).extractLsb' 64 8).signExtend 32)) s

/-- ACCWL (R350). -/
def execAccwl (core : BitVec 1) (a : BitVec 1) (ra : BitVec 5) (s : State) : Host.Outcome State Fault Refusal :=
  quire core (coreOp core.toNat false fun k =>
    k.setAcc a.toNat (((k.acc a.toNat).extractLsb' 32 40 ++ k.src ra : BitVec 72))) s

/-- ACCWH (R350). -/
def execAccwh (core : BitVec 1) (a : BitVec 1) (ra : BitVec 5) (s : State) : Host.Outcome State Fault Refusal :=
  quire core (coreOp core.toNat false fun k =>
    k.setAcc a.toNat (((k.acc a.toNat).extractLsb' 64 8 ++ k.src ra ++ (k.acc a.toNat).extractLsb' 0 32 : BitVec 72))) s

/-- ACCWG (R350). -/
def execAccwg (core : BitVec 1) (a : BitVec 1) (ra : BitVec 5) (s : State) : Host.Outcome State Fault Refusal :=
  quire core (coreOp core.toNat false fun k =>
    k.setAcc a.toNat (((k.src ra).extractLsb' 0 8 ++ (k.acc a.toNat).extractLsb' 0 64 : BitVec 72))) s

/-- ASHR (R350). -/
def execAshr (core : BitVec 1) (a : BitVec 1) (sh : BitVec 6) (s : State) : Host.Outcome State Fault Refusal :=
  quire core (coreOp core.toNat false fun k => k.setAcc a.toNat ((k.acc a.toNat).sshiftRight sh.toNat)) s

/-- ACLR (R350). -/
def execAclr (core : BitVec 1) (a : BitVec 1) (s : State) : Host.Outcome State Fault Refusal :=
  quire core (coreOp core.toNat false fun k => k.setAcc a.toNat 0) s

/-! ### Bit fields (R351) -/

/-- EXTU (R351). -/
def execExtu (core : BitVec 1) (rd ra pos wm1 : BitVec 5) (s : State) : Host.Outcome State Fault Refusal :=
  quire core (coreOp core.toNat false fun k =>
    k.setReg rd.toNat (word ((k.src ra).toNat / 2 ^ pos.toNat % 2 ^ fieldWidth pos.toNat wm1.toNat))) s

/-- EXTS (R351). -/
def execExts (core : BitVec 1) (rd ra pos wm1 : BitVec 5) (s : State) : Host.Outcome State Fault Refusal :=
  quire core (coreOp core.toNat false fun k =>
    k.setReg rd.toNat (wordI (sgn (fieldWidth pos.toNat wm1.toNat) ((k.src ra).toNat / 2 ^ pos.toNat)))) s

/-- INS (R351). -/
def execIns (core : BitVec 1) (rd ra pos wm1 : BitVec 5) (s : State) : Host.Outcome State Fault Refusal :=
  quire core (coreOp core.toNat false fun k =>
    k.setReg rd.toNat (putFld (k.src rd) (pos.toNat + fieldWidth pos.toNat wm1.toNat - 1) pos.toNat (k.src ra).toNat)) s

/-- INSZ (R351). -/
def execInsz (core : BitVec 1) (rd ra pos wm1 : BitVec 5) (s : State) : Host.Outcome State Fault Refusal :=
  quire core (coreOp core.toNat false fun k =>
    k.setReg rd.toNat (word ((k.src ra).toNat % 2 ^ fieldWidth pos.toNat wm1.toNat * 2 ^ pos.toNat))) s

end Sys2Proof.Machine
end

