-- ==== Sys2Proof/Machine/StackRows.lean ====
section
/-! DEFINITION. Machine/StackRows.lean: the meanings of the commands of the voices and the chimes (04_voices.md, R125 to
R173). -/

namespace Sys2Proof.Machine

/-- VOICE_WRITE_APPLY (R125): the waiting writes apply at the next block tick. -/
def execVoiceWriteApply (s : State) : Host.Outcome State Fault Refusal :=
  runTick (s.chip.nextBlock s.clock.abs) (fun e c => c.applyVoiceWrites e.now) s

/-- ENVELOPE_SEGMENT_END (R137 to R139). -/
def execEnvelopeSegmentEnd (v env : Nat) (s : State) : Host.Outcome State Fault Refusal := run (envelopeEnd v env) s

/-- WAVE_END (R134). -/
def execWaveEnd (v : Nat) (s : State) : Host.Outcome State Fault Refusal := run (waveEnd v) s

/-- The word of STK_VCMD for an operation on voice `v` (R168). -/
def vcmdWord (op v : Nat) : Word := word (v % 256 * 256 + op)

/-- VCMD_START (R168). -/
def execVcmdStart (m : Master) (v : Nat) (s : State) : Host.Outcome State Fault Refusal := store m A.STK_VCMD (vcmdWord 1 v) s

/-- VCMD_RELEASE (R168). -/
def execVcmdRelease (m : Master) (v : Nat) (s : State) : Host.Outcome State Fault Refusal := store m A.STK_VCMD (vcmdWord 2 v) s

/-- VCMD_KILL (R168). -/
def execVcmdKill (m : Master) (v : Nat) (s : State) : Host.Outcome State Fault Refusal := store m A.STK_VCMD (vcmdWord 3 v) s

/-- CHIME_DECAY_STEP (R173): the next decay step of channel `n`, at its block tick. -/
def execChimeDecayStep (n : Nat) (s : State) : Host.Outcome State Fault Refusal :=
  runTickDue (s.chip.decayDue n (s.chip.nextBlock s.clock.abs)) (fun e c => c.chimeDecay n e.now) s

/-- CHIME_LENGTH_EXPIRE (R173): LENGTH of channel `n` reaches 0, at its block tick. -/
def execChimeLengthExpire (n : Nat) (s : State) : Host.Outcome State Fault Refusal :=
  runTickDue (s.chip.lengthDue n (s.chip.nextBlock s.clock.abs)) (fun e c => c.chimeExpire n e.now) s

end Sys2Proof.Machine
end

