-- ==== Sys2Proof/Machine/TimerRows.lean ====
section
/-! DEFINITION. Machine/TimerRows.lean: the meanings of the commands of the timers, the real-time clock and the random
number generator (16_timers_clock_random.md, R542 to R564), and one edge of the Vault clock. -/

namespace Sys2Proof.Machine

/-! ### Timers (R542 to R545) -/

/-- TIM_START (R543). -/
def execTimStart (m : Master) (n : BitVec 4) (s : State) : Host.Outcome State Fault Refusal := store m (A.TIMn_CTL n.toNat) 1 s

/-- TIM_STOP (R543). -/
def execTimStop (m : Master) (n : BitVec 4) (s : State) : Host.Outcome State Fault Refusal := store m (A.TIMn_CTL n.toNat) 2 s

/-- TIM_ZERO (R542, R544): a timer that counts MCLK; one that counts slowly reaches zero at a Vault-clock edge (R545). -/
def execTimZero (n : BitVec 4) (s : State) : Host.Outcome State Fault Refusal :=
  runDue (if s.chip.timRate n.toNat = .fast then s.chip.timDue n.toNat else none) (fun e c => c.timSync e n.toNat) s

/-! ### The Vault clock's edges (R408, R545, R547 to R555, R598, R631) -/

/-- A pad's level as the backlight sampler sees it. -/
def Chip.padLevel (c : Chip) (p : Nat) : Bool := (c.pinDriven p).getD (c.pinLevel p)

/-- What an edge does in the core domain: watchdogs, the backlight sampler, mask windows and timers that a debug halt
slows. -/
def coreEdge (e : Env) (c : Chip) : Chip :=
  let c := wdgEdge e 1 (wdgEdge e 0 c)
  let c := c.sampleBacklight e c.padLevel
  let c := pinMaskEdge e c
  if c.slow then c else c.timSlowEdge e c.slowAdd

/-- One edge of the Vault clock; the sensor reads `temp` (in 1/16 °C). A count that runs slow has made its own step
before (R29). -/
def vaultEdge (temp : Int) (e : Env) (c : Chip) : Chip :=
  if c.pwr.boot == .noSupply then c
  else
    let alarm := c.almDue 0 || c.almDue 1
    let c := rtcEdge temp e c
    let c := if alarm then alarmWake c else c
    let c := if c.mode = .vault then c else coreEdge e c
    { c with met := { c.met with vaultEdges := c.met.vaultEdges + 1 } }

/-- An edge of the Vault clock, in any mode, where `due` holds. -/
def edgeIf (due : Chip → Bool) (temp : BitVec 16) (s : State) : Host.Outcome State Fault Refusal :=
  runVault (fun s => if due s.chip then s.on (vaultEdge temp.toInt) else s) s

/-- RTC_TICK (R547). -/
def execRtcTick (temp : BitVec 16) (s : State) : Host.Outcome State Fault Refusal := edgeIf (fun _ => true) temp s

/-- ALARM_FIRE (R555): the edge at which alarm `n` fires. -/
def execAlarmFire (n : BitVec 1) (temp : BitVec 16) (s : State) : Host.Outcome State Fault Refusal :=
  edgeIf (·.almDue n.toNat) temp s

/-- RTC_WRITE_TAKES_EFFECT (R550): the edge at which the oldest waiting write takes effect. -/
def execRtcWriteTakesEffect (temp : BitVec 16) (s : State) : Host.Outcome State Fault Refusal :=
  edgeIf Chip.rtcWriteDue temp s

/-- RTC_FREEZE_TIMEOUT (R552): the edge at which a freeze runs out. -/
def execRtcFreezeTimeout (temp : BitVec 16) (s : State) : Host.Outcome State Fault Refusal :=
  edgeIf Chip.rtcFreezeDue temp s

/-! ### The RTC's registers (R552, R554) -/

/-- RTC_COMMIT (R554): a write of RTC_CTL with COMMIT = 1. -/
def execRtcCommit (m : Master) (v : Word) (s : State) : Host.Outcome State Fault Refusal :=
  store m A.RTC_CTL (setBitTo v 1 true) s

/-- RTC_WINDOW_READ (R552). -/
def execRtcWindowRead (m : Master) (addr : Nat) (s : State) : Host.Outcome State Fault Refusal := load m addr s

/-- RTC_CAL_STATUS_READ (R552). -/
def execRtcCalStatusRead (m : Master) (s : State) : Host.Outcome State Fault Refusal := load m A.RTC_CAL_STATUS s

/-! ### The random number generator (R556 to R564) -/

/-- RNG_RAW_SAMPLE (R556). -/
def execRngRawSample (b : Bool) (s : State) : Host.Outcome State Fault Refusal := run (rngSample b) s

/-- RNG_GENERATE_BLOCK (R560). -/
def execRngGenerateBlock (s : State) : Host.Outcome State Fault Refusal := run (fun _ c => rngBlock c) s

/-- RNG_OUT_READ (R563). -/
def execRngOutRead (m : Master) (s : State) : Host.Outcome State Fault Refusal := load m A.RNG_OUT s

/-- RESTART (R559): a write of RNG_CTL with RESTART = 1 and EN as it is. -/
def execRestart (m : Master) (s : State) : Host.Outcome State Fault Refusal :=
  run (fun e c => regStore m A.RNG_CTL (setBitTo (c.rd A.RNG_CTL) 1 true) e c) s

end Sys2Proof.Machine
end

