-- ==== Sys2Proof/Machine/Dispatch.lean ====
section
/-! DEFINITION. Machine/Dispatch.lean: one arm per command, each one call of its meaning. -/

namespace Sys2Proof.Machine

/-- The effect of a command (the queue of waiting commands is the step's). -/
def exec (i : Instr) (s : State) : Host.Outcome State Fault Refusal :=
  match i with
  | .profileLockWrite m v => Sys2Proof.Machine.execProfileLockWrite m v s
  | .registerWrite m addr v => Sys2Proof.Machine.execRegisterWrite m addr v s
  | .rcRegisterRead m addr => Sys2Proof.Machine.execRcRegisterRead m addr s
  | .busAccess r rivals => Sys2Proof.Machine.execBusAccess r rivals s
  | .sysClkCfgWrite m v => Sys2Proof.Machine.execSysClkCfgWrite m v s
  | .pllLock edges => Sys2Proof.Machine.execPllLock edges s
  | .clockMeasurement cycles => Sys2Proof.Machine.execClockMeasurement cycles s
  | .holdoverEntry => Sys2Proof.Machine.execHoldoverEntry s
  | .slowCountStep => Sys2Proof.Machine.execSlowCountStep s
  | .countWrap => Sys2Proof.Machine.execCountWrap s
  | .sampleTick rx => Sys2Proof.Machine.execSampleTick rx s
  | .blockTick late => Sys2Proof.Machine.execBlockTick late s
  | .frameTick => Sys2Proof.Machine.execFrameTick s
  | .metCountLoRead m => Sys2Proof.Machine.execMetCountLoRead m s
  | .verify src => Sys2Proof.Machine.execVerify src s
  | .verifyComplete => Sys2Proof.Machine.execVerifyComplete s
  | .commit => Sys2Proof.Machine.execCommit s
  | .commitTakesEffect => Sys2Proof.Machine.execCommitTakesEffect s
  | .planSwap => Sys2Proof.Machine.execPlanSwap s
  | .armSwap => Sys2Proof.Machine.execArmSwap s
  | .cancel => Sys2Proof.Machine.execCancel s
  | .program slot => Sys2Proof.Machine.execProgram slot s
  | .erase slot => Sys2Proof.Machine.execErase slot s
  | .nvmOperationComplete ok => Sys2Proof.Machine.execNvmOperationComplete ok s
  | .chtSwapParamWrite xfade v => Sys2Proof.Machine.execChtSwapParamWrite xfade v s
  | .hardChangeRamp => Sys2Proof.Machine.execHardChangeRamp s
  | .swapTakesEffect => Sys2Proof.Machine.execSwapTakesEffect s
  | .xfadeEnd => Sys2Proof.Machine.execXfadeEnd s
  | .groupMemberWrite m addr v => Sys2Proof.Machine.execGroupMemberWrite m addr v s
  | .groupArm m addr v => Sys2Proof.Machine.execGroupArm m addr v s
  | .groupApply arm => Sys2Proof.Machine.execGroupApply arm s
  | .quenPushStage m q k v => Sys2Proof.Machine.execQuenPushStage m q k v s
  | .quenPush m q v => Sys2Proof.Machine.execQuenPush m q v s
  | .quenPushT m q v => Sys2Proof.Machine.execQuenPushT m q v s
  | .recordAccept q => Sys2Proof.Machine.execRecordAccept q s
  | .holdRelease q => Sys2Proof.Machine.execHoldRelease q s
  | .holdTimeout q => Sys2Proof.Machine.execHoldTimeout q s
  | .quenPop m q => Sys2Proof.Machine.execQuenPop m q s
  | .allocatorIntakeClose => Sys2Proof.Machine.execAllocatorIntakeClose s
  | .voiceWriteApply => Sys2Proof.Machine.execVoiceWriteApply s
  | .envelopeSegmentEnd v env => Sys2Proof.Machine.execEnvelopeSegmentEnd v env s
  | .waveEnd v => Sys2Proof.Machine.execWaveEnd v s
  | .vcmdStart m v => Sys2Proof.Machine.execVcmdStart m v s
  | .vcmdRelease m v => Sys2Proof.Machine.execVcmdRelease m v s
  | .vcmdKill m v => Sys2Proof.Machine.execVcmdKill m v s
  | .chimeDecayStep n => Sys2Proof.Machine.execChimeDecayStep n s
  | .chimeLengthExpire n => Sys2Proof.Machine.execChimeLengthExpire n s
  | .sapSlaveFrame n phase edges rx => Sys2Proof.Machine.execSapSlaveFrame n phase edges rx s
  | .sapSlaveLock n => Sys2Proof.Machine.execSapSlaveLock n s
  | .sapFrameStartTimeout n => Sys2Proof.Machine.execSapFrameStartTimeout n s
  | .spdifBlockStart => Sys2Proof.Machine.execSpdifBlockStart s
  | .keyScan levels edges => Sys2Proof.Machine.execKeyScan levels edges s
  | .lockoutEnd contact => Sys2Proof.Machine.execLockoutEnd contact s
  | .keyRecordPresent => Sys2Proof.Machine.execKeyRecordPresent s
  | .keyCfgWrite m addr v => Sys2Proof.Machine.execKeyCfgWrite m addr v s
  | .sleepScanSample low => Sys2Proof.Machine.execSleepScanSample low s
  | .adcConversion value => Sys2Proof.Machine.execAdcConversion value s
  | .adcCfgWrite m n v => Sys2Proof.Machine.execAdcCfgWrite m n v s
  | .midiInMessage n bytes => Sys2Proof.Machine.execMidiInMessage n bytes s
  | .midiRealtimeByte n idle b => Sys2Proof.Machine.execMidiRealtimeByte n idle b s
  | .sysexRecord n bytes => Sys2Proof.Machine.execSysexRecord n bytes s
  | .activeSensingTimeout n => Sys2Proof.Machine.execActiveSensingTimeout n s
  | .midiOutRecord n => Sys2Proof.Machine.execMidiOutRecord n s
  | .midiOutSendAt n => Sys2Proof.Machine.execMidiOutSendAt n s
  | .directSlotSend n => Sys2Proof.Machine.execDirectSlotSend n s
  | .activeSensingTx n => Sys2Proof.Machine.execActiveSensingTx n s
  | .usbCfgWrite m addr v => Sys2Proof.Machine.execUsbCfgWrite m addr v s
  | .usbReconnect => Sys2Proof.Machine.execUsbReconnect s
  | .usbBusReset hs => Sys2Proof.Machine.execUsbBusReset hs s
  | .usbSuspend => Sys2Proof.Machine.execUsbSuspend s
  | .usbResume => Sys2Proof.Machine.execUsbResume s
  | .usbStandardRequest r => Sys2Proof.Machine.execUsbStandardRequest r s
  | .setConfiguration v => Sys2Proof.Machine.execSetConfiguration v s
  | .setInterface n alt => Sys2Proof.Machine.execSetInterface n alt s
  | .featureUnitSetCur entity control v => Sys2Proof.Machine.execFeatureUnitSetCur entity control v s
  | .clockSetCur hz => Sys2Proof.Machine.execClockSetCur hz s
  | .usbAudioOutPacket toggle frames => Sys2Proof.Machine.execUsbAudioOutPacket toggle frames s
  | .usbAudioInPacket => Sys2Proof.Machine.execUsbAudioInPacket s
  | .usbFeedback counts => Sys2Proof.Machine.execUsbFeedback counts s
  | .usbMidiEventPacket toggle events => Sys2Proof.Machine.execUsbMidiEventPacket toggle events s
  | .universalMidiPacket toggle ws => Sys2Proof.Machine.execUniversalMidiPacket toggle ws s
  | .usbMidiInSend => Sys2Proof.Machine.execUsbMidiInSend s
  | .dfuDownload data => Sys2Proof.Machine.execDfuDownload data s
  | .dfuUpload => Sys2Proof.Machine.execDfuUpload s
  | .dfuManifest => Sys2Proof.Machine.execDfuManifest s
  | .dispCtlWrite m v => Sys2Proof.Machine.execDispCtlWrite m v s
  | .dispLineStart late => Sys2Proof.Machine.execDispLineStart late s
  | .dispTeEdge => Sys2Proof.Machine.execDispTeEdge s
  | .pushComplete => Sys2Proof.Machine.execPushComplete s
  | .dispDbiCmd m v => Sys2Proof.Machine.execDispDbiCmd m v s
  | .dispDirtyMark m v => Sys2Proof.Machine.execDispDirtyMark m v s
  | .dispDirtyAll m v => Sys2Proof.Machine.execDispDirtyAll m v s
  | .dispChrCmd m v => Sys2Proof.Machine.execDispChrCmd m v s
  | .resync m v => Sys2Proof.Machine.execResync m v s
  | .dispSrWrite m v => Sys2Proof.Machine.execDispSrWrite m v s
  | .scrExecute m => Sys2Proof.Machine.execScrExecute m s
  | .scrStartList m => Sys2Proof.Machine.execScrStartList m s
  | .scrAbort m rows => Sys2Proof.Machine.execScrAbort m rows s
  | .scrNop => Sys2Proof.Machine.execScrNop s
  | .scrFill => Sys2Proof.Machine.execScrFill s
  | .scrRect => Sys2Proof.Machine.execScrRect s
  | .scrLine => Sys2Proof.Machine.execScrLine s
  | .scrCopy => Sys2Proof.Machine.execScrCopy s
  | .scrKeycopy => Sys2Proof.Machine.execScrKeycopy s
  | .scrBlend => Sys2Proof.Machine.execScrBlend s
  | .scrGlyph => Sys2Proof.Machine.execScrGlyph s
  | .scrTilew => Sys2Proof.Machine.execScrTilew s
  | .scrPack => Sys2Proof.Machine.execScrPack s
  | .scrTarget => Sys2Proof.Machine.execScrTarget s
  | .scrClip => Sys2Proof.Machine.execScrClip s
  | .scrFence => Sys2Proof.Machine.execScrFence s
  | .scrJump => Sys2Proof.Machine.execScrJump s
  | .scrEnd => Sys2Proof.Machine.execScrEnd s
  | .scrUnknownOp => Sys2Proof.Machine.execScrUnknownOp s
  | .fenceFire => Sys2Proof.Machine.execFenceFire s
  | .add core c16 f rd ra rb => Sys2Proof.Machine.execAdd core c16 f rd ra rb s
  | .sub core c16 f rd ra rb => Sys2Proof.Machine.execSub core c16 f rd ra rb s
  | .adc core f rd ra rb => Sys2Proof.Machine.execAdc core f rd ra rb s
  | .sbc core f rd ra rb => Sys2Proof.Machine.execSbc core f rd ra rb s
  | .and core c16 f rd ra rb => Sys2Proof.Machine.execAnd core c16 f rd ra rb s
  | .or core c16 f rd ra rb => Sys2Proof.Machine.execOr core c16 f rd ra rb s
  | .xor core c16 f rd ra rb => Sys2Proof.Machine.execXor core c16 f rd ra rb s
  | .andn core f rd ra rb => Sys2Proof.Machine.execAndn core f rd ra rb s
  | .sll core f rd ra rb => Sys2Proof.Machine.execSll core f rd ra rb s
  | .srl core f rd ra rb => Sys2Proof.Machine.execSrl core f rd ra rb s
  | .sra core f rd ra rb => Sys2Proof.Machine.execSra core f rd ra rb s
  | .ror core f rd ra rb => Sys2Proof.Machine.execRor core f rd ra rb s
  | .slli core c16 f rd ra n => Sys2Proof.Machine.execSlli core c16 f rd ra n s
  | .srli core c16 f rd ra n => Sys2Proof.Machine.execSrli core c16 f rd ra n s
  | .srai core c16 f rd ra n => Sys2Proof.Machine.execSrai core c16 f rd ra n s
  | .rori core f rd ra n => Sys2Proof.Machine.execRori core f rd ra n s
  | .slt core f rd ra rb => Sys2Proof.Machine.execSlt core f rd ra rb s
  | .sltu core f rd ra rb => Sys2Proof.Machine.execSltu core f rd ra rb s
  | .min core f rd ra rb => Sys2Proof.Machine.execMin core f rd ra rb s
  | .max core f rd ra rb => Sys2Proof.Machine.execMax core f rd ra rb s
  | .minu core f rd ra rb => Sys2Proof.Machine.execMinu core f rd ra rb s
  | .maxu core f rd ra rb => Sys2Proof.Machine.execMaxu core f rd ra rb s
  | .clz core f rd ra => Sys2Proof.Machine.execClz core f rd ra s
  | .abs core f rd ra => Sys2Proof.Machine.execAbs core f rd ra s
  | .rev core f rd ra => Sys2Proof.Machine.execRev core f rd ra s
  | .sextb core f rd ra => Sys2Proof.Machine.execSextb core f rd ra s
  | .sexth core f rd ra => Sys2Proof.Machine.execSexth core f rd ra s
  | .zexth core f rd ra => Sys2Proof.Machine.execZexth core f rd ra s
  | .cmp core c16 ra rb => Sys2Proof.Machine.execCmp core c16 ra rb s
  | .tst core ra rb => Sys2Proof.Machine.execTst core ra rb s
  | .addi core c16 rd ra imm => Sys2Proof.Machine.execAddi core c16 rd ra imm s
  | .andi core rd ra imm => Sys2Proof.Machine.execAndi core rd ra imm s
  | .ori core rd ra imm => Sys2Proof.Machine.execOri core rd ra imm s
  | .xori core rd ra imm => Sys2Proof.Machine.execXori core rd ra imm s
  | .cmpi core c16 ra imm => Sys2Proof.Machine.execCmpi core c16 ra imm s
  | .slti core rd ra imm => Sys2Proof.Machine.execSlti core rd ra imm s
  | .lui core rd imm => Sys2Proof.Machine.execLui core rd imm s
  | .auipc core rd imm => Sys2Proof.Machine.execAuipc core rd imm s
  | .mul core rd ra rb => Sys2Proof.Machine.execMul core rd ra rb s
  | .mulh core rd ra rb => Sys2Proof.Machine.execMulh core rd ra rb s
  | .mulhu core rd ra rb => Sys2Proof.Machine.execMulhu core rd ra rb s
  | .mulhsu core rd ra rb => Sys2Proof.Machine.execMulhsu core rd ra rb s
  | .div core rd ra rb => Sys2Proof.Machine.execDiv core rd ra rb s
  | .divu core rd ra rb => Sys2Proof.Machine.execDivu core rd ra rb s
  | .rem core rd ra rb => Sys2Proof.Machine.execRem core rd ra rb s
  | .remu core rd ra rb => Sys2Proof.Machine.execRemu core rd ra rb s
  | .qadd core rd ra rb => Sys2Proof.Machine.execQadd core rd ra rb s
  | .qsub core rd ra rb => Sys2Proof.Machine.execQsub core rd ra rb s
  | .qneg core rd ra => Sys2Proof.Machine.execQneg core rd ra s
  | .qabs core rd ra => Sys2Proof.Machine.execQabs core rd ra s
  | .qadd16 core rd ra rb => Sys2Proof.Machine.execQadd16 core rd ra rb s
  | .qsub16 core rd ra rb => Sys2Proof.Machine.execQsub16 core rd ra rb s
  | .qmul core rd ra rb => Sys2Proof.Machine.execQmul core rd ra rb s
  | .qmul16 core rd ra rb => Sys2Proof.Machine.execQmul16 core rd ra rb s
  | .sats core rd ra rb => Sys2Proof.Machine.execSats core rd ra rb s
  | .satu core rd ra rb => Sys2Proof.Machine.execSatu core rd ra rb s
  | .packll core rd ra rb => Sys2Proof.Machine.execPackll core rd ra rb s
  | .packhh core rd ra rb => Sys2Proof.Machine.execPackhh core rd ra rb s
  | .mac core c16 a ra rb => Sys2Proof.Machine.execMac core c16 a ra rb s
  | .msu core a ra rb => Sys2Proof.Machine.execMsu core a ra rb s
  | .macu core a ra rb => Sys2Proof.Machine.execMacu core a ra rb s
  | .mula core a ra rb => Sys2Proof.Machine.execMula core a ra rb s
  | .macq core a ra rb => Sys2Proof.Machine.execMacq core a ra rb s
  | .mac16 core a ra rb => Sys2Proof.Machine.execMac16 core a ra rb s
  | .macq16 core a ra rb => Sys2Proof.Machine.execMacq16 core a ra rb s
  | .accr core rd a sh => Sys2Proof.Machine.execAccr core rd a sh s
  | .accrl core rd a => Sys2Proof.Machine.execAccrl core rd a s
  | .accrh core rd a => Sys2Proof.Machine.execAccrh core rd a s
  | .accrg core rd a => Sys2Proof.Machine.execAccrg core rd a s
  | .accwl core a ra => Sys2Proof.Machine.execAccwl core a ra s
  | .accwh core a ra => Sys2Proof.Machine.execAccwh core a ra s
  | .accwg core a ra => Sys2Proof.Machine.execAccwg core a ra s
  | .ashr core a sh => Sys2Proof.Machine.execAshr core a sh s
  | .aclr core a => Sys2Proof.Machine.execAclr core a s
  | .extu core rd ra pos wm1 => Sys2Proof.Machine.execExtu core rd ra pos wm1 s
  | .exts core rd ra pos wm1 => Sys2Proof.Machine.execExts core rd ra pos wm1 s
  | .ins core rd ra pos wm1 => Sys2Proof.Machine.execIns core rd ra pos wm1 s
  | .insz core rd ra pos wm1 => Sys2Proof.Machine.execInsz core rd ra pos wm1 s
  | .ld core c16 rd ra sz imm => Sys2Proof.Machine.execLd core c16 rd ra sz imm s
  | .st core c16 rd ra sz imm => Sys2Proof.Machine.execSt core c16 rd ra sz imm s
  | .ldx core c16 rd ra rb mode sc sz => Sys2Proof.Machine.execLdx core c16 rd ra rb mode sc sz s
  | .stx core rd ra rb mode sc sz => Sys2Proof.Machine.execStx core rd ra rb mode sc sz s
  | .bcc core c16 cond off => Sys2Proof.Machine.execBcc core c16 cond off s
  | .jal core c16 rd off => Sys2Proof.Machine.execJal core c16 rd off s
  | .jalr core c16 rd ra imm => Sys2Proof.Machine.execJalr core c16 rd ra imm s
  | .loop core ra endoff => Sys2Proof.Machine.execLoop core ra endoff s
  | .loopi core count endoff => Sys2Proof.Machine.execLoopi core count endoff s
  | .lpop core c16 => Sys2Proof.Machine.execLpop core c16 s
  | .swap core rd ra rb => Sys2Proof.Machine.execSwap core rd ra rb s
  | .cas core rd ra rb => Sys2Proof.Machine.execCas core rd ra rb s
  | .mfc core rd ctl => Sys2Proof.Machine.execMfc core rd ctl s
  | .mtc core ctl ra => Sys2Proof.Machine.execMtc core ctl ra s
  | .trap core code => Sys2Proof.Machine.execTrap core code s
  | .bkpt core c16 code => Sys2Proof.Machine.execBkpt core c16 code s
  | .reti core => Sys2Proof.Machine.execReti core s
  | .wfi core c16 => Sys2Proof.Machine.execWfi core c16 s
  | .sync core c16 => Sys2Proof.Machine.execSync core c16 s
  | .clean core ra => Sys2Proof.Machine.execClean core ra s
  | .inval core ra => Sys2Proof.Machine.execInval core ra s
  | .clinv core ra => Sys2Proof.Machine.execClinv core ra s
  | .icinv core ra => Sys2Proof.Machine.execIcinv core ra s
  | .storeBus core => Sys2Proof.Machine.execStoreBus core s
  | .interruptEntry core => Sys2Proof.Machine.execInterruptEntry core s
  | .intcClaim m t v => Sys2Proof.Machine.execIntcClaim m t v s
  | .intcDone m t v => Sys2Proof.Machine.execIntcDone m t v s
  | .intcSwiSet m v => Sys2Proof.Machine.execIntcSwiSet m v s
  | .intcSwiClr m v => Sys2Proof.Machine.execIntcSwiClr m v s
  | .tmrExpire core => Sys2Proof.Machine.execTmrExpire core s
  | .wdgKick core v => Sys2Proof.Machine.execWdgKick core v s
  | .wdgWarning core => Sys2Proof.Machine.execWdgWarning core s
  | .wdgExpiry core => Sys2Proof.Machine.execWdgExpiry core s
  | .haltReq m core v => Sys2Proof.Machine.execHaltReq m core v s
  | .debugHalt core => Sys2Proof.Machine.execDebugHalt core s
  | .resume m core v => Sys2Proof.Machine.execResume m core v s
  | .coreReset core flash => Sys2Proof.Machine.execCoreReset core flash s
  | .registryRead x line r streaming => Sys2Proof.Machine.execRegistryRead x line r streaming s
  | .registryOwn x line => Sys2Proof.Machine.execRegistryOwn x line s
  | .registryUpgrade x line => Sys2Proof.Machine.execRegistryUpgrade x line s
  | .registryWriteback x line evict => Sys2Proof.Machine.execRegistryWriteback x line evict s
  | .contestedGrant line reqs => Sys2Proof.Machine.execContestedGrant line reqs s
  | .tenureEnd line => Sys2Proof.Machine.execTenureEnd line s
  | .writeBufferLeave core => Sys2Proof.Machine.execWriteBufferLeave core s
  | .coherentRead m addr size => Sys2Proof.Machine.execCoherentRead m addr size s
  | .coherentWrite m addr data => Sys2Proof.Machine.execCoherentWrite m addr data s
  | .regyCleanAll m core => Sys2Proof.Machine.execRegyCleanAll m core s
  | .regyInvalAll m core => Sys2Proof.Machine.execRegyInvalAll m core s
  | .regyClinvAll m core => Sys2Proof.Machine.execRegyClinvAll m core s
  | .regyIcacheInval m core => Sys2Proof.Machine.execRegyIcacheInval m core s
  | .regyOpComplete core => Sys2Proof.Machine.execRegyOpComplete core s
  | .regyCoreCfgWrite m core v => Sys2Proof.Machine.execRegyCoreCfgWrite m core v s
  | .wccRangeClean m => Sys2Proof.Machine.execWccRangeClean m s
  | .wccRangeInval m => Sys2Proof.Machine.execWccRangeInval m s
  | .wccRangeClinv m => Sys2Proof.Machine.execWccRangeClinv m s
  | .wccOpComplete => Sys2Proof.Machine.execWccOpComplete s
  | .lockTimeout => Sys2Proof.Machine.execLockTimeout s
  | .memoryInitComplete => Sys2Proof.Machine.execMemoryInitComplete s
  | .xmcConfigWrite m addr v => Sys2Proof.Machine.execXmcConfigWrite m addr v s
  | .dsTimeout m addr => Sys2Proof.Machine.execDsTimeout m addr s
  | .xspiSequence m v => Sys2Proof.Machine.execXspiSequence m v s
  | .xspiSequenceComplete data => Sys2Proof.Machine.execXspiSequenceComplete data s
  | .xspiPoll status => Sys2Proof.Machine.execXspiPoll status s
  | .sdrInit m v => Sys2Proof.Machine.execSdrInit m v s
  | .sdrInitComplete => Sys2Proof.Machine.execSdrInitComplete s
  | .sdrRefresh => Sys2Proof.Machine.execSdrRefresh s
  | .dmaStart m ch => Sys2Proof.Machine.execDmaStart m ch s
  | .dmaDisable m ch => Sys2Proof.Machine.execDmaDisable m ch s
  | .dmaAbort m ch => Sys2Proof.Machine.execDmaAbort m ch s
  | .dmaCopyComplete ch => Sys2Proof.Machine.execDmaCopyComplete ch s
  | .dmaEnd ch => Sys2Proof.Machine.execDmaEnd ch s
  | .dmaMove ch => Sys2Proof.Machine.execDmaMove ch s
  | .dmaMove2d ch => Sys2Proof.Machine.execDmaMove2d ch s
  | .dmaLoop ch => Sys2Proof.Machine.execDmaLoop ch s
  | .dmaEndloop ch => Sys2Proof.Machine.execDmaEndloop ch s
  | .waitBlock ch => Sys2Proof.Machine.execWaitBlock ch s
  | .waitAbsblock ch => Sys2Proof.Machine.execWaitAbsblock ch s
  | .waitSample ch => Sys2Proof.Machine.execWaitSample ch s
  | .waitLine ch => Sys2Proof.Machine.execWaitLine ch s
  | .waitQueue ch => Sys2Proof.Machine.execWaitQueue ch s
  | .waitEvent ch => Sys2Proof.Machine.execWaitEvent ch s
  | .dmaWaitComplete ch => Sys2Proof.Machine.execDmaWaitComplete ch s
  | .signalInt ch => Sys2Proof.Machine.execSignalInt ch s
  | .signalQueue ch => Sys2Proof.Machine.execSignalQueue ch s
  | .signalEvent ch => Sys2Proof.Machine.execSignalEvent ch s
  | .dmaSet ch => Sys2Proof.Machine.execDmaSet ch s
  | .dmaBusError ch cause => Sys2Proof.Machine.execDmaBusError ch cause s
  | .dmaBackoffEnd ch => Sys2Proof.Machine.execDmaBackoffEnd ch s
  | .dmaEvtSet m v => Sys2Proof.Machine.execDmaEvtSet m v s
  | .dmaEvtClr m v => Sys2Proof.Machine.execDmaEvtClr m v s
  | .hostLenFault ch tag => Sys2Proof.Machine.execHostLenFault ch tag s
  | .hostGapTimeout ch => Sys2Proof.Machine.execHostGapTimeout ch s
  | .hostNop ch tag payload crc dur => Sys2Proof.Machine.execHostNop ch tag payload crc dur s
  | .fetch ch tag payload crc dur => Sys2Proof.Machine.execFetch ch tag payload crc dur s
  | .read32 ch tag payload crc dur => Sys2Proof.Machine.execRead32 ch tag payload crc dur s
  | .write32 ch tag payload crc dur => Sys2Proof.Machine.execWrite32 ch tag payload crc dur s
  | .readMem ch tag payload crc dur => Sys2Proof.Machine.execReadMem ch tag payload crc dur s
  | .writeMem ch tag payload crc dur => Sys2Proof.Machine.execWriteMem ch tag payload crc dur s
  | .hostCharter ch tag payload crc dur => Sys2Proof.Machine.execHostCharter ch tag payload crc dur s
  | .hostMode ch tag payload crc dur => Sys2Proof.Machine.execHostMode ch tag payload crc dur s
  | .hostRun ch tag payload crc dur => Sys2Proof.Machine.execHostRun ch tag payload crc dur s
  | .hostUnassignedOp ch op tag payload crc dur => Sys2Proof.Machine.execHostUnassignedOp ch op tag payload crc dur s
  | .hostForwardedRequest ch op tag payload crc dur => Sys2Proof.Machine.execHostForwardedRequest ch op tag payload crc dur s
  | .hostSwReply => Sys2Proof.Machine.execHostSwReply s
  | .hostSwTimeout ch => Sys2Proof.Machine.execHostSwTimeout ch s
  | .hostReplyRead ch a0 => Sys2Proof.Machine.execHostReplyRead ch a0 s
  | .hostAbandon => Sys2Proof.Machine.execHostAbandon s
  | .cacheClr m mask => Sys2Proof.Machine.execCacheClr m mask s
  | .timStart m n => Sys2Proof.Machine.execTimStart m n s
  | .timStop m n => Sys2Proof.Machine.execTimStop m n s
  | .timZero n => Sys2Proof.Machine.execTimZero n s
  | .rtcTick temp => Sys2Proof.Machine.execRtcTick temp s
  | .alarmFire n temp => Sys2Proof.Machine.execAlarmFire n temp s
  | .rtcWriteTakesEffect temp => Sys2Proof.Machine.execRtcWriteTakesEffect temp s
  | .rtcCommit m v => Sys2Proof.Machine.execRtcCommit m v s
  | .rtcWindowRead m addr => Sys2Proof.Machine.execRtcWindowRead m addr s
  | .rtcCalStatusRead m => Sys2Proof.Machine.execRtcCalStatusRead m s
  | .rtcFreezeTimeout temp => Sys2Proof.Machine.execRtcFreezeTimeout temp s
  | .rngRawSample b => Sys2Proof.Machine.execRngRawSample b s
  | .rngGenerateBlock => Sys2Proof.Machine.execRngGenerateBlock s
  | .rngOutRead m => Sys2Proof.Machine.execRngOutRead m s
  | .restart m => Sys2Proof.Machine.execRestart m s
  | .modeRequestConfigure m key => Sys2Proof.Machine.execModeRequestConfigure m key s
  | .configureEntered => Sys2Proof.Machine.execConfigureEntered s
  | .modeRequestPerform m key => Sys2Proof.Machine.execModeRequestPerform m key s
  | .modeRequestHush m key => Sys2Proof.Machine.execModeRequestHush m key s
  | .modeRequestVault m key => Sys2Proof.Machine.execModeRequestVault m key s
  | .hushWake => Sys2Proof.Machine.execHushWake s
  | .hushClocksResume => Sys2Proof.Machine.execHushClocksResume s
  | .vaultEntry => Sys2Proof.Machine.execVaultEntry s
  | .vaultWake n rising => Sys2Proof.Machine.execVaultWake n rising s
  | .vaultPowerUp => Sys2Proof.Machine.execVaultPowerUp s
  | .powerOnReset vaultApplied => Sys2Proof.Machine.execPowerOnReset vaultApplied s
  | .rstNReset ns => Sys2Proof.Machine.execRstNReset ns s
  | .brownOutReset => Sys2Proof.Machine.execBrownOutReset s
  | .vaultSupplyReset => Sys2Proof.Machine.execVaultSupplyReset s
  | .chip m key => Sys2Proof.Machine.execChip m key s
  | .core0 m key => Sys2Proof.Machine.execCore0 m key s
  | .core1 m key => Sys2Proof.Machine.execCore1 m key s
  | .resetSequence boot pads lowB lowC edges flash => Sys2Proof.Machine.execResetSequence boot pads lowB lowC edges flash s
  | .resetClockSourceTry => Sys2Proof.Machine.execResetClockSourceTry s
  | .c1Run m => Sys2Proof.Machine.execC1Run m s
  | .bootConfigurationProgram m => Sys2Proof.Machine.execBootConfigurationProgram m s
  | .otpProgram m w => Sys2Proof.Machine.execOtpProgram m w s
  | .nvmProgComplete ok => Sys2Proof.Machine.execNvmProgComplete ok s
  | .ringOscillatorMeasure c0 c1 => Sys2Proof.Machine.execRingOscillatorMeasure c0 c1 s
  | .dailySample margin verified => Sys2Proof.Machine.execDailySample margin verified s
  | .ledgerIndicatorReset m v => Sys2Proof.Machine.execLedgerIndicatorReset m v s
  | .fatalMute => Sys2Proof.Machine.execFatalMute s
  | .fltAck m v => Sys2Proof.Machine.execFltAck m v s
  | .unmute m => Sys2Proof.Machine.execUnmute m s
  | .release m debug => Sys2Proof.Machine.execRelease m debug s
  | .fltInject m v => Sys2Proof.Machine.execFltInject m v s
  | .pinMuxWrite m p v => Sys2Proof.Machine.execPinMuxWrite m p v s
  | .pinMaskWindowEnd p level => Sys2Proof.Machine.execPinMaskWindowEnd p level s
  | .pinSet m x v => Sys2Proof.Machine.execPinSet m x v s
  | .pinClr m x v => Sys2Proof.Machine.execPinClr m x v s
  | .pinFiltWrite m p v level => Sys2Proof.Machine.execPinFiltWrite m p v level s
  | .pinFilterAccept p age => Sys2Proof.Machine.execPinFilterAccept p age s
  | .illegalInstruction core => Sys2Proof.Machine.execIllegalInstruction core s
  | .dmaBadProg ch => Sys2Proof.Machine.execDmaBadProg ch s
  | .jtagAccess op => Sys2Proof.Machine.execJtagAccess op s

end Sys2Proof.Machine
end

