-- ==== Sys2Proof/Machine/Step.lean ====
section
/-! DEFINITION. Machine/Step.lean: one step of the device: it takes the command at the front of the queue, and with no
command waiting it lets time pass. -/

namespace Sys2Proof.Machine

/-- One step. With a command at the front of the queue: its effect, with the queue's rest. With none: one count of MCLK
passes while the metronome runs (DESIGN CHOICE, log entry 23); every event of the time that passes is a command of its
own. -/
def step (s : State) : Host.Outcome State Fault Refusal :=
  match s.pending with
  | c :: rest => exec c { s with pending := rest }
  | [] => .next s.idle

/-- The state with the command that a word spells at the front of its queue. -/
def State.withFetchWord (s : State) (nbits w : Nat) : State :=
  match decodeTableWord nbits w with
  | some c => { s with pending := c :: s.pending }
  | none => s

end Sys2Proof.Machine
end

