-- ==== Sys2Proof/WellFormed.lean ====
section
/-! DEFINITION. WellFormed.lean: which terms stand for a command that the device can meet: masters, channels, queues, pins
and registers that exist, and 16-bit encodings only of the forms that R371 gives one. -/

namespace Sys2Proof

/-- The masters that exist (R17, R480, R509). -/
def Master.wf : Master → Bool
  | .core n => decide (n < 2)
  | .dma ch => decide (ch < 16)
  | .wave => true
  | .fx => true
  | .disp => true
  | .scr => true
  | .host ch => decide (ch < 3)

/-- A master whose accesses may be coherent (R434 to R436). -/
def Master.coherent (m : Master) : Bool :=
  m.wf && (match m with
    | .fx => false
    | .disp => false
    | .scr => false
    | _ => true)

/-- An access of 1 to 64 bytes that does not cross a 64-byte boundary and carries its bytes (R451). -/
def BusAccess.wf (r : BusAccess) : Bool :=
  r.m.wf && decide (1 ≤ r.size) && decide (r.addr % 64 + r.size ≤ 64) && decide (r.addr < 2 ^ 32)
    && (if r.write then decide (r.data.length = r.size) && !r.fetch else r.data.isEmpty)

/-- The address of a word in a register window (R445). -/
def regAddr (a : Nat) : Bool :=
  a % 4 == 0 && (decide (0x60000000 ≤ a ∧ a < 0x60190000) || decide (0x70000000 ≤ a ∧ a < 0x70010000))

/-- The operation codes below 0x80 that the host port assigns (R525). -/
def hostOps : List Nat := [0x00, 0x01, 0x10, 0x11, 0x12, 0x13, 0x20, 0x21, 0x22]

/-! ### 16-bit forms (R371) -/

/-- A condition on the 16-bit form only. -/
def short (c16 ok : Bool) : Bool := !c16 || ok

/-- g8 to g15. -/
def upper (r : BitVec 5) : Bool := decide (8 ≤ r.toNat ∧ r.toNat < 16)

/-- A signed immediate of 5 bits. -/
def imm5 (v : BitVec 15) : Bool := (v.setWidth 5).signExtend 15 == v

/-- A signed offset of 10 bits. -/
def off10 (v : BitVec 20) : Bool := (v.setWidth 10).signExtend 20 == v

/-- LWSP and SWSP: a word at g2 plus 4 times 5 bits. -/
def wordAtSp (sz : BitVec 3) (ra : BitVec 5) (imm : BitVec 12) : Bool :=
  sz == 2 && ra == 2 && imm.toNat % 4 == 0 && decide (imm.toNat < 128)

/-- An access of SZ `s` at an offset of 4 bits times `k`. -/
def smallOff (sz : BitVec 3) (s k : Nat) (imm : BitVec 12) : Bool :=
  sz.toNat == s && imm.toNat % k == 0 && decide (imm.toNat < 16 * k)

/-! ### Commands -/

/-- The command is one that the device can meet. -/
def Instr.wf (i : Instr) : Bool :=
  match i with
  | .profileLockWrite m _ => m.wf
  | .registerWrite m addr _ => m.wf && regAddr addr
  | .rcRegisterRead m addr => m.wf && regAddr addr
  | .busAccess r rivals => r.wf && rivals.all BusAccess.wf
  | .sysClkCfgWrite m _ => m.wf
  | .pllLock _ => true
  | .clockMeasurement _ => true
  | .holdoverEntry => true
  | .slowCountStep => true
  | .countWrap => true
  | .sampleTick rx => rx.all (fun x => decide (x.1 < 64))
  | .blockTick late => decide (late < 512)
  | .frameTick => true
  | .metCountLoRead m => m.wf
  | .verify src => decide (src < 4)
  | .verifyComplete => true
  | .commit => true
  | .commitTakesEffect => true
  | .planSwap => true
  | .armSwap => true
  | .cancel => true
  | .program slot => decide (slot < 4)
  | .erase slot => decide (slot < 4)
  | .nvmOperationComplete _ => true
  | .chtSwapParamWrite _ _ => true
  | .hardChangeRamp => true
  | .swapTakesEffect => true
  | .xfadeEnd => true
  | .groupMemberWrite m addr _ => m.wf && regAddr addr
  | .groupArm m addr _ => m.wf && regAddr addr
  | .groupApply arm => regAddr arm
  | .quenPushStage m q k _ => m.wf && decide (q < 64) && decide (1 ≤ k ∧ k ≤ 3)
  | .quenPush m q _ => m.wf && decide (q < 64)
  | .quenPushT m q _ => m.wf && decide (q < 64)
  | .recordAccept q => decide (q < 64)
  | .holdRelease q => decide (q < 64)
  | .holdTimeout q => decide (q < 64)
  | .quenPop m q => m.wf && decide (q < 64)
  | .allocatorIntakeClose => true
  | .voiceWriteApply => true
  | .envelopeSegmentEnd v env => decide (v < 256) && decide (env < 2)
  | .waveEnd v => decide (v < 256)
  | .vcmdStart m v => m.wf && decide (v < 256)
  | .vcmdRelease m v => m.wf && decide (v < 256)
  | .vcmdKill m v => m.wf && decide (v < 256)
  | .chimeDecayStep n => decide (n < 16)
  | .chimeLengthExpire n => decide (n < 16)
  | .sapSlaveFrame i _ _ rx => decide (i < 4) && rx.all (fun x => decide (x.1 < 16))
  | .sapSlaveLock i => decide (i < 4)
  | .sapFrameStartTimeout i => decide (i < 4)
  | .spdifBlockStart => true
  | .keyScan _ edges => edges.all (fun x => decide (x.1 < 1024 ∧ x.2 < 256))
  | .lockoutEnd contact => decide (contact < 256)
  | .keyRecordPresent => true
  | .keyCfgWrite m addr _ => m.wf && (addr == 0x60070000 || addr == 0x60070004)
  | .sleepScanSample _ => true
  | .adcConversion _ => true
  | .adcCfgWrite m n _ => m.wf && decide (n < 16)
  | .midiInMessage i _ => decide (i < 4)
  | .midiRealtimeByte i _ _ => decide (i < 4)
  | .sysexRecord i _ => decide (i < 4)
  | .activeSensingTimeout i => decide (i < 4)
  | .midiOutRecord i => decide (i < 4)
  | .midiOutSendAt i => decide (i < 4)
  | .directSlotSend i => decide (i < 4)
  | .activeSensingTx i => decide (i < 4)
  | .usbCfgWrite m addr _ => m.wf && decide (0x600A0000 ≤ addr ∧ addr < 0x600B0000) && regAddr addr
  | .usbReconnect => true
  | .usbBusReset _ => true
  | .usbSuspend => true
  | .usbResume => true
  | .usbStandardRequest _ => true
  | .setConfiguration v => decide (v < 256)
  | .setInterface i alt => decide (i < 256) && decide (alt < 256)
  | .featureUnitSetCur entity control v => decide (entity < 256) && decide (control < 256) && decide (v < 65536)
  | .clockSetCur _ => true
  | .usbAudioOutPacket _ _ => true
  | .usbAudioInPacket => true
  | .usbFeedback _ => true
  | .usbMidiEventPacket _ _ => true
  | .universalMidiPacket _ _ => true
  | .usbMidiInSend => true
  | .dfuDownload data => decide (data.length ≤ 1024)
  | .dfuUpload => true
  | .dfuManifest => true
  | .dispCtlWrite m _ => m.wf
  | .dispLineStart late => late.all (fun x => decide (x.1 < 5))
  | .dispTeEdge => true
  | .pushComplete => true
  | .dispDbiCmd m _ => m.wf
  | .dispDirtyMark m _ => m.wf
  | .dispDirtyAll m _ => m.wf
  | .dispChrCmd m _ => m.wf
  | .resync m _ => m.wf
  | .dispSrWrite m _ => m.wf
  | .scrExecute m => m.wf
  | .scrStartList m => m.wf
  | .scrAbort m _ => m.wf
  | .scrNop => true
  | .scrFill => true
  | .scrRect => true
  | .scrLine => true
  | .scrCopy => true
  | .scrKeycopy => true
  | .scrBlend => true
  | .scrGlyph => true
  | .scrTilew => true
  | .scrPack => true
  | .scrTarget => true
  | .scrClip => true
  | .scrFence => true
  | .scrJump => true
  | .scrEnd => true
  | .scrUnknownOp => true
  | .fenceFire => true
  | .add _ c16 f rd ra rb => short c16 (!f && (rb == 0 || ra == rd))
  | .sub _ c16 f rd ra _ => short c16 (!f && ra == rd)
  | .adc _ _ _ _ _ => true
  | .sbc _ _ _ _ _ => true
  | .and _ c16 f rd ra _ => short c16 (!f && ra == rd)
  | .or _ c16 f rd ra _ => short c16 (!f && ra == rd)
  | .xor _ c16 f rd ra _ => short c16 (!f && ra == rd)
  | .andn _ _ _ _ _ => true
  | .sll _ _ _ _ _ => true
  | .srl _ _ _ _ _ => true
  | .sra _ _ _ _ _ => true
  | .ror _ _ _ _ _ => true
  | .slli _ c16 f rd ra _ => short c16 (!f && ra == rd)
  | .srli _ c16 f rd ra _ => short c16 (!f && ra == rd)
  | .srai _ c16 f rd ra _ => short c16 (!f && ra == rd)
  | .rori _ _ _ _ _ => true
  | .slt _ _ _ _ _ => true
  | .sltu _ _ _ _ _ => true
  | .min _ _ _ _ _ => true
  | .max _ _ _ _ _ => true
  | .minu _ _ _ _ _ => true
  | .maxu _ _ _ _ _ => true
  | .clz _ _ _ _ => true
  | .abs _ _ _ _ => true
  | .rev _ _ _ _ => true
  | .sextb _ _ _ _ => true
  | .sexth _ _ _ _ => true
  | .zexth _ _ _ _ => true
  | .cmp _ _ _ _ => true
  | .tst _ _ _ => true
  | .addi _ c16 rd ra imm => short c16 (imm5 imm && (ra == rd || ra == 0))
  | .andi _ _ _ _ => true
  | .ori _ _ _ _ => true
  | .xori _ _ _ _ => true
  | .cmpi _ c16 _ imm => short c16 (imm5 imm)
  | .slti _ _ _ _ => true
  | .lui _ _ _ => true
  | .auipc _ _ _ => true
  | .mul _ _ _ _ => true
  | .mulh _ _ _ _ => true
  | .mulhu _ _ _ _ => true
  | .mulhsu _ _ _ _ => true
  | .div _ _ _ _ => true
  | .divu _ _ _ _ => true
  | .rem _ _ _ _ => true
  | .remu _ _ _ _ => true
  | .qadd _ _ _ _ => true
  | .qsub _ _ _ _ => true
  | .qneg _ _ _ => true
  | .qabs _ _ _ => true
  | .qadd16 _ _ _ _ => true
  | .qsub16 _ _ _ _ => true
  | .qmul _ _ _ _ => true
  | .qmul16 _ _ _ _ => true
  | .sats _ _ _ _ => true
  | .satu _ _ _ _ => true
  | .packll _ _ _ _ => true
  | .packhh _ _ _ _ => true
  | .mac _ c16 _ ra rb => short c16 (upper ra && upper rb)
  | .msu _ _ _ _ => true
  | .macu _ _ _ _ => true
  | .mula _ _ _ _ => true
  | .macq _ _ _ _ => true
  | .mac16 _ _ _ _ => true
  | .macq16 _ _ _ _ => true
  | .accr _ _ _ _ => true
  | .accrl _ _ _ => true
  | .accrh _ _ _ => true
  | .accrg _ _ _ => true
  | .accwl _ _ _ => true
  | .accwh _ _ _ => true
  | .accwg _ _ _ => true
  | .ashr _ _ _ => true
  | .aclr _ _ => true
  | .extu _ _ _ _ _ => true
  | .exts _ _ _ _ _ => true
  | .ins _ _ _ _ _ => true
  | .insz _ _ _ _ _ => true
  | .ld _ c16 rd ra sz imm => [0, 1, 2, 4, 5].contains sz.toNat && short c16 (wordAtSp sz ra imm || (upper rd && upper ra && (smallOff sz 2 4 imm || smallOff sz 5 2 imm || smallOff sz 4 1 imm)))
  | .st _ c16 rd ra sz imm => [0, 1, 2].contains sz.toNat && short c16 (wordAtSp sz ra imm || (upper rd && upper ra && (smallOff sz 2 4 imm || smallOff sz 1 2 imm || smallOff sz 0 1 imm)))
  | .ldx _ c16 rd ra _ mode _ sz => decide (mode.toNat ≤ 4) && short c16 (upper rd && upper ra && mode == 1 && sz == 2)
  | .stx _ _ _ _ _ _ _ => true
  | .bcc _ c16 cond off => short c16 (decide (cond.toNat ≤ 4) && off10 off)
  | .jal _ c16 rd off => short c16 (rd == 1 && off10 off)
  | .jalr _ c16 rd _ imm => short c16 (imm == 0 && decide (rd.toNat ≤ 1))
  | .loop _ _ _ => true
  | .loopi _ _ _ => true
  | .lpop _ _ => true
  | .swap _ _ _ _ => true
  | .cas _ _ _ _ => true
  | .mfc _ _ _ => true
  | .mtc _ _ _ => true
  | .trap _ _ => true
  | .bkpt _ _ _ => true
  | .reti _ => true
  | .wfi _ _ => true
  | .sync _ _ => true
  | .clean _ _ => true
  | .inval _ _ => true
  | .clinv _ _ => true
  | .icinv _ _ => true
  | .storeBus _ => true
  | .interruptEntry _ => true
  | .intcClaim m t _ => m.wf && t != 3
  | .intcDone m t _ => m.wf && t != 3
  | .intcSwiSet m _ => m.wf
  | .intcSwiClr m _ => m.wf
  | .tmrExpire _ => true
  | .wdgKick _ _ => true
  | .wdgWarning _ => true
  | .wdgExpiry _ => true
  | .haltReq m _ _ => m.wf
  | .debugHalt _ => true
  | .resume m _ _ => m.wf
  | .coreReset _ _ => true
  | .registryRead x _ r _ => decide (x < 3) && decide (r < 6)
  | .registryOwn x _ => decide (x < 3)
  | .registryUpgrade x _ => decide (x < 3)
  | .registryWriteback x _ _ => decide (x < 3)
  | .contestedGrant _ reqs => reqs.all (fun q => decide (q.1 < 3))
  | .tenureEnd _ => true
  | .writeBufferLeave _ => true
  | .coherentRead m _ size => m.coherent && decide (1 ≤ size ∧ size ≤ 64)
  | .coherentWrite m _ data => m.coherent && decide (1 ≤ data.length ∧ data.length ≤ 64)
  | .regyCleanAll m _ => m.wf
  | .regyInvalAll m _ => m.wf
  | .regyClinvAll m _ => m.wf
  | .regyIcacheInval m _ => m.wf
  | .regyOpComplete _ => true
  | .regyCoreCfgWrite m _ _ => m.wf
  | .wccRangeClean m => m.wf
  | .wccRangeInval m => m.wf
  | .wccRangeClinv m => m.wf
  | .wccOpComplete => true
  | .lockTimeout => true
  | .memoryInitComplete => true
  | .xmcConfigWrite m addr _ => m.wf && decide (0x60160000 ≤ addr ∧ addr < 0x60170000) && regAddr addr
  | .dsTimeout m addr => m.wf && decide (0x30000000 ≤ addr ∧ addr < 0x60000000)
  | .xspiSequence m _ => m.wf
  | .xspiSequenceComplete data => decide (data.length ≤ 64)
  | .xspiPoll _ => true
  | .sdrInit m _ => m.wf
  | .sdrInitComplete => true
  | .sdrRefresh => true
  | .dmaStart m _ => m.wf
  | .dmaDisable m _ => m.wf
  | .dmaAbort m _ => m.wf
  | .dmaCopyComplete _ => true
  | .dmaEnd _ => true
  | .dmaMove _ => true
  | .dmaMove2d _ => true
  | .dmaLoop _ => true
  | .dmaEndloop _ => true
  | .waitBlock _ => true
  | .waitAbsblock _ => true
  | .waitSample _ => true
  | .waitLine _ => true
  | .waitQueue _ => true
  | .waitEvent _ => true
  | .dmaWaitComplete _ => true
  | .signalInt _ => true
  | .signalQueue _ => true
  | .signalEvent _ => true
  | .dmaSet _ => true
  | .dmaBusError _ _ => true
  | .dmaBackoffEnd _ => true
  | .dmaEvtSet m _ => m.wf
  | .dmaEvtClr m _ => m.wf
  | .hostLenFault ch _ => decide (ch < 3)
  | .hostGapTimeout ch => decide (ch < 3)
  | .hostNop ch _ payload _ _ => decide (ch < 3) && decide (payload.length ≤ 1024)
  | .fetch ch _ payload _ _ => decide (ch < 3) && decide (payload.length ≤ 1024)
  | .read32 ch _ payload _ _ => decide (ch < 3) && decide (payload.length ≤ 1024)
  | .write32 ch _ payload _ _ => decide (ch < 3) && decide (payload.length ≤ 1024)
  | .readMem ch _ payload _ _ => decide (ch < 3) && decide (payload.length ≤ 1024)
  | .writeMem ch _ payload _ _ => decide (ch < 3) && decide (payload.length ≤ 1024)
  | .hostCharter ch _ payload _ _ => decide (ch < 3) && decide (payload.length ≤ 1024)
  | .hostMode ch _ payload _ _ => decide (ch < 3) && decide (payload.length ≤ 1024)
  | .hostRun ch _ payload _ _ => decide (ch < 3) && decide (payload.length ≤ 1024)
  | .hostUnassignedOp ch op _ payload _ _ => decide (ch < 3) && decide (payload.length ≤ 1024) && !hostOps.contains op.toNat
  | .hostForwardedRequest ch _ _ payload _ _ => decide (ch < 3) && decide (payload.length ≤ 1024)
  | .hostSwReply => true
  | .hostSwTimeout ch => decide (ch < 3)
  | .hostReplyRead ch a0 => decide (ch < 3) && (!a0 || ch == 0)
  | .hostAbandon => true
  | .cacheClr m _ => m.wf
  | .timStart m _ => m.wf
  | .timStop m _ => m.wf
  | .timZero _ => true
  | .rtcTick _ => true
  | .alarmFire _ _ => true
  | .rtcWriteTakesEffect _ => true
  | .rtcCommit m _ => m.wf
  | .rtcWindowRead m addr => m.wf && decide (0x60100000 ≤ addr ∧ addr < 0x60100018) && regAddr addr
  | .rtcCalStatusRead m => m.wf
  | .rtcFreezeTimeout _ => true
  | .rngRawSample _ => true
  | .rngGenerateBlock => true
  | .rngOutRead m => m.wf
  | .restart m => m.wf
  | .modeRequestConfigure m _ => m.wf
  | .configureEntered => true
  | .modeRequestPerform m _ => m.wf
  | .modeRequestHush m _ => m.wf
  | .modeRequestVault m _ => m.wf
  | .hushWake => true
  | .hushClocksResume => true
  | .vaultEntry => true
  | .vaultWake _ _ => true
  | .vaultPowerUp => true
  | .powerOnReset _ => true
  | .rstNReset _ => true
  | .brownOutReset => true
  | .vaultSupplyReset => true
  | .chip m _ => m.wf
  | .core0 m _ => m.wf
  | .core1 m _ => m.wf
  | .resetSequence _ _ _ _ _ _ => true
  | .resetClockSourceTry => true
  | .c1Run m => m.wf
  | .bootConfigurationProgram m => m.wf
  | .otpProgram m _ => m.wf
  | .nvmProgComplete _ => true
  | .ringOscillatorMeasure _ _ => true
  | .dailySample _ _ => true
  | .ledgerIndicatorReset m _ => m.wf
  | .fatalMute => true
  | .fltAck m _ => m.wf
  | .unmute m => m.wf
  | .release m _ => m.wf
  | .fltInject m _ => m.wf
  | .pinMuxWrite m p _ => m.wf && decide (p < 96)
  | .pinMaskWindowEnd p _ => decide (p < 96)
  | .pinSet m x _ => m.wf && decide (x < 3)
  | .pinClr m x _ => m.wf && decide (x < 3)
  | .pinFiltWrite m p _ _ => m.wf && decide (p < 96)
  | .pinFilterAccept p _ => decide (p < 96)
  | .illegalInstruction _ => true
  | .dmaBadProg _ => true
  | .jtagAccess _ => true

end Sys2Proof
end

