-- ==== Sys2Proof/Safety.lean ====
section
/-! DEFINITION. Safety.lean: the terms that claims use: what a run without a stop is, which state waits for nothing, and the
invariants. -/

namespace Sys2Proof.Machine

/-- The step that a state takes next goes on: it ends in no fault and no refusal. -/
def State.GoesOn (s : State) : Prop := ∃ t, step s = .next t

/-- The core domain is powered, and no earlier command has left anything to do. -/
def State.Quiet (s : State) : Prop := s.chip.powered = true ∧ s.chip.duties = false

/-- The state with another chip. -/
def State.withChip (s : State) (c : Chip) : State := { s with chip := c }

/-- The stored words of the registers are in canonical form: keys strictly rising, and none at its reset word. -/
def Chip.regsWf (c : Chip) : Bool := wfFrom regReset 0 c.regs

/-- A one-time-programmable word (R593). -/
def Fuses.otpWord (f : Fuses) (i : Nat) : Word := getS 0 f.otp i

/-- Every one-time-programmable bit of `a` that is programmed is programmed in `b`. -/
def Fuses.Kept (a b : Fuses) : Prop := ∀ i k, (a.otpWord i).getLsbD k = true → (b.otpWord i).getLsbD k = true

/-- Core `n` executes its next instruction: the device is quiet, and the core is running with no halt due and no single step
under way. -/
def State.Executes (s : State) (n : Nat) : Prop :=
  s.Quiet ∧ (s.chip.core n).run = .running ∧ (s.chip.core n).haltDue = none ∧ (s.chip.core n).stepping = false

/-- The state in which core `n` is `k` and nothing else has changed. -/
def State.withCore (s : State) (n : Nat) (k : Core) : State := s.withChip (s.chip.setCore n k)

/-- The state after an instruction of core `n`, of `size` bytes, that changes its core by `f` and goes on to its successor. -/
def State.afterOp (s : State) (n size : Nat) (f : Core → Core) : State :=
  s.withCore n ((f (s.chip.core n)).sequential size)

/-- The state after core `n`, which executes, has raised an exception (R384): the instruction itself has had no effect. -/
def State.raised (s : State) (n : Nat) (x : Exc) : State := (s.on (instr n fun _ c => .raise x c)).settle

/-- The state in which the chip has become `c`, with what follows at once. -/
def State.becomes (s : State) (c : Chip) : State := (s.withChip c).settle

/-- The state in which the count has moved on to `t`, unless it is there already, and the chip has become what `f` makes of
it at `t`, with what follows at once. -/
def State.becomesAt (s : State) (t : Nat) (f : Env → Chip → Chip) : State :=
  ((s.advTo t).withChip (f { now := t, fuses := s.fuses } (s.advTo t).chip)).settle

end Sys2Proof.Machine
end

