-- ==== Sys2Proof/Certificates/Slice0/Obligations.lean ====
section
/-! DEFINITION. Certificates/Slice0/Obligations.lean: the statements for the provers. -/

open Sys2Proof Sys2Proof.Machine

/-- The queue is first in, first out; the empty queue is the model's choice (log entry 23). -/
def Obligations.StepRunsTheFrontCommand : Prop :=
  (∀ (i : Instr) (rest : List Instr) (s : State),
    step { s with pending := i :: rest } = exec i { s with pending := rest }) ∧
  ∀ (s : State), s.pending = [] →
    step s = .next (if s.chip.powered = true ∧ s.chip.slow = false then s.advTo (s.clock.abs + 1) else s)

/-- R15, R28, R549, R566, R582: the state after a power-on reset. -/
def Obligations.ResetLeavesTheResetValues : Prop :=
  let s := State.reset
  let c := s.chip
  s.clock.count = 0 ∧ s.clock.epoch = 0 ∧ s.pending = [] ∧ c.mode = .configure ∧ c.core0.run = .held ∧ c.core1.run = .held ∧
    c.pwr.boot = .inReset ∧ c.intc.inService = [] ∧ c.ldr.state = .empty ∧ c.ldr.live = none ∧ c.rtc.frac = 0 ∧
    c.rtc.secs = 0 ∧ c.bit A.RTC_CTL 0 = true ∧ c.bit A.RTC_STAT 6 = true ∧ c.rd A.SYS_RST_CAUSE = 1 ∧
    (∀ a, c.rd a = regReset a) ∧ c.regsWf = true ∧ memWf c.mem = true

/-- R344, R345: the sums and differences, with their flags where F is set.
R344, R345: the instructions of the integer table that set N and Z, and ABS.
R344, R345: the shifts, from a register or immediate.
R344 to R346: the compares. -/
def Obligations.IntegerAluResultsAndFlags : Prop :=
  (∀ (core : BitVec 1) (c16 f : Bool) (rd ra rb : BitVec 5) (s : State), s.Executes core.toNat →
     let k := s.chip.core core.toNat
     let a := k.src ra
     let b := k.src rb
     let cin := if k.carry then 1 else 0
     let flags := fun (r : Word) (cy ov : Bool) => withNzcv k.psw { n := r.msb, z := decide (r = 0), c := cy, v := ov }
     let after := fun (size : Nat) (r : Word) (cy ov : Bool) =>
       Host.Outcome.next (s.afterOp core.toNat size fun k => k.result rd f r (flags r cy ov))
     exec (.add core c16 f rd ra rb) s =
       after (isz c16) (a + b) (decide (2 ^ 32 ≤ a.toNat + b.toNat)) (decide ((a + b).toInt ≠ a.toInt + b.toInt)) ∧
     exec (.sub core c16 f rd ra rb) s =
       after (isz c16) (a - b) (decide (b.toNat ≤ a.toNat)) (decide ((a - b).toInt ≠ a.toInt - b.toInt)) ∧
     exec (.adc core f rd ra rb) s =
       after 4 (a + b + word cin) (decide (2 ^ 32 ≤ a.toNat + b.toNat + cin))
         (decide ((a + b + word cin).toInt ≠ a.toInt + b.toInt + cin)) ∧
     exec (.sbc core f rd ra rb) s =
       after 4 (a - b - word (1 - cin)) (decide (b.toNat + (1 - cin) ≤ a.toNat))
         (decide ((a - b - word (1 - cin)).toInt ≠ a.toInt - b.toInt - (1 - cin : Nat)))) ∧
  (∀ (core : BitVec 1) (c16 f : Bool) (rd ra rb : BitVec 5) (s : State), s.Executes core.toNat →
     let k := s.chip.core core.toNat
     let a := k.src ra
     let b := k.src rb
     let after := fun (size : Nat) (r : Word) =>
       Host.Outcome.next (s.afterOp core.toNat size fun k => k.result rd f r (withNZ k.psw r))
     exec (.and core c16 f rd ra rb) s = after (isz c16) (a &&& b) ∧
     exec (.or core c16 f rd ra rb) s = after (isz c16) (a ||| b) ∧
     exec (.xor core c16 f rd ra rb) s = after (isz c16) (a ^^^ b) ∧
     exec (.andn core f rd ra rb) s = after 4 (a &&& ~~~b) ∧
     exec (.slt core f rd ra rb) s = after 4 (if a.toInt < b.toInt then 1 else 0) ∧
     exec (.sltu core f rd ra rb) s = after 4 (if a.toNat < b.toNat then 1 else 0) ∧
     exec (.min core f rd ra rb) s = after 4 (BitVec.ofInt 32 (min a.toInt b.toInt)) ∧
     exec (.max core f rd ra rb) s = after 4 (BitVec.ofInt 32 (max a.toInt b.toInt)) ∧
     exec (.minu core f rd ra rb) s = after 4 (BitVec.ofNat 32 (min a.toNat b.toNat)) ∧
     exec (.maxu core f rd ra rb) s = after 4 (BitVec.ofNat 32 (max a.toNat b.toNat)) ∧
     exec (.clz core f rd ra) s = after 4 (BitVec.ofNat 32 (if a = 0 then 32 else 31 - Nat.log2 a.toNat)) ∧
     exec (.rev core f rd ra) s =
       after 4 (a.extractLsb' 0 8 ++ a.extractLsb' 8 8 ++ a.extractLsb' 16 8 ++ a.extractLsb' 24 8) ∧
     exec (.sextb core f rd ra) s = after 4 ((a.extractLsb' 0 8).signExtend 32) ∧
     exec (.sexth core f rd ra) s = after 4 ((a.extractLsb' 0 16).signExtend 32) ∧
     exec (.zexth core f rd ra) s = after 4 ((a.extractLsb' 0 16).setWidth 32) ∧
     exec (.abs core f rd ra) s =
       .next (s.afterOp core.toNat 4 fun k =>
         let r := BitVec.ofInt 32 a.toInt.natAbs
         k.result rd f r (withNZV k.psw r (decide (a = 0x80000000))))) ∧
  (∀ (core : BitVec 1) (c16 f : Bool) (rd ra rb imm : BitVec 5) (s : State), s.Executes core.toNat →
     let k := s.chip.core core.toNat
     let a := k.src ra
     let n := (k.src rb).toNat % 32
     let after := fun (size : Nat) (r : Word) (cy : Bool) =>
       Host.Outcome.next (s.afterOp core.toNat size fun k => k.result rd f r (withNZC k.psw r cy))
     let left := fun (size n : Nat) => after size (a <<< n) (if n = 0 then k.carry else a.getLsbD (32 - n))
     let right := fun (size n : Nat) => after size (a >>> n) (if n = 0 then k.carry else a.getLsbD (n - 1))
     let arith := fun (size n : Nat) =>
       after size (BitVec.ofInt 32 (a.toInt / 2 ^ n)) (if n = 0 then k.carry else a.getLsbD (n - 1))
     let rotate := fun (size n : Nat) => after size (a >>> n ||| a <<< (32 - n)) (a >>> n ||| a <<< (32 - n)).msb
     exec (.sll core f rd ra rb) s = left 4 n ∧
     exec (.srl core f rd ra rb) s = right 4 n ∧
     exec (.sra core f rd ra rb) s = arith 4 n ∧
     exec (.ror core f rd ra rb) s = rotate 4 n ∧
     exec (.slli core c16 f rd ra imm) s = left (isz c16) imm.toNat ∧
     exec (.srli core c16 f rd ra imm) s = right (isz c16) imm.toNat ∧
     exec (.srai core c16 f rd ra imm) s = arith (isz c16) imm.toNat ∧
     exec (.rori core f rd ra imm) s = rotate 4 imm.toNat) ∧
  (∀ (core : BitVec 1) (c16 : Bool) (ra rb : BitVec 5) (imm : BitVec 15) (s : State), s.Executes core.toNat →
     let k := s.chip.core core.toNat
     let a := k.src ra
     let compare := fun (b : Word) =>
       Host.Outcome.next (s.afterOp core.toNat (isz c16) fun k =>
         { k with psw := withNzcv k.psw { n := (a - b).msb, z := decide (a = b), c := decide (b.toNat ≤ a.toNat),
                                          v := decide ((a - b).toInt ≠ a.toInt - b.toInt) } })
     exec (.cmp core c16 ra rb) s = compare (k.src rb) ∧
     exec (.cmpi core c16 ra imm) s = compare (imm.signExtend 32) ∧
     exec (.tst core ra rb) s =
       .next (s.afterOp core.toNat 4 fun k => { k with psw := withNZ k.psw (a &&& k.src rb) }))

/-- R346: the immediate instructions. -/
def Obligations.ImmediatesChangeNoFlag : Prop :=
  ∀ (core : BitVec 1) (c16 : Bool) (rd ra : BitVec 5) (imm : BitVec 15) (up : BitVec 20) (s : State),
    s.Executes core.toNat →
    let k := s.chip.core core.toNat
    let a := k.src ra
    let after := fun (size : Nat) (r : Word) => Host.Outcome.next (s.afterOp core.toNat size fun k => k.setReg rd.toNat r)
    exec (.addi core c16 rd ra imm) s = after (isz c16) (a + BitVec.ofInt 32 imm.toInt) ∧
    exec (.andi core rd ra imm) s = after 4 (a &&& BitVec.ofNat 32 imm.toNat) ∧
    exec (.ori core rd ra imm) s = after 4 (a ||| BitVec.ofNat 32 imm.toNat) ∧
    exec (.xori core rd ra imm) s = after 4 (a ^^^ BitVec.ofNat 32 imm.toNat) ∧
    exec (.slti core rd ra imm) s = after 4 (if a.toInt < imm.toInt then 1 else 0) ∧
    exec (.lui core rd up) s = after 4 (up ++ (0 : BitVec 12)) ∧
    exec (.auipc core rd up) s = after 4 (k.pc + (up ++ (0 : BitVec 12)))

/-- R347, R348: multiply and divide. -/
def Obligations.MultiplyDivideResults : Prop :=
  ∀ (core : BitVec 1) (rd ra rb : BitVec 5) (s : State), s.Executes core.toNat →
    let k := s.chip.core core.toNat
    let a := k.src ra
    let b := k.src rb
    let after := fun (r : Word) => Host.Outcome.next (s.afterOp core.toNat 4 fun k => k.setReg rd.toNat r)
    exec (.mul core rd ra rb) s = after (a * b) ∧
    exec (.mulh core rd ra rb) s = after (BitVec.ofInt 32 (a.toInt * b.toInt / 2 ^ 32)) ∧
    exec (.mulhu core rd ra rb) s = after (BitVec.ofNat 32 (a.toNat * b.toNat / 2 ^ 32)) ∧
    exec (.mulhsu core rd ra rb) s = after (BitVec.ofInt 32 (a.toInt * b.toNat / 2 ^ 32)) ∧
    exec (.div core rd ra rb) s =
      after (if b = 0 then 0xFFFFFFFF else if a = 0x80000000 ∧ b = 0xFFFFFFFF then 0x80000000
        else BitVec.ofInt 32 (a.toInt.tdiv b.toInt)) ∧
    exec (.divu core rd ra rb) s = after (if b = 0 then 0xFFFFFFFF else BitVec.ofNat 32 (a.toNat / b.toNat)) ∧
    exec (.rem core rd ra rb) s =
      after (if b = 0 then a else if a = 0x80000000 ∧ b = 0xFFFFFFFF then 0 else BitVec.ofInt 32 (a.toInt.tmod b.toInt)) ∧
    exec (.remu core rd ra rb) s = after (if b = 0 then a else BitVec.ofNat 32 (a.toNat % b.toNat))

/-- R338, R339, R349: the saturating instructions. -/
def Obligations.SaturatingResults : Prop :=
  ∀ (core : BitVec 1) (rd ra rb : BitVec 5) (s : State), s.Executes core.toNat →
    let k := s.chip.core core.toNat
    let a := (k.src ra).toInt
    let b := (k.src rb).toInt
    let clamp := fun (lo hi x : Int) => max lo (min hi x)
    let stuck := fun (k : Core) (q : Bool) => if q then { k with psw := k.psw ||| 16 } else k
    let sat := fun (lo hi x : Int) =>
      Host.Outcome.next (s.afterOp core.toNat 4 fun k =>
        stuck (k.setReg rd.toNat (BitVec.ofInt 32 (clamp lo hi x))) (decide (clamp lo hi x ≠ x)))
    let half := fun (w : Word) (i : Nat) => (w.extractLsb' (16 * i) 16).toInt
    let lanes := fun (f : Int → Int → Int) =>
      let x := fun i => f (half (k.src ra) i) (half (k.src rb) i)
      let y := fun i => clamp (-32768) 32767 (x i)
      Host.Outcome.next (s.afterOp core.toNat 4 fun k =>
        stuck (k.setReg rd.toNat (BitVec.ofInt 16 (y 1) ++ BitVec.ofInt 16 (y 0))) (decide (y 0 ≠ x 0 ∨ y 1 ≠ x 1)))
    let lo := -(2 ^ 31)
    let hi := 2 ^ 31 - 1
    exec (.qadd core rd ra rb) s = sat lo hi (a + b) ∧
    exec (.qsub core rd ra rb) s = sat lo hi (a - b) ∧
    exec (.qneg core rd ra) s = sat lo hi (-a) ∧
    exec (.qabs core rd ra) s = sat lo hi a.natAbs ∧
    exec (.qmul core rd ra rb) s = sat lo hi ((a * b + 2 ^ 30) / 2 ^ 31) ∧
    exec (.sats core rd ra rb) s = sat (-(2 ^ rb.toNat)) (2 ^ rb.toNat - 1) a ∧
    exec (.satu core rd ra rb) s = sat 0 (2 ^ (rb.toNat + 1) - 1) a ∧
    exec (.qadd16 core rd ra rb) s = lanes (fun x y => x + y) ∧
    exec (.qsub16 core rd ra rb) s = lanes (fun x y => x - y) ∧
    exec (.qmul16 core rd ra rb) s = lanes (fun x y => (x * y + 2 ^ 14) / 2 ^ 15) ∧
    exec (.packll core rd ra rb) s =
      .next (s.afterOp core.toNat 4 fun k => k.setReg rd.toNat ((k.src rb).extractLsb' 0 16 ++ (k.src ra).extractLsb' 0 16)) ∧
    exec (.packhh core rd ra rb) s =
      .next (s.afterOp core.toNat 4 fun k => k.setReg rd.toNat ((k.src rb).extractLsb' 16 16 ++ (k.src ra).extractLsb' 16 16))

/-- R350: the instructions that write an accumulator from products.
R338, R339, R350: reading and writing an accumulator. -/
def Obligations.AccumulatorResults : Prop :=
  (∀ (core a : BitVec 1) (c16 : Bool) (ra rb : BitVec 5) (sh : BitVec 6) (s : State), s.Executes core.toNat →
     let k := s.chip.core core.toNat
     let x := k.src ra
     let y := k.src rb
     let half := fun (w : Word) (i : Nat) => (w.extractLsb' (16 * i) 16).toInt
     let dot := half x 0 * half y 0 + half x 1 * half y 1
     let old := k.acc a.toNat
     let after := fun (size : Nat) (v : Acc) (q : Bool) =>
       Host.Outcome.next (s.afterOp core.toNat size fun k =>
         let k := k.setAcc a.toNat v
         if q then { k with psw := k.psw ||| 16 } else k)
     let sum := fun (size : Nat) (p : Int) =>
       after size (BitVec.ofInt 72 (old.toInt + p)) (decide (old.toInt + p < -(2 ^ 71) ∨ 2 ^ 71 ≤ old.toInt + p))
     exec (.mac core c16 a ra rb) s = sum (isz c16) (x.toInt * y.toInt) ∧
     exec (.msu core a ra rb) s = sum 4 (-(x.toInt * y.toInt)) ∧
     exec (.macu core a ra rb) s = sum 4 (x.toNat * y.toNat : Nat) ∧
     exec (.macq core a ra rb) s = sum 4 (2 * (x.toInt * y.toInt)) ∧
     exec (.mac16 core a ra rb) s = sum 4 dot ∧
     exec (.macq16 core a ra rb) s = sum 4 (2 * dot) ∧
     exec (.mula core a ra rb) s = after 4 (BitVec.ofInt 72 (x.toInt * y.toInt)) false ∧
     exec (.ashr core a sh) s = after 4 (BitVec.ofInt 72 (old.toInt / 2 ^ sh.toNat)) false ∧
     exec (.aclr core a) s = after 4 0 false) ∧
  (∀ (core a : BitVec 1) (rd ra : BitVec 5) (sh : BitVec 6) (s : State), s.Executes core.toNat →
     let k := s.chip.core core.toNat
     let old := k.acc a.toNat
     let x := k.src ra
     let reads := fun (v : Word) => Host.Outcome.next (s.afterOp core.toNat 4 fun k => k.setReg rd.toNat v)
     let writes := fun (v : Acc) => Host.Outcome.next (s.afterOp core.toNat 4 fun k => k.setAcc a.toNat v)
     let r := if sh = 0 then old.toInt else (old.toInt + 2 ^ (sh.toNat - 1)) / 2 ^ sh.toNat
     let y := max (-(2 ^ 31)) (min (2 ^ 31 - 1) r)
     exec (.accrl core rd a) s = reads (BitVec.ofNat 32 old.toNat) ∧
     exec (.accrh core rd a) s = reads (BitVec.ofNat 32 (old.toNat / 2 ^ 32)) ∧
     exec (.accrg core rd a) s = reads (BitVec.ofInt 32 (old.toInt / 2 ^ 64)) ∧
     exec (.accr core rd a sh) s =
       .next (s.afterOp core.toNat 4 fun k =>
         let k := k.setReg rd.toNat (BitVec.ofInt 32 y)
         if y ≠ r then { k with psw := k.psw ||| 16 } else k) ∧
     exec (.accwl core a ra) s = writes (old - BitVec.ofNat 72 (old.toNat % 2 ^ 32) + x.setWidth 72) ∧
     exec (.accwh core a ra) s =
       writes (BitVec.ofNat 72 (old.toNat / 2 ^ 64 * 2 ^ 64 + x.toNat * 2 ^ 32 + old.toNat % 2 ^ 32)) ∧
     exec (.accwg core a ra) s = writes (BitVec.ofNat 72 (x.toNat % 256 * 2 ^ 64 + old.toNat % 2 ^ 64)))

/-- R351: the bit-field instructions, bit by bit. -/
def Obligations.BitFieldResults : Prop :=
  ∀ (core : BitVec 1) (rd ra pos wm1 : BitVec 5) (s : State), s.Executes core.toNat →
    let k := s.chip.core core.toNat
    let a := k.src ra
    let p := pos.toNat
    let w := min (wm1.toNat + 1) (32 - p)
    let goes := fun (c : Instr) (bit : Nat → Bool) => ∃ r : Word, (∀ i, i < 32 → r.getLsbD i = bit i) ∧
      exec c s = .next (s.afterOp core.toNat 4 fun k => k.setReg rd.toNat r)
    goes (.extu core rd ra pos wm1) (fun i => decide (i < w) && a.getLsbD (p + i)) ∧
    goes (.exts core rd ra pos wm1) (fun i => a.getLsbD (p + min i (w - 1))) ∧
    goes (.ins core rd ra pos wm1)
      (fun i => if p ≤ i ∧ i < p + w then a.getLsbD (i - p) else (k.src rd).getLsbD i) ∧
    goes (.insz core rd ra pos wm1) (fun i => decide (p ≤ i ∧ i < p + w) && a.getLsbD (i - p))

/-- R352 to R355: loads from the local alias, through LD and LDX. -/
def Obligations.LoadsFromOwnCarrelRam : Prop :=
  ∀ (core : BitVec 1) (c16 : Bool) (rd ra rb : BitVec 5) (mode sz : BitVec 3) (sc : BitVec 2) (imm : BitVec 12) (s : State),
    s.Executes core.toNat → sz.toNat ∈ [0, 1, 2, 4, 5] → mode.toNat ≤ 4 →
    let n := core.toNat
    let k := s.chip.core n
    let size := [1, 2, 4, 0, 1, 2].getD sz.toNat 0
    let base := k.src ra
    let x := k.src rb <<< sc.toNat
    let byte := fun (a : Word) (i : Nat) =>
      (wbByte k.wb (a.toNat + i)).getD (getB s.chip.mem (carrelBase n + (a.toNat - 0x08000000) + i))
    let value := fun (a : Word) =>
      match sz.toNat with
      | 0 => (byte a 0).signExtend 32
      | 1 => (byte a 1 ++ byte a 0).signExtend 32
      | 2 => byte a 3 ++ byte a 2 ++ byte a 1 ++ byte a 0
      | 4 => (byte a 0).setWidth 32
      | _ => (byte a 1 ++ byte a 0).setWidth 32
    let after := fun (bytes : Nat) (a : Word) (upd : Core → Core) =>
      Host.Outcome.next (s.afterOp n bytes fun k => ((upd k).setReg rd.toNat (value a)).watch a.toNat true false)
    let good := fun (a : Word) => a.toNat % size = 0 ∧ 0x08000000 ≤ a.toNat ∧ a.toNat < 0x08010000
    let step := if mode = 1 ∨ mode = 2 then word size else x
    let low := if mode = 2 ∨ mode = 4 then base - step else base
    (good (base + imm.signExtend 32) → exec (.ld core c16 rd ra sz imm) s = after (isz c16) (base + imm.signExtend 32) id) ∧
    (mode = 0 → good (base + x) → exec (.ldx core c16 rd ra rb mode sc sz) s = after (isz c16) (base + x) id) ∧
    (mode ≠ 0 → good low → exec (.ldx core c16 rd ra rb mode sc sz) s =
      after (isz c16) low (fun k => k.setReg ra.toNat (if mode = 1 ∨ mode = 3 then base + step else low)))

/-- R352 to R354: stores to the local alias, through ST and STX.
R422: a store that leaves the core stands in the write buffer. -/
def Obligations.StoresToOwnCarrelRamAndTheWriteBuffer : Prop :=
  (∀ (core : BitVec 1) (c16 : Bool) (rd ra rb : BitVec 5) (mode sz : BitVec 3) (sc : BitVec 2) (imm : BitVec 12) (s : State),
     s.Executes core.toNat → sz.toNat ≤ 2 → mode.toNat ≤ 4 →
     let n := core.toNat
     let k := s.chip.core n
     let size := 2 ^ sz.toNat
     let base := k.src ra
     let x := k.src rb <<< sc.toNat
     let v := k.src rd
     let data := match sz.toNat with
       | 0 => [v.extractLsb' 0 8]
       | 1 => [v.extractLsb' 0 8, v.extractLsb' 8 8]
       | _ => [v.extractLsb' 0 8, v.extractLsb' 8 8, v.extractLsb' 16 8, v.extractLsb' 24 8]
     let after := fun (bytes : Nat) (a : Word) (upd : Core → Core) =>
       Host.Outcome.next ((s.withChip (s.chip.setMem (carrelBase n + (a.toNat - 0x08000000)) data)).afterOp n bytes fun k =>
         (upd k).watch a.toNat false true)
     let good := fun (a : Word) => a.toNat % size = 0 ∧ 0x08000000 ≤ a.toNat ∧ a.toNat < 0x08010000
     let step := if mode = 1 ∨ mode = 2 then word size else x
     let low := if mode = 2 ∨ mode = 4 then base - step else base
     (good (base + imm.signExtend 32) → exec (.st core c16 rd ra sz imm) s = after (isz c16) (base + imm.signExtend 32) id) ∧
     (mode = 0 → good (base + x) → exec (.stx core rd ra rb mode sc sz) s = after 4 (base + x) id) ∧
     (mode ≠ 0 → good low → exec (.stx core rd ra rb mode sc sz) s =
       after 4 low (fun k => k.setReg ra.toNat (if mode = 1 ∨ mode = 3 then base + step else low)))) ∧
  (∀ (core : BitVec 1) (c16 : Bool) (rd ra : BitVec 5) (sz : BitVec 3) (imm : BitVec 12) (s : State),
     let n := core.toNat
     let k := s.chip.core n
     let a := k.src ra + imm.signExtend 32
     s.Executes n → sz.toNat ≤ 2 → a.toNat % 2 ^ sz.toNat = 0 → regionOf a.toNat ≠ .local → k.wb = [] →
     exec (.st core c16 rd ra sz imm) s =
       .next (s.afterOp n (isz c16) fun k =>
         { k with wb := [{ addr := a.toNat, line := (regionOf a.toNat).cacheable,
                           bytes := (List.range (2 ^ sz.toNat)).map fun i => (a.toNat + i, (k.src rd).extractLsb' (8 * i) 8) }]
           }.watch a.toNat false true))

/-- R373: what raises an exception has no effect beside it. -/
def Obligations.RaisingFormsHaveNoOtherEffect : Prop :=
  ∀ (core : BitVec 1) (c16 : Bool) (rd ra rb : BitVec 5) (mode sz : BitVec 3) (sc : BitVec 2) (imm : BitVec 12)
    (off : BitVec 20) (code : BitVec 9) (endoff : BitVec 10) (count : BitVec 15) (s : State), s.Executes core.toNat →
    let n := core.toNat
    let k := s.chip.core n
    let size := fun (sz : Nat) => if sz = 0 ∨ sz = 4 then 1 else if sz = 1 ∨ sz = 5 then 2 else 4
    let a := k.src ra + imm.signExtend 32
    let raised := fun (x : Exc) => Host.Outcome.next (s.raised n x)
    (sz.toNat ∉ [0, 1, 2, 4, 5] → exec (.ld core c16 rd ra sz imm) s = raised { cause := 1 }) ∧
    (2 < sz.toNat → exec (.st core c16 rd ra sz imm) s = raised { cause := 1 }) ∧
    (sz.toNat ∈ [0, 1, 2, 4, 5] → a.toNat % size sz.toNat ≠ 0 →
      exec (.ld core c16 rd ra sz imm) s = raised { cause := 2, addr := some a }) ∧
    (sz.toNat ≤ 2 → a.toNat % size sz.toNat ≠ 0 →
      exec (.st core c16 rd ra sz imm) s = raised { cause := 2, addr := some a }) ∧
    (4 < mode.toNat → exec (.ldx core c16 rd ra rb mode sc sz) s = raised { cause := 1 }) ∧
    (4 < mode.toNat → exec (.stx core rd ra rb mode sc sz) s = raised { cause := 1 }) ∧
    exec (.bcc core c16 15 off) s = raised { cause := 1 } ∧
    exec (.loop core ra 0) s = raised { cause := 1 } ∧
    exec (.loopi core count 0) s = raised { cause := 1 } ∧
    (4 ≤ k.depth → endoff ≠ 0 → k.src ra ≠ 0 → exec (.loop core ra endoff) s = raised { cause := 5 }) ∧
    (4 ≤ k.depth → endoff ≠ 0 → count ≠ 0 → exec (.loopi core count endoff) s = raised { cause := 5 }) ∧
    ((k.src ra).toNat % 4 ≠ 0 → exec (.swap core rd ra rb) s = raised { cause := 2, addr := some (k.src ra) } ∧
      exec (.cas core rd ra rb) s = raised { cause := 2, addr := some (k.src ra) }) ∧
    ((k.src ra).toNat % 4 = 0 → regionOf (k.src ra).toNat ≠ .local → (∀ t, regionOf (k.src ra).toNat ≠ .sram t) →
      exec (.swap core rd ra rb) s = raised { cause := 6, addr := some (k.src ra) } ∧
      exec (.cas core rd ra rb) s = raised { cause := 6, addr := some (k.src ra) }) ∧
    (k.psw.getLsbD 11 = false → exec (.reti core) s = raised { cause := 1 }) ∧
    exec (.illegalInstruction core) s = raised { cause := 1 } ∧
    exec (.trap core code) s = raised { cause := 7, code := code.toNat } ∧
    ((k.crw 0x60).getLsbD 0 = false → exec (.bkpt core c16 code) s = raised { cause := 8, code := code.toNat })

/-- R384: taking the exception of TRAP, BKPT and ILLEGAL. -/
def Obligations.ExceptionEntryStacksAndJumps : Prop :=
  ∀ (core : BitVec 1) (c16 : Bool) (code : BitVec 9) (s : State),
    let n := core.toNat
    let k := s.chip.core n
    let sp := k.reg 2
    let frame := [k.pc, k.psw, word k.depth, k.reg 3, k.reg 4, k.reg 5, k.reg 6, k.reg 7]
    let stacked := s.chip.setMem (carrelBase n + (sp.toNat - 32 - 0x08000000)) (frame.flatMap fun w => leBytes 4 w.toNat)
    let vector := stacked.memW (carrelBase n + 64 * ((k.crw 0x40).toNat % 1024))
    let entered := fun (cause code : Nat) =>
      Host.Outcome.next ((s.withChip stacked).withCore n
        { (k.setReg 2 (sp - 32)).setCrw 0x41 (word (2 ^ 31 + code * 65536 + cause)) with
          psw := (k.psw ||| 0x800) &&& ~~~0x100, depth := 0, pc := vector })
    s.Executes n → (k.crw 0x41).getLsbD 31 = false → sp.toNat % 4 = 0 → 0x08000020 ≤ sp.toNat → sp.toNat ≤ 0x08010000 →
    vector.getLsbD 0 = false →
    exec (.trap core code) s = entered 7 code.toNat ∧
    exec (.illegalInstruction core) s = entered 1 0 ∧
    ((k.crw 0x60).getLsbD 0 = false → exec (.bkpt core c16 code) s = entered 8 code.toNat)

/-- R388, R389: the entry sequence of a level.
R385: STORE_BUS at an instruction boundary. -/
def Obligations.InterruptEntryAndStoreBus : Prop :=
  (∀ (core : BitVec 1) (l : Nat) (s : State),
     let n := core.toNat
     let k := s.chip.core n
     let sp := k.reg 2
     let frame := [k.pc, k.psw, word k.depth, k.reg 3, k.reg 4, k.reg 5, k.reg 6, k.reg 7]
     let stacked := s.chip.setMem (carrelBase n + (sp.toNat - 32 - 0x08000000)) (frame.flatMap fun w => leBytes 4 w.toNat)
     let vector := s.chip.memW (carrelBase n + 64 * ((k.crw 0x40).toNat % 1024) + 4 * (4 + l))
     s.Quiet → k.run = .running → k.stepping = false → k.storeErr = [] → s.chip.admitted n k.psw = some l →
     sp.toNat % 4 = 0 → 0x08000020 ≤ sp.toNat → sp.toNat ≤ 0x08010000 → vector.getLsbD 0 = false →
     l < 4 ∧ k.psw.getLsbD 8 = true ∧ (k.psw.getLsbD 11 = false ∨ k.psw.toNat / 2 ^ 9 % 4 < l) ∧
     s.chip.levelLine n l = true ∧
     exec (.interruptEntry core) s =
       .next ((s.withChip stacked).withCore n
         { k.setReg 2 (sp - 32) with
           psw := ((k.psw &&& ~~~0x600) ||| 0x900) ||| BitVec.ofNat 32 (l * 512), depth := 0, pc := vector })) ∧
  (∀ (core : BitVec 1) (a : Word) (rest : List Word) (s : State), s.Quiet →
     let n := core.toNat
     let k := s.chip.core n
     let taken := Host.Outcome.next
       (((s.withCore n { k with storeErr := rest }).on (takeExc n { cause := 9, addr := some a })).settle)
     (k.storeErr = [] → exec (.storeBus core) s = .next s) ∧
     (k.storeErr = a :: rest → k.run = .running → exec (.storeBus core) s = taken ∧ exec (.interruptEntry core) s = taken))

/-- R391: the return without a tail chain. -/
def Obligations.ReturnRestoresTheFrame : Prop :=
  ∀ (core : BitVec 1) (s : State),
    let n := core.toNat
    let k := s.chip.core n
    let sp := k.reg 2
    let w := fun (i : Nat) => s.chip.memW (carrelBase n + (sp.toNat - 0x08000000) + 4 * i)
    s.Executes n → k.psw.getLsbD 11 = true → sp.toNat % 4 = 0 → 0x08000000 ≤ sp.toNat → sp.toNat + 32 ≤ 0x08010000 →
    k.wb = [] → s.chip.admitted n (w 1 &&& 0xF1F) = none →
    exec (.reti core) s =
      .next (s.withCore n
        { (((((k.setReg 3 (w 3)).setReg 4 (w 4)).setReg 5 (w 5)).setReg 6 (w 6)).setReg 7 (w 7)).setReg 2 (sp + 32) with
          pc := w 0 &&& ~~~1, psw := w 1 &&& 0xF1F, depth := min 4 ((w 2).toNat % 8) })

/-- R356, R357, R360: branches and jumps. -/
def Obligations.BranchesAndJumps : Prop :=
  ∀ (core : BitVec 1) (c16 : Bool) (cond : BitVec 4) (off : BitVec 20) (rd ra : BitVec 5) (imm : BitVec 15) (s : State),
    s.Executes core.toNat →
    let n := core.toNat
    let k := s.chip.core n
    let v := k.psw.getLsbD 0
    let c := k.psw.getLsbD 1
    let z := k.psw.getLsbD 2
    let neg := k.psw.getLsbD 3
    let holds := [true, z, !z, neg != v, neg == v, z || neg != v, !z && neg == v, !c, c, !c || z, c && !z, neg, !neg, v, !v]
    let target := k.pc + BitVec.ofInt 32 (2 * off.toInt)
    let goes := fun (k : Core) => Host.Outcome.next (s.withCore n k)
    (cond.toNat ≤ 14 → exec (.bcc core c16 cond off) s =
      if holds.getD cond.toNat false then goes { k with pc := target } else .next (s.afterOp n (isz c16) id)) ∧
    exec (.jal core c16 rd off) s = goes { k.setReg rd.toNat (k.pc + word (isz c16)) with pc := target } ∧
    exec (.jalr core c16 rd ra imm) s =
      goes { k.setReg rd.toNat (k.pc + word (isz c16)) with pc := (k.src ra + imm.signExtend 32) &&& 0xFFFFFFFE }

/-- R358, R362: the loop instructions.
R359: the loop-end step of an instruction of `size` bytes. -/
def Obligations.LoopsBeginEndAndPop : Prop :=
  (∀ (core : BitVec 1) (c16 : Bool) (ra : BitVec 5) (count : BitVec 15) (endoff : BitVec 10) (s : State),
     s.Executes core.toNat → endoff ≠ 0 →
     let n := core.toNat
     let k := s.chip.core n
     let ls := k.pc + 4
     let le := ls + word (2 * endoff.toNat)
     let goes := fun (k : Core) => Host.Outcome.next (s.withCore n k)
     let opened := fun (cnt : Word) =>
       goes { k with ls := putS 0 k.ls k.depth ls, le := putS 0 k.le k.depth le, lc := putS 0 k.lc k.depth cnt,
                     depth := k.depth + 1, pc := ls }
     (k.src ra = 0 → exec (.loop core ra endoff) s = goes { k with pc := le }) ∧
     (count = 0 → exec (.loopi core count endoff) s = goes { k with pc := le }) ∧
     (k.src ra ≠ 0 → k.depth < 4 → exec (.loop core ra endoff) s = opened (k.src ra)) ∧
     (count ≠ 0 → k.depth < 4 → exec (.loopi core count endoff) s = opened (word count.toNat)) ∧
     exec (.lpop core c16) s = goes { k with depth := k.depth - 1, pc := k.pc + word (isz c16) }) ∧
  (∀ (k : Core) (size d : Nat),
     let next := k.pc + word size
     let closed := { k with lc := putS 0 k.lc d 0, depth := d }
     (k.depth = 0 → k.sequential size = { k with pc := next }) ∧
     (k.depth = d + 1 → next ≠ getS 0 k.le d → k.sequential size = { k with pc := next }) ∧
     (k.depth = d + 1 → next = getS 0 k.le d → 1 < (getS 0 k.lc d).toNat →
       k.sequential size = { k with pc := getS 0 k.ls d, lc := putS 0 k.lc d (getS 0 k.lc d - 1) }) ∧
     (k.depth = d + 1 → next = getS 0 k.le d → (getS 0 k.lc d).toNat ≤ 1 → k.sequential size = closed.sequential size))

/-- R365, R367: the atomic instructions at the local alias. -/
def Obligations.AtomicsInOwnCarrelRam : Prop :=
  ∀ (core : BitVec 1) (rd ra rb : BitVec 5) (s : State),
    let n := core.toNat
    let k := s.chip.core n
    let a := (k.src ra).toNat
    let at' := carrelBase n + (a - 0x08000000)
    let old := s.chip.memW at'
    let stored := s.chip.setMemW at' (k.src rb)
    s.Executes n → a % 4 = 0 → 0x08000000 ≤ a → a < 0x08010000 →
    exec (.swap core rd ra rb) s =
      .next ((s.withChip stored).afterOp n 4 fun k => (k.setReg rd.toNat old).watch a true true) ∧
    (old = k.src rd → exec (.cas core rd ra rb) s =
      .next ((s.withChip stored).afterOp n 4 fun k =>
        ({ k.setReg rd.toNat old with psw := k.psw ||| 4 } : Core).watch a true true)) ∧
    (old ≠ k.src rd → exec (.cas core rd ra rb) s =
      .next (s.afterOp n 4 fun k => ({ k.setReg rd.toNat old with psw := k.psw &&& ~~~4 } : Core).watch a true false))

/-- R368, R370, R374: reads of the control registers without a side effect.
R360, R364, R368: writes of the control registers. -/
def Obligations.ControlRegisterAccesses : Prop :=
  (∀ (core : BitVec 1) (rd : BitVec 5) (ctl : BitVec 9) (s : State), s.Executes core.toNat →
     let n := core.toNat
     let k := s.chip.core n
     let reads := fun (v : Word) => exec (.mfc core rd ctl) s = .next (s.afterOp n 4 fun k => k.setReg rd.toNat v)
     (ctl = 0 → reads k.psw) ∧
     (ctl = 1 → reads (word k.depth)) ∧
     (∀ i, i < 4 → ctl.toNat = 4 + i → reads (getS 0 k.ls i)) ∧
     (∀ i, i < 4 → ctl.toNat = 8 + i → reads (getS 0 k.le i)) ∧
     (∀ i, i < 4 → ctl.toNat = 12 + i → reads (getS 0 k.lc i)) ∧
     (ctl = 0x25 → reads (word (0x20 + n))) ∧
     (ctl.toNat ∈ [0x40, 0x41, 0x42, 0x45, 0x50, 0x51, 0x53, 0x58, 0x59, 0x5A, 0x5B, 0x5D, 0x64, 0x65, 0x66, 0x67, 0x68, 0x69,
       0x6A, 0x6B, 0x70, 0x72] → reads (k.crw ctl.toNat))) ∧
  (∀ (core : BitVec 1) (ra : BitVec 5) (ctl : BitVec 9) (s : State), s.Executes core.toNat →
     let n := core.toNat
     let k := s.chip.core n
     let v := k.src ra
     let writes := fun (f : Core → Core) => exec (.mtc core ctl ra) s = .next (s.afterOp n 4 f)
     let loopWrite := fun (k' : Core) => exec (.mtc core ctl ra) s = .next (s.withCore n { k' with pc := k.pc + 4 })
     (ctl = 0 → writes fun k => { k with psw := v &&& 0xF1F }) ∧
     (ctl = 1 → loopWrite { k with depth := min 4 (v.toNat % 8) }) ∧
     (∀ i, i < 4 → ctl.toNat = 4 + i → loopWrite { k with ls := putS 0 k.ls i (v &&& ~~~1) }) ∧
     (∀ i, i < 4 → ctl.toNat = 8 + i → loopWrite { k with le := putS 0 k.le i (v &&& ~~~1) }) ∧
     (∀ i, i < 4 → ctl.toNat = 12 + i → loopWrite { k with lc := putS 0 k.lc i v }) ∧
     (ctl = 0x40 → writes (·.setCrw 0x40 (v &&& 0x3FF))) ∧
     (ctl = 0x41 → v.getLsbD 31 = true → writes (·.setCrw 0x41 (k.crw 0x41 &&& 0x7FFFFFFF))) ∧
     (ctl.toNat ∈ [0x51, 0x64, 0x65, 0x66, 0x67] → writes (·.setCrw ctl.toNat v)) ∧
     (ctl.toNat ∈ [0x68, 0x69] → writes (·.setCrw ctl.toNat (v &&& ~~~3))))

/-- R409, R423: SYNC and WFI with an empty write buffer.
R438: the cache instructions. -/
def Obligations.WaitSyncAndCacheInstructions : Prop :=
  (∀ (core : BitVec 1) (c16 : Bool) (s : State), s.Executes core.toNat → (s.chip.core core.toNat).wb = [] →
     let n := core.toNat
     let waiting := s.afterOp n (isz c16) fun k => { k with run := .waiting }
     exec (.sync core c16) s = .next (s.afterOp n (isz c16) id) ∧
     exec (.wfi core c16) s = .next waiting.settle) ∧
  (∀ (core : BitVec 1) (ra : BitVec 5) (s : State), s.Executes core.toNat → (s.chip.core core.toNat).wb = [] →
     let n := core.toNat
     let k := s.chip.core n
     let a := (k.src ra).toNat
     let line := a / 32
     let goes := fun (c : Chip) => Host.Outcome.next ((s.withChip c).afterOp n 4 id)
     let cached := (regionOf a).cacheable
     (cached = true → exec (.inval core ra) s = goes (s.chip.invalLine n line) ∧
       exec (.clean core ra) s = goes (s.chip.cleanLine s.env line) ∧
       exec (.clinv core ra) s = goes ((s.chip.cleanLine s.env line).invalLine n line)) ∧
     (cached = false → exec (.inval core ra) s = goes s.chip ∧ exec (.clean core ra) s = goes s.chip ∧
       exec (.clinv core ra) s = goes s.chip) ∧
     ((cached = true ∨ regionOf a = .rom) → exec (.icinv core ra) s = goes (s.chip.invalLine (3 + n) line)) ∧
     (cached = false → regionOf a ≠ .rom → exec (.icinv core ra) s = goes s.chip))

/-- R400 to R403: claims and their completion.
R404: the software interrupt latches. -/
def Obligations.ClaimDoneAndSoftwareInterrupts : Prop :=
  (∀ (m : Master) (t : BitVec 2) (v : Word) (s : State), s.Quiet → t.toNat < 3 → admits 8 m.port = true →
     claimant t.toNat m = true →
     let n := v.toNat % 256
     let c := s.chip
     let goes := fun (c : Chip) => Host.Outcome.next (s.withChip c)
     (c.presented t.toNat n = true → n < 32 → ¬ (2 ≤ n ∧ n < 10) → exec (.intcClaim m t v) s =
       goes { c.wr (A.INTC_CLAIM t.toNat) (word n) with
         intc := { c.intc with privService := (n, t.toNat) :: c.intc.privService } }) ∧
     (c.presented t.toNat n = true → 32 ≤ n → c.bit (A.INTC_SRCn_CFG n) 4 = false → exec (.intcClaim m t v) s =
       goes { c.wr (A.INTC_CLAIM t.toNat) (word n) with
         intc := { c.intc with inService := (n, t.toNat) :: c.intc.inService } }) ∧
     (c.presented t.toNat n = false → exec (.intcClaim m t v) s =
       goes ((c.wr (A.INTC_CLAIM t.toNat) 255).setBit (A.INTC_TSTAT t.toNat) 0)) ∧
     (32 ≤ n → c.intc.inService.contains (n, t.toNat) = true → exec (.intcDone m t v) s =
       goes { c with intc := { c.intc with inService := c.intc.inService.filter (· ≠ (n, t.toNat)) } }) ∧
     (n < 32 → c.intc.privService.contains (n, t.toNat) = true → exec (.intcDone m t v) s =
       goes { c with intc := { c.intc with privService := c.intc.privService.filter (· ≠ (n, t.toNat)) } }) ∧
     (c.intc.inService.contains (n, t.toNat) = false → c.intc.privService.contains (n, t.toNat) = false →
       exec (.intcDone m t v) s = goes (c.setBit (A.INTC_TSTAT t.toNat) 1))) ∧
  (∀ (m : Master) (v : Word) (s : State), s.Quiet → admits 8 m.port = true →
     let n := v.toNat / 256 % 2
     let i := v.toNat % 8
     let k := s.chip.core n
     ∃ up down : BitVec 8,
       (∀ j, j < 8 → up.getLsbD j = (k.swi.getLsbD j || decide (j = i))) ∧
       (∀ j, j < 8 → down.getLsbD j = (k.swi.getLsbD j && decide (j ≠ i))) ∧
       exec (.intcSwiSet m v) s = .next (s.withCore n { k with swi := up }) ∧
       exec (.intcSwiClr m v) s = .next (s.withCore n { k with swi := down }))

/-- R407, R408: the private timer and the watchdog of a core. -/
def Obligations.PrivateTimerAndWatchdog : Prop :=
  ∀ (core : BitVec 1) (v : Word) (z : Nat) (s : State), s.Quiet →
    let n := core.toNat
    let k := s.chip.core n
    let k0 := k.setCrw 0x53 1
    (s.chip.slow = false → k.tmrZero = some z → s.clock.abs ≤ z → (k.crw 0x50).getLsbD 1 = true → exec (.tmrExpire core) s =
      .next ((s.advTo z).withCore n { k0 with tmrZero := some (z + max 1 (k0.crw 0x51).toNat) })) ∧
    (s.chip.slow = false → k.tmrZero = some z → s.clock.abs ≤ z → (k0.crw 0x50).getLsbD 1 = false → exec (.tmrExpire core) s =
      .next ((s.advTo z).withCore n { (k0.setCrw 0x50 (k0.crw 0x50 &&& ~~~1)).setCrw 0x52 0 with tmrZero := none })) ∧
    (v.toNat % 65536 = 0xC1E4 → exec (.wdgKick core v) s = .next (s.withCore n (k.setCrw 0x5B (k.crw 0x59)))) ∧
    (v.toNat % 65536 ≠ 0xC1E4 → exec (.wdgKick core v) s = .next (s.withCore n (k.setCrw 0x5D (k.crw 0x5D ||| 2)))) ∧
    (s.chip.wdgOn n = true → (k.crw 0x5A).toNat < (k.crw 0x5B).toNat → k.crw 0x5A ≠ 0 → exec (.wdgWarning core) s =
      .next (s.withCore n
        ((k.setCrw 0x5B (k.crw 0x5A)).setCrw 0x5D ((k.setCrw 0x5B (k.crw 0x5A)).crw 0x5D ||| 1)))) ∧
    (s.chip.wdgOn n = true →
      let k1 := k.setCrw 0x5B 0
      let k2 := if k.crw 0x5A < k.crw 0x5B then k1.setCrw 0x5D (k1.crw 0x5D ||| 1) else k1
      let d := (s.chip.setCore n ((k2.setCrw 0x5D (k2.crw 0x5D ||| 4)).setCrw 0x5B (k2.crw 0x59))).setBit A.SYS_RST_CAUSE (8 + n)
      let due := d.pwr.due
      exec (.wdgExpiry core) s = .next (s.becomes (Chip.report s.env 0x12 clsSevere n 0 { d with pwr := { d.pwr with
        due := if n = 0 then { due with core0 := true, reload0 := true } else { due with core1 := true, reload1 := true } } })))

/-- R410, R411, R584: debug halt, resume and core reset. -/
def Obligations.DebugUnitAndCoreReset : Prop :=
  ∀ (m : Master) (core : BitVec 1) (v : Word) (flash : Bool) (r : Nat) (s : State), s.chip.powered = true →
    let n := core.toNat
    let c := s.chip
    let now := s.clock.abs
    let k := c.core n
    let o := c.core (1 - n)
    let d := c.pwr.due
    let noTimer := ∀ i, i < 16 → c.timRunning i = false
    (admits 8 m.port = true → v.getLsbD 5 = false → exec (.haltReq m core v) s =
      .next (s.becomes (c.setCore n (k.setCrw 0x60 ((v &&& 0xF) ||| 0x10))))) ∧
    (noTimer → k.run = .running ∨ k.run = .waiting → k.haltDue = some r → (o.crw 0x60).getLsbD 1 = false →
      exec (.debugHalt core) s = .next (s.becomes (c.setCore n (k.halt now r)))) ∧
    (noTimer → k.run = .running ∨ k.run = .waiting → k.haltDue = some r → (o.crw 0x60).getLsbD 1 = true → o.run = .running →
      exec (.debugHalt core) s = .next (s.becomes ((c.setCore n (k.halt now r)).setCore (1 - n) (o.halt now 5)))) ∧
    (k.haltDue = none → exec (.debugHalt core) s = .next (s.becomes c)) ∧
    ((k.halt now r).run = .halted ∧ (k.halt now r).g = k.g ∧ (k.halt now r).pc = k.pc ∧ (k.halt now r).psw = k.psw ∧
      (k.halt now r).a0 = k.a0 ∧ (k.halt now r).a1 = k.a1) ∧
    (let k1 := k.setCrw 0x60 ((v &&& 0xF) ||| ((k.crw 0x60 ||| v) &&& 0x10))
     noTimer → admits 8 m.port = true → k.run = .halted → exec (.resume m core v) s = .next (s.becomes (c.setCore n
      (Core.tmrSync now { k1 with run := .running, cycFrom := now, stepping := (k1.crw 0x60).getLsbD 2 })))) ∧
    ((if n = 0 then d.core0 else d.core1) = false → exec (.coreReset core flash) s = .next (s.becomes c)) ∧
    ((if n = 0 then d.core0 else d.core1) = true → noTimer → k.wb = [] →
      let c0 : Chip := { c with pwr := {
        c.pwr with due := if n = 0 then { d with core0 := false, reload0 := false } else { d with core1 := false, reload1 := false } } }
      let c1 := (c0.wholeCacheOp s.env n 3).wholeCacheOp s.env n 4
      (c1.bit A.FLT_STAT 3 = true ∨ n = 1 ∨ c1.bit A.SYS_CORE_CTL 0 = true) → exec (.coreReset core flash) s =
        .next (s.becomes (intcCoreReset n (c1.setCore n ((c1.core n).resetRegs now
          (if c1.bit A.FLT_STAT 3 then none
            else if n = 0 then some (c1.rd A.SYS_C0_ENTRY)
            else if c1.bit A.SYS_CORE_CTL 1 then some (c1.rd A.SYS_C1_ENTRY) else none)
          (if n = 0 then d.reload0 else d.reload1))))))

/-- R16: the access codes, bit by bit.
R12, R15: storing a register's word and storing bytes. -/
def Obligations.RegisterFileAndAccessCodes : Prop :=
  (∀ (r : RegSpec) (old v : Word) (i : Nat), i < 32 →
     (codedWrite r old v).getLsbD i =
       if r.w1c.testBit i = true ∧ v.getLsbD i = true then false
       else if r.w1s.testBit i = true ∧ v.getLsbD i = true then true
       else if r.rw.testBit i = true then v.getLsbD i
       else old.getLsbD i) ∧
  ((∀ (c : Chip) (a b : Nat) (v : Word), c.regsWf = true →
     (c.wr a v).rd b = (if b = a then v else c.rd b) ∧ (c.wr a v).regsWf = true ∧ (c.wr a v).mem = c.mem) ∧
   (∀ (c : Chip) (a x : Nat) (bs : List Byte), memWf c.mem = true →
     getB (c.setMem a bs).mem x = (if a ≤ x ∧ x < a + bs.length then bs.getD (x - a) 0 else getB c.mem x) ∧
     memWf (c.setMem a bs).mem = true ∧ (c.setMem a bs).regs = c.regs) ∧
   (∀ (v : Word) (i : Nat), i < 4 → (leBytes 4 v.toNat).getD i 0 = v.extractLsb' (8 * i) 8))

/-- R6, R14, R448, R450: accesses to registers. -/
def Obligations.RegisterAccessByAMaster : Prop :=
  ∀ (m : Master) (a : Nat) (v : Word) (s : State), s.chip.powered = true →
    let c := s.chip
    let window := (0x60000000 ≤ a ∧ a < 0x60190000) ∨ (0x70000000 ≤ a ∧ a < 0x70010000)
    let failed := fun (write : Bool) => (c.busError m 8 2 a write)
    (admits 8 m.port = true → exec (.profileLockWrite m v) s = .next (s.becomes c)) ∧
    (admits 8 m.port = true → window → a % 4 = 0 →
      exec (.registerWrite m a v) s = .next (s.becomes (regWrite m a v s.env c)) ∧
      exec (.rcRegisterRead m a) s =
        .next (s.becomes { (regRead m a s.env c).2 with
          readback := putS 0 (regRead m a s.env c).2.readback m.port (regRead m a s.env c).1 })) ∧
    (admits 8 m.port = true → a % 4 = 0 → 0x60010000 ≤ a → a < 0x60020000 → ∀ r ix, regFind a = some (r, ix) →
      exec (.registerWrite m a v) s = .next (s.becomes (c.wr a (codedWrite r (c.rd a) v)))) ∧
    (admits 8 m.port = false → isCoreMaster m = false → window →
      exec (.registerWrite m a v) s = .next (s.becomes (failed true)) ∧
      exec (.rcRegisterRead m a) s = .next (s.becomes (failed false)))

/-- R672: the order of the rules. -/
def Obligations.BusErrorsFollowTheFirstRuleBroken : Prop :=
  ∀ (c : Chip) (m : Master) (write locked : Bool) (a size : Nat),
    let r := regionOf a
    let cause := (c.busCause m write locked a size).map (·.1)
    (r = .unmapped → cause = some 1) ∧
    (r = .local → cause = if isCoreMaster m then none else some 1) ∧
    (∀ t, r.target = some t →
      (admits t m.port = false → cause = some 2) ∧
      (admits t m.port = true → badWidth r a size = true → cause = some 4) ∧
      (admits t m.port = true → badWidth r a size = false → locked = true → t ≠ 1 → t ≠ 2 → cause = some 5) ∧
      (admits t m.port = true → badWidth r a size = false → (locked = false ∨ t = 1 ∨ t = 2) →
        cause = if c.notReady write r then some 8 else if write && c.notWritable r then some 3
          else if c.beyond size r then some 1 else none))

/-- R379, R434, R435, R461: accesses that complete. -/
def Obligations.CoherentAndLocalAccesses : Prop :=
  ∀ (ch : Nat) (core : BitVec 1) (a : Nat) (data : List Byte) (l : Lock) (s : State), s.chip.powered = true →
    let n := core.toNat
    let c := s.chip
    let own := carrelBase n + (a - 0x08000000)
    let beat : BusAccess := { m := .core n, write := true, fetch := false, addr := a, size := data.length, data := data,
                              locked := false, last := true, ecc := .clean }
    (admits 1 (Master.host ch).port = true → 0x10000000 ≤ a → a < 0x10100000 →
      exec (.coherentWrite (.host ch) a data) s =
        .next (s.becomes (((linesOf a data.length).foldl (fun c l => c.dropCopies s.env l) c).setMem a data)) ∧
      exec (.coherentRead (.host ch) a 4) s =
        .next (s.becomes ((coherentRead (.host ch) a 4 s.env c).2.answered (.host ch)
          (word (leNat ((coherentRead (.host ch) a 4 s.env c).1.take 4)))))) ∧
    (c.bus.waiting = [] → 0x08000000 ≤ a → a < 0x08010000 →
      exec (.busAccess beat []) s = .next (s.becomes (c.setMem own data)) ∧
      exec (.busAccess { beat with write := false, size := 4, data := [] } []) s =
        .next (s.becomes (c.answered (.core n) (word (leNat (getBytes c.mem own 4)))))) ∧
    (c.slow = false → c.bus.lock = some l → c.bus.waiting = [] → s.clock.abs ≤ l.since + 7 → exec .lockTimeout s =
      .next (s.becomesAt (l.since + 7) fun _ c =>
        { c with bus := { c.bus with lock := none, lostLock := c.bus.lostLock ++ [l.m] } }))

/-- R465, R470 to R478: the external memory controllers. -/
def Obligations.ExternalMemoryCommands : Prop :=
  ∀ (m : Master) (v : Word) (status : Byte) (data : List Byte) (dev a : Nat) (s : State), s.chip.powered = true →
    let c := s.chip
    (admits 8 m.port = true → dev < 2 → c.wheelLive 5 = true →
      exec (.xmcConfigWrite m (A.XMC_XSPI_DEVn_TIM dev) v) s = .next (s.becomes (c.setBit A.XMC_STAT 0))) ∧
    (admits 8 m.port = true → dev < 2 → c.wheelLive 5 = false → ∀ r ix, regFind (A.XMC_XSPI_DEVn_TIM dev) = some (r, ix) →
      exec (.xmcConfigWrite m (A.XMC_XSPI_DEVn_TIM dev) v) s =
        .next (s.becomes (c.wr (A.XMC_XSPI_DEVn_TIM dev) (codedWrite r (c.rd (A.XMC_XSPI_DEVn_TIM dev)) v)))) ∧
    (admits 8 m.port = true → c.bit A.XMC_XSPI_SEQ_STAT 0 = false → c.wheelLive 5 = false → exec (.xspiSequence m v) s =
      .next (s.becomes { (c.writeCoded A.XMC_XSPI_SEQ (v ||| 0x8000)).setBit A.XMC_XSPI_SEQ_STAT 0 with
        bus := { c.bus with seq := true } })) ∧
    (c.bus.seq = true → (c.rd A.XMC_XSPI_SEQ).getLsbD 14 = false → c.fld A.XMC_XSPI_SEQ 10 9 ≠ 1 →
      exec (.xspiSequenceComplete data) s =
        .next (s.becomes ((({ c with bus := { c.bus with seq := false } } : Chip).clrBit A.XMC_XSPI_SEQ_STAT 0).setBit
          A.XMC_XSPI_SEQ_STAT 1))) ∧
    (let d := c.fld A.XMC_XSPI_SEQ 13 13
     let p := c.rd (A.XMC_XSPI_DEVn_POLL d)
     c.bit A.XMC_XSPI_SEQ_STAT 0 = true → c.bus.seq = false → c.xspiBusy d = true →
     status.getLsbD (p.toNat / 2 ^ 24 % 8) ≠ p.getLsbD 28 → exec (.xspiPoll status) s =
      .next (s.becomes (((c.clrBit (A.XMC_XSPI_DEVn_CFG d) 9).clrBit A.XMC_XSPI_SEQ_STAT 0).setBit A.XMC_XSPI_SEQ_STAT 1))) ∧
    (admits 8 m.port = true → c.sdrReady = false → exec (.sdrInit m v) s =
      .next (s.becomes ((c.writeCoded A.XMC_SDR_CTL (v ||| 1)).clrBit A.XMC_SDR_CTL 1))) ∧
    (c.slow = false → c.bit A.XMC_SDR_CTL 0 = true → exec .sdrInitComplete s =
      .next (s.becomesAt (s.clock.abs + c.sdrInitCounts) fun _ c =>
        if c.bit A.XMC_SDR_CTL 0 then (c.clrBit A.XMC_SDR_CTL 0).setBit A.XMC_SDR_CTL 1 else c)) ∧
    exec .sdrRefresh s = .next (s.becomes c) ∧
    (c.busCause m false false a 1 = none → 0x30000000 ≤ a → a < 0x60000000 → isCoreMaster m = false →
      exec (.dsTimeout m a) s =
        .next (s.becomes (((c.busError m 5 7 a false).setBit A.XMC_STAT 1).report s.env 0x0A clsRecoverable
          (if a < 0x50000000 then 0 else 1) a))) ∧
    (c.pwr.boot = .inReset → c.bit A.SYS_BUS_INIT 0 = false → c.bit A.SYS_CLK_STAT 0 = true → c.pwr.wipe = false →
      exec .memoryInitComplete s = .next (s.becomes (finishInit c)))

/-- R21 to R25, R48: the clock source, and reading the count. -/
def Obligations.ClockSourceCommands : Prop :=
  ∀ (m : Master) (v : Word) (cycles : BitVec 17) (s : State), s.chip.powered = true →
    let c := s.chip
    let nominal := if c.bit A.SYS_CLK_CFG 1 then 44100 else 48000
    let x := cycles.toNat
    let off := decide (x * 100 > nominal * 101 ∨ x * 100 < nominal * 99)
    (admits 8 m.port = true → c.mode = .configure → exec (.sysClkCfgWrite m v) s =
      let d := (c.wr A.SYS_CLK_CFG (v &&& 3)).setBit A.MET_STAT 1
      .next (s.becomes { d.wr A.SYS_CLK_STAT (d.rd A.SYS_CLK_STAT &&& ~~~7) with met := { c.met with goodMeas := 0 } })) ∧
    (admits 8 m.port = true → c.mode ≠ .configure → exec (.sysClkCfgWrite m v) s =
      .next (s.becomes (c.setBit A.SYS_CLK_STAT 9))) ∧
    (c.bit A.SYS_CLK_CFG 0 = true → exec (.pllLock false) s = .next (s.becomes (c.clrBit A.SYS_CLK_STAT 3))) ∧
    (c.slow = false → exec (.pllLock true) s =
      .next (s.becomes (((c.setBit A.SYS_CLK_STAT 3).setBit A.SYS_CLK_STAT 0).setBit A.SYS_CLK_STAT 1))) ∧
    (c.met.goodMeas < 3 → exec (.clockMeasurement cycles) s =
      .next (s.becomes { (c.setFld A.SYS_CLK_MEAS 16 0 x).putBit A.SYS_CLK_STAT 4 off with
        met := { c.met with goodMeas := if off then 0 else c.met.goodMeas + 1 } })) ∧
    (c.canHoldover = true → exec .holdoverEntry s =
      .next (s.becomes (Chip.report s.env 0x09 clsSevere 0 0
        { ((c.setBit A.SYS_CLK_STAT 2).setBit A.SYS_CLK_STAT 8).clrBit A.SYS_CLK_STAT 3 with
          met := { c.met with goodMeas := 0 } }))) ∧
    (admits 8 m.port = true → exec (.metCountLoRead m) s =
      .next (s.becomes { c with
        readback := putS 0 c.readback m.port (BitVec.ofNat 32 s.clock.abs)
        met := { c.met with shadows := putS {} c.met.shadows m.port (c.shadowNow s.env) } }))

/-- R27, R29, R31, R32, R35, R43: when the ticks come.
R26, R27, R29, R30: the count. -/
def Obligations.TicksAndTheCount : Prop :=
  (∀ (rx : List (Nat × Word)) (late l b : Nat) (s : State), s.chip.powered = true →
     let c := s.chip
     let now := s.clock.abs
     let cs := c.met.ticks.cs
     let cb := c.met.ticks.cb
     (cs = 512 ∨ cs = 1024) ∧ cb = c.met.ticks.b * cs ∧
     (c.slow = true → exec (.sampleTick rx) s = .next (s.becomes c) ∧ exec (.blockTick late) s = .next (s.becomes c) ∧
       exec .frameTick s = .next (s.becomes c) ∧ exec .voiceWriteApply s = .next (s.becomes c) ∧
       exec .allocatorIntakeClose s = .next (s.becomes c)) ∧
     (c.slow = false → c.met.lastSample = some l → ∃ t, t % cs = 0 ∧ l < t ∧ t ≤ l + cs ∧
       exec (.sampleTick rx) s = .next (s.becomesAt t fun e c =>
         sampleFrame t rx { c with met := { c.met with lastSample := some e.now } })) ∧
     (c.slow = false → c.met.lastBlock = some b → c.ldr.commitAt = none → ∃ t, t % cb = 0 ∧ b < t ∧ t ≤ b + cb ∧
       exec (.blockTick late) s = .next (s.becomesAt t (blockTick late)) ∧
       exec .voiceWriteApply s = .next (s.becomesAt t fun e c => c.applyVoiceWrites e.now)) ∧
     (c.slow = false → c.met.lastFrame = some l → l < c.met.frame0 → exec .frameTick s =
       .next (s.becomesAt c.met.frame0 fun e c => Chip.displayFrame e { c with met := { c.met with lastFrame := some e.now } })) ∧
     (c.slow = false → c.met.lastBlock = some b → b % cb = 0 → c.stk.closed ≠ some (b + cb) → exec .allocatorIntakeClose s =
       .next (s.becomesAt (b + cb / 4) fun e c =>
         if c.mode = .perform ∧ c.ldr.live.isSome = true ∧ c.pwr.sub = .none then c.intakeClose e (b + cb) else c)) ∧
     (c.slow = false → ∃ t, t % 2 ^ 48 = 0 ∧ now < t ∧ t ≤ now + 2 ^ 48 ∧ exec .countWrap s = .next (s.becomesAt t fun _ c => c))) ∧
  (∀ (t : Nat) (s : State),
     let c := s.chip
     (s.clock.abs < t → t < 2 ^ 80 → (s.advTo t).clock.abs = t ∧ (s.advTo t).clock.count.toNat = t % 2 ^ 48 ∧
       (s.advTo t).clock.epoch.toNat = t / 2 ^ 48) ∧
     (t ≤ s.clock.abs → s.advTo t = s) ∧
     (∃ regs, (s.advTo t).chip = { c with regs := regs }) ∧
     (t / 2 ^ 48 = s.clock.abs / 2 ^ 48 → t / (2 ^ 32 * c.met.ticks.cb) = s.clock.abs / (2 ^ 32 * c.met.ticks.cb) →
       (s.advTo t).chip = c) ∧
     (c.powered = true → c.slow = false → exec .slowCountStep s = .next s.settle) ∧
     (c.powered = true → c.slow = true → ∃ a, (a = 1500 ∨ a = 1378 ∨ a = 1379) ∧ (c.bit A.SYS_CLK_CFG 1 = false → a = 1500) ∧
       exec .slowCountStep s = .next ((s.withChip (tmrSlowEdge s.env a 0 (tmrSlowEdge s.env a 1 (c.timSlowEdge s.env a))).slowSeen).advTo (s.clock.abs + a)).settle))

/-- R72 to R80: the loader's operations.
R77: the loader's use of the NVM slots. -/
def Obligations.LoaderAndSlotOperations : Prop :=
  (∀ (src : Nat) (xfade : Bool) (v : Word) (s : State), s.chip.powered = true →
     let c := s.chip
     let open' := c.ldr.state = .empty ∨ c.ldr.state = .admitted ∨ c.ldr.state = .refused
     let awake := c.mode = .configure ∨ c.mode = .perform
     let refused := fun (op : Nat) => Host.Outcome.next (s.becomes (c.result op 0x60 op))
     (src ≤ 2 → open' → awake → exec (.verify src) s =
       .next (s.becomes (Chip.wr { c with ldr := { c.ldr with
         state := .verifying, cand := none, candSrc := 0, plan := none
         job := some (src, if src = 2 then (c.rd A.CHT_SRC_ADDR).toNat else slotBase src) } } A.CHT_CAND_SERIAL 0))) ∧
     (¬open' → exec (.verify src) s = refused 1) ∧
     (∀ i a, c.ldr.job = some (i, a) → exec .verifyComplete s =
       let r := c.verifySource s.env i a
       .next (s.becomes ((Chip.result { r.1 with ldr := { r.1.ldr with job := none } } 1 r.2.1 r.2.2).setBit A.CHT_INT 0))) ∧
     (∀ ch, c.ldr.cand = some ch → c.mode = .configure → c.ldr.state = .admitted → c.timingCode s.env ch = none →
       exec .commit s = .next (s.becomes (Chip.wr { c with ldr := { c.ldr with
         state := .empty, cand := none, candSrc := 0, commitAt := some (s.clock.abs, ch, c.ldr.candSrc) } } A.CHT_CAND_SERIAL 0))) ∧
     (c.ldr.state ≠ .admitted → exec .commit s = refused 2 ∧ exec .planSwap s = refused 3) ∧
     (∀ ch live, c.ldr.cand = some ch → c.ldr.live = some live → c.mode = .perform → c.ldr.state = .admitted →
       c.timingCode s.env ch = none → ch.fs = live.fs → ch.blk = live.blk → ch.lat = live.lat →
       ∃ hard stk fx intake, planKind live ch = (hard, stk, fx, intake) ∧ exec .planSwap s =
         let d := ((c.wr A.CHT_CALC_STK (word stk)).wr A.CHT_CALC_FX (word fx)).wr A.CHT_CALC_INTAKE (word intake)
         let planned := { d with ldr := { d.ldr with
           state := .planned
           plan := some { s := d.rd A.CHT_SWAP_BLOCK, x := d.fld A.CHT_XFADE 6 0, hard := hard, atAbs := 0, begun := false } } }
         .next (s.becomes (((Chip.putBit planned A.CHT_STATE 8 hard).result 3 0 0).setBit A.CHT_INT 0))) ∧
     (∀ p, c.ldr.plan = some p → c.mode = .perform → c.ldr.state = .planned →
       let d := ahead p.s.toNat (c.block s.env)
       4 ≤ d → d < 2 ^ 31 → exec .armSwap s =
         .next (s.becomes (Chip.result { c with ldr := { c.ldr with
           state := .armed
           plan := some { p with atAbs := (s.clock.abs / c.met.ticks.cb + d) * c.met.ticks.cb } } } 4 0 0))) ∧
     (awake → c.ldr.state = .armed → exec .cancel s =
       .next (s.becomes ((Chip.result { c with ldr := { c.ldr with state := .admitted, plan := none, ramp := none } } 5 0x63 0).setBit
         A.CHT_INT 3))) ∧
     (awake → c.ldr.state = .planned → exec .cancel s =
       .next (s.becomes (Chip.result { c with ldr := { c.ldr with state := .admitted, plan := none } } 5 0x63 0))) ∧
     (awake → c.ldr.state = .admitted ∨ c.ldr.state = .refused → exec .cancel s =
       .next (s.becomes ((Chip.wr { c with ldr := { c.ldr with state := .empty, cand := none, candSrc := 0 } }
         A.CHT_CAND_SERIAL 0).result 5 0 0))) ∧
     (c.ldr.state ≠ .planned → c.ldr.state ≠ .armed → exec (.chtSwapParamWrite xfade v) s =
       .next (s.becomes (if xfade then c.wr A.CHT_XFADE (word (min 64 (v.toNat % 128))) else c.wr A.CHT_SWAP_BLOCK v)))) ∧
  (∀ (slot : Nat) (j : NvmJob) (s : State), s.chip.powered = true →
     let c := s.chip
     let lo := slotBase slot
     let inSlot := fun (a : Nat) => decide (lo ≤ a ∧ a < lo + slotSize)
     let erased := Chip.countErase s.env slot { c with mem := dropS inSlot c.mem }
     let ready := (c.mode = .configure ∨ c.mode = .perform) ∧ c.slotRefused slot = false
     (ready → exec (.erase slot) s = .next (s.becomes { erased with ldr := { erased.ldr with
       nvm := some { erase := true, slot := slot, data := [] } } })) ∧
     ((c.mode = .configure ∨ c.mode = .perform) → c.slotRefused slot = true →
       exec (.erase slot) s = .next (s.becomes (c.result 7 0x61 slot)) ∧
       exec (.program slot) s = .next (s.becomes (c.result 6 0x61 slot))) ∧
     (ready → exec (.program slot) s =
       let r := c.sourceBytes s.env 2 (c.rd A.CHT_SRC_ADDR).toNat
       .next (s.becomes (programBytes slot r.1 s.env r.2))) ∧
     (c.ldr.nvm = some j → exec (.nvmOperationComplete true) s =
       let d := Chip.setMem { c with free := c.free + 2 ^ 40 } (slotBase j.slot) j.data
       .next (s.becomes ((Chip.result { d with ldr := { d.ldr with nvm := none } } (if j.erase then 7 else 6) 0 0).setBit
         A.CHT_INT 4))) ∧
     (memWf c.mem = true → slot < 2 → ∀ a, getB (dropS inSlot c.mem) a = if lo ≤ a ∧ a < lo + slotSize then 0xFF else getB c.mem a))

/-- R29, R40, R81, R83: the ticks of a structure change. -/
def Obligations.StructureChangesHappenAtTheirTicks : Prop :=
  ∀ (w src : Nat) (ch : Charter) (p : Plan) (s : State), s.chip.powered = true →
    let c := s.chip
    let cb := c.met.ticks.cb
    let new := Ticks.cb { fs := ch.fs, blk := ch.blk, lat := ch.lat, fclass := 0 }
    (c.slow = true → exec .commitTakesEffect s = .next (s.becomes c) ∧ exec .hardChangeRamp s = .next (s.becomes c) ∧
      exec .swapTakesEffect s = .next (s.becomes c) ∧ exec .xfadeEnd s = .next (s.becomes c)) ∧
    (c.slow = false → c.ldr.commitAt = some (w, ch, src) → (∃ l, c.met.lastBlock = some l ∧ l ≤ w) →
      ∃ t, t % new = 0 ∧ w < t ∧ t ≤ w + new ∧ exec .commitTakesEffect s = .next (s.becomesAt t (commitNow ch src t))) ∧
    (c.slow = false → c.ldr.plan = some p → c.ldr.state = .armed → p.hard = true → c.ldr.ramp = none → 3 * cb ≤ p.atAbs →
      exec .hardChangeRamp s = .next (s.becomesAt (p.atAbs - 3 * cb) fun _ c =>
        { c with ldr := { c.ldr with ramp := some (p.atAbs - 3 * cb) } })) ∧
    (c.slow = false → c.ldr.plan = some p → c.ldr.state = .armed → c.ldr.swapAt = none →
      exec .swapTakesEffect s = .next (s.becomesAt p.atAbs fun e c => swapTick p.atAbs e (swapBeginTick p.atAbs e c))) ∧
    (c.slow = false → c.ldr.plan = some p → c.ldr.state = .xfade →
      exec .xfadeEnd s = .next (s.becomesAt (p.atAbs + p.x * cb) fun e c =>
        xfadeTick (p.atAbs + p.x * cb) (dropTick (p.atAbs + p.x * cb) e (swapTick (p.atAbs + p.x * cb) e c))))

/-- R85 to R87: coupled groups. -/
def Obligations.CoupledGroupsStageArmAndApply : Prop :=
  ∀ (m : Master) (a arm w b : Nat) (v : Word) (ms : List Nat) (copy : SMap Word) (s : State), s.chip.powered = true →
    let c := s.chip
    let cb := c.met.ticks.cb
    let window := (0x60050000 ≤ a ∧ a < 0x60060000) ∨ (0x60090000 ≤ a ∧ a < 0x600A0000) ∨ (0x600F0000 ≤ a ∧ a < 0x60100000) ∨
      (0x70000000 ≤ a ∧ a < 0x70010000)
    let staged := { c with staging := putS (regReset a &&& rwaMask a) c.staging a (v &&& rwaMask a) }
    (admits 8 m.port = true → window → (0x70000000 ≤ a → absentVoice s.fuses a = false ∧ (regFind a).isSome = true) → groupOf a = some ms →
      (ms.getLast? ≠ some a →
        exec (.groupMemberWrite m a v) s = .next (s.becomes staged)) ∧
      (ms.getLast? = some a → exec (.groupArm m a v) s =
        .next (s.becomes { staged with
          armed := c.armed.filter (fun g => g.1 ≠ a) ++ [(a, s.clock.abs, ms.map fun x => (x, Chip.staged staged x))] }))) ∧
    (c.slow = false → c.pendingGroup arm = none → timerGroup arm = false → exec (.groupApply arm) s = .next (s.becomes c)) ∧
    (c.slow = false → c.pendingGroup arm = some (w, copy) → timerGroup arm = false → c.ldr.commitAt = none →
      c.met.lastBlock = some b → b ≤ w → w < b + (cb - b % cb) →
      exec (.groupApply arm) s = .next (s.becomesAt (b + (cb - b % cb)) fun e c => applyArm arm e.now e c)) ∧
    (∀ c : Chip, c.pendingGroup arm = some (w, copy) → (c.applyGroup arm).regs =
      (copy.foldl (fun c x => c.wr x.1 ((c.rd x.1 &&& ~~~rwaMask x.1) ||| (x.2 &&& rwaMask x.1))) c).regs)

/-- R93, R110, R112: pushes by software. -/
def Obligations.PushesStageAndCommit : Prop :=
  ∀ (m : Master) (q k : Nat) (v : Word) (s : State), s.chip.powered = true → admits 8 m.port = true → q < 64 →
    let c := s.chip
    let st := getS {} c.que.stage m.port
    let record := fun (time : Count) =>
      ({ source := masterSource m, kind := v.toNat / 65536 % 256, key := v.toNat / 256 % 256, flags := v.setWidth 8 &&& 4,
         time := time, valueA := st.w2.setWidth 16, valueB := st.w3 } : Rec)
    let waits := fun (r : Rec) => Host.Outcome.next (s.becomes { c with que := { c.que with
      skid := c.que.skid ++ [{ queue := q, r := r, byMaster := true, since := s.clock.abs }] } })
    let off := (c.qe q).depth = 0 ∨ (c.qe q).producer ≠ 0
    (1 ≤ k → k ≤ 3 → exec (.quenPushStage m q k v) s = .next (s.becomes { c with que := { c.que with
      stage := putS {} c.que.stage m.port
        { w1 := if k = 1 then v else st.w1, w2 := if k = 2 then v else st.w2, w3 := if k = 3 then v else st.w3 } } })) ∧
    (¬off → exec (.quenPush m q v) s = waits (record (BitVec.ofNat 48 s.clock.abs)) ∧
      exec (.quenPushT m q v) s = waits (record (st.w2.extractLsb' 16 16 ++ st.w1))) ∧
    (off → exec (.quenPush m q v) s = .next (s.becomes (c.setBit (A.QUEn_STAT q) 6)) ∧
      exec (.quenPushT m q v) s = .next (s.becomes (c.setBit (A.QUEn_STAT q) 6)))

/-- R103, R105, R109: the write ports. -/
def Obligations.QueuePortsAcceptInOrder : Prop :=
  ∀ (q other : Nat) (i : SkidItem) (l : List SkidItem) (s : State), s.chip.powered = true →
    let c := s.chip
    let taken := { c with que := { c.que with skid := l } }
    let appended := Chip.accept s.env taken q i.r
    (c.nextSkid q = none ∨ c.holding q = true →
      exec (.recordAccept q) s = .next (s.becomes c) ∧ exec (.holdRelease q) s = .next (s.becomes c)) ∧
    (c.nextSkid q = some (i, l) → c.holding q = false →
      i ∈ c.que.skid ∧ i.queue = q ∧ l.length + 1 = c.que.skid.length ∧
      (∀ j ∈ c.que.skid, j.queue = q → i.r.source ≤ j.r.source) ∧
      exec (.recordAccept q) s = .next (s.becomes appended) ∧ exec (.holdRelease q) s = .next (s.becomes appended)) ∧
    (c.nextSkid q = some (i, l) → (c.qe q).policy ≠ 2 → c.qFill q + 4 ≤ (c.qe q).depth →
      (∃ it : QItem, appended.qItems q = c.qItems q ++ [it] ∧ it.accepted = s.clock.abs ∧ it.r.w1 = i.r.w1 ∧ it.r.w2 = i.r.w2 ∧
        it.r.valueB = i.r.valueB ∧ it.r.source = i.r.source ∧ it.r.kind = i.r.kind ∧ it.r.key = i.r.key) ∧
      (other ≠ q → appended.qItems other = c.qItems other) ∧ appended.mem = c.mem)

/-- R109, R111 to R113: pops, and the end of a wait. -/
def Obligations.PopsTakeTheOldestRecord : Prop :=
  ∀ (m : Master) (q : Nat) (it : QItem) (l : List QItem) (i : SkidItem) (s : State), s.chip.powered = true → q < 64 →
    let c := s.chip
    let e := c.qe q
    let returns := fun (v : Word) (c : Chip) => Host.Outcome.next (s.becomes (c.answered m v))
    (admits 8 m.port = true → (e.depth = 0 ∨ e.consumer ≠ 0) →
      exec (.quenPop m q) s = returns 0 (c.setBit (A.QUEn_STAT q) 6)) ∧
    (admits 8 m.port = true → e.depth ≠ 0 → e.consumer = 0 → c.qItems q = [] → exec (.quenPop m q) s =
      returns 0 { c.setBit (A.QUEn_STAT q) 4 with que := { c.que with pop := putS {} c.que.pop m.port {} } }) ∧
    (admits 8 m.port = true → e.depth ≠ 0 → e.consumer = 0 → c.qItems q = it :: l →
      let left := c.setItems q l
      let low := e.wmLo < c.qFill q ∧ left.qFill q ≤ e.wmLo
      exec (.quenPop m q) s =
        returns it.r.w0 { (if low then left.setBit (A.QUEn_STAT q) 2 else left) with
          que := { left.que with pop := putS {} c.que.pop m.port { w1 := it.r.w1, w2 := it.r.w2, w3 := it.r.valueB } } }) ∧
    (c.slow = false → c.heldCommit q = some i → i.r.source < 0x40 → s.clock.abs ≤ i.since + 26215 → exec (.holdTimeout q) s =
      .next (s.becomesAt (i.since + 26215) fun e c =>
        Chip.report e 0x07 clsRecoverable q 0
          ((Chip.drop1 { c with que := { c.que with skid := c.que.skid.erase i } } q).setBit (A.QUEn_STAT q) 5)))

/-- R125, R168: voice commands and plain writes.
R134, R137, R138, R173: ends of segments, waves and chime steps. -/
def Obligations.VoiceCommandsAndEnds : Prop :=
  (∀ (m : Master) (v a t : Nat) (w : Word) (s : State), s.chip.powered = true → admits 8 m.port = true → v < 256 →
     let c := s.chip
     let waits := fun (op : Nat) => Host.Outcome.next (s.becomes { c with stk := { c.stk with
       cmds := c.stk.cmds ++ [{ op := op, voice := v, source := masterSource m }] } })
     exec (.vcmdStart m v) s = waits 1 ∧ exec (.vcmdRelease m v) s = waits 2 ∧ exec (.vcmdKill m v) s = waits 3 ∧
     (0x70000000 ≤ a → a < 0x70004000 → a % 4 = 0 → absentVoice s.fuses a = false → (regFind a).isSome = true → groupOf a = none →
       exec (.registerWrite m a w) s =
         .next (s.becomes { c with stk := { c.stk with
           writes := c.stk.writes ++ [{ addr := a, at' := s.clock.abs, v := w }] } })) ∧
     (c.stk.writes = [{ addr := a, at' := s.clock.abs, v := w }] → s.clock.abs < t →
       c.applyVoiceWrites t = Chip.writeCoded { c with stk := { c.stk with writes := [] } } a w)) ∧
  (∀ (v n b : Nat) (s : State), s.chip.powered = true →
     let c := s.chip
     let x := c.voice v
     let sounds := x.st = .playing ∨ x.st = .released ∨ x.st = .stealing
     let env := c.rd (A.CHMn_ENV n)
     let decay := env.toNat / 256 % 256
     let length := env.toNat / 65536
     let cb := c.met.ticks.cb
     let next := b + (cb - b % cb)
     let ticking := c.slow = false ∧ c.ldr.commitAt = none ∧ c.met.lastBlock = some b ∧ (c.chime n).on = true
     (x.st = .idle → exec (.envelopeSegmentEnd v 1) s = .next (s.becomes c) ∧ exec (.waveEnd v) s = .next (s.becomes c)) ∧
     (sounds → x.e2.mode = .run → exec (.envelopeSegmentEnd v 1) s =
       .next (s.becomes (c.setVoice v { x with
         e2 := segEnd (c.shape ((c.vReg v x 0x2C).toNat / 256 % 256)) { x.e2 with pos := x.e2.total } }))) ∧
     (sounds → (c.vReg v x 0x18).toNat / 16 % 4 = 0 → (c.vEntry v).kind ≠ 5 →
       let moved := c.setVoice v { x with phase := (c.vReg v x 0x0C).toNat * 65536 }
       (moved.vEntry v).kind = (c.vEntry v).kind ∧
       (((moved.endVoice s.env v 1 (BitVec.ofNat 48 s.clock.abs)).vEntry v).kind ≠ 5 →
         exec (.waveEnd v) s = .next (s.becomes (moved.endVoice s.env v 1 (BitVec.ofNat 48 s.clock.abs))))) ∧
     (ticking → decay ≠ 0 → (c.chime n).volAt < next → (c.chime n).blocks + 1 = decay → exec (.chimeDecayStep n) s =
       .next (s.becomesAt next fun _ c =>
         (c.setFld (A.CHMn_ENV n) 7 0 (c.fld (A.CHMn_ENV n) 7 0 - 1)).setChime n { c.chime n with blocks := 0, volAt := next })) ∧
     (ticking → length = 1 → (c.chime n).lenAt < next → exec (.chimeLengthExpire n) s =
       .next (s.becomesAt next fun _ c =>
         (c.setFld (A.CHMn_ENV n) 31 16 0).setChime n { c.chime n with on := false, lenAt := next })))

/-- R200 to R233: audio ports, key scanner and converter. -/
def Obligations.AudioPortsKeysAndConverter : Prop :=
  ∀ (m : Master) (i n phase l : Nat) (v : Word) (value : BitVec 12) (levels : BitVec 256) (edges : List (Nat × Nat))
    (low : BitVec 16) (x : KeyRec) (s : State), s.chip.powered = true →
    let c := s.chip
    let p := c.sap i
    let cs := c.met.ticks.cs
    let seen := Chip.setSap (c.setFld (A.SAPn_PHASE i) 25 16 (phase % cs)) i { p with lastFrame := s.clock.abs }
    let sent := seen.sendFrame i (s.clock.abs / cs % c.met.ticks.b) true
    let slave := (c.sapEntry i).mode ≠ 0 ∧ (c.sapEntry i).master = false ∧ p.locked = false ∧ p.good < 64 ∧
      c.sapClocked i = true ∧ c.aud.frameAt ≤ s.clock.abs
    let counted := fun (good first : Nat) =>
      Host.Outcome.next (s.becomes (sent.setSap i { p with lastFrame := s.clock.abs, good := good, first := first }))
    let chan := c.adcChan n
    (slave → c.framing = true → (c.setFld (A.SAPn_PHASE i) 25 16 (phase % cs)).sap i = p → seen.sap i = { p with lastFrame := s.clock.abs } →
      exec (.sapSlaveFrame i phase (32 * (c.sapEntry i).slots) []) s =
        (if p.good = 0 ∨ 8 < phaseGap cs (phase % cs) p.first then counted 1 (phase % cs) else counted (p.good + 1) p.first) ∧
      exec (.sapSlaveFrame i phase (32 * (c.sapEntry i).slots + 1) []) s = counted 0 p.first) ∧
    (p.locked = false → p.good = 64 → exec (.sapSlaveLock i) s =
      let d := c.setFld (A.SAPn_PHASE i) 9 0 (c.fld (A.SAPn_PHASE i) 25 16)
      .next (s.becomes ((((d.setBit (A.SAPn_STAT i) 0).setBit (A.SAPn_STAT i) 4).clrBit (A.SAPn_STAT i) 3).setSap i
        { p with locked := true }))) ∧
    (c.slow = false → p.locked = true → s.clock.abs ≤ p.lastFrame + 2 * cs → exec (.sapFrameStartTimeout i) s =
      .next (s.becomesAt (p.lastFrame + 2 * cs) fun e c =>
        let d := c.setSap i { c.sap i with locked := false, feeding := false, good := 0 }
        Chip.report e 0x08 clsRecoverable i 0
          ((((d.setBit (A.SAPn_STAT i) 1).setBit (A.SAPn_STAT i) 3).clrBit (A.SAPn_STAT i) 0).inc (A.SAPn_FAULTS i)))) ∧
    (c.slow = false → c.aud.spdifEn = true → c.aud.spdifAt = none → c.met.lastSample = some l → exec .spdifBlockStart s =
      .next (s.becomesAt (l + (cs - l % cs)) fun e c => { c.setBit A.SPDIF_STAT 1 with
        aud := { c.aud with spdifFrame := 0, spdifAt := some e.now, spdifCs := (c.setBit A.SPDIF_STAT 1).rd A.SPDIF_CS } })) ∧
    (c.slow = false → c.key.lastScan = some l → ∃ t, t % 1024 = 0 ∧ l < t ∧ t ≤ l + 1024 ∧
      exec (.keyScan levels edges) s = .next (s.becomesAt t (fun _ c => keyScan t levels edges c))) ∧
    (c.slow = false → (c.contact n).lock = some l → exec (.lockoutEnd n) s =
      .next (s.becomesAt ((l + 1) * 1024 + 64 * (n / 16) + c.fld A.KEY_SCAN 5 0) fun e c =>
        c.afterLockout n (c.contact n).level e.now (e.now / 1024))) ∧
    (c.key.buf = [x] → x.formed ≤ s.clock.abs → c.skidRoom x.r.source x.r.kind = true → exec .keyRecordPresent s =
      .next (s.becomes (Chip.post s.env { c with key := { c.key with buf := [] } } x.r))) ∧
    (admits 8 m.port = true → (c.rd A.KEY_CFG).getLsbD 31 = true → exec (.keyCfgWrite m A.KEY_CFG v) s =
      let old := c.rd A.KEY_CFG
      let kept := (v &&& ~~~0x60FFFF00) ||| (old &&& 0x60FFFF00)
      .next (s.becomes (if (old ^^^ v) &&& 0x60FFFF00 = 0 then c.writeCoded A.KEY_CFG v
        else (c.setBit A.KEY_STAT 1).writeCoded A.KEY_CFG kept))) ∧
    (c.pwr.sub ≠ .doze → c.pwr.sub ≠ .drowse → exec (.sleepScanSample low) s = .next (s.becomes c)) ∧
    (c.pwr.sub = .doze → c.bit A.KEY_CFG 31 = true → c.key.sleep = [] → exec (.sleepScanSample 1) s =
      .next (s.becomes (({ c with key := { c.key with sleep := [(0, s.clock.abs)] } } : Chip).setBit A.KEY_STAT 2).askWake)) ∧
    (c.slow = false → c.adc.last = some l → c.adc.cycle = [n] → c.pwr.sub = .none → chan.n ≠ 0 → chan.n + 1 < 2 ^ c.adcOs n →
      ∃ t, t % 256 = 255 ∧ l < t ∧ t ≤ l + 256 ∧ exec (.adcConversion value) s = .next (s.becomesAt t fun _ c =>
        Chip.setAdc (Chip.wr { c with adc := { c.adc with cycle := [], last := some t } } (A.ADCn_RAW n) (value.setWidth 32)) n
          { chan with sum := chan.sum + value.toNat, n := chan.n + 1 })) ∧
    (admits 8 m.port = true → n < 16 → c.bit (A.ADCn_CFG 0) 31 = true → exec (.adcCfgWrite m n v) s =
      .next (s.becomes (Chip.setAdc (c.writeCoded (A.ADCn_CFG n) v) n { chan with sum := 0, n := 0, first := true, up := none })))

/-- R237, R238, R240, R244: messages as records and records as bytes.
R236 to R247: the DIN ports. -/
def Obligations.MidiMessagesAndPorts : Prop :=
  (∀ (p : MidiIn) (st d0 d1 t0 t1 t2 source input : Nat), p.sysex = none → d0 < 128 → d1 < 128 → input < 16 →
     (0x80 ≤ st → st < 0xF0 → dataLen st = 2 →
       let a := midiStep p st t0
       let b := midiStep a.p d0 t1
       let c := midiStep b.p d1 t2
       a.ev = [] ∧ b.ev = [] ∧ ∃ e, c.ev = [e] ∧ e.stamp = t0 ∧ outBytes (e.toRec source input) = some [st, d0, d1] ∧
         bits (e.toRec source input).valueB 7 4 = input ∧ bits (e.toRec source input).valueB 3 0 = st % 16) ∧
     (0x80 ≤ st → st < 0xF0 → dataLen st = 1 →
       let a := midiStep p st t0
       let b := midiStep a.p d0 t1
       a.ev = [] ∧ ∃ e, b.ev = [e] ∧ e.stamp = t0 ∧ outBytes (e.toRec source input) = some [st, d0]) ∧
     (st = 0xF2 →
       let c := midiStep (midiStep (midiStep p st t0).p d0 t1).p d1 t2
       ∃ e, c.ev = [e] ∧ e.stamp = t0 ∧ outBytes (e.toRec source input) = some [0xF2, d0, d1]) ∧
     (0xF8 ≤ st → st < 0x100 → st ≠ 0xF9 → st ≠ 0xFD →
       (midiStep p st t0).p = p ∧ (midiStep p st t0).ev = [{ kind := 8, key := st, va := 0, stamp := t0 }]) ∧
     (p.msg = none → p.running = some st → dataLen st = 1 → ∃ e, (midiStep p d0 t1).ev = [e] ∧ e.stamp = t1) ∧
     (p.msg = none → p.running = none → (midiStep p d0 t1).stray = true ∧ (midiStep p d0 t1).p = p) ∧
     (st = 0xF4 ∨ st = 0xF5 → (midiStep p st t0).stray = true ∧ (midiStep p st t0).p.running = none) ∧
     (∀ l : List Nat, l.length ≤ 6 → (∀ b ∈ l, b < 256) → outBytes ((sysexEvent l true t0).toRec source input) = some l)) ∧
  (∀ (i idle q t b : Nat) (byte : Byte) (ok : Bool) (rt : BitVec 3) (it : QItem) (l : List QItem) (s : State),
     s.chip.powered = true → s.chip.met.stopped = false →
     let c := s.chip
     let now := s.clock.abs
     let start := now + idle
     let middle := start + (19 * c.bitNum + 2 * bitDen - 1) / (2 * bitDen)
     let taken := fun (b : Nat) (ok : Bool) => ((s.advTo middle).on (midiByte i start b ok)).settle
     let o := c.mout i
     let at0 := c.gridAt (c.gridFrom (max o.freeAt now))
     let begun := fun (o : MidiOut) (start b : Nat) =>
       { o with last := some b, began := start, freeAt := c.gridAt (c.gridFrom start + 10) }
     let line := c.moutOn i = true ∧ o.msg = []
     (c.midiListens i = true →
       exec (.midiInMessage i [(idle, byte, ok)]) s = .next (taken byte.toNat ok) ∧
       exec (.sysexRecord i [(idle, byte, ok)]) s = .next (taken byte.toNat ok) ∧
       exec (.midiRealtimeByte i idle rt) s = .next (taken (0xF8 + rt.toNat) true)) ∧
     (c.midiListens i = false → exec (.midiInMessage i [(idle, byte, ok)]) s = .next (s.becomes c)) ∧
     (let due := (c.midi i).lastByte + c.fld (A.MID_INn_CFG i) 13 8 * c.tenMs
      c.slow = false → c.bit (A.MID_INn_STAT i) 0 = true → c.bit (A.MID_INn_CFG i) 1 = false → now ≤ due → i < 4 →
       exec (.activeSensingTimeout i) s = .next (s.becomesAt due fun e c =>
         Chip.post e ((c.setBit (A.MID_INn_STAT i) 4).clrBit (A.MID_INn_STAT i) 0)
           { source := 0x10 + i, kind := 8, key := 0xFE, flags := 0, time := BitVec.ofNat 48 due, valueA := 0xFFFF,
             valueB := word (16 * i) })) ∧
     (line → o.slot = none → c.consumerQueue (0x14 + i) = some q → c.qItems q = it :: l → c.bit (A.MID_OUTn_CFG i) 2 = false →
       exec (.midiOutRecord i) s = .next ((s.advTo at0).on (takeRecord i none)).settle) ∧
     (line → o.slot = none → c.consumerQueue (0x14 + i) = some q → c.qItems q = it :: l → c.bit (A.MID_OUTn_CFG i) 2 = true →
       absOf it.r.time now = t →
       exec (.midiOutSendAt i) s =
         .next ((s.advTo (c.gridAt (c.gridFrom (max o.freeAt (max now t))))).on (takeRecord i (some t))).settle) ∧
     (∀ e d, c.consumerQueue (0x14 + i) = some q → c.popRec q = some (it, d) → outBytes it.r = none → d.mout i = o → o.msg = [] →
       takeRecord i none e c = (d.setMout i o).setBit (A.MID_OUTn_STAT i) 2) ∧
     (line → o.slot = some ([b], t) → 0xF8 ≤ b →
       let go := c.gridAt (c.gridFrom (max o.freeAt (max t now)))
       (go - t) * bitDen ≤ c.fld (A.MID_OUTn_CFG i) 23 16 * c.bitNum →
       exec (.directSlotSend i) s = .next ((s.withChip (c.setMout i (begun { o with slot := none } go b))).advTo go).settle) ∧
     (line → c.bit (A.MID_OUTn_CFG i) 1 = true →
       let go := c.gridAt (c.gridFrom (max (o.freeAt + 27 * c.tenMs) now))
       exec (.activeSensingTx i) s = .next ((s.withChip (c.setMout i (begun o go 0xFE))).advTo go).settle))

/-- R248 to R263, R591: the USB device. -/
def Obligations.UsbDeviceCommands : Prop :=
  ∀ (m : Master) (v w : Word) (hs : Bool) (r : UsbRequest) (a n t i alt entity control hz counts : Nat) (data : List Byte)
    (frames : List (List Word)) (ws : List Word) (s : State), s.chip.powered = true →
    let c := s.chip
    let u := c.usb
    let up := c.usbUp = true ∧ c.dfuMode = false
    let answers := fun (x : Usb) => Host.Outcome.next (s.becomes { c with usb := x })
    (admits 8 m.port = true → a = A.USB_ID ∨ a = A.USB_BCD ∨ a = A.USB_STR_ADDR →
      exec (.usbCfgWrite m a v) s = .next (s.becomes (if c.bit A.USB_CFG 31 = false then c.writeCoded a v
        else c.setBit A.USB_EVT 7))) ∧
    (c.slow = false → u.reconnect = some t → s.clock.abs ≤ t → exec .usbReconnect s = .next (s.becomesAt t fun _ c => { c with usb :=
      { c.usb with reconnect := none, pullup := true, outCh := min 8 (c.fld A.USB_CFG 3 0), inCh := min 8 (c.fld A.USB_CFG 11 8) } })) ∧
    (u.pullup = true → ∃ d, exec (.usbBusReset hs) s = .next (s.becomes d) ∧
      d.usb.address = 0 ∧ d.usb.outRing = [] ∧ d.usb.inRing = [] ∧ d.usb.held = [] ∧ d.usb.part = [] ∧ d.usb.tog1 = false ∧
      d.usb.tog2 = false ∧ d.que = c.que ∧
      (c.bit A.USB_CFG 30 = true → d.usbSpeed = if hs then 2 else 1) ∧ (c.bit A.USB_CFG 30 = false → d.usbSpeed = 1) ∧
      (c.pwr.sub ≠ .none → d.pwr.waking = true)) ∧
    (u.pullup = true → c.bit A.USB_STAT 1 = false → exec .usbSuspend s =
      .next (s.becomes ((c.setBit A.USB_STAT 1).setBit A.USB_EVT 1))) ∧
    (u.pullup = true → c.bit A.USB_STAT 1 = true → c.pwr.sub = .none → exec .usbResume s =
      .next (s.becomes ((c.clrBit A.USB_STAT 1).setBit A.USB_EVT 2))) ∧
    (up → (∀ x, r ≠ .setAddress x) → exec (.usbStandardRequest r) s = answers { u with reply := usbAnswer r c }) ∧
    (up → ∀ x, exec (.usbStandardRequest (.setAddress x)) s = answers { u with reply := .ack, address := x.toNat }) ∧
    (up → n ≤ 1 → ∃ d, exec (.setConfiguration n) s = .next (s.becomes (Chip.post s.env d
        { source := 0x19, kind := 0x18, key := 0x09, flags := 0, time := s.env.stamp, valueA := BitVec.ofNat 16 n, valueB := 0 })) ∧
      d.usbConfig = n ∧ d.usb.reply = .ack ∧ d.usb.outRing = [] ∧ d.usb.inRing = [] ∧ d.bit A.USB_EVT 3 = true) ∧
    (up → c.usbConfig = 0 ∨ 5 ≤ i ∨ c.maxAlt i < alt → exec (.setInterface i alt) s = answers { u with reply := .stall }) ∧
    (up → c.usbConfig ≠ 0 → alt ≤ c.maxAlt 2 → exec (.setInterface 2 alt) s =
      .next (s.becomes (Chip.post s.env (((({ c.setFld A.USB_STAT 5 4 alt with usb := { u with inRing := [] } } : Chip).setBit
        A.USB_EVT 3).usbSays .ack)) (ctrlRec s.env 0x0B (512 + alt) 0)))) ∧
    (up → entity = 2 ∨ entity = 5 → control = 2 → n < 65536 → exec (.featureUnitSetCur entity control n) s =
      .next (s.becomes (Chip.post s.env { c with usb := { u with cur := putS 0 u.cur (4 * entity + 2) n, reply := .ack } }
        (ctrlRec s.env 0x01 (entity * 256 + 2) n)))) ∧
    (up → exec (.clockSetCur hz) s = answers { u with reply := if hz = c.met.ticks.hz then .ack else .stall }) ∧
    (up → c.outAlt = 1 → u.outRing.length + frames.length ≤ 256 → exec (.usbAudioOutPacket u.tog1 frames) s =
      answers { u with
        tog1 := !u.tog1
        outRing := u.outRing ++ frames.map fun f => (List.range c.outChannels).map fun k => sgn 24 (f.getD k 0).toNat * 256 }) ∧
    (up → exec (.usbAudioOutPacket (!u.tog1) frames) s = .next (s.becomes c)) ∧
    (up → c.inAlt ≠ 0 → exec .usbAudioInPacket s =
      answers { u with inRing := [], audioSent := u.inRing.map fun f => f.map (toWidth (if c.inAlt = 1 then 24 else 16)) }) ∧
    (up → c.outAlt ≠ 0 → c.usbHigh = true → u.outRing.length ≤ 256 → exec (.usbFeedback counts) s =
      .next (s.becomes (c.wr A.USB_FB (wordI ((counts * 65536 / (64 * c.met.ticks.cs) : Nat) +
        clampI (-2048) 2048 (16 * (128 - (u.outRing.length : Int)))))))) ∧
    (up → c.usbConfig ≠ 0 → c.msAlt = 0 → exec (.usbMidiEventPacket (!u.tog2) ws) s = .next (s.becomes c)) ∧
    (up → c.usbConfig ≠ 0 → c.msAlt = 0 → u.held.length < 1024 → 8 ≤ bits w 7 4 → exec (.usbMidiEventPacket u.tog2 [w]) s =
      .next (s.becomes (Chip.inc { c with usb := { u with tog2 := !u.tog2 } } A.USB_DROPS))) ∧
    (up → c.usbConfig ≠ 0 → c.msAlt = 1 → c.bit A.USB_CFG 28 = false → ws ≠ [] → exec (.universalMidiPacket u.tog2 ws) s =
      .next (s.becomes (Chip.posts s.env { c with usb := { u with tog2 := !u.tog2 } } (umpRecs s.env ws)))) ∧
    (up → c.usbConfig ≠ 0 → c.msAlt = 1 → ∀ q it d, c.consumerQueue 0x1A = some q → c.popRec q = some (it, d) → it.r.kind = 0x0A →
      exec .usbMidiInSend s = .next (s.becomes { d with usb := { d.usb with midiSent := [it.r.valueB] } })) ∧
    (c.dfuOn = true → data.length ≤ 1024 → exec (.dfuDownload data) s = answers { u with dfuData := u.dfuData ++ data, reply := .ack }) ∧
    (c.usbUp = true → exec .dfuUpload s = answers { u with reply := .stall }) ∧
    (c.dfuOn = true → u.dfuAlt = 0 → imageCode s.fuses u.dfuData ≠ 0 → exec .dfuManifest s = .next (s.becomes
      (Chip.usbDo (Chip.bootCode { c with usb := { u with dfuData := [], dfuError := false } } (imageCode s.fuses u.dfuData))
        fun u => { u with dfuError := true }))) ∧
    (c.dfuOn = true → u.dfuAlt = 0 → imageCode s.fuses u.dfuData = 0 → exec .dfuManifest s = .next (s.becomes
      (runImage u.dfuData s.env { c with usb := { u with dfuData := [], dfuError := false } })))

/-- R270 to R298: the display controller. -/
def Obligations.DisplayControllerCommands : Prop :=
  ∀ (m : Master) (v : Word) (late : List (Nat × Nat)) (p : Push) (rects : List (Nat × Nat × Nat × Nat)) (s : State),
    s.chip.powered = true →
    let c := s.chip
    let d := c.disp
    let now := s.clock.abs
    let byte := fun (nibble : Bool) => ({ dc := v.getLsbD 8, nibble := nibble, byte := bits v 7 0 } : DispByte)
    let queued := fun (b : DispByte) => Host.Outcome.next (s.becomes { c with disp :=
      { d with fifo := d.fifo ++ [b], busFree := if d.fifo.isEmpty then max d.busFree now else d.busFree } })
    let marked := fun (o : Host.Outcome State Fault Refusal) (hit : Nat → Prop) => ∃ l,
      o = .next (s.becomes { c with disp := { d with dirty := l } }) ∧
      ∀ i, i ∈ l ↔ i < c.tilesW * c.tilesH ∧ (i ∈ d.dirty ∨ hit i)
    (admits 8 m.port = true → exec (.dispCtlWrite m v) s =
      .next (s.becomes ((c.composeNow s.env).writeCoded A.DISP_CTL v))) ∧
    (c.slow = false → c.dkind = 1 → 0 < c.vTotal → 0 < c.frameCounts → c.met.frame0 ≤ now →
      ∃ t, now ≤ t ∧ t ≤ now + c.frameCounts ∧ exec (.dispLineStart late) s = .next (s.becomesAt t (lineTick late)) ∧
        (d.row = [] → d.current.2 = [] → d.scan = false → c.bit A.DISP_CTL 0 = false → c.scrBusy = false →
          exec (.dispLineStart late) s =
            .next (s.becomesAt t fun _ c => { c with disp := { c.disp with lineAt := some t } }))) ∧
    (d.waitTe = some rects → rects ≠ [] → c.dirtyMap = true → c.bit A.DISP_STAT 6 = false → c.bit A.DISP_SR 1 = false → d.fifo = [] →
      exec .dispTeEdge s =
      let start := max now d.busFree
      let fin := start + cyclesToCounts ((rects.map c.rectXfers).sum * c.xferCycles)
      .next (s.becomes (Chip.setBit { c with disp :=
        { d with waitTe := none, push := some { rects := rects, start := start, finish := fin } } } A.DISP_STAT 8))) ∧
    (c.slow = false → d.push = some p → now ≤ p.finish → ∃ t : State, exec .pushComplete s = .next t.settle ∧
      t.clock = (s.advTo p.finish).clock ∧ t.chip.disp.push = none ∧ t.chip.disp.dirty = d.dirty ∧
      t.chip.bit A.DISP_STAT 8 = false) ∧
    (admits 8 m.port = true → d.push = some p → d.fifo.length < 16 → exec (.dispDbiCmd m v) s = queued (byte false) ∧
      exec (.dispChrCmd m v) s = queued (byte (v.getLsbD 9 && c.bit A.DISP_CHR_CFG 16))) ∧
    (admits 8 m.port = true → d.push = some p → d.fifo.length = 16 →
      exec (.dispDbiCmd m v) s = .next (s.becomes (c.setBit A.DISP_STAT 5)) ∧
      exec (.dispChrCmd m v) s = .next (s.becomes (c.setBit A.DISP_STAT 5))) ∧
    (admits 8 m.port = true → c.dirtyMap = true →
      marked (exec (.dispDirtyMark m v) s) (fun i => bits v 7 0 ≤ i % c.tilesW ∧ i % c.tilesW ≤ bits v 23 16 ∧
        bits v 15 8 ≤ i / c.tilesW ∧ i / c.tilesW ≤ bits v 31 24) ∧
      (v.getLsbD 0 = true → marked (exec (.dispDirtyAll m v) s) (fun _ => True))) ∧
    (admits 8 m.port = true → d.push = none → exec (.resync m v) s =
      .next (s.becomes { c.writeCoded A.DISP_CHR_CFG (setBitTo v 17 true) with disp := { d with shadow := [] } })) ∧
    (admits 8 m.port = true → exec (.dispSrWrite m v) s =
      .next (s.becomes { c.writeCoded A.DISP_SR v with disp := { d with srAsk := v.getLsbD 0 || d.srAsk } }))

/-- R309 to R327: the Scriptorium. -/
def Obligations.ScriptoriumRunsItsCommands : Prop :=
  ∀ (m : Master) (rows : Nat) (x : Chip) (f : Fence) (s : State), s.chip.powered = true →
    let c := s.chip
    let now := s.clock.abs
    let begun := fun (list : Bool) (pc : Nat) => { c.scr with list := list, pc := pc, began := now, fired := none }
    let stopped := fun (c : Chip) (b : Nat) =>
      Host.Outcome.next (s.becomes (((c.clrBit A.SCR_STAT 0).clrBit A.SCR_STAT 1).setBit A.SCR_STAT b))
    let k : ScrCmd := { w := (List.range 8).map fun i => c.rd (A.SCR_CMDw i) }
    let reached := c.bit A.SCR_STAT 0 = true ∧ c.bit A.SCR_STAT 1 = false ∧ c.scr.list = false
    let fired := fun (e : Env) (line : Nat) (c : Chip) =>
      { (((c.setBit A.SCR_STAT 7).wr A.SCR_FENCE_LAST (word line)).wr A.SCR_FENCE_FRAME (word (c.frameIndex e))) with
        scr := { c.scr with fired := some (c.frameIndex e) } }
    (admits 8 m.port = true → c.bit A.SCR_STAT 0 = false →
      exec (.scrExecute m) s = .next (s.becomes (Chip.setBit { c with scr := begun false c.scr.pc } A.SCR_STAT 0)) ∧
      exec (.scrStartList m) s = .next (s.becomes ((Chip.wr { c with scr := begun true (c.rd A.SCR_LIST_ADDR).toNat }
        A.SCR_PC (c.rd A.SCR_LIST_ADDR)).setBit A.SCR_STAT 0)) ∧
      exec (.scrAbort m rows) s = .next (s.becomes c)) ∧
    (admits 8 m.port = true → c.bit A.SCR_STAT 0 = true →
      exec (.scrExecute m) s = .next (s.becomes (c.setBit A.SCR_STAT 10)) ∧
      exec (.scrStartList m) s = .next (s.becomes (c.setBit A.SCR_STAT 10))) ∧
    (admits 8 m.port = true → c.bit A.SCR_STAT 0 = true → c.bit A.SCR_STAT 1 = true → c.scr.list = false →
      exec (.scrAbort m rows) s = stopped ((Chip.clrBit { c with scr := { c.scr with fence := none, own := false } }
        A.SCR_STAT 2).clrBit A.SCR_FENCE 31) 6) ∧
    (reached → k.op = 0 → exec .scrNop s = stopped c 4) ∧
    (reached → k.op = 0x13 → exec .scrEnd s = stopped c 4) ∧
    (∀ row op, (row, op) ∈ [(Instr.scrFill, 1), (.scrRect, 2), (.scrLine, 3), (.scrCopy, 4), (.scrKeycopy, 5), (.scrBlend, 6),
        (.scrGlyph, 7), (.scrTilew, 8), (.scrPack, 9)] →
      reached → k.op = op → c.disp.push = none →
      (scrDraw k 65536 c = (x, none) → x.scr = c.scr ∧ exec row s = stopped (x.autoMark k) 4) ∧
      (∀ err, scrDraw k 65536 c = (x, some err) → err.code ≠ 8 →
        exec row s = stopped ((x.autoMark k).wr A.SCR_ERR (word err.code)) 5)) ∧
    (reached → k.op = 0x0F → exec .scrTarget s =
      stopped (((c.wr A.SCR_TGT_ADDR (k.word 1)).wr A.SCR_TGT_FMT (k.word 2)).wr A.SCR_TGT_SIZE (k.word 3)) 4) ∧
    (reached → k.op = 0x10 → exec .scrClip s =
      let i := k.low % 4
      let d := (c.wr (A.SCR_CLIPi_MIN i) (k.word 1)).wr (A.SCR_CLIPi_MAX i) (k.word 2)
      stopped ((d.putBit A.SCR_CLIP_CTL i (k.low.testBit 4)).putBit A.SCR_CLIP_CTL (4 + i) (k.low.testBit 5)) 4) ∧
    (reached → k.op = 0x12 → exec .scrJump s =
      if (k.word 1).toNat % 32 = 0 then
        .next (s.becomes (Chip.wr { c with scr := { c.scr with list := true, pc := (k.word 1).toNat, began := now } }
          A.SCR_PC (k.word 1)))
      else stopped (c.wr A.SCR_ERR 3) 5) ∧
    (reached → k.op ∉ scrOps → exec .scrUnknownOp s = stopped (c.wr A.SCR_ERR 1) 5) ∧
    (reached → k.op = 0x11 → c.scr.fence = none → c.dkind = 0 ∨ c.dkind = 4 → exec .scrFence s =
      stopped (fired s.env (k.low % 2048) c) 4) ∧
    (reached → k.op = 0x11 → c.scr.fence = none → c.dkind = 1 → k.low % 2048 < c.vTotal → k.low / 4096 % 4 = 1 →
      (k.word 0).getLsbD 15 = true → exec .scrFence s =
        let g : Fence := { line := k.low % 2048, frame := (c.frameIndex s.env + 1) % 2 ^ 32 }
        .next (s.becomes (Chip.setBit { ((c.setBit A.SCR_STAT 2).wr A.SCR_FENCE (word (2 ^ 31 + g.line))) with
          scr := { c.scr with fence := some g, own := true } } A.SCR_STAT 1))) ∧
    (c.slow = false → c.scr.fence = some f → c.dkind = 1 → c.bit A.SCR_STAT 1 = false →
      let ahead := (f.frame + 2 ^ 32 - c.frameIndex s.env % 2 ^ 32) % 2 ^ 32
      let t := c.lineCount (c.frameStart now + ahead * c.frameCounts) f.line
      ahead < 2 ^ 31 → now ≤ t → exec .fenceFire s = .next (s.becomesAt t fun e c =>
        ((Chip.clrBit { fired e f.line c with scr := { c.scr with fired := some (c.frameIndex e), fence := none, own := false } }
          A.SCR_STAT 2).clrBit A.SCR_FENCE 31)))

/-- R307, R310, R317: FILL. -/
def Obligations.FillWritesItsRectangle : Prop :=
  ∀ (c : Chip) (k : ScrCmd), memWf c.mem = true → k.op = 1 → c.scrBreach k = none → c.scrTarget.code = 1 →
    c.scrTarget.tiled = false → (∀ x y, c.scrAllows k.clip x y = true → c.scrCheck true (c.scrTarget.at x y) 1 = none) →
    let r := scrDraw k 65536 c
    let drawn := fun (a : Nat) => ∃ x y : Int, k.x 1 ≤ x ∧ x < k.x 1 + k.wd 2 ∧ k.y 1 ≤ y ∧ y < k.y 1 + k.ht 2 ∧
      c.scrAllows k.clip x y = true ∧ (a : Int) = c.scrTarget.addr + y * c.scrTarget.pitch + x
    r.2 = none ∧ r.1.regs = c.regs ∧ memWf r.1.mem = true ∧
    (∀ a, drawn a → getB r.1.mem a = BitVec.ofNat 8 k.low) ∧
    (∀ a, ¬ drawn a → getB r.1.mem a = getB c.mem a)

/-- R487 to R507: channel control. -/
def Obligations.DmaChannelControl : Prop :=
  ∀ (m : Master) (ch cause : BitVec 4) (v : Word) (t : Nat) (x : Xfer) (d : Chip) (ws : List Word) (s : State),
    s.chip.powered = true →
    let c := s.chip
    let n := ch.toNat
    let k := c.ch n
    let fresh := { k with loops := [], wait := none, pre := none, x := none, tries := 0, post := none }
    let cfg := c.rd (A.CHn_CFG n)
    let count := (c.rd (A.CHn_COUNT n)).toNat
    let copy : Xfer := { src := (c.rd (A.CHn_SRC n)).toNat, dst := (c.rd (A.CHn_DST n)).toNat, smode := bits cfg 13 12,
                         dmode := bits cfg 17 16, width := count }
    (admits 8 m.port = true →
      (c.chActive n = true → exec (.dmaStart m ch) s = .next (s.becomes (c.setBit (A.CHn_STAT n) 15)) ∧
        exec (.dmaAbort m ch) s = .next (s.becomes { c with dma := { c.dma with aborts := c.dma.aborts ++ [n] } })) ∧
      (c.chActive n = false → exec (.dmaAbort m ch) s = .next (s.becomes c) ∧
        (c.chProgram n = true → exec (.dmaStart m ch) s =
          .next (s.becomes (((c.setCh n fresh).wr (A.CHn_PC n) (c.rd (A.CHn_PROG n))).setChState n 1))) ∧
        (c.chProgram n = false → copy.smode ≠ 3 → copy.dmode ≠ 3 → count ≠ 0 → c.dma.chans = [] → exec (.dmaStart m ch) s =
          .next (s.becomes ((c.setCh n { fresh with x := some copy }).setChState n 1)))) ∧
      (∃ y : Chip, y.mem = c.mem ∧ y.dma = c.dma ∧ y.caches = c.caches ∧
        exec (.dmaDisable m ch) s = .next (s.becomes ((y.setCh n fresh).setChState n 0))) ∧
      exec (.dmaEvtSet m v) s = .next (s.becomes (c.wr A.DMA_EVT (c.rd A.DMA_EVT ||| (v &&& 0xFFFF)))) ∧
      exec (.dmaEvtClr m v) s = .next (s.becomes (c.wr A.DMA_EVT (c.rd A.DMA_EVT &&& ~~~v)))) ∧
    (c.slow = false → c.chState n = 2 → k.wait = some (.block t) → c.met.gap.2 ≤ t → s.clock.abs ≤ t → exec (.dmaWaitComplete ch) s =
      .next (s.becomesAt t fun _ c => ((c.setCh n { k with wait := none }).wr (A.CHn_PC n) (word (c.chPc n + 4))).setChState n 1)) ∧
    (∀ write a size kind target, c.chNextAccess n = some (write, a, size) →
      c.busCause (.dma n) write false a size = some (kind, target) →
      let failed := c.busError (.dma n) target kind a write
      exec (.dmaBusError ch cause) s = .next (s.becomes (
        if targetOf a < 8 ∧ k.tries < c.fld (A.CHn_CFG n) 26 24 then
          (failed.setCh n { k with tries := k.tries + 1, backoff := s.clock.abs + backoffCounts k.tries }).setChState n 3
        else failed.chHalt s.env n 2 kind a))) ∧
    (c.slow = false → c.chState n = 3 → k.backoff = t → s.clock.abs ≤ t → k.x = none → exec (.dmaBackoffEnd ch) s =
      .next (s.becomesAt t fun e c => chExec n (fun _ => true) e (c.setChState n 1))) ∧
    (c.chReady n = true → chFetch n (c.chPc n) s.env c = (.words ws, d) → insValid (ws.headD 0) (ws.getD 1 0) = false →
      exec (.dmaBadProg ch) s = .next (s.becomes (d.chBadProg s.env n))) ∧
    (c.chProgram n = false → c.chState n = 1 → k.x = some x → exec (.dmaCopyComplete ch) s =
      .next (s.becomes (chRun n 0 s.env c)))

/-- R489 to R500: the instructions of a channel's program. -/
def Obligations.DmaProgramInstructions : Prop :=
  ∀ (ch : BitVec 4) (ws : List Word) (c d : Chip) (s : State), s.chip.powered = true →
    let n := ch.toNat
    let w := ws.headD 0
    let e := s.env
    let now := s.clock.abs
    let k := c.ch n
    let on := fun (size : Nat) (c : Chip) => (c.setCh n { c.ch n with pre := none }).wr (A.CHn_PC n) (word (c.chPc n + size))
    let next := fun (c : Chip) => Host.Outcome.next (s.becomes c)
    let waits := fun (x : DmaWait) => next (chPrefetch n e
      ((c.setCh n { k with wait := some x, waitFrom := now, pre := some (c.chPc n, ws) }).setChState n 2))
    let low := bits w 15 0
    let q := bits w 21 16
    s.chip.chReady n = true → chFetch n (s.chip.chPc n) e s.chip = (.words ws, c) → insValid w (ws.getD 1 0) = true →
    (insOp w = 0 → exec (.dmaEnd ch) s = next (c.chDone e n)) ∧
    (insOp w = 1 → exec (.dmaMove ch) s = next (chMove n ws e c)) ∧
    (insOp w = 2 → exec (.dmaMove2d ch) s = next (chMove2d n ws e c)) ∧
    (insOp w = 3 → k.loops.length < 2 → exec (.dmaLoop ch) s =
      next (on (4 * ws.length) (c.setCh n { k with loops := (c.chPc n + 4, low, low == 0) :: k.loops }))) ∧
    (insOp w = 4 → ∀ a left l, k.loops = (a, left, false) :: l →
      (1 < left → exec (.dmaEndloop ch) s =
        next ((c.setCh n { k with loops := (a, left - 1, false) :: l }).chGoto n a)) ∧
      (left ≤ 1 → exec (.dmaEndloop ch) s = next (on (4 * ws.length) (c.setCh n { k with loops := l })))) ∧
    (insOp w = 4 → ∀ a left l, k.loops = (a, left, true) :: l → exec (.dmaEndloop ch) s = next (c.chGoto n a)) ∧
    (insOp w = 5 → bits w 27 24 = 0 → w.getLsbD 23 = false → exec (.waitBlock ch) s =
      waits (.block ((now / c.met.ticks.cb + max 1 low) * c.met.ticks.cb))) ∧
    (insOp w = 5 → bits w 27 24 = 0 → w.getLsbD 23 = true → bits w 8 0 < c.met.ticks.f → exec (.waitBlock ch) s =
      waits (.bif (bits w 8 0))) ∧
    (insOp w = 5 → bits w 27 24 = 1 → isFuture (ws.getD 1 0).toNat (c.block e) = true → exec (.waitAbsblock ch) s =
      waits (.abs (ws.getD 1 0))) ∧
    (insOp w = 5 → bits w 27 24 = 2 → exec (.waitSample ch) s =
      waits (.sample ((now / c.met.ticks.cs + max 1 low) * c.met.ticks.cs))) ∧
    (insOp w = 5 → bits w 27 24 = 3 → c.dkind = 1 →
      exec (.waitLine ch) s = if bits w 10 0 < c.vTotal then waits (.line (bits w 10 0)) else next (c.chBadWait e n)) ∧
    (insOp w = 5 → bits w 27 24 = 4 → (c.qe (bits w 5 0)).depth ≠ 0 → c.qItems (bits w 5 0) = [] → c.dma.chans = [] →
      exec (.waitQueue ch) s = waits (.queue (bits w 5 0))) ∧
    (insOp w = 5 → bits w 27 24 = 5 → c.bit A.DMA_EVT (bits w 3 0) = false → c.dma.chans = [] →
      exec (.waitEvent ch) s = waits (.event (bits w 3 0))) ∧
    (insOp w = 6 → bits w 27 26 = 0 → exec (.signalInt ch) s =
      next (on (4 * ws.length) ((c.wr (A.CHn_SIGVAL n) (word low)).setBit (A.CHn_STAT n) 2))) ∧
    (insOp w = 6 → bits w 27 26 = 1 → (c.qe q).depth = 0 ∨ (c.qe q).producer ≠ 0 → exec (.signalQueue ch) s =
      next (on (4 * ws.length) ((c.setBit (A.QUEn_STAT q) 6).setBit (A.CHn_STAT n) 13))) ∧
    (let i : SkidItem := { queue := q, byMaster := true, since := now, r :=
        { source := 0x40 + n, kind := 0x40, key := n, flags := 0, time := e.stamp, valueA := BitVec.ofNat 16 low, valueB := 0 } }
     let y := { c with que := { c.que with skid := c.que.skid ++ [i] } }
     let z := y.portCycle e q
     insOp w = 6 → bits w 27 26 = 1 → (c.qe q).depth ≠ 0 → (c.qe q).producer = 0 → y.holding q = false →
     (y.nextSkid q).map (·.1) = some i → exec (.signalQueue ch) s =
       next (on (4 * ws.length) (if z.que.seq = y.que.seq then z.setBit (A.CHn_STAT n) 13 else z))) ∧
    (insOp w = 6 → bits w 27 26 = 2 → exec (.signalEvent ch) s =
      next (on (4 * ws.length) (c.wr A.DMA_EVT (c.rd A.DMA_EVT ||| (word (2 ^ bits w 3 0) &&& 0xFFFF))))) ∧
    (insOp w = 7 → (ws.getD 1 0).toNat % 4 = 0 → c.chWrite e n (ws.getD 1 0).toNat (leBytes 4 (ws.getD 2 0).toNat) = (true, d) →
      d.chState n = 1 → exec (.dmaSet ch) s = next (on (4 * ws.length) d)) ∧
    (insOp w = 7 → (ws.getD 1 0).toNat % 4 ≠ 0 → exec (.dmaSet ch) s =
      next (c.chHalt e n 4 0 (ws.getD 1 0).toNat))

/-- R483, R485, R487, R489: a copy. -/
def Obligations.DmaCopyMovesItsBytes : Prop :=
  ∀ (n src dst width : Nat) (e : Env) (c : Chip), n < 16 → memWf c.mem = true → c.regsWf = true →
    c.chState n = 1 → c.chProgram n = false → c.chCoh n = false → c.bit (A.CHn_CFG n) 29 = false →
    c.bit (A.CHn_STREAM n) 31 = false → c.dma.chans = [(n, { x := some { src := src, dst := dst, smode := 0, dmode := 0, width := width } })] →
    0 < width → 0x10000000 ≤ src → src + width ≤ 0x10200000 → 0x10000000 ≤ dst → dst + width ≤ 0x10200000 →
    src + width ≤ dst ∨ dst + width ≤ src →
    let r := chRun n 0 e c
    (∀ a, getB r.mem a = if dst ≤ a ∧ a < dst + width then getB c.mem (src + (a - dst)) else getB c.mem a) ∧
    memWf r.mem = true ∧ r.rd (A.CHn_SRC n) = word (src + width) ∧ r.rd (A.CHn_DST n) = word (dst + width) ∧
    r.rd (A.CHn_COUNT n) = 0 ∧ r.bit (A.CHn_STAT n) 1 = true ∧ r.chState n = 0 ∧ r.ch n = {}

/-- R423, R427 to R431, R439 to R441: the Registry and the cache operations. -/
def Obligations.RegistryAndCacheCommands : Prop :=
  ∀ (m : Master) (x line r k : Nat) (streaming evict : Bool) (core : BitVec 1) (v : Word) (s : State),
    s.chip.powered = true → x < 3 →
    let c := s.chip
    let n := core.toNat
    let served := fun (kind : RegReq) (r : Nat) (streaming : Bool) => Host.Outcome.next (s.becomes
      ((c.peak A.REGY_WAIT_PEAK (c.requestWait x line kind)).grant s.env x kind line r streaming false))
    let waits := fun (c : Chip) (kind : RegReq) (r : Nat) => Host.Outcome.next (s.becomes { c with caches := { c.caches with
      waits := c.caches.waits ++ [{ member := x, line := line, kind := kind, requester := r, contested := false }] } })
    let own := if x = 2 then 0 else 4 + x
    let rows := [(Instr.registryRead x line r streaming, RegReq.read, r, streaming), (.registryOwn x line, .own, own, false),
      (.registryUpgrade x line, .upgrade, own, false)]
    let busy := (A.REGY_COREn_OP n)
    let op := fun (o : Nat) (c : Chip) =>
      { c.putBit busy 31 (o ≠ 0) with caches := if n = 0 then { c.caches with op0 := o } else { c.caches with op1 := o } }
    (∀ row kind q st, (row, kind, q, st) ∈ rows →
      (c.isRetiring line = false → c.tenureBlocks s.env x line kind = false → exec row s = served kind q st) ∧
      (c.isRetiring line = false → c.tenureBlocks s.env x line kind = true → exec row s = waits c kind q) ∧
      (c.isRetiring line = true → exec row s = waits (c.inc A.REGY_RETIRE_WAITS) kind q)) ∧
    (c.findLine x line = some k → (c.way x k).st = .m → c.isRetiring line = false →
      exec (.registryWriteback x line evict) s = .next (s.becomes (Chip.setWay { c with caches := { c.caches with
        retiring := c.caches.retiring.filter (fun q => q.line ≠ line) ++
          [{ line := line, data := (c.way x k).data, mask := (c.way x k).mask }] } }
        x k (if evict then {} else { c.way x k with st := .e })))) ∧
    (c.caches.waits = [] → c.isRetiring line = false → exec (.contestedGrant line [(x, .own)]) s =
      .next (s.becomes (((c.inc A.REGY_CONTESTED).setFld A.REGY_PRIO 1 0 ((x + 1) % 3)).grant s.env x .own line own false false))) ∧
    (c.slow = false → c.caches.waits = [] → c.isRetiring line = false → c.findLine x line = some k → (∀ y, y < 3 → y ≠ x → c.findLine y line = none) →
      (c.way x k).tenure ≠ 0 → s.clock.abs ≤ (c.way x k).tenure → exec (.tenureEnd line) s =
        .next (s.becomesAt (c.way x k).tenure fun _ c => c.setWay x k { c.way x k with tenure := 0 })) ∧
    (∀ en rest, (c.core n).wb = en :: rest →
      let d := c.setCore n { c.core n with wb := rest }
      (∀ a b, en = { line := false, addr := a, bytes := [(a, b)] } →
        exec (.writeBufferLeave core) s = .next (s.becomes (writeRun n (a, [b]) s.env d))) ∧
      (∀ a b l, en = { line := true, addr := a, bytes := (a, b) :: l } → c.dcOn n = true → c.busCause (.core n) true false a 1 = none →
        exec (.writeBufferLeave core) s =
          .next (s.becomes ((d.coreLine s.env n (a / 32) true).storeLine n (a / 32) en.bytes)))) ∧
    (∀ row o, (row, o) ∈ [(Instr.regyCleanAll m core, 1), (.regyInvalAll m core, 2), (.regyClinvAll m core, 3),
        (.regyIcacheInval m core, 4)] → admits 8 m.port = true →
      exec row s = .next (s.becomes (if c.bit busy 31 then c else op o c))) ∧
    ((n = 0 ∧ c.caches.op0 = 4) ∨ (n = 1 ∧ c.caches.op1 = 4) →
      exec (.regyOpComplete core) s = .next (s.becomes (op 0 (c.setCache (3 + n) [])))) ∧
    ((n = 0 ∧ c.caches.op0 = 2) ∨ (n = 1 ∧ c.caches.op1 = 2) →
      exec (.regyOpComplete core) s = .next (s.becomes (op 0 (c.setCache n [])))) ∧
    (admits 8 m.port = true → c.rd (A.REGY_COREn_CFG n) = 0 → exec (.regyCoreCfgWrite m core v) s =
      .next (s.becomes (c.wr (A.REGY_COREn_CFG n) (v &&& 3)))) ∧
    (admits 8 m.port = true → c.rd (A.REGY_COREn_CFG n) = 3 → exec (.regyCoreCfgWrite m core 1) s =
      .next (s.becomes (op 259 (c.wr (A.REGY_COREn_CFG n) 3)))) ∧
    (∀ row o, (row, o) ∈ [(Instr.wccRangeClean m, 1), (.wccRangeInval m, 2), (.wccRangeClinv m, 3)] → admits 8 m.port = true →
      exec row s = .next (s.becomes (if c.bit A.WCC_OP 31 then c.setBit A.WCC_STAT 0
        else { c.setBit A.WCC_OP 31 with caches := { c.caches with wop := o } }))) ∧
    (let lo := (c.rd A.WCC_RANGE_ADDR).toNat
     let len := (c.rd A.WCC_RANGE_LEN).toNat
     c.caches.wop = 2 → wfFrom (fun _ => ({} : CLine)) 0 c.caches.w = true → ∃ d, exec .wccOpComplete s = .next (s.becomes d) ∧
      d.caches.wop = 0 ∧ d.mem = c.mem ∧ ∀ i, (d.way 2 i).st ≠ .i →
        d.way 2 i = c.way 2 i ∧ ¬ (0 < len ∧ 32 * (c.way 2 i).line < lo + len ∧ lo < 32 * (c.way 2 i).line + 32))

/-- R426, R427: one owner, no other copy. -/
def Obligations.OwnershipIsExclusive : Prop :=
  ∀ (c : Chip) (e : Env) (x line r : Nat) (streaming rec : Bool), x < 3 →
    (∀ y, y < 3 → wfFrom (fun _ => ({} : CLine)) 0 (c.cache y) = true) →
    (∀ y i j, y < 3 → (c.way y i).st ≠ .i → (c.way y j).st ≠ .i → (c.way y i).line = line → (c.way y j).line = line → i = j) →
    ∀ y, y < 3 → y ≠ x → (c.grant e x .own line r streaming rec).findLine y line = none

/-- R514 to R535: the host port. -/
def Obligations.HostRequestsAndReplies : Prop :=
  ∀ (m : Master) (ch dur : Nat) (op : BitVec 7) (tag : BitVec 8) (crc : BitVec 16) (p : List Byte) (s : State),
    s.chip.powered = true → s.chip.hostListens ch = true → s.chip.pwr.sub = .none →
    wfFrom (fun _ => ({} : HostChan)) 0 s.chip.host.chans = true →
    let c := s.chip
    let t := tag.toNat
    let h := c.hc ch
    let done := if s.chip.slow then s else s.advTo (s.clock.abs + dur)
    let atEnd := fun (f : Env → Chip → Chip) => Host.Outcome.next ((done.on fun e c => f e (c.hostBegin ch)).settle)
    let good := fun (op : Nat) => p.length ≤ 1024 ∧ requestCrc op t p = crc.toNat
    let fresh := h.pending = none ∧ h.cache.find? (fun x => x.tag == t && x.crc == crc.toNat) = none
    let taken := fun (f : Env → Chip → HostReply × Chip) => atEnd fun e c =>
      let r := f e (c.hostAccept ch t crc.toNat)
      r.2.hostForm ch r.1
    let answered := fun (code : Nat) => taken fun _ c => (hostReply t code, c)
    let waits := fun (what : HostWait) (op : Nat) (f : Env → Chip → Chip) => atEnd fun e c =>
      (f e (c.hostAccept ch t crc.toNat)).hostWait ch { op := op, tag := t, what := what, since := e.now }
    (exec (.hostLenFault ch tag) s = .next (s.becomes
      ((((c.hostBegin ch).hostCurrent ch (hostReply t 0x82)).setBit (A.HOST_CHc_STAT ch) 3).inc (A.HOST_CHc_ERRS ch)))) ∧
    (c.slow = false → exec (.hostGapTimeout ch) s = .next (s.becomesAt (s.clock.abs + c.gapCounts) fun _ c =>
      ((c.hostBegin ch).setBit (A.HOST_CHc_STAT ch) 1).inc (A.HOST_CHc_ERRS ch))) ∧
    (ch = 0 → c.pinFunc 75 = 1 → exec .hostAbandon s = .next (s.becomes (c.hostBegin 0))) ∧
    (good 0 → p = [] → exec (.hostNop ch tag p crc dur) s = atEnd fun _ c => c.hostCurrent ch (hostReply t 0)) ∧
    (good 1 → ∀ b, p = [b] → h.cache.find? (fun x => x.tag = b.toNat) = none →
      exec (.fetch ch tag p crc dur) s = atEnd fun _ c => c.hostCurrent ch (hostReply t 0x87)) ∧
    (good 1 → ∀ b x r, p = [b] → h.cache.find? (fun x => x.tag = b.toNat) = some x → x.reply = some r →
      exec (.fetch ch tag p crc dur) s = atEnd fun _ c => c.hostCurrent ch { r with replay := true }) ∧
    (fresh →
      (good 0x10 → exec (.read32 ch tag p crc dur) s = taken (hostRead32 ch t p)) ∧
      (good 0x11 → exec (.write32 ch tag p crc dur) s = taken (hostWrite32 ch t p)) ∧
      (good 0x12 → exec (.readMem ch tag p crc dur) s = taken (hostReadMemory ch t p)) ∧
      (good 0x13 → exec (.writeMem ch tag p crc dur) s = taken (hostWriteMemory ch t p)) ∧
      (good 0x20 → exec (.hostCharter ch tag p crc dur) s = if charterFields p then
          waits (.charter (payNat p 0 1) c.ldr.results) 0x20 (fun e c => hostCharter ch p e c) else answered 0x83) ∧
      (good 0x21 → p.length ≠ 1 ∨ 3 < payNat p 0 1 → exec (.hostMode ch tag p crc dur) s = answered 0x83) ∧
      (good 0x21 → p.length = 1 → payNat p 0 1 < 3 → c.modeAllowed (payNat p 0 1) = true →
        exec (.hostMode ch tag p crc dur) s = waits (.mode (payNat p 0 1)) 0x21 (requestMode (payNat p 0 1))) ∧
      (good 0x21 → p.length = 1 → payNat p 0 1 < 3 → c.modeAllowed (payNat p 0 1) = false →
        exec (.hostMode ch tag p crc dur) s = taken fun e c => (hostReply t 0x85, requestMode (payNat p 0 1) e c)) ∧
      (good 0x22 → p.length ≠ 4 → exec (.hostRun ch tag p crc dur) s = answered 0x83) ∧
      (good 0x22 → p.length = 4 → hostRunCode c (payNat p 0 4) = 0 → exec (.hostRun ch tag p crc dur) s = atEnd fun e c =>
        handOver (word (payNat p 0 4)) e ((c.hostAccept ch t crc.toNat).hostForm ch (hostReply t 0))) ∧
      (good op.toNat → op.toNat ∉ [0, 1, 0x10, 0x11, 0x12, 0x13, 0x20, 0x21, 0x22] →
        exec (.hostUnassignedOp ch op tag p crc dur) s = answered 0x80) ∧
      (good (0x80 + op.toNat) → c.route (0x38 + ch) 0x38 = none →
        exec (.hostForwardedRequest ch op tag p crc dur) s = answered 0x89) ∧
      (good (0x80 + op.toNat) → ∀ q, c.route (0x38 + ch) 0x38 = some q → c.noRoom q = false →
        exec (.hostForwardedRequest ch op tag p crc dur) s = waits .software (0x80 + op.toNat) fun e c =>
          (c.hostPutReq ch p).post e {
            source := 0x38 + ch, kind := 0x38, key := 0x80 + op.toNat, flags := 0,
            time := BitVec.ofNat 48 s.clock.abs, valueA := BitVec.ofNat 16 p.length, valueB := word t })) ∧
    (∀ q it d o since, (List.range 64).find? (fun q => (c.qe q).depth ≠ 0 && (c.qe q).consumer = 0xE2) = some q →
      c.popRec q = some (it, d) → it.r.kind = 0x38 → it.r.valueB.toNat / 256 % 4 = ch → it.r.valueA.toNat ≤ 1024 →
      (d.hc ch).pending = some { op := o, tag := it.r.valueB.toNat % 256, what := .software, since := since } →
      exec .hostSwReply s = .next (s.becomes (d.hostAnswer ch {
        tag := it.r.valueB.toNat % 256, code := it.r.key,
        payload := (List.range it.r.valueA.toNat).map (d.hostBufByte ch), errf := it.r.valueB.getLsbD 16 }))) ∧
    (∀ o tg since, c.slow = false → h.pending = some { op := o, tag := tg, what := .software, since := since } → c.fld A.HOST_CFG 31 16 ≠ 0 →
      s.clock.abs ≤ since + c.fld A.HOST_CFG 31 16 * c.met.ticks.cb → exec (.hostSwTimeout ch) s =
        .next (s.becomesAt (since + c.fld A.HOST_CFG 31 16 * c.met.ticks.cb) fun _ c =>
          (c.hostAnswer ch (hostReply tg 0x88)).setBit (A.HOST_CHc_STAT ch) 7)) ∧
    (∀ r k st, h.current = .ready r (k + 1) st → k + 1 < (r.bytes st).length → exec (.hostReplyRead ch false) s =
      let d := c.setHc ch { h with current := .ready r (k + 2) st }
      .next (s.becomes { d with host := { d.host with byte := ((r.bytes st).getD (k + 1) 0).toNat } })) ∧
    (h.current = .none → exec (.hostReplyRead ch false) s = .next (s.becomes { c with host := { c.host with byte := 0xFF } })) ∧
    (admits 8 m.port = true → ch < 3 → exec (.cacheClr m (BitVec.ofNat 3 (2 ^ ch))) s =
      .next (s.becomes (c.setHc ch { h with cache := [] })))

/-- R542 to R563: timers, real-time clock and random numbers. -/
def Obligations.TimersClockAndRandomNumbers : Prop :=
  ∀ (m : Master) (n : BitVec 4) (al : BitVec 1) (temp : BitVec 16) (a : Nat) (v w : Word) (ws : List Word) (b : Bool) (s : State),
    let c := s.chip
    let i := n.toNat
    let now := s.clock.abs
    let x := c.tim i
    let edge := exec (.rtcTick temp) s
    let ring := c.rng
    (c.powered = true → admits 8 m.port = true →
      (c.timRunning i = false → c.pendingGroup (A.TIMn_RELOAD i) = none → exec (.timStart m n) s =
        .next (s.becomes (((c.wr (A.TIMn_COUNT i) (word (c.timReload i))).setTim i { pre := 0, asOf := now }).setBit (A.TIMn_STAT i) 1))) ∧
      exec (.timStop m n) s = .next (s.becomes ((c.timSync s.env i).clrBit (A.TIMn_STAT i) 1)) ∧
      exec (.rtcCommit m v) s = .next (s.becomes { c with rtc := { c.rtc with
        writes := c.rtc.writes ++ [(A.RTC_CTL, setBitTo v 1 true, 2)] } }) ∧
      (a < 6 → c.rtc.freeze = none → exec (.rtcWindowRead m (A.RTC_FRAC + 4 * a)) s =
        .next (s.becomes (Chip.answered { c with rtc := { c.rtc with freeze := if a = 5 then none else some (c.rtcWindow, 33) } } m
          (c.rtcWindow.getD a 0)))) ∧
      (∀ l k, c.rtc.freeze = some (l, k) → exec (.rtcCalStatusRead m) s =
        .next (s.becomes (Chip.answered { c with rtc := { c.rtc with freeze := none } } m (l.getD 5 0)))) ∧
      (ring.out = w :: ws → exec (.rngOutRead m) s = .next (s.becomes (Chip.answered { c with rng := { ring with out := ws } } m w))) ∧
      (ring.out = [] → exec (.rngOutRead m) s = .next (s.becomes ((c.setBit A.RNG_STAT 3).answered m 0))) ∧
      (c.bit A.RNG_CTL 0 = true → exec (.restart m) s = .next (s.becomes
        { (((c.writeCoded A.RNG_CTL (setBitTo (c.rd A.RNG_CTL) 1 true)).clrBit A.RNG_STAT 0).clrBit A.RNG_STAT 1) with
          rng := { out := ring.out } }))) ∧
    (let t := x.asOf + (c.rd (A.TIMn_COUNT i)).toNat * 2 ^ c.timShift i
     c.powered = true → c.timRunning i = true → c.timRate i = .fast → x.pre = 0 → now ≤ t → x.asOf < t →
     c.pendingGroup (A.TIMn_RELOAD i) = none → c.bit (A.TIMn_CFG i) 0 = false → exec (.timZero n) s =
      .next (s.becomesAt t fun _ c =>
        (((c.setTim i { pre := 0, asOf := t }).setBit (A.TIMn_STAT i) 0).wr (A.TIMn_COUNT i) 0).clrBit (A.TIMn_STAT i) 1)) ∧
    (c.powered = true → c.bit A.RNG_CTL 0 = false → exec (.rngRawSample b) s = .next (s.becomes c)) ∧
    (c.powered = true → c.bit A.RNG_CTL 0 = true → c.pwr.sub = .none → ring = {} → exec (.rngRawSample b) s =
      .next (s.becomes { c with rng := { ring with
        run := 1, aptN := 1, aptFirst := b, aptSame := 1, winN := 1, ones := (if b then 1 else 0),
        same := (if b = ring.last then 1 else 0), skip := 1, last := b, discard := ring.discard - 1,
        group := (if ring.discard = 0 then [b] else []) } })) ∧
    (c.powered = true → c.rngReady = true → ring.seed = none → c.rngSince < 1000 →
      let v1 := incBlock ring.v
      let blk := aes128 ring.key v1
      let new := drbgUpdate ring.key v1 (List.replicate 32 0)
      exec .rngGenerateBlock s = .next (s.becomes (Chip.setFld { c with rng := { ring with
        out := ring.out ++ (chunks 4 4 blk).map (fun b => word (leNat b)), key := new.1, v := new.2 } } A.RNG_SINCE 16 0 (c.rngSince + 1)))) ∧
    edge = .next (s.becomes (vaultEdge temp.toInt s.env c)) ∧
    (exec (.alarmFire al temp) s = if c.almDue al.toNat then edge else .next s.settle) ∧
    (exec (.rtcWriteTakesEffect temp) s = if c.rtcWriteDue then edge else .next s.settle) ∧
    (exec (.rtcFreezeTimeout temp) s = if c.rtcFreezeDue then edge else .next s.settle) ∧
    (c.mode = .vault → c.pwr.boot ≠ .noSupply → c.duties = false → c.rtc.writes = [] → c.rtc.freeze = none → c.rtcHalt = false →
      c.almDue 0 = false → c.almDue 1 = false → ∃ t, edge = .next t ∧ t.clock = s.clock ∧ t.chip.regs = (if c.rtcCarries = true ∧ (c.rtc.carries + 1) % 64 = 0
        then (c.wr A.RTC_TEMP (word (temp.toInt % 65536).toNat)).regs else c.regs) ∧
        t.chip.rtc.frac.toNat = (c.rtc.frac.toNat + c.rtcStep) % 2 ^ 40 ∧
        t.chip.rtc.secs = (if c.rtcCarries then c.rtc.secs + 1 else c.rtc.secs)) ∧
    (c.rtcHalt = true → c.rtc.freeze = none → c.rtc.writes = [(a, v, 1)] → rtcEdge temp.toInt s.env c =
      rtcEffect a v s.env { c with rtc := { c.rtc with writes := [] } }) ∧
    (∀ l, c.rtcHalt = true → c.rtc.freeze = some (l, 1) → c.rtc.writes = [] → rtcEdge temp.toInt s.env c =
      Chip.setBit { c with rtc := { c.rtc with freeze := none } } A.RTC_STAT 5) ∧
    (c.mode = .vault → c.regsWf = true → c.almDue al.toNat = true →
      (c.rtcAdvance temp.toInt s.env).bit A.RTC_STAT al.toNat = true)

/-- R567 to R569, R578: requests for a mode. -/
def Obligations.ModeRequestsAndTheRampToConfigure : Prop :=
  ∀ (m : Master) (key : BitVec 16) (t0 : Nat) (s : State), s.chip.powered = true → admits 8 m.port = true →
    let c := s.chip
    let cb := c.met.ticks.cb
    let refused := Host.Outcome.next (s.becomes (c.setBit A.SYS_MODE_EVT 3))
    let same := Host.Outcome.next (s.becomes c)
    (c.mode = .perform → c.pwr.ramp = none → ∃ t, t % cb = 0 ∧ s.clock.abs < t ∧ t ≤ s.clock.abs + cb ∧
      exec (.modeRequestConfigure m key) s = .next (s.becomes (Chip.cancelArmed
        { c.clrBit A.SYS_MODE 31 with pwr := { c.pwr with ramp := some (t + cb) } } 4 1)) ∧
      exec (.modeRequestVault m 0x5641) s = .next (s.becomes (Chip.pwrDo (Chip.cancelArmed
        { c with pwr := { c.pwr with ramp := some (t + cb) } } 4 1) fun p => { p with toVault := true }))) ∧
    (c.mode = .configure → exec (.modeRequestConfigure m key) s = same ∧
      exec (.modeRequestVault m 0x5641) s = .next (s.becomes { c with pwr := { c.pwr with toVault := true } })) ∧
    (c.mode = .perform → exec (.modeRequestPerform m key) s = .next (s.becomes (c.clrBit A.SYS_MODE 31)) ∧
      exec (.modeRequestHush m key) s = .next (s.becomes (c.setBit A.SYS_MODE 31))) ∧
    (c.mode ≠ .perform → exec (.modeRequestPerform m key) s = refused) ∧
    (c.mode = .hush → exec (.modeRequestConfigure m key) s = refused ∧ exec (.modeRequestHush m key) s = same ∧
      exec (.modeRequestVault m 0x5641) s = refused) ∧
    (c.mode = .configure → exec (.modeRequestHush m key) s = refused) ∧
    (key ≠ 0x5641 → exec (.modeRequestVault m key) s = same) ∧
    (c.slow = false → c.pwr.ramp = some t0 → exec .configureEntered s = .next (s.becomesAt (t0 + 2 * cb) fun e d =>
      Chip.pwrDo ((((d.endVoices e (fun _ => true) (BitVec.ofNat 48 (t0 + 2 * cb))).chimesOff).setMode .configure).setBit
        A.SYS_MODE_EVT 0) fun p => { p with ramp := none })) ∧
    (c.pwr.ramp = none → exec .configureEntered s = same)

/-- R576 to R580: wakes from HUSH, and VAULT. -/
def Obligations.SleepEndsAndVaultBeginsAndEnds : Prop :=
  ∀ (n : BitVec 1) (up : Bool) (s : State),
    let c := s.chip
    let i := n.toNat
    (c.powered = true → (c.pwr.sub = .none ∨ c.wakeCause s.env = false) → exec .hushWake s = .next (s.becomes c)) ∧
    (c.powered = true → c.pwr.sub ≠ .none → c.wakeCause s.env = true → exec .hushWake s =
      .next (s.becomes { c with pwr := { c.pwr with waking := true, wakeAt := none } })) ∧
    (c.powered = true → (c.pwr.sub = .none ∨ c.pwr.waking = false) → exec .hushClocksResume s = .next (s.becomes c)) ∧
    (c.powered = true → c.pwr.sub ≠ .none → c.pwr.waking = true → ∃ d, exec .hushClocksResume s = .next (s.becomes d) ∧
      d.mode = .perform ∧ d.pwr.sub = .none ∧ d.pwr.waking = false ∧ d.met.stopped = false ∧ d.mem = c.mem ∧
      d.core0 = c.core0 ∧ d.core1 = c.core1 ∧ d.ldr = c.ldr ∧ d.que = c.que) ∧
    (c.powered = true → c.pwr.toVault = true → c.mode = .configure → c.ldr.nvm = none → c.pwr.prog = none →
      let e1 := Chip.snapshot (Chip.logEntry s.env 3 (c.rd A.FLT_FIRST_SRC) (c.rd A.FLT_FIRST_ADDR) 0 c)
      let live := e1.ldr.liveSrc
      let e2 := e1.wr A.SYS_VAULT_SLOT (if e1.ldr.live.isSome = true ∧ (live = 1 ∨ live = 2) then word live else 0)
      let e3 := if e2.pwr.wakeAtOnce then e2.setBit A.SYS_VAULT_STAT 2 else e2
      exec .vaultEntry s = .next (s.becomes {
        e3.setMode .vault with pwr := { e3.pwr with toVault := false, pwrEn := e2.pwr.wakeAtOnce, wakeAtOnce := false } })) ∧
    (c.powered = true → (c.pwr.toVault = false ∨ c.mode ≠ .configure ∨ c.ldr.nvm.isSome = true ∨ c.pwr.prog.isSome = true) →
      exec .vaultEntry s = .next (s.becomes c)) ∧
    (c.mode = .vault → c.bit A.SYS_VAULT_CFG (4 * i) = true → c.bit A.SYS_VAULT_CFG (4 * i + 1) = up →
      exec (.vaultWake n up) s = .next (s.becomes { c.setBit A.SYS_VAULT_STAT i with pwr := { c.pwr with pwrEn := true } })) ∧
    ((c.mode ≠ .vault ∨ c.bit A.SYS_VAULT_CFG (4 * i) = false ∨ c.bit A.SYS_VAULT_CFG (4 * i + 1) ≠ up) →
      exec (.vaultWake n up) s = .next (s.becomes c)) ∧
    ((c.mode ≠ .vault ∨ c.pwr.pwrEn = false) → exec .vaultPowerUp s = .next (s.becomes c)) ∧
    (c.mode = .vault → c.pwr.pwrEn = true → ∃ t, exec .vaultPowerUp s = .next t ∧ t.clock.abs = 0 ∧ t.fuses = s.fuses ∧
      t.chip.mode = .configure ∧ t.chip.pwr.warm = true ∧ t.chip.pwr.wipe = true ∧ t.chip.rtc = c.rtc ∧
      (c.regsWf = true → t.chip.bit A.SYS_RST_CAUSE 4 = true))

/-- R549, R582, R648, R649, R652: resets. -/
def Obligations.ResetsStartTheDeviceAnew : Prop :=
  ∀ (m : Master) (key : BitVec 16) (ns : Nat) (s : State),
    let c := s.chip
    let anew := fun (cause : Nat) (i : Instr) => ∃ t, exec i s = .next t ∧ t.clock.abs = 0 ∧ t.fuses = s.fuses ∧
      t.pending = s.pending ∧ t.chip.mode = .configure ∧ t.chip.pwr.boot = .inReset ∧ t.chip.rtc = c.rtc ∧
      t.chip.core0.run = .held ∧ t.chip.core1.run = .held ∧ (c.regsWf = true → t.chip.bit A.SYS_RST_CAUSE cause = true)
    let drawn : Chip := { c with free := c.free + 2 ^ 40 }
    (c.pwr.boot ≠ .noSupply → anew 0 (.powerOnReset false) ∧ anew 1 (.rstNReset (1000 + ns)) ∧
      (c.mode ≠ .vault → anew 2 .brownOutReset)) ∧
    (c.pwr.boot ≠ .noSupply → c.regsWf = true → ∃ t, exec (.powerOnReset false) s = .next t ∧ t.chip.rd A.SYS_RST_CAUSE = 1) ∧
    (c.pwr.boot = .noSupply → exec (.powerOnReset false) s = .next (s.becomes c)) ∧
    (c.ldg.snap = none → ∃ t, exec (.powerOnReset true) s = .next t ∧ t.clock.abs = 0 ∧ t.chip.rtc = {} ∧
      t.chip.pwr.boot = .inReset ∧ (c.regsWf = true → t.chip.rd A.SYS_RST_CAUSE = 1)) ∧
    (ns < 200 → exec (.rstNReset ns) s = .next (s.becomes drawn)) ∧
    (exec (.rstNReset ns) s = .next (s.becomes drawn) ∨ exec (.rstNReset ns) s = exec (.rstNReset 1000) s) ∧
    (c.mode = .vault → exec .brownOutReset s = .next (s.becomes c)) ∧
    (∃ t, exec .vaultSupplyReset s = .next t ∧ t.chip.pwr.boot = .noSupply ∧ t.chip.powered = false ∧ t.clock.abs = 0) ∧
    (s.Quiet → admits 8 m.port = true → anew 3 (.chip m 0x5EC7)) ∧
    (c.powered = true → admits 8 m.port = true →
      exec (.core0 m 0x5EC7) s = .next (s.becomes { c.setBit A.SYS_RST_CAUSE 11 with
        pwr := { c.pwr with due := { c.pwr.due with core0 := true } } }) ∧
      exec (.core1 m 0x5EC7) s = .next (s.becomes { c.setBit A.SYS_RST_CAUSE 12 with
        pwr := { c.pwr with due := { c.pwr.due with core1 := true } } }) ∧
      (key ≠ 0x5EC7 → exec (.chip m key) s = .next (s.becomes c) ∧ exec (.core0 m key) s = .next (s.becomes c) ∧
        exec (.core1 m key) s = .next (s.becomes c)))

/-- R585 to R588, R593: the reset sequence and SYS_NVM_PROG. -/
def Obligations.ResetSequenceAndNvmProgrammer : Prop :=
  ∀ (m : Master) (boot : BitVec 2) (pads : BitVec 96) (lowB lowC edges flash : Bool) (w : BitVec 8) (j : ProgJob) (s : State),
    s.chip.powered = true →
    let c := s.chip
    let same := Host.Outcome.next (s.becomes c)
    let seq := exec (.resetSequence boot pads lowB lowC edges flash) s
    let data := (List.range 16).map (fun i => c.rd (A.SYS_BOOTCFG_BUFw i))
    let busy := Host.Outcome.next (s.becomes (c.setFld A.SYS_NVM_PROG 23 16 0x60))
    let done := Chip.setFld { c with free := c.free + 2 ^ 40, pwr := { c.pwr with prog := none } } A.SYS_NVM_PROG 23 16 0
    (c.pwr.boot ≠ .inReset → seq = same ∧ exec .resetClockSourceTry s = same) ∧
    (c.pwr.boot = .inReset → edges = false → seq = .next (s.becomes (sampleStraps boot pads lowB lowC c))) ∧
    (s.Quiet → c.regsWf = true → c.pwr.boot = .inReset → edges = true → boot = 1 → ∃ t, seq = .next t ∧
      t.chip.pwr.boot = .waitHost ∧ t.chip.core0 = c.core0 ∧ t.chip.core1 = c.core1 ∧ t.chip.pins.level = pads) ∧
    (s.Quiet → c.regsWf = true → c.pwr.boot = .inReset → edges = true → boot = 2 → ∃ t, seq = .next t ∧
      t.chip.pwr.boot = .waitDfu ∧ t.chip.usb.pullup = true ∧ t.chip.core0 = c.core0 ∧ t.chip.core1 = c.core1) ∧
    (c.pwr.boot = .inReset → c.bit A.SYS_CLK_STAT 0 = false → exec .resetClockSourceTry s =
      .next (s.becomes (c.putBit A.SYS_CLK_CFG 0 (!c.bit A.SYS_CLK_CFG 0)))) ∧
    (admits 8 m.port = true →
      let c1 := c.writeCoded A.SYS_CORE_CTL (setBitTo (c.rd A.SYS_CORE_CTL) 1 true)
      (c.bit A.SYS_CORE_CTL 1 = true → exec (.c1Run m) s = .next (s.becomes c1)) ∧
      (c.bit A.SYS_CORE_CTL 1 = false → c1.core1.run = .held → c1.bit A.FLT_STAT 3 = false → exec (.c1Run m) s =
        .next (s.becomes (c1.setCore 1 { c1.core1 with run := .running, pc := c1.rd A.SYS_C1_ENTRY, cycFrom := s.clock.abs }))) ∧
      (c.mode = .configure → c.pwr.prog = none → c.ldr.nvm = none →
        exec (.otpProgram m w) s = .next (s.becomes { c with pwr := { c.pwr with
          prog := some { op := 2, word := w.toNat, data := data } } }) ∧
        exec (.bootConfigurationProgram m) s = .next (s.becomes (Chip.pwrDo (Chip.countErase s.env 2
          { c with mem := dropS (fun a => decide (0x220D0000 ≤ a ∧ a < 0x220D0040)) c.mem })
          fun p => { p with prog := some { op := 1, word := 0, data := data } }))) ∧
      (c.mode ≠ .configure ∨ c.pwr.prog.isSome = true ∨ c.ldr.nvm.isSome = true →
        exec (.otpProgram m w) s = busy ∧ exec (.bootConfigurationProgram m) s = busy)) ∧
    (c.pwr.prog = none → exec (.nvmProgComplete edges) s = same) ∧
    (c.pwr.prog = some j → j.op = 2 → exec (.nvmProgComplete true) s = .next (State.settle {
      s with chip := done, fuses := { s.fuses with otp := putS 0 s.fuses.otp j.word (s.fuses.otpWord j.word ||| j.data.getD 0 0) } })) ∧
    (c.pwr.prog = some j → j.op = 1 → exec (.nvmProgComplete true) s = .next (s.becomes
      (done.setMem 0x220D0000 (j.data.flatMap (fun w => leBytes 4 w.toNat)))))

/-- R550, R596, R600, R601: the Ledger's measurements, daily samples and resets. -/
def Obligations.LedgerMeasuresSamplesAndResets : Prop :=
  ∀ (m : Master) (c0 c1 : BitVec 32) (margin b0 b1 day : Nat) (t0 t1 : Int) (ok : Bool) (v : Word) (s : State),
    let c := s.chip
    let k := c.ldg.core
    let temp := (BitVec.ofNat 16 (c.rd A.RTC_TEMP).toNat).toInt
    let slowed := fun (b n : Nat) => if b ≤ n then 0 else (b - n) * 100000 / b
    let added := fun (b : Nat) (t : Int) (n : Nat) (d : Nat × Nat) =>
      if -128 ≤ temp - t ∧ temp - t ≤ 128 then (d.1 + slowed b n, d.2 + 1) else d
    let secs := c.rtc.secs.toNat
    (secs % 3600 ≠ 0 → c.ledgerCarry = c) ∧
    (secs % 3600 = 0 → c.ledgerCarry = { c with ldg := { c.ldg with
      measure := (decide (c.mode ≠ .vault), decide (c.mode ≠ .vault ∧ c.pwr.sub ≠ .drowse))
      sample := if secs % 86400 = 0 ∧ c.bit A.RTC_STAT 6 = false then some (secs / 86400) else c.ldg.sample } }) ∧
    (c.ldg.measure = (true, true) → c.mode ≠ .vault → c.pwr.sub ≠ .drowse → k.base0 = some (b0, t0) →
      (k.base1 = some (b1, t1) → exec (.ringOscillatorMeasure c0 c1) s = .next (s.becomes { c with ldg := { c.ldg with
        measure := (false, false)
        core := { k with day0 := added b0 t0 c0.toNat k.day0, day1 := added b1 t1 c1.toNat k.day1 } } })) ∧
      (k.base1 = none → ∃ d, exec (.ringOscillatorMeasure c0 c1) s = .next (s.becomes d) ∧
        d.ldg.core.base0 = k.base0 ∧ d.ldg.core.day0 = added b0 t0 c0.toNat k.day0 ∧
        d.ldg.core.base1 = some (c1.toNat, temp) ∧ d.ldg.core.day1 = (k.day1.1, k.day1.2 + 1))) ∧
    (c.ldg.measure = (false, false) → exec (.ringOscillatorMeasure c0 c1) s = .next (s.becomes c)) ∧
    (c.ldg.sample = none → exec (.dailySample margin ok) s = .next (s.becomes c)) ∧
    (c.ldg.sample = some day → ∃ d, exec (.dailySample margin ok) s = .next (s.becomes d) ∧ d.ldg.sample = none ∧
      d.ldg.core.ringNext = (k.ringNext + (if ok then 1 else 2)) % 128 ∧ d.ldg.core.day0 = (0, 0) ∧
      d.ldg.core.day1 = (0, 0) ∧ d.rtc = c.rtc ∧ d.mode = c.mode) ∧
    (c.powered = true → admits 8 m.port = true → exec (.ledgerIndicatorReset m v) s = .next (s.becomes
      { c with rtc := { c.rtc with writes := c.rtc.writes ++ [(A.LDG_CTL, v, 2)] } })) ∧
    (let bare : Chip := { c with ldg := { c.ldg with core := { k with hist := putS [] k.hist 4 [] } } }
     let bare := (bare.wr (A.LDG_Ln_VALUE 4) 0).wr (A.LDG_Ln_DAYS 4) 0xFFFE
     rtcEffect A.LDG_CTL 0x4C470010 s.env c =
      Chip.judge s.env 4 (Chip.logEntry s.env 6 4 (c.rd (A.LDG_Ln_VALUE 4)) 0 bare)) ∧
    rtcEffect A.LDG_CTL 0x4C470001 s.env c = c.setBit A.LDG_STAT 10 ∧
    (v.toNat / 65536 ≠ 0x4C47 → rtcEffect A.LDG_CTL v s.env c = c)

/-- R610, R613 to R616: what is done about faults. -/
def Obligations.FaultsAreAcknowledgedMutedAndInjected : Prop :=
  ∀ (m : Master) (v : Word) (debug : Bool) (s : State), s.chip.powered = true →
    let c := s.chip
    let t := c.nextBlock s.clock.abs
    let same := Host.Outcome.next (s.becomes c)
    (c.slow = false → c.flt.mute = .due → c.flt.muteAt = none → exec .fatalMute s = .next (s.becomesAt t fun _ d =>
      { d.setBit A.FLT_STAT 2 with flt := { d.flt with mute := .ramp, muteAt := some (t, .due) } })) ∧
    (c.slow = true → exec .fatalMute s = same) ∧
    (debug = true ∨ (∃ h, m = .host h ∧ admits 8 m.port = true) → c.bit A.FLT_STAT 3 = true → exec (.release m debug) s =
      .next (s.becomes { c.clrBit A.FLT_STAT 3 with
        pwr := { c.pwr with due := { c.pwr.due with core0 := true, core1 := true } } })) ∧
    (admits 8 m.port = true ∨ debug = true → c.bit A.FLT_STAT 3 = false → exec (.release m debug) s = same) ∧
    (admits 8 m.port = true → (∀ h, m ≠ .host h) → exec (.release m false) s = same) ∧
    (admits 8 m.port = true →
      (v.toNat % 65536 = 0xA5C3 → exec (.fltAck m v) s = .next (s.becomes ((((c.clrBit A.FLT_FIRST_SRC 31).wr A.FLT_MORE 0).wr
        A.FLT_STAT (c.rd A.FLT_STAT &&& ~~~3)).wr A.FLT_FATALS 0))) ∧
      (v.toNat % 65536 ≠ 0xA5C3 → exec (.fltAck m v) s = same) ∧
      (c.bit A.FLT_STAT 1 = true → exec (.unmute m) s = same) ∧
      (c.bit A.FLT_STAT 1 = false → c.flt.mute = .on → exec (.unmute m) s = .next (s.becomes
        { c.clrBit A.FLT_STAT 2 with flt := { c.flt with mute := .lifting } })) ∧
      (c.bit A.FLT_STAT 1 = false → c.flt.mute = .off → exec (.unmute m) s = .next (s.becomes (c.clrBit A.FLT_STAT 2))) ∧
      (v.toNat / 65536 = 0x1E57 → exec (.fltInject m v) s =
        .next (s.becomes (Chip.report s.env 0x1F (v.toNat % 4) 0 0 c))) ∧
      (v.toNat / 65536 ≠ 0x1E57 → exec (.fltInject m v) s = same))

/-- R630 to R640, R664: pins, and the TAP. -/
def Obligations.PinsAndJtag : Prop :=
  ∀ (m : Master) (p x age : Nat) (v a : Word) (level : Option Bool) (b : Bool) (i : JtagIns) (cells : BitVec 96) (s : State),
    s.chip.powered = true → p < 96 → x < 3 →
    let c := s.chip
    let now := s.clock.abs
    let same := Host.Outcome.next (s.becomes c)
    let func := c.fld (A.PINp_MUX p) 3 0
    let c1 := c.writeCoded (A.PINp_MUX p) v
    let up := !c.pinLevel p
    let jt := fun (j : Jtag) => Host.Outcome.next (s.becomes { c with jtag := j })
    (admits 8 m.port = true →
      (pinAssigned p (v.toNat % 16) = false → exec (.pinMuxWrite m p v) s = .next (s.becomes (c.setBit A.PIN_STAT 0))) ∧
      (pinAssigned p (v.toNat % 16) = true → c1.fld (A.PINp_MUX p) 3 0 = func →
        exec (.pinMuxWrite m p v) s = .next (s.becomes c1)) ∧
      (pinAssigned p (v.toNat % 16) = true → c1.fld (A.PINp_MUX p) 3 0 ≠ func → exec (.pinMuxWrite m p v) s =
        .next (s.becomes { c1.setBit (A.PINp_MUX p) 31 with pins := { c1.pins with
          mask := putS (0, 0) c1.pins.mask p (now, if c1.pinFmode p = 2 then c1.pinCount p else 0) } })) ∧
      exec (.pinSet m x v) s = .next (s.becomes (c.wr (A.PIN_OUTx x) (c.rd (A.PIN_OUTx x) ||| v))) ∧
      exec (.pinClr m x v) s = .next (s.becomes (c.wr (A.PIN_OUTx x) (c.rd (A.PIN_OUTx x) &&& ~~~v))) ∧
      (c.pinDriven p = some b ∨ (c.pinDriven p = none ∧ level = some b) →
        let d := (({ c with free := c.free + 2 ^ 40 } : Chip).writeCoded (A.PINp_FILT p) v).setPinLevel p b
        let edges := if d.pinFmode p = 2 then d.pinCount p else 0
        let mask := putS (0, 0) d.pins.mask p (max (getS (0, 0) d.pins.mask p).1 (now - 2), edges)
        let d := if d.pinBusy p = true then { d with pins := { d.pins with mask := mask } } else d
        exec (.pinFiltWrite m p v level) s = .next (s.becomes
          (if 1 ≤ d.pinIrqMode p ∧ d.pinIrqMode p ≤ 3 then d.clrBit (A.PIN_IRQx (p / 32)) (p % 32) else d)))) ∧
    (c.pinBusy p = false → exec (.pinMaskWindowEnd p b) s = same) ∧
    (c.slow = false → c.pinBusy p = true → (getS (0, 0) c.pins.mask p).2 = 0 → exec (.pinMaskWindowEnd p b) s =
      .next (s.becomesAt (c.pinMaskDue p) fun _ d =>
        let l := (d.setPinLevel p ((d.pinDriven p).getD b)).clrBit (A.PINp_MUX p) 31
        { l with pins := { l.pins with mask := putS (0, 0) l.pins.mask p (0, 0) } })) ∧
    (c.pinBusy p = true → exec (.pinFilterAccept p age) s = same) ∧
    (c.slow = false → c.pinBusy p = false → c.pinDriven p ≠ some (!up) → c.pinRunDone p age = true →
      let d1 := c.setPinLevel p up
      let d2 := if c.pinIrqMode p = 3 ∨ c.pinIrqMode p = (if up then 1 else 2)
        then d1.setBit (A.PIN_IRQx (p / 32)) (p % 32) else d1
      let d3 := if c.bit (A.PINp_FILT p) 20 then d2.post s.env {
          source := 0x20, kind := 0x20, key := p, flags := 0, time := BitVec.ofNat 48 (now - age),
          valueA := (if up then 1 else 0), valueB := 0 } else d2
      exec (.pinFilterAccept p age) s = .next (s.becomes (d3.countInsertion s.env p up))) ∧
    exec (.jtagAccess .reset) s = jt { c.jtag with ins := .idcode } ∧
    exec (.jtagAccess (.load i)) s = jt { c.jtag with ins := i } ∧
    (c.jtag.ins = .idcode → exec (.jtagAccess (.scan cells)) s = jt { c.jtag with dr := c.idcode }) ∧
    (c.jtag.ins = .sample ∨ c.jtag.ins = .extest → exec (.jtagAccess (.scan cells)) s =
      jt { c.jtag with captured := c.pins.level, cells := cells }) ∧
    (c.jtag.ins = .bypass ∨ c.jtag.ins = .clamp ∨ c.jtag.ins = .highz → exec (.jtagAccess (.scan cells)) s = same) ∧
    (0x60180000 ≤ a.toNat → a.toNat < 0x60182000 → a.toNat % 4 = 0 → exec (.jtagAccess (.write a.toNat v)) s =
      .next (s.becomes (dbgWindow a.toNat v s.env c)))

/-- R28: what clears the count. -/
def Obligations.WholeChipResetsClearTheCount : Prop :=
  ∀ (m : Master) (core : BitVec 1) (ns : Nat) (flash applied : Bool) (s : State),
    let cleared := fun (i : Instr) => ∃ t, exec i s = .next t ∧ t.clock.count = 0 ∧ t.clock.epoch = 0
    (applied = true ∨ s.chip.pwr.boot ≠ .noSupply → cleared (.powerOnReset applied)) ∧
    (1000 ≤ ns → s.chip.pwr.boot ≠ .noSupply → cleared (.rstNReset ns)) ∧
    (s.chip.mode ≠ .vault → s.chip.pwr.boot ≠ .noSupply → cleared .brownOutReset) ∧
    cleared .vaultSupplyReset ∧
    (s.chip.mode = .vault → s.chip.pwr.pwrEn = true → cleared .vaultPowerUp) ∧
    (s.Quiet → admits 8 m.port = true → cleared (.chip m 0x5EC7)) ∧
    (s.Quiet → ∃ t, exec (.coreReset core flash) s = .next t ∧ t.clock = s.clock)

/-- The device never stops: every refusal of the spec is a status that a command leaves. -/
def Obligations.EveryStepGoesOn : Prop := ∀ (s : State), s.GoesOn

/-- R593: a programmed OTP bit cannot be cleared. -/
def Obligations.StepsOnlyProgramFusesAndTakeTheFront : Prop :=
  ∀ (s t : State), step s = .next t →
    s.fuses.Kept t.fuses ∧ t.fuses.grade = s.fuses.grade ∧ t.pending = s.pending.tail

/-- R566, R579: in VAULT only the Vault domain runs (log entry 21). -/
def Obligations.UnpoweredDeviceIgnoresCommands : Prop :=
  ∀ (i : Instr) (s : State), s.chip.powered = false →
    (∀ temp, i ≠ .rtcTick temp) → (∀ n temp, i ≠ .alarmFire n temp) → (∀ temp, i ≠ .rtcWriteTakesEffect temp) →
    (∀ temp, i ≠ .rtcFreezeTimeout temp) → (∀ c0 c1, i ≠ .ringOscillatorMeasure c0 c1) →
    (∀ n ok, i ≠ .dailySample n ok) → (∀ n up, i ≠ .vaultWake n up) → i ≠ .vaultPowerUp →
    (∀ b, i ≠ .powerOnReset b) → (∀ ns, i ≠ .rstNReset ns) → i ≠ .brownOutReset → i ≠ .vaultSupplyReset →
    exec i s = .next s
end

