-- ==== Sys2Proof/Laws/State.lean ====
section
/-! SUPPORT. Laws/State.lean: what each update of the state leaves as it was, field by field. -/

namespace Sys2Proof.Machine

/-! ### The whole state -/

@[simp] theorem State.on_clock (s : State) (f : Env → Chip → Chip) : (s.on f).clock = s.clock := rfl
@[simp] theorem State.on_fuses (s : State) (f : Env → Chip → Chip) : (s.on f).fuses = s.fuses := rfl
@[simp] theorem State.on_pending (s : State) (f : Env → Chip → Chip) : (s.on f).pending = s.pending := rfl
@[simp] theorem State.onAt_clock (s : State) (t : Nat) (f : Env → Chip → Chip) : (s.onAt t f).clock = s.clock := rfl
@[simp] theorem State.onAt_fuses (s : State) (t : Nat) (f : Env → Chip → Chip) : (s.onAt t f).fuses = s.fuses := rfl
@[simp] theorem State.onAt_pending (s : State) (t : Nat) (f : Env → Chip → Chip) : (s.onAt t f).pending = s.pending := rfl
@[simp] theorem State.on_chip (s : State) (f : Env → Chip → Chip) : (s.on f).chip = f s.env s.chip := rfl
@[simp] theorem State.onAt_chip (s : State) (t : Nat) (f : Env → Chip → Chip) :
    (s.onAt t f).chip = f { now := t, fuses := s.fuses } s.chip := rfl
@[simp] theorem State.chipReset_fuses (s : State) (f : Env → Chip → Chip) : (s.chipReset f).fuses = s.fuses := rfl
@[simp] theorem State.chipReset_pending (s : State) (f : Env → Chip → Chip) : (s.chipReset f).pending = s.pending := rfl
@[simp] theorem State.env_fuses (s : State) : s.env.fuses = s.fuses := rfl
@[simp] theorem State.env_now (s : State) : s.env.now = s.clock.abs := rfl

@[simp] theorem State.advTo_fuses (s : State) (t : Nat) : (s.advTo t).fuses = s.fuses := by
  unfold State.advTo; split <;> rfl

@[simp] theorem State.advTo_pending (s : State) (t : Nat) : (s.advTo t).pending = s.pending := by
  unfold State.advTo; split <;> rfl

/-! ### Chip.wr -/

@[simp] theorem Chip.wr_mode (c : Chip) (a : Nat) (v : Word) : (c.wr a v).mode = c.mode := rfl
@[simp] theorem Chip.wr_staging (c : Chip) (a : Nat) (v : Word) : (c.wr a v).staging = c.staging := rfl
@[simp] theorem Chip.wr_armed (c : Chip) (a : Nat) (v : Word) : (c.wr a v).armed = c.armed := rfl
@[simp] theorem Chip.wr_mem (c : Chip) (a : Nat) (v : Word) : (c.wr a v).mem = c.mem := rfl
@[simp] theorem Chip.wr_free (c : Chip) (a : Nat) (v : Word) : (c.wr a v).free = c.free := rfl
@[simp] theorem Chip.wr_readback (c : Chip) (a : Nat) (v : Word) : (c.wr a v).readback = c.readback := rfl
@[simp] theorem Chip.wr_met (c : Chip) (a : Nat) (v : Word) : (c.wr a v).met = c.met := rfl
@[simp] theorem Chip.wr_ldr (c : Chip) (a : Nat) (v : Word) : (c.wr a v).ldr = c.ldr := rfl
@[simp] theorem Chip.wr_que (c : Chip) (a : Nat) (v : Word) : (c.wr a v).que = c.que := rfl
@[simp] theorem Chip.wr_core0 (c : Chip) (a : Nat) (v : Word) : (c.wr a v).core0 = c.core0 := rfl
@[simp] theorem Chip.wr_core1 (c : Chip) (a : Nat) (v : Word) : (c.wr a v).core1 = c.core1 := rfl
@[simp] theorem Chip.wr_intc (c : Chip) (a : Nat) (v : Word) : (c.wr a v).intc = c.intc := rfl
@[simp] theorem Chip.wr_caches (c : Chip) (a : Nat) (v : Word) : (c.wr a v).caches = c.caches := rfl
@[simp] theorem Chip.wr_bus (c : Chip) (a : Nat) (v : Word) : (c.wr a v).bus = c.bus := rfl
@[simp] theorem Chip.wr_pwr (c : Chip) (a : Nat) (v : Word) : (c.wr a v).pwr = c.pwr := rfl
@[simp] theorem Chip.wr_ldg (c : Chip) (a : Nat) (v : Word) : (c.wr a v).ldg = c.ldg := rfl
@[simp] theorem Chip.wr_flt (c : Chip) (a : Nat) (v : Word) : (c.wr a v).flt = c.flt := rfl
@[simp] theorem Chip.wr_rtc (c : Chip) (a : Nat) (v : Word) : (c.wr a v).rtc = c.rtc := rfl
@[simp] theorem Chip.wr_rng (c : Chip) (a : Nat) (v : Word) : (c.wr a v).rng = c.rng := rfl
@[simp] theorem Chip.wr_stk (c : Chip) (a : Nat) (v : Word) : (c.wr a v).stk = c.stk := rfl
@[simp] theorem Chip.wr_fx (c : Chip) (a : Nat) (v : Word) : (c.wr a v).fx = c.fx := rfl
@[simp] theorem Chip.wr_aud (c : Chip) (a : Nat) (v : Word) : (c.wr a v).aud = c.aud := rfl
@[simp] theorem Chip.wr_key (c : Chip) (a : Nat) (v : Word) : (c.wr a v).key = c.key := rfl
@[simp] theorem Chip.wr_adc (c : Chip) (a : Nat) (v : Word) : (c.wr a v).adc = c.adc := rfl
@[simp] theorem Chip.wr_midiIn (c : Chip) (a : Nat) (v : Word) : (c.wr a v).midiIn = c.midiIn := rfl
@[simp] theorem Chip.wr_midiOut (c : Chip) (a : Nat) (v : Word) : (c.wr a v).midiOut = c.midiOut := rfl
@[simp] theorem Chip.wr_usb (c : Chip) (a : Nat) (v : Word) : (c.wr a v).usb = c.usb := rfl
@[simp] theorem Chip.wr_disp (c : Chip) (a : Nat) (v : Word) : (c.wr a v).disp = c.disp := rfl
@[simp] theorem Chip.wr_scr (c : Chip) (a : Nat) (v : Word) : (c.wr a v).scr = c.scr := rfl
@[simp] theorem Chip.wr_dma (c : Chip) (a : Nat) (v : Word) : (c.wr a v).dma = c.dma := rfl
@[simp] theorem Chip.wr_host (c : Chip) (a : Nat) (v : Word) : (c.wr a v).host = c.host := rfl
@[simp] theorem Chip.wr_tims (c : Chip) (a : Nat) (v : Word) : (c.wr a v).tims = c.tims := rfl
@[simp] theorem Chip.wr_pins (c : Chip) (a : Nat) (v : Word) : (c.wr a v).pins = c.pins := rfl
@[simp] theorem Chip.wr_jtag (c : Chip) (a : Nat) (v : Word) : (c.wr a v).jtag = c.jtag := rfl

/-! ### Chip.setFld -/

@[simp] theorem Chip.setFld_mode (c : Chip) (a hi lo v : Nat) : (c.setFld a hi lo v).mode = c.mode := rfl
@[simp] theorem Chip.setFld_staging (c : Chip) (a hi lo v : Nat) : (c.setFld a hi lo v).staging = c.staging := rfl
@[simp] theorem Chip.setFld_armed (c : Chip) (a hi lo v : Nat) : (c.setFld a hi lo v).armed = c.armed := rfl
@[simp] theorem Chip.setFld_mem (c : Chip) (a hi lo v : Nat) : (c.setFld a hi lo v).mem = c.mem := rfl
@[simp] theorem Chip.setFld_free (c : Chip) (a hi lo v : Nat) : (c.setFld a hi lo v).free = c.free := rfl
@[simp] theorem Chip.setFld_readback (c : Chip) (a hi lo v : Nat) : (c.setFld a hi lo v).readback = c.readback := rfl
@[simp] theorem Chip.setFld_met (c : Chip) (a hi lo v : Nat) : (c.setFld a hi lo v).met = c.met := rfl
@[simp] theorem Chip.setFld_ldr (c : Chip) (a hi lo v : Nat) : (c.setFld a hi lo v).ldr = c.ldr := rfl
@[simp] theorem Chip.setFld_que (c : Chip) (a hi lo v : Nat) : (c.setFld a hi lo v).que = c.que := rfl
@[simp] theorem Chip.setFld_core0 (c : Chip) (a hi lo v : Nat) : (c.setFld a hi lo v).core0 = c.core0 := rfl
@[simp] theorem Chip.setFld_core1 (c : Chip) (a hi lo v : Nat) : (c.setFld a hi lo v).core1 = c.core1 := rfl
@[simp] theorem Chip.setFld_intc (c : Chip) (a hi lo v : Nat) : (c.setFld a hi lo v).intc = c.intc := rfl
@[simp] theorem Chip.setFld_caches (c : Chip) (a hi lo v : Nat) : (c.setFld a hi lo v).caches = c.caches := rfl
@[simp] theorem Chip.setFld_bus (c : Chip) (a hi lo v : Nat) : (c.setFld a hi lo v).bus = c.bus := rfl
@[simp] theorem Chip.setFld_pwr (c : Chip) (a hi lo v : Nat) : (c.setFld a hi lo v).pwr = c.pwr := rfl
@[simp] theorem Chip.setFld_ldg (c : Chip) (a hi lo v : Nat) : (c.setFld a hi lo v).ldg = c.ldg := rfl
@[simp] theorem Chip.setFld_flt (c : Chip) (a hi lo v : Nat) : (c.setFld a hi lo v).flt = c.flt := rfl
@[simp] theorem Chip.setFld_rtc (c : Chip) (a hi lo v : Nat) : (c.setFld a hi lo v).rtc = c.rtc := rfl
@[simp] theorem Chip.setFld_rng (c : Chip) (a hi lo v : Nat) : (c.setFld a hi lo v).rng = c.rng := rfl
@[simp] theorem Chip.setFld_stk (c : Chip) (a hi lo v : Nat) : (c.setFld a hi lo v).stk = c.stk := rfl
@[simp] theorem Chip.setFld_fx (c : Chip) (a hi lo v : Nat) : (c.setFld a hi lo v).fx = c.fx := rfl
@[simp] theorem Chip.setFld_aud (c : Chip) (a hi lo v : Nat) : (c.setFld a hi lo v).aud = c.aud := rfl
@[simp] theorem Chip.setFld_key (c : Chip) (a hi lo v : Nat) : (c.setFld a hi lo v).key = c.key := rfl
@[simp] theorem Chip.setFld_adc (c : Chip) (a hi lo v : Nat) : (c.setFld a hi lo v).adc = c.adc := rfl
@[simp] theorem Chip.setFld_midiIn (c : Chip) (a hi lo v : Nat) : (c.setFld a hi lo v).midiIn = c.midiIn := rfl
@[simp] theorem Chip.setFld_midiOut (c : Chip) (a hi lo v : Nat) : (c.setFld a hi lo v).midiOut = c.midiOut := rfl
@[simp] theorem Chip.setFld_usb (c : Chip) (a hi lo v : Nat) : (c.setFld a hi lo v).usb = c.usb := rfl
@[simp] theorem Chip.setFld_disp (c : Chip) (a hi lo v : Nat) : (c.setFld a hi lo v).disp = c.disp := rfl
@[simp] theorem Chip.setFld_scr (c : Chip) (a hi lo v : Nat) : (c.setFld a hi lo v).scr = c.scr := rfl
@[simp] theorem Chip.setFld_dma (c : Chip) (a hi lo v : Nat) : (c.setFld a hi lo v).dma = c.dma := rfl
@[simp] theorem Chip.setFld_host (c : Chip) (a hi lo v : Nat) : (c.setFld a hi lo v).host = c.host := rfl
@[simp] theorem Chip.setFld_tims (c : Chip) (a hi lo v : Nat) : (c.setFld a hi lo v).tims = c.tims := rfl
@[simp] theorem Chip.setFld_pins (c : Chip) (a hi lo v : Nat) : (c.setFld a hi lo v).pins = c.pins := rfl
@[simp] theorem Chip.setFld_jtag (c : Chip) (a hi lo v : Nat) : (c.setFld a hi lo v).jtag = c.jtag := rfl

/-! ### Chip.setBit -/

@[simp] theorem Chip.setBit_mode (c : Chip) (a i : Nat) : (c.setBit a i).mode = c.mode := rfl
@[simp] theorem Chip.setBit_staging (c : Chip) (a i : Nat) : (c.setBit a i).staging = c.staging := rfl
@[simp] theorem Chip.setBit_armed (c : Chip) (a i : Nat) : (c.setBit a i).armed = c.armed := rfl
@[simp] theorem Chip.setBit_mem (c : Chip) (a i : Nat) : (c.setBit a i).mem = c.mem := rfl
@[simp] theorem Chip.setBit_free (c : Chip) (a i : Nat) : (c.setBit a i).free = c.free := rfl
@[simp] theorem Chip.setBit_readback (c : Chip) (a i : Nat) : (c.setBit a i).readback = c.readback := rfl
@[simp] theorem Chip.setBit_met (c : Chip) (a i : Nat) : (c.setBit a i).met = c.met := rfl
@[simp] theorem Chip.setBit_ldr (c : Chip) (a i : Nat) : (c.setBit a i).ldr = c.ldr := rfl
@[simp] theorem Chip.setBit_que (c : Chip) (a i : Nat) : (c.setBit a i).que = c.que := rfl
@[simp] theorem Chip.setBit_core0 (c : Chip) (a i : Nat) : (c.setBit a i).core0 = c.core0 := rfl
@[simp] theorem Chip.setBit_core1 (c : Chip) (a i : Nat) : (c.setBit a i).core1 = c.core1 := rfl
@[simp] theorem Chip.setBit_intc (c : Chip) (a i : Nat) : (c.setBit a i).intc = c.intc := rfl
@[simp] theorem Chip.setBit_caches (c : Chip) (a i : Nat) : (c.setBit a i).caches = c.caches := rfl
@[simp] theorem Chip.setBit_bus (c : Chip) (a i : Nat) : (c.setBit a i).bus = c.bus := rfl
@[simp] theorem Chip.setBit_pwr (c : Chip) (a i : Nat) : (c.setBit a i).pwr = c.pwr := rfl
@[simp] theorem Chip.setBit_ldg (c : Chip) (a i : Nat) : (c.setBit a i).ldg = c.ldg := rfl
@[simp] theorem Chip.setBit_flt (c : Chip) (a i : Nat) : (c.setBit a i).flt = c.flt := rfl
@[simp] theorem Chip.setBit_rtc (c : Chip) (a i : Nat) : (c.setBit a i).rtc = c.rtc := rfl
@[simp] theorem Chip.setBit_rng (c : Chip) (a i : Nat) : (c.setBit a i).rng = c.rng := rfl
@[simp] theorem Chip.setBit_stk (c : Chip) (a i : Nat) : (c.setBit a i).stk = c.stk := rfl
@[simp] theorem Chip.setBit_fx (c : Chip) (a i : Nat) : (c.setBit a i).fx = c.fx := rfl
@[simp] theorem Chip.setBit_aud (c : Chip) (a i : Nat) : (c.setBit a i).aud = c.aud := rfl
@[simp] theorem Chip.setBit_key (c : Chip) (a i : Nat) : (c.setBit a i).key = c.key := rfl
@[simp] theorem Chip.setBit_adc (c : Chip) (a i : Nat) : (c.setBit a i).adc = c.adc := rfl
@[simp] theorem Chip.setBit_midiIn (c : Chip) (a i : Nat) : (c.setBit a i).midiIn = c.midiIn := rfl
@[simp] theorem Chip.setBit_midiOut (c : Chip) (a i : Nat) : (c.setBit a i).midiOut = c.midiOut := rfl
@[simp] theorem Chip.setBit_usb (c : Chip) (a i : Nat) : (c.setBit a i).usb = c.usb := rfl
@[simp] theorem Chip.setBit_disp (c : Chip) (a i : Nat) : (c.setBit a i).disp = c.disp := rfl
@[simp] theorem Chip.setBit_scr (c : Chip) (a i : Nat) : (c.setBit a i).scr = c.scr := rfl
@[simp] theorem Chip.setBit_dma (c : Chip) (a i : Nat) : (c.setBit a i).dma = c.dma := rfl
@[simp] theorem Chip.setBit_host (c : Chip) (a i : Nat) : (c.setBit a i).host = c.host := rfl
@[simp] theorem Chip.setBit_tims (c : Chip) (a i : Nat) : (c.setBit a i).tims = c.tims := rfl
@[simp] theorem Chip.setBit_pins (c : Chip) (a i : Nat) : (c.setBit a i).pins = c.pins := rfl
@[simp] theorem Chip.setBit_jtag (c : Chip) (a i : Nat) : (c.setBit a i).jtag = c.jtag := rfl

/-! ### Chip.clrBit -/

@[simp] theorem Chip.clrBit_mode (c : Chip) (a i : Nat) : (c.clrBit a i).mode = c.mode := rfl
@[simp] theorem Chip.clrBit_staging (c : Chip) (a i : Nat) : (c.clrBit a i).staging = c.staging := rfl
@[simp] theorem Chip.clrBit_armed (c : Chip) (a i : Nat) : (c.clrBit a i).armed = c.armed := rfl
@[simp] theorem Chip.clrBit_mem (c : Chip) (a i : Nat) : (c.clrBit a i).mem = c.mem := rfl
@[simp] theorem Chip.clrBit_free (c : Chip) (a i : Nat) : (c.clrBit a i).free = c.free := rfl
@[simp] theorem Chip.clrBit_readback (c : Chip) (a i : Nat) : (c.clrBit a i).readback = c.readback := rfl
@[simp] theorem Chip.clrBit_met (c : Chip) (a i : Nat) : (c.clrBit a i).met = c.met := rfl
@[simp] theorem Chip.clrBit_ldr (c : Chip) (a i : Nat) : (c.clrBit a i).ldr = c.ldr := rfl
@[simp] theorem Chip.clrBit_que (c : Chip) (a i : Nat) : (c.clrBit a i).que = c.que := rfl
@[simp] theorem Chip.clrBit_core0 (c : Chip) (a i : Nat) : (c.clrBit a i).core0 = c.core0 := rfl
@[simp] theorem Chip.clrBit_core1 (c : Chip) (a i : Nat) : (c.clrBit a i).core1 = c.core1 := rfl
@[simp] theorem Chip.clrBit_intc (c : Chip) (a i : Nat) : (c.clrBit a i).intc = c.intc := rfl
@[simp] theorem Chip.clrBit_caches (c : Chip) (a i : Nat) : (c.clrBit a i).caches = c.caches := rfl
@[simp] theorem Chip.clrBit_bus (c : Chip) (a i : Nat) : (c.clrBit a i).bus = c.bus := rfl
@[simp] theorem Chip.clrBit_pwr (c : Chip) (a i : Nat) : (c.clrBit a i).pwr = c.pwr := rfl
@[simp] theorem Chip.clrBit_ldg (c : Chip) (a i : Nat) : (c.clrBit a i).ldg = c.ldg := rfl
@[simp] theorem Chip.clrBit_flt (c : Chip) (a i : Nat) : (c.clrBit a i).flt = c.flt := rfl
@[simp] theorem Chip.clrBit_rtc (c : Chip) (a i : Nat) : (c.clrBit a i).rtc = c.rtc := rfl
@[simp] theorem Chip.clrBit_rng (c : Chip) (a i : Nat) : (c.clrBit a i).rng = c.rng := rfl
@[simp] theorem Chip.clrBit_stk (c : Chip) (a i : Nat) : (c.clrBit a i).stk = c.stk := rfl
@[simp] theorem Chip.clrBit_fx (c : Chip) (a i : Nat) : (c.clrBit a i).fx = c.fx := rfl
@[simp] theorem Chip.clrBit_aud (c : Chip) (a i : Nat) : (c.clrBit a i).aud = c.aud := rfl
@[simp] theorem Chip.clrBit_key (c : Chip) (a i : Nat) : (c.clrBit a i).key = c.key := rfl
@[simp] theorem Chip.clrBit_adc (c : Chip) (a i : Nat) : (c.clrBit a i).adc = c.adc := rfl
@[simp] theorem Chip.clrBit_midiIn (c : Chip) (a i : Nat) : (c.clrBit a i).midiIn = c.midiIn := rfl
@[simp] theorem Chip.clrBit_midiOut (c : Chip) (a i : Nat) : (c.clrBit a i).midiOut = c.midiOut := rfl
@[simp] theorem Chip.clrBit_usb (c : Chip) (a i : Nat) : (c.clrBit a i).usb = c.usb := rfl
@[simp] theorem Chip.clrBit_disp (c : Chip) (a i : Nat) : (c.clrBit a i).disp = c.disp := rfl
@[simp] theorem Chip.clrBit_scr (c : Chip) (a i : Nat) : (c.clrBit a i).scr = c.scr := rfl
@[simp] theorem Chip.clrBit_dma (c : Chip) (a i : Nat) : (c.clrBit a i).dma = c.dma := rfl
@[simp] theorem Chip.clrBit_host (c : Chip) (a i : Nat) : (c.clrBit a i).host = c.host := rfl
@[simp] theorem Chip.clrBit_tims (c : Chip) (a i : Nat) : (c.clrBit a i).tims = c.tims := rfl
@[simp] theorem Chip.clrBit_pins (c : Chip) (a i : Nat) : (c.clrBit a i).pins = c.pins := rfl
@[simp] theorem Chip.clrBit_jtag (c : Chip) (a i : Nat) : (c.clrBit a i).jtag = c.jtag := rfl

/-! ### Chip.addCount -/

@[simp] theorem Chip.addCount_mode (c : Chip) (a n : Nat) : (c.addCount a n).mode = c.mode := rfl
@[simp] theorem Chip.addCount_staging (c : Chip) (a n : Nat) : (c.addCount a n).staging = c.staging := rfl
@[simp] theorem Chip.addCount_armed (c : Chip) (a n : Nat) : (c.addCount a n).armed = c.armed := rfl
@[simp] theorem Chip.addCount_mem (c : Chip) (a n : Nat) : (c.addCount a n).mem = c.mem := rfl
@[simp] theorem Chip.addCount_free (c : Chip) (a n : Nat) : (c.addCount a n).free = c.free := rfl
@[simp] theorem Chip.addCount_readback (c : Chip) (a n : Nat) : (c.addCount a n).readback = c.readback := rfl
@[simp] theorem Chip.addCount_met (c : Chip) (a n : Nat) : (c.addCount a n).met = c.met := rfl
@[simp] theorem Chip.addCount_ldr (c : Chip) (a n : Nat) : (c.addCount a n).ldr = c.ldr := rfl
@[simp] theorem Chip.addCount_que (c : Chip) (a n : Nat) : (c.addCount a n).que = c.que := rfl
@[simp] theorem Chip.addCount_core0 (c : Chip) (a n : Nat) : (c.addCount a n).core0 = c.core0 := rfl
@[simp] theorem Chip.addCount_core1 (c : Chip) (a n : Nat) : (c.addCount a n).core1 = c.core1 := rfl
@[simp] theorem Chip.addCount_intc (c : Chip) (a n : Nat) : (c.addCount a n).intc = c.intc := rfl
@[simp] theorem Chip.addCount_caches (c : Chip) (a n : Nat) : (c.addCount a n).caches = c.caches := rfl
@[simp] theorem Chip.addCount_bus (c : Chip) (a n : Nat) : (c.addCount a n).bus = c.bus := rfl
@[simp] theorem Chip.addCount_pwr (c : Chip) (a n : Nat) : (c.addCount a n).pwr = c.pwr := rfl
@[simp] theorem Chip.addCount_ldg (c : Chip) (a n : Nat) : (c.addCount a n).ldg = c.ldg := rfl
@[simp] theorem Chip.addCount_flt (c : Chip) (a n : Nat) : (c.addCount a n).flt = c.flt := rfl
@[simp] theorem Chip.addCount_rtc (c : Chip) (a n : Nat) : (c.addCount a n).rtc = c.rtc := rfl
@[simp] theorem Chip.addCount_rng (c : Chip) (a n : Nat) : (c.addCount a n).rng = c.rng := rfl
@[simp] theorem Chip.addCount_stk (c : Chip) (a n : Nat) : (c.addCount a n).stk = c.stk := rfl
@[simp] theorem Chip.addCount_fx (c : Chip) (a n : Nat) : (c.addCount a n).fx = c.fx := rfl
@[simp] theorem Chip.addCount_aud (c : Chip) (a n : Nat) : (c.addCount a n).aud = c.aud := rfl
@[simp] theorem Chip.addCount_key (c : Chip) (a n : Nat) : (c.addCount a n).key = c.key := rfl
@[simp] theorem Chip.addCount_adc (c : Chip) (a n : Nat) : (c.addCount a n).adc = c.adc := rfl
@[simp] theorem Chip.addCount_midiIn (c : Chip) (a n : Nat) : (c.addCount a n).midiIn = c.midiIn := rfl
@[simp] theorem Chip.addCount_midiOut (c : Chip) (a n : Nat) : (c.addCount a n).midiOut = c.midiOut := rfl
@[simp] theorem Chip.addCount_usb (c : Chip) (a n : Nat) : (c.addCount a n).usb = c.usb := rfl
@[simp] theorem Chip.addCount_disp (c : Chip) (a n : Nat) : (c.addCount a n).disp = c.disp := rfl
@[simp] theorem Chip.addCount_scr (c : Chip) (a n : Nat) : (c.addCount a n).scr = c.scr := rfl
@[simp] theorem Chip.addCount_dma (c : Chip) (a n : Nat) : (c.addCount a n).dma = c.dma := rfl
@[simp] theorem Chip.addCount_host (c : Chip) (a n : Nat) : (c.addCount a n).host = c.host := rfl
@[simp] theorem Chip.addCount_tims (c : Chip) (a n : Nat) : (c.addCount a n).tims = c.tims := rfl
@[simp] theorem Chip.addCount_pins (c : Chip) (a n : Nat) : (c.addCount a n).pins = c.pins := rfl
@[simp] theorem Chip.addCount_jtag (c : Chip) (a n : Nat) : (c.addCount a n).jtag = c.jtag := rfl

/-! ### Chip.setMem -/

@[simp] theorem Chip.setMem_mode (c : Chip) (a : Nat) (bs : List Byte) : (c.setMem a bs).mode = c.mode := rfl
@[simp] theorem Chip.setMem_regs (c : Chip) (a : Nat) (bs : List Byte) : (c.setMem a bs).regs = c.regs := rfl
@[simp] theorem Chip.setMem_staging (c : Chip) (a : Nat) (bs : List Byte) : (c.setMem a bs).staging = c.staging := rfl
@[simp] theorem Chip.setMem_armed (c : Chip) (a : Nat) (bs : List Byte) : (c.setMem a bs).armed = c.armed := rfl
@[simp] theorem Chip.setMem_free (c : Chip) (a : Nat) (bs : List Byte) : (c.setMem a bs).free = c.free := rfl
@[simp] theorem Chip.setMem_readback (c : Chip) (a : Nat) (bs : List Byte) : (c.setMem a bs).readback = c.readback := rfl
@[simp] theorem Chip.setMem_met (c : Chip) (a : Nat) (bs : List Byte) : (c.setMem a bs).met = c.met := rfl
@[simp] theorem Chip.setMem_ldr (c : Chip) (a : Nat) (bs : List Byte) : (c.setMem a bs).ldr = c.ldr := rfl
@[simp] theorem Chip.setMem_que (c : Chip) (a : Nat) (bs : List Byte) : (c.setMem a bs).que = c.que := rfl
@[simp] theorem Chip.setMem_core0 (c : Chip) (a : Nat) (bs : List Byte) : (c.setMem a bs).core0 = c.core0 := rfl
@[simp] theorem Chip.setMem_core1 (c : Chip) (a : Nat) (bs : List Byte) : (c.setMem a bs).core1 = c.core1 := rfl
@[simp] theorem Chip.setMem_intc (c : Chip) (a : Nat) (bs : List Byte) : (c.setMem a bs).intc = c.intc := rfl
@[simp] theorem Chip.setMem_caches (c : Chip) (a : Nat) (bs : List Byte) : (c.setMem a bs).caches = c.caches := rfl
@[simp] theorem Chip.setMem_bus (c : Chip) (a : Nat) (bs : List Byte) : (c.setMem a bs).bus = c.bus := rfl
@[simp] theorem Chip.setMem_pwr (c : Chip) (a : Nat) (bs : List Byte) : (c.setMem a bs).pwr = c.pwr := rfl
@[simp] theorem Chip.setMem_ldg (c : Chip) (a : Nat) (bs : List Byte) : (c.setMem a bs).ldg = c.ldg := rfl
@[simp] theorem Chip.setMem_flt (c : Chip) (a : Nat) (bs : List Byte) : (c.setMem a bs).flt = c.flt := rfl
@[simp] theorem Chip.setMem_rtc (c : Chip) (a : Nat) (bs : List Byte) : (c.setMem a bs).rtc = c.rtc := rfl
@[simp] theorem Chip.setMem_rng (c : Chip) (a : Nat) (bs : List Byte) : (c.setMem a bs).rng = c.rng := rfl
@[simp] theorem Chip.setMem_stk (c : Chip) (a : Nat) (bs : List Byte) : (c.setMem a bs).stk = c.stk := rfl
@[simp] theorem Chip.setMem_fx (c : Chip) (a : Nat) (bs : List Byte) : (c.setMem a bs).fx = c.fx := rfl
@[simp] theorem Chip.setMem_aud (c : Chip) (a : Nat) (bs : List Byte) : (c.setMem a bs).aud = c.aud := rfl
@[simp] theorem Chip.setMem_key (c : Chip) (a : Nat) (bs : List Byte) : (c.setMem a bs).key = c.key := rfl
@[simp] theorem Chip.setMem_adc (c : Chip) (a : Nat) (bs : List Byte) : (c.setMem a bs).adc = c.adc := rfl
@[simp] theorem Chip.setMem_midiIn (c : Chip) (a : Nat) (bs : List Byte) : (c.setMem a bs).midiIn = c.midiIn := rfl
@[simp] theorem Chip.setMem_midiOut (c : Chip) (a : Nat) (bs : List Byte) : (c.setMem a bs).midiOut = c.midiOut := rfl
@[simp] theorem Chip.setMem_usb (c : Chip) (a : Nat) (bs : List Byte) : (c.setMem a bs).usb = c.usb := rfl
@[simp] theorem Chip.setMem_disp (c : Chip) (a : Nat) (bs : List Byte) : (c.setMem a bs).disp = c.disp := rfl
@[simp] theorem Chip.setMem_scr (c : Chip) (a : Nat) (bs : List Byte) : (c.setMem a bs).scr = c.scr := rfl
@[simp] theorem Chip.setMem_dma (c : Chip) (a : Nat) (bs : List Byte) : (c.setMem a bs).dma = c.dma := rfl
@[simp] theorem Chip.setMem_host (c : Chip) (a : Nat) (bs : List Byte) : (c.setMem a bs).host = c.host := rfl
@[simp] theorem Chip.setMem_tims (c : Chip) (a : Nat) (bs : List Byte) : (c.setMem a bs).tims = c.tims := rfl
@[simp] theorem Chip.setMem_pins (c : Chip) (a : Nat) (bs : List Byte) : (c.setMem a bs).pins = c.pins := rfl
@[simp] theorem Chip.setMem_jtag (c : Chip) (a : Nat) (bs : List Byte) : (c.setMem a bs).jtag = c.jtag := rfl

/-! ### Chip.setMemW -/

@[simp] theorem Chip.setMemW_mode (c : Chip) (a : Nat) (v : Word) : (c.setMemW a v).mode = c.mode := rfl
@[simp] theorem Chip.setMemW_regs (c : Chip) (a : Nat) (v : Word) : (c.setMemW a v).regs = c.regs := rfl
@[simp] theorem Chip.setMemW_staging (c : Chip) (a : Nat) (v : Word) : (c.setMemW a v).staging = c.staging := rfl
@[simp] theorem Chip.setMemW_armed (c : Chip) (a : Nat) (v : Word) : (c.setMemW a v).armed = c.armed := rfl
@[simp] theorem Chip.setMemW_free (c : Chip) (a : Nat) (v : Word) : (c.setMemW a v).free = c.free := rfl
@[simp] theorem Chip.setMemW_readback (c : Chip) (a : Nat) (v : Word) : (c.setMemW a v).readback = c.readback := rfl
@[simp] theorem Chip.setMemW_met (c : Chip) (a : Nat) (v : Word) : (c.setMemW a v).met = c.met := rfl
@[simp] theorem Chip.setMemW_ldr (c : Chip) (a : Nat) (v : Word) : (c.setMemW a v).ldr = c.ldr := rfl
@[simp] theorem Chip.setMemW_que (c : Chip) (a : Nat) (v : Word) : (c.setMemW a v).que = c.que := rfl
@[simp] theorem Chip.setMemW_core0 (c : Chip) (a : Nat) (v : Word) : (c.setMemW a v).core0 = c.core0 := rfl
@[simp] theorem Chip.setMemW_core1 (c : Chip) (a : Nat) (v : Word) : (c.setMemW a v).core1 = c.core1 := rfl
@[simp] theorem Chip.setMemW_intc (c : Chip) (a : Nat) (v : Word) : (c.setMemW a v).intc = c.intc := rfl
@[simp] theorem Chip.setMemW_caches (c : Chip) (a : Nat) (v : Word) : (c.setMemW a v).caches = c.caches := rfl
@[simp] theorem Chip.setMemW_bus (c : Chip) (a : Nat) (v : Word) : (c.setMemW a v).bus = c.bus := rfl
@[simp] theorem Chip.setMemW_pwr (c : Chip) (a : Nat) (v : Word) : (c.setMemW a v).pwr = c.pwr := rfl
@[simp] theorem Chip.setMemW_ldg (c : Chip) (a : Nat) (v : Word) : (c.setMemW a v).ldg = c.ldg := rfl
@[simp] theorem Chip.setMemW_flt (c : Chip) (a : Nat) (v : Word) : (c.setMemW a v).flt = c.flt := rfl
@[simp] theorem Chip.setMemW_rtc (c : Chip) (a : Nat) (v : Word) : (c.setMemW a v).rtc = c.rtc := rfl
@[simp] theorem Chip.setMemW_rng (c : Chip) (a : Nat) (v : Word) : (c.setMemW a v).rng = c.rng := rfl
@[simp] theorem Chip.setMemW_stk (c : Chip) (a : Nat) (v : Word) : (c.setMemW a v).stk = c.stk := rfl
@[simp] theorem Chip.setMemW_fx (c : Chip) (a : Nat) (v : Word) : (c.setMemW a v).fx = c.fx := rfl
@[simp] theorem Chip.setMemW_aud (c : Chip) (a : Nat) (v : Word) : (c.setMemW a v).aud = c.aud := rfl
@[simp] theorem Chip.setMemW_key (c : Chip) (a : Nat) (v : Word) : (c.setMemW a v).key = c.key := rfl
@[simp] theorem Chip.setMemW_adc (c : Chip) (a : Nat) (v : Word) : (c.setMemW a v).adc = c.adc := rfl
@[simp] theorem Chip.setMemW_midiIn (c : Chip) (a : Nat) (v : Word) : (c.setMemW a v).midiIn = c.midiIn := rfl
@[simp] theorem Chip.setMemW_midiOut (c : Chip) (a : Nat) (v : Word) : (c.setMemW a v).midiOut = c.midiOut := rfl
@[simp] theorem Chip.setMemW_usb (c : Chip) (a : Nat) (v : Word) : (c.setMemW a v).usb = c.usb := rfl
@[simp] theorem Chip.setMemW_disp (c : Chip) (a : Nat) (v : Word) : (c.setMemW a v).disp = c.disp := rfl
@[simp] theorem Chip.setMemW_scr (c : Chip) (a : Nat) (v : Word) : (c.setMemW a v).scr = c.scr := rfl
@[simp] theorem Chip.setMemW_dma (c : Chip) (a : Nat) (v : Word) : (c.setMemW a v).dma = c.dma := rfl
@[simp] theorem Chip.setMemW_host (c : Chip) (a : Nat) (v : Word) : (c.setMemW a v).host = c.host := rfl
@[simp] theorem Chip.setMemW_tims (c : Chip) (a : Nat) (v : Word) : (c.setMemW a v).tims = c.tims := rfl
@[simp] theorem Chip.setMemW_pins (c : Chip) (a : Nat) (v : Word) : (c.setMemW a v).pins = c.pins := rfl
@[simp] theorem Chip.setMemW_jtag (c : Chip) (a : Nat) (v : Word) : (c.setMemW a v).jtag = c.jtag := rfl

/-! ### Chip.answered -/

@[simp] theorem Chip.answered_mode (c : Chip) (m : Master) (v : Word) : (c.answered m v).mode = c.mode := rfl
@[simp] theorem Chip.answered_regs (c : Chip) (m : Master) (v : Word) : (c.answered m v).regs = c.regs := rfl
@[simp] theorem Chip.answered_staging (c : Chip) (m : Master) (v : Word) : (c.answered m v).staging = c.staging := rfl
@[simp] theorem Chip.answered_armed (c : Chip) (m : Master) (v : Word) : (c.answered m v).armed = c.armed := rfl
@[simp] theorem Chip.answered_mem (c : Chip) (m : Master) (v : Word) : (c.answered m v).mem = c.mem := rfl
@[simp] theorem Chip.answered_free (c : Chip) (m : Master) (v : Word) : (c.answered m v).free = c.free := rfl
@[simp] theorem Chip.answered_met (c : Chip) (m : Master) (v : Word) : (c.answered m v).met = c.met := rfl
@[simp] theorem Chip.answered_ldr (c : Chip) (m : Master) (v : Word) : (c.answered m v).ldr = c.ldr := rfl
@[simp] theorem Chip.answered_que (c : Chip) (m : Master) (v : Word) : (c.answered m v).que = c.que := rfl
@[simp] theorem Chip.answered_core0 (c : Chip) (m : Master) (v : Word) : (c.answered m v).core0 = c.core0 := rfl
@[simp] theorem Chip.answered_core1 (c : Chip) (m : Master) (v : Word) : (c.answered m v).core1 = c.core1 := rfl
@[simp] theorem Chip.answered_intc (c : Chip) (m : Master) (v : Word) : (c.answered m v).intc = c.intc := rfl
@[simp] theorem Chip.answered_caches (c : Chip) (m : Master) (v : Word) : (c.answered m v).caches = c.caches := rfl
@[simp] theorem Chip.answered_bus (c : Chip) (m : Master) (v : Word) : (c.answered m v).bus = c.bus := rfl
@[simp] theorem Chip.answered_pwr (c : Chip) (m : Master) (v : Word) : (c.answered m v).pwr = c.pwr := rfl
@[simp] theorem Chip.answered_ldg (c : Chip) (m : Master) (v : Word) : (c.answered m v).ldg = c.ldg := rfl
@[simp] theorem Chip.answered_flt (c : Chip) (m : Master) (v : Word) : (c.answered m v).flt = c.flt := rfl
@[simp] theorem Chip.answered_rtc (c : Chip) (m : Master) (v : Word) : (c.answered m v).rtc = c.rtc := rfl
@[simp] theorem Chip.answered_rng (c : Chip) (m : Master) (v : Word) : (c.answered m v).rng = c.rng := rfl
@[simp] theorem Chip.answered_stk (c : Chip) (m : Master) (v : Word) : (c.answered m v).stk = c.stk := rfl
@[simp] theorem Chip.answered_fx (c : Chip) (m : Master) (v : Word) : (c.answered m v).fx = c.fx := rfl
@[simp] theorem Chip.answered_aud (c : Chip) (m : Master) (v : Word) : (c.answered m v).aud = c.aud := rfl
@[simp] theorem Chip.answered_key (c : Chip) (m : Master) (v : Word) : (c.answered m v).key = c.key := rfl
@[simp] theorem Chip.answered_adc (c : Chip) (m : Master) (v : Word) : (c.answered m v).adc = c.adc := rfl
@[simp] theorem Chip.answered_midiIn (c : Chip) (m : Master) (v : Word) : (c.answered m v).midiIn = c.midiIn := rfl
@[simp] theorem Chip.answered_midiOut (c : Chip) (m : Master) (v : Word) : (c.answered m v).midiOut = c.midiOut := rfl
@[simp] theorem Chip.answered_usb (c : Chip) (m : Master) (v : Word) : (c.answered m v).usb = c.usb := rfl
@[simp] theorem Chip.answered_disp (c : Chip) (m : Master) (v : Word) : (c.answered m v).disp = c.disp := rfl
@[simp] theorem Chip.answered_scr (c : Chip) (m : Master) (v : Word) : (c.answered m v).scr = c.scr := rfl
@[simp] theorem Chip.answered_dma (c : Chip) (m : Master) (v : Word) : (c.answered m v).dma = c.dma := rfl
@[simp] theorem Chip.answered_host (c : Chip) (m : Master) (v : Word) : (c.answered m v).host = c.host := rfl
@[simp] theorem Chip.answered_tims (c : Chip) (m : Master) (v : Word) : (c.answered m v).tims = c.tims := rfl
@[simp] theorem Chip.answered_pins (c : Chip) (m : Master) (v : Word) : (c.answered m v).pins = c.pins := rfl
@[simp] theorem Chip.answered_jtag (c : Chip) (m : Master) (v : Word) : (c.answered m v).jtag = c.jtag := rfl

/-! ### Chip.setCore -/

@[simp] theorem Chip.setCore_mode (c : Chip) (n : Nat) (k : Core) : (c.setCore n k).mode = c.mode := by
  unfold Chip.setCore; split <;> rfl
@[simp] theorem Chip.setCore_regs (c : Chip) (n : Nat) (k : Core) : (c.setCore n k).regs = c.regs := by
  unfold Chip.setCore; split <;> rfl
@[simp] theorem Chip.setCore_staging (c : Chip) (n : Nat) (k : Core) : (c.setCore n k).staging = c.staging := by
  unfold Chip.setCore; split <;> rfl
@[simp] theorem Chip.setCore_armed (c : Chip) (n : Nat) (k : Core) : (c.setCore n k).armed = c.armed := by
  unfold Chip.setCore; split <;> rfl
@[simp] theorem Chip.setCore_mem (c : Chip) (n : Nat) (k : Core) : (c.setCore n k).mem = c.mem := by
  unfold Chip.setCore; split <;> rfl
@[simp] theorem Chip.setCore_free (c : Chip) (n : Nat) (k : Core) : (c.setCore n k).free = c.free := by
  unfold Chip.setCore; split <;> rfl
@[simp] theorem Chip.setCore_readback (c : Chip) (n : Nat) (k : Core) : (c.setCore n k).readback = c.readback := by
  unfold Chip.setCore; split <;> rfl
@[simp] theorem Chip.setCore_met (c : Chip) (n : Nat) (k : Core) : (c.setCore n k).met = c.met := by
  unfold Chip.setCore; split <;> rfl
@[simp] theorem Chip.setCore_ldr (c : Chip) (n : Nat) (k : Core) : (c.setCore n k).ldr = c.ldr := by
  unfold Chip.setCore; split <;> rfl
@[simp] theorem Chip.setCore_que (c : Chip) (n : Nat) (k : Core) : (c.setCore n k).que = c.que := by
  unfold Chip.setCore; split <;> rfl
@[simp] theorem Chip.setCore_intc (c : Chip) (n : Nat) (k : Core) : (c.setCore n k).intc = c.intc := by
  unfold Chip.setCore; split <;> rfl
@[simp] theorem Chip.setCore_caches (c : Chip) (n : Nat) (k : Core) : (c.setCore n k).caches = c.caches := by
  unfold Chip.setCore; split <;> rfl
@[simp] theorem Chip.setCore_bus (c : Chip) (n : Nat) (k : Core) : (c.setCore n k).bus = c.bus := by
  unfold Chip.setCore; split <;> rfl
@[simp] theorem Chip.setCore_pwr (c : Chip) (n : Nat) (k : Core) : (c.setCore n k).pwr = c.pwr := by
  unfold Chip.setCore; split <;> rfl
@[simp] theorem Chip.setCore_ldg (c : Chip) (n : Nat) (k : Core) : (c.setCore n k).ldg = c.ldg := by
  unfold Chip.setCore; split <;> rfl
@[simp] theorem Chip.setCore_flt (c : Chip) (n : Nat) (k : Core) : (c.setCore n k).flt = c.flt := by
  unfold Chip.setCore; split <;> rfl
@[simp] theorem Chip.setCore_rtc (c : Chip) (n : Nat) (k : Core) : (c.setCore n k).rtc = c.rtc := by
  unfold Chip.setCore; split <;> rfl
@[simp] theorem Chip.setCore_rng (c : Chip) (n : Nat) (k : Core) : (c.setCore n k).rng = c.rng := by
  unfold Chip.setCore; split <;> rfl
@[simp] theorem Chip.setCore_stk (c : Chip) (n : Nat) (k : Core) : (c.setCore n k).stk = c.stk := by
  unfold Chip.setCore; split <;> rfl
@[simp] theorem Chip.setCore_fx (c : Chip) (n : Nat) (k : Core) : (c.setCore n k).fx = c.fx := by
  unfold Chip.setCore; split <;> rfl
@[simp] theorem Chip.setCore_aud (c : Chip) (n : Nat) (k : Core) : (c.setCore n k).aud = c.aud := by
  unfold Chip.setCore; split <;> rfl
@[simp] theorem Chip.setCore_key (c : Chip) (n : Nat) (k : Core) : (c.setCore n k).key = c.key := by
  unfold Chip.setCore; split <;> rfl
@[simp] theorem Chip.setCore_adc (c : Chip) (n : Nat) (k : Core) : (c.setCore n k).adc = c.adc := by
  unfold Chip.setCore; split <;> rfl
@[simp] theorem Chip.setCore_midiIn (c : Chip) (n : Nat) (k : Core) : (c.setCore n k).midiIn = c.midiIn := by
  unfold Chip.setCore; split <;> rfl
@[simp] theorem Chip.setCore_midiOut (c : Chip) (n : Nat) (k : Core) : (c.setCore n k).midiOut = c.midiOut := by
  unfold Chip.setCore; split <;> rfl
@[simp] theorem Chip.setCore_usb (c : Chip) (n : Nat) (k : Core) : (c.setCore n k).usb = c.usb := by
  unfold Chip.setCore; split <;> rfl
@[simp] theorem Chip.setCore_disp (c : Chip) (n : Nat) (k : Core) : (c.setCore n k).disp = c.disp := by
  unfold Chip.setCore; split <;> rfl
@[simp] theorem Chip.setCore_scr (c : Chip) (n : Nat) (k : Core) : (c.setCore n k).scr = c.scr := by
  unfold Chip.setCore; split <;> rfl
@[simp] theorem Chip.setCore_dma (c : Chip) (n : Nat) (k : Core) : (c.setCore n k).dma = c.dma := by
  unfold Chip.setCore; split <;> rfl
@[simp] theorem Chip.setCore_host (c : Chip) (n : Nat) (k : Core) : (c.setCore n k).host = c.host := by
  unfold Chip.setCore; split <;> rfl
@[simp] theorem Chip.setCore_tims (c : Chip) (n : Nat) (k : Core) : (c.setCore n k).tims = c.tims := by
  unfold Chip.setCore; split <;> rfl
@[simp] theorem Chip.setCore_pins (c : Chip) (n : Nat) (k : Core) : (c.setCore n k).pins = c.pins := by
  unfold Chip.setCore; split <;> rfl
@[simp] theorem Chip.setCore_jtag (c : Chip) (n : Nat) (k : Core) : (c.setCore n k).jtag = c.jtag := by
  unfold Chip.setCore; split <;> rfl

/-! ### Chip.pwrDo -/

@[simp] theorem Chip.pwrDo_mode (c : Chip) (f : Power → Power) : (c.pwrDo f).mode = c.mode := rfl
@[simp] theorem Chip.pwrDo_regs (c : Chip) (f : Power → Power) : (c.pwrDo f).regs = c.regs := rfl
@[simp] theorem Chip.pwrDo_staging (c : Chip) (f : Power → Power) : (c.pwrDo f).staging = c.staging := rfl
@[simp] theorem Chip.pwrDo_armed (c : Chip) (f : Power → Power) : (c.pwrDo f).armed = c.armed := rfl
@[simp] theorem Chip.pwrDo_mem (c : Chip) (f : Power → Power) : (c.pwrDo f).mem = c.mem := rfl
@[simp] theorem Chip.pwrDo_free (c : Chip) (f : Power → Power) : (c.pwrDo f).free = c.free := rfl
@[simp] theorem Chip.pwrDo_readback (c : Chip) (f : Power → Power) : (c.pwrDo f).readback = c.readback := rfl
@[simp] theorem Chip.pwrDo_met (c : Chip) (f : Power → Power) : (c.pwrDo f).met = c.met := rfl
@[simp] theorem Chip.pwrDo_ldr (c : Chip) (f : Power → Power) : (c.pwrDo f).ldr = c.ldr := rfl
@[simp] theorem Chip.pwrDo_que (c : Chip) (f : Power → Power) : (c.pwrDo f).que = c.que := rfl
@[simp] theorem Chip.pwrDo_core0 (c : Chip) (f : Power → Power) : (c.pwrDo f).core0 = c.core0 := rfl
@[simp] theorem Chip.pwrDo_core1 (c : Chip) (f : Power → Power) : (c.pwrDo f).core1 = c.core1 := rfl
@[simp] theorem Chip.pwrDo_intc (c : Chip) (f : Power → Power) : (c.pwrDo f).intc = c.intc := rfl
@[simp] theorem Chip.pwrDo_caches (c : Chip) (f : Power → Power) : (c.pwrDo f).caches = c.caches := rfl
@[simp] theorem Chip.pwrDo_bus (c : Chip) (f : Power → Power) : (c.pwrDo f).bus = c.bus := rfl
@[simp] theorem Chip.pwrDo_ldg (c : Chip) (f : Power → Power) : (c.pwrDo f).ldg = c.ldg := rfl
@[simp] theorem Chip.pwrDo_flt (c : Chip) (f : Power → Power) : (c.pwrDo f).flt = c.flt := rfl
@[simp] theorem Chip.pwrDo_rtc (c : Chip) (f : Power → Power) : (c.pwrDo f).rtc = c.rtc := rfl
@[simp] theorem Chip.pwrDo_rng (c : Chip) (f : Power → Power) : (c.pwrDo f).rng = c.rng := rfl
@[simp] theorem Chip.pwrDo_stk (c : Chip) (f : Power → Power) : (c.pwrDo f).stk = c.stk := rfl
@[simp] theorem Chip.pwrDo_fx (c : Chip) (f : Power → Power) : (c.pwrDo f).fx = c.fx := rfl
@[simp] theorem Chip.pwrDo_aud (c : Chip) (f : Power → Power) : (c.pwrDo f).aud = c.aud := rfl
@[simp] theorem Chip.pwrDo_key (c : Chip) (f : Power → Power) : (c.pwrDo f).key = c.key := rfl
@[simp] theorem Chip.pwrDo_adc (c : Chip) (f : Power → Power) : (c.pwrDo f).adc = c.adc := rfl
@[simp] theorem Chip.pwrDo_midiIn (c : Chip) (f : Power → Power) : (c.pwrDo f).midiIn = c.midiIn := rfl
@[simp] theorem Chip.pwrDo_midiOut (c : Chip) (f : Power → Power) : (c.pwrDo f).midiOut = c.midiOut := rfl
@[simp] theorem Chip.pwrDo_usb (c : Chip) (f : Power → Power) : (c.pwrDo f).usb = c.usb := rfl
@[simp] theorem Chip.pwrDo_disp (c : Chip) (f : Power → Power) : (c.pwrDo f).disp = c.disp := rfl
@[simp] theorem Chip.pwrDo_scr (c : Chip) (f : Power → Power) : (c.pwrDo f).scr = c.scr := rfl
@[simp] theorem Chip.pwrDo_dma (c : Chip) (f : Power → Power) : (c.pwrDo f).dma = c.dma := rfl
@[simp] theorem Chip.pwrDo_host (c : Chip) (f : Power → Power) : (c.pwrDo f).host = c.host := rfl
@[simp] theorem Chip.pwrDo_tims (c : Chip) (f : Power → Power) : (c.pwrDo f).tims = c.tims := rfl
@[simp] theorem Chip.pwrDo_pins (c : Chip) (f : Power → Power) : (c.pwrDo f).pins = c.pins := rfl
@[simp] theorem Chip.pwrDo_jtag (c : Chip) (f : Power → Power) : (c.pwrDo f).jtag = c.jtag := rfl

end Sys2Proof.Machine
end

