-- ==== Sys2Proof/Laws/Maps.lean ====
section
/-! SUPPORT. Laws/Maps.lean: maps and memory: what is read after a write, and that every operation keeps the canonical
form. -/

namespace Sys2Proof.Machine

variable {α : Type} [DecidableEq α]

/-! ### Maps -/

theorem wfFrom_mono {d : Nat → α} {m : SMap α} {a b : Nat} (hab : a ≤ b) (h : wfFrom d b m = true) :
    wfFrom d a m = true := by
  cases m with
  | nil => rfl
  | cons e m =>
    obtain ⟨k, v⟩ := e
    simp only [wfFrom, Bool.and_eq_true, decide_eq_true_eq] at h ⊢
    exact ⟨⟨Nat.le_trans hab h.1.1, h.1.2⟩, h.2⟩

/-- Below the first key every read gives the default. -/
theorem getS_of_lt {d : Nat → α} {m : SMap α} {lo i : Nat} (h : wfFrom d lo m = true) (hi : i < lo) (x : α) :
    getS x m i = x := by
  induction m generalizing lo with
  | nil => rfl
  | cons e m ih =>
    obtain ⟨k, v⟩ := e
    simp only [wfFrom, Bool.and_eq_true, decide_eq_true_eq] at h
    have hk : k ≠ i := by omega
    simp only [getS, if_neg hk]
    exact ih h.2 (by omega)

/-- A write keeps the canonical form. -/
theorem wfFrom_putS {d : Nat → α} {m : SMap α} {lo i : Nat} (v : α) (h : wfFrom d lo m = true) (hi : lo ≤ i) :
    wfFrom d lo (putS (d i) m i v) = true := by
  induction m generalizing lo with
  | nil =>
    by_cases hv : v = d i
    · simp [putS, hv, wfFrom]
    · simp [putS, hv, wfFrom, hi]
  | cons e m ih =>
    obtain ⟨k, w⟩ := e
    have h' := h
    simp only [wfFrom, Bool.and_eq_true, decide_eq_true_eq] at h'
    obtain ⟨⟨hlo, hw⟩, hm⟩ := h'
    by_cases h1 : i < k
    · by_cases hv : v = d i
      · simp only [putS, if_pos h1, if_pos hv, h]
      · have : wfFrom d (i + 1) ((k, w) :: m) = true := by
          simp only [wfFrom, Bool.and_eq_true, decide_eq_true_eq]
          exact ⟨⟨h1, hw⟩, hm⟩
        simp only [putS, if_pos h1, if_neg hv]
        simp only [wfFrom, Bool.and_eq_true, decide_eq_true_eq] at this ⊢
        exact ⟨⟨hi, hv⟩, this⟩
    · by_cases h2 : i = k
      · subst h2
        by_cases hv : v = d i
        · simp only [putS, if_neg h1, if_pos hv, ↓reduceIte]
          exact wfFrom_mono (by omega) hm
        · simp only [putS, if_neg h1, if_neg hv, ↓reduceIte, wfFrom, Bool.and_eq_true, decide_eq_true_eq]
          exact ⟨⟨hlo, hv⟩, hm⟩
      · simp only [putS, if_neg h1, if_neg h2, wfFrom, Bool.and_eq_true, decide_eq_true_eq]
        exact ⟨⟨hlo, hw⟩, ih hm (by omega)⟩

/-- What is read after a write: the value at its key, and what was there at every other. -/
theorem getS_putS {d : Nat → α} {m : SMap α} {lo : Nat} (i j : Nat) (v : α) (h : wfFrom d lo m = true) :
    getS (d j) (putS (d i) m i v) j = if j = i then v else getS (d j) m j := by
  induction m generalizing lo with
  | nil =>
    by_cases hv : v = d i
    · by_cases hj : j = i
      · subst hj; simp [putS, hv, getS]
      · simp [putS, hv, getS, hj]
    · by_cases hj : j = i
      · simp [putS, hv, getS, hj]
      · simp [putS, hv, getS, hj, Ne.symm hj]
  | cons e m ih =>
    obtain ⟨k, w⟩ := e
    have h' := h
    simp only [wfFrom, Bool.and_eq_true, decide_eq_true_eq] at h'
    obtain ⟨⟨hlo, hw⟩, hm⟩ := h'
    by_cases h1 : i < k
    · by_cases hv : v = d i
      · simp only [putS, if_pos h1, if_pos hv]
        by_cases hj : j = i
        · subst hj
          have hk : k ≠ j := by omega
          simp only [↓reduceIte, getS, if_neg hk, hv]
          exact getS_of_lt hm (by omega) _
        · simp [hj]
      · simp only [putS, if_pos h1, if_neg hv, getS]
        by_cases hj : j = i
        · simp [hj]
        · simp [hj, Ne.symm hj]
    · by_cases h2 : i = k
      · subst h2
        by_cases hv : v = d i
        · simp only [putS, if_neg h1, if_pos hv, ↓reduceIte]
          by_cases hj : j = i
          · subst hj
            simp only [↓reduceIte, hv]
            exact getS_of_lt hm (by omega) _
          · simp [hj, getS, Ne.symm hj]
        · simp only [putS, if_neg h1, if_neg hv, ↓reduceIte, getS]
          by_cases hj : j = i
          · simp [hj]
          · simp [hj, Ne.symm hj]
      · simp only [putS, if_neg h1, if_neg h2, getS]
        by_cases hk : k = j
        · have hj : j ≠ i := by omega
          simp [hk, hj]
        · simp only [if_neg hk]
          exact ih hm

/-- Dropping entries keeps the canonical form. -/
theorem wfFrom_dropS {d : Nat → α} {m : SMap α} {lo : Nat} (p : Nat → Bool) (h : wfFrom d lo m = true) :
    wfFrom d lo (dropS p m) = true := by
  induction m generalizing lo with
  | nil => rfl
  | cons e m ih =>
    obtain ⟨k, v⟩ := e
    simp only [wfFrom, Bool.and_eq_true, decide_eq_true_eq] at h
    obtain ⟨⟨hlo, hv⟩, hm⟩ := h
    have hrec := ih hm
    by_cases hp : p k = true
    · have : dropS p ((k, v) :: m) = dropS p m := by simp [dropS, hp]
      rw [this]
      exact wfFrom_mono (by omega) hrec
    · have : dropS p ((k, v) :: m) = (k, v) :: dropS p m := by simp [dropS, hp]
      rw [this]
      simp only [wfFrom, Bool.and_eq_true, decide_eq_true_eq]
      exact ⟨⟨hlo, hv⟩, hrec⟩

/-! ### Memory -/

theorem memWf_putB {m : Mem} (a : Nat) (b : Byte) (h : memWf m = true) : memWf (putB m a b) = true :=
  wfFrom_putS b h (Nat.zero_le a)

theorem getB_putB {m : Mem} (a x : Nat) (b : Byte) (h : memWf m = true) :
    getB (putB m a b) x = if x = a then b else getB m x := getS_putS a x b h

theorem memWf_dropS {m : Mem} (p : Nat → Bool) (h : memWf m = true) : memWf (dropS p m) = true := wfFrom_dropS p h

theorem memWf_putBytes {m : Mem} (a : Nat) (bs : List Byte) (h : memWf m = true) : memWf (putBytes m a bs) = true := by
  induction bs generalizing m a with
  | nil => exact h
  | cons b bs ih => exact ih (a + 1) (memWf_putB a b h)

/-- The bytes outside those written read as before. -/
theorem getB_putBytes_of_lt {m : Mem} (a x : Nat) (bs : List Byte) (h : memWf m = true) (hx : x < a) :
    getB (putBytes m a bs) x = getB m x := by
  induction bs generalizing m a with
  | nil => rfl
  | cons b bs ih =>
    rw [putBytes, ih (a + 1) (memWf_putB a b h) (by omega), getB_putB a x b h, if_neg (by omega)]

/-- A byte of those written. -/
theorem getB_putBytes {m : Mem} (a x : Nat) (bs : List Byte) (h : memWf m = true) :
    getB (putBytes m a bs) x = if a ≤ x ∧ x < a + bs.length then bs.getD (x - a) 0 else getB m x := by
  induction bs generalizing m a with
  | nil => rw [putBytes, if_neg (by simp only [List.length_nil]; omega)]
  | cons b bs ih =>
    rw [putBytes]
    by_cases hx : x = a
    · subst hx
      rw [getB_putBytes_of_lt _ _ _ (memWf_putB x b h) (by omega), getB_putB x x b h]
      simp
    · rw [ih (a + 1) (memWf_putB a b h), getB_putB a x b h, if_neg hx]
      by_cases hin : a + 1 ≤ x ∧ x < a + 1 + bs.length
      · rw [if_pos hin, if_pos (by simp only [List.length_cons]; omega)]
        obtain ⟨j, hj⟩ : ∃ j, x - a = j + 1 := ⟨x - a - 1, by omega⟩
        have : x - (a + 1) = j := by omega
        rw [this, hj]
        rfl
      · rw [if_neg hin, if_neg (by simp only [List.length_cons]; omega)]

/-- Bytes that lose what they held keep the canonical form. -/
theorem memWf_foldl_putB {m : Mem} (l : List (Nat × Byte)) (h : memWf m = true) :
    memWf (l.foldl (fun m x => putB m x.1 x.2) m) = true := by
  induction l generalizing m with
  | nil => exact h
  | cons x l ih => exact ih (memWf_putB x.1 x.2 h)

theorem Chip.memWf_setMem {c : Chip} (a : Nat) (bs : List Byte) (h : memWf c.mem = true) :
    memWf (c.setMem a bs).mem = true := memWf_putBytes a bs h

theorem Chip.memWf_setMemW {c : Chip} (a : Nat) (v : Word) (h : memWf c.mem = true) :
    memWf (c.setMemW a v).mem = true := memWf_putBytes a _ h

/-! ### Registers -/

theorem Chip.regsWf_wr {c : Chip} (a : Nat) (v : Word) (h : c.regsWf = true) : (c.wr a v).regsWf = true :=
  wfFrom_putS v h (Nat.zero_le a)

theorem Chip.rd_wr {c : Chip} (a b : Nat) (v : Word) (h : c.regsWf = true) :
    (c.wr a v).rd b = if b = a then v else c.rd b := getS_putS a b v h

end Sys2Proof.Machine
end

