-- ==== Sys2Proof/Laws/Quire.lean ====
section
/-! SUPPORT. Laws/Quire.lean: the registers of a core, and what one instruction of a core that executes does. -/

namespace Sys2Proof.Machine

/-! ### The core's registers -/

@[simp] theorem Core.reg_zero (k : Core) : k.reg 0 = 0 := rfl

@[simp] theorem Core.setReg_zero (k : Core) (v : Word) : k.setReg 0 v = k := rfl

/-- What a general register holds after a write, where the listed registers are in canonical form. -/
theorem Core.reg_setReg {k : Core} (r i : Nat) (v : Word) (h : wfFrom (fun _ => (0 : Word)) 0 k.g = true) :
    (k.setReg r v).reg i = if i = r ∧ r ≠ 0 then v else k.reg i := by
  by_cases hr : r = 0
  · subst hr; simp
  · have hset : k.setReg r v = { k with g := putS 0 k.g r v } := by simp only [Core.setReg, if_neg hr]
    by_cases hi : i = 0
    · subst hi; simp [Ne.symm hr]
    · have := getS_putS (d := fun _ => (0 : Word)) r i v h
      simp only [hset, Core.reg, if_neg hi, this, hr, ne_eq, not_false_eq_true, and_true]

section
variable (k : Core) (r : Nat) (v : Word)
@[simp] theorem Core.setReg_run : (k.setReg r v).run = k.run := by unfold Core.setReg; split <;> rfl
@[simp] theorem Core.setReg_pc : (k.setReg r v).pc = k.pc := by unfold Core.setReg; split <;> rfl
@[simp] theorem Core.setReg_psw : (k.setReg r v).psw = k.psw := by unfold Core.setReg; split <;> rfl
@[simp] theorem Core.setReg_a0 : (k.setReg r v).a0 = k.a0 := by unfold Core.setReg; split <;> rfl
@[simp] theorem Core.setReg_a1 : (k.setReg r v).a1 = k.a1 := by unfold Core.setReg; split <;> rfl
@[simp] theorem Core.setReg_depth : (k.setReg r v).depth = k.depth := by unfold Core.setReg; split <;> rfl
@[simp] theorem Core.setReg_fault : (k.setReg r v).fault = k.fault := by unfold Core.setReg; split <;> rfl
@[simp] theorem Core.setReg_stepping : (k.setReg r v).stepping = k.stepping := by unfold Core.setReg; split <;> rfl
@[simp] theorem Core.setReg_expects : (k.setReg r v).expects = k.expects := by unfold Core.setReg; split <;> rfl
end

section
variable (k : Core) (a : Nat) (v : Acc)
@[simp] theorem Core.setAcc_run : (k.setAcc a v).run = k.run := by unfold Core.setAcc; split <;> rfl
@[simp] theorem Core.setAcc_fault : (k.setAcc a v).fault = k.fault := by unfold Core.setAcc; split <;> rfl
@[simp] theorem Core.setAcc_stepping : (k.setAcc a v).stepping = k.stepping := by unfold Core.setAcc; split <;> rfl
@[simp] theorem Core.setAcc_expects : (k.setAcc a v).expects = k.expects := by unfold Core.setAcc; split <;> rfl
end

section
variable (k : Core) (q : Bool)
@[simp] theorem Core.stick_run : (k.stick q).run = k.run := by unfold Core.stick; split <;> rfl
@[simp] theorem Core.stick_stepping : (k.stick q).stepping = k.stepping := by unfold Core.stick; split <;> rfl
@[simp] theorem Core.stick_expects : (k.stick q).expects = k.expects := by unfold Core.stick; split <;> rfl
end

section
variable (k : Core) (rd : BitVec 5) (f : Bool) (v psw : Word)
@[simp] theorem Core.result_stepping : (k.result rd f v psw).stepping = k.stepping := by simp [Core.result]
@[simp] theorem Core.result_expects : (k.result rd f v psw).expects = k.expects := by
  simp [Core.result, Core.expects]
end

/-! ### The loop-end step changes the loop registers and the PC alone -/

theorem loopEnd_keeps (d : Nat) (next : Word) (k : Core) :
    (loopEnd d next k).2.run = k.run ∧ (loopEnd d next k).2.fault = k.fault ∧ (loopEnd d next k).2.stepping = k.stepping ∧
    (loopEnd d next k).2.g = k.g ∧ (loopEnd d next k).2.psw = k.psw := by
  induction d generalizing k with
  | zero => simp [loopEnd]
  | succ d ih =>
    simp only [loopEnd]
    split
    · split
      · simp
      · exact ih _
    · simp

@[simp] theorem Core.sequential_run (k : Core) (n : Nat) : (k.sequential n).run = k.run :=
  (loopEnd_keeps k.depth _ k).1

@[simp] theorem Core.sequential_fault (k : Core) (n : Nat) : (k.sequential n).fault = k.fault :=
  (loopEnd_keeps k.depth _ k).2.1

@[simp] theorem Core.sequential_stepping (k : Core) (n : Nat) : (k.sequential n).stepping = k.stepping :=
  (loopEnd_keeps k.depth _ k).2.2.1

@[simp] theorem Core.sequential_expects (k : Core) (n : Nat) : (k.sequential n).expects = k.expects := by
  simp [Core.expects]

/-- Outside every loop body the successor follows. -/
theorem Core.sequential_of_depth_zero {k : Core} (n : Nat) (h : k.depth = 0) :
    k.sequential n = { k with pc := k.pc + word n } := by
  simp [Core.sequential, h, loopEnd]

/-! ### The cores of the chip -/

theorem Chip.core_setCore (c : Chip) (n : Nat) (k : Core) : (c.setCore n k).core n = k := by
  unfold Chip.setCore Chip.core; split <;> rfl

/-- A core that waits for nothing new leaves the device's duties as they are. -/
theorem Chip.duties_setCore (c : Chip) (n : Nat) (k : Core) (h : k.expects = (c.core n).expects) :
    (c.setCore n k).duties = c.duties := by
  unfold Chip.core at h
  by_cases hn : n = 0
  · simp only [Chip.setCore, Chip.duties, hn, if_true] at h ⊢; rw [h]
  · simp only [Chip.setCore, Chip.duties, hn, if_false] at h ⊢; rw [h]

/-! ### One instruction -/

/-- A quiet device settles to itself. -/
theorem State.settle_of_quiet {s : State} (h : s.chip.duties = false) : s.settle = s := by
  simp [State.settle, h]

/-- What an effect on a quiet device answers, where it leaves nothing to do. -/
theorem run_of_quiet {f : Env → Chip → Chip} {s : State} (hs : s.Quiet) (hd : (f s.env s.chip).duties = false) :
    run f s = .next (s.withChip (f s.env s.chip)) := by
  have : s.on f = s.withChip (f s.env s.chip) := rfl
  simp only [run, State.cmd, hs.1, if_true]
  rw [State.settle_of_quiet (s := s.on f) hd, this]

/-- An instruction that changes its core alone. -/
theorem quire_of_executes {core : BitVec 1} {op : Env → Chip → Res} {s : State} {k : Core} (hs : s.Executes core.toNat)
    (hop : op s.env s.chip = .done (s.chip.setCore core.toNat k)) (hk : k.stepping = false)
    (he : k.expects = (s.chip.core core.toNat).expects) :
    quire core op s = .next (s.withCore core.toNat k) := by
  obtain ⟨hq, hrun, hdue, hstep⟩ := hs
  have hin : instr core.toNat op s.env s.chip = s.chip.setCore core.toNat k := by
    simp only [instr, hrun, hdue, hop, if_true]
    simp [stepDone, Chip.core_setCore, hk]
  have hd : (instr core.toNat op s.env s.chip).duties = false := by
    rw [hin, Chip.duties_setCore _ _ _ he]; exact hq.2
  simp only [quire, run_of_quiet hq hd, hin, State.withCore]

/-- The instructions that go on to their successor. -/
theorem coreOp_of_executes {core : BitVec 1} {c16 : Bool} {f : Core → Core} {s : State} (hs : s.Executes core.toNat)
    (hk : (f (s.chip.core core.toNat)).stepping = (s.chip.core core.toNat).stepping)
    (he : (f (s.chip.core core.toNat)).expects = (s.chip.core core.toNat).expects) :
    quire core (coreOp core.toNat c16 f) s =
      .next (s.withCore core.toNat ((f (s.chip.core core.toNat)).sequential (isz c16))) :=
  quire_of_executes hs rfl (by simp [hk, hs.2.2.2]) (by simp [he])

end Sys2Proof.Machine
end

