-- ==== Sys2Proof/Tests/Slice0.lean ====
section
/-! SUPPORT. Tests/Slice0.lean: what WellFormed refuses, single steps whose results the manual gives, and states that meet
the hypotheses of the statements. -/

namespace Sys2Proof.Tests

open Sys2Proof Sys2Proof.Machine

/-! ### Small states -/

/-- The state after reset with another chip. -/
def st (c : Chip) : State := { State.reset with chip := c }

/-- A chip with some register words. -/
def regsOf (l : List (Nat × Word)) (c : Chip := {}) : Chip := l.foldl (fun c x => c.wr x.1 x.2) c

/-- The state with core 0 running and its other fields given. -/
def run0 (k : Core) (c : Chip := {}) : State := st { c with core0 := { k with run := .running } }

/-- The same with core 1. -/
def run1 (k : Core) (c : Chip := {}) : State := st { c with core1 := { k with run := .running } }

/-- A chip whose PLLs are locked, so that its count runs at MCLK. -/
def locked : Chip := regsOf [(A.SYS_CLK_STAT, 3)]

/-- It performs. -/
def performing : Chip := { locked with mode := .perform }

/-- A display section with KIND 1 and its smallest mode. -/
def panel : DisplaySec :=
  { kind := 1, mode := 0, fclass := 0, layers := 0, folioFmt := [], surfFmt := 0, sprFmt := 0, w := 480, h := 272, fbTarget := 1 }

/-- A small structure. -/
def charter : Charter :=
  { profile := 0, serial := 1, fs := 0, blk := 0, lat := 0, voices := [], lanes := 1, dispatch := 0, steal := 0, retrig := 0,
    chimes := 0, silence := 0, nodes := [], edges := [], queues := [], sources := [], saps := [], spdifEn := false, spdifBase := 0,
    display := panel, xspiDiv := 2, waveTarget := 5, wheels := [(5, [])], streams := [], queueBytes := [], portBytes := [],
    claims := [] }

/-- A record. -/
def rec0 : Rec := { source := 1, kind := 1, key := 2, flags := 0, time := 0, valueA := 3, valueB := 4 }

/-- A record in a queue. -/
def item0 : QItem := { r := rec0, accepted := 0, seq := 0, slot := 0 }

/-! ### WellFormed refuses -/

theorem test_wf_master : Instr.wf (.cacheClr (.host 3) 1) = false := by decide
theorem test_wf_channel : Instr.wf (.profileLockWrite (.dma 16) 0) = false := by decide
theorem test_wf_reg_addr : Instr.wf (.registerWrite (.core 0) 0x60000002 0) = false := by decide
theorem test_wf_window : Instr.wf (.rcRegisterRead (.core 0) 0x60190000) = false := by decide
theorem test_wf_source : Instr.wf (.verify 4) = false := by decide
theorem test_wf_slot : Instr.wf (.program 4) = false := by decide
theorem test_wf_queue : Instr.wf (.quenPush (.core 0) 64 0) = false := by decide
theorem test_wf_stage_word : Instr.wf (.quenPushStage (.core 0) 0 0 0) = false := by decide
theorem test_wf_voice : Instr.wf (.vcmdStart (.core 0) 256) = false := by decide
theorem test_wf_envelope : Instr.wf (.envelopeSegmentEnd 0 2) = false := by decide
theorem test_wf_chime : Instr.wf (.chimeDecayStep 16) = false := by decide
theorem test_wf_late : Instr.wf (.blockTick 512) = false := by decide
theorem test_wf_receive_channel : Instr.wf (.sampleTick [(64, 0)]) = false := by decide
theorem test_wf_port : Instr.wf (.sapSlaveFrame 4 0 64 []) = false := by decide
theorem test_wf_slot_word : Instr.wf (.sapSlaveFrame 0 0 64 [(16, 0)]) = false := by decide
theorem test_wf_key_edge : Instr.wf (.keyScan 0 [(0, 256)]) = false := by decide
theorem test_wf_contact : Instr.wf (.lockoutEnd 256) = false := by decide
theorem test_wf_key_cfg : Instr.wf (.keyCfgWrite (.core 0) 0x60070008 0) = false := by decide
theorem test_wf_adc : Instr.wf (.adcCfgWrite (.core 0) 16 0) = false := by decide
theorem test_wf_din : Instr.wf (.midiInMessage 4 []) = false := by decide
theorem test_wf_usb_window : Instr.wf (.usbCfgWrite (.core 0) 0x600B0000 0) = false := by decide
theorem test_wf_configuration : Instr.wf (.setConfiguration 256) = false := by decide
theorem test_wf_interface : Instr.wf (.setInterface 256 0) = false := by decide
theorem test_wf_dfu : Instr.wf (.dfuDownload (List.replicate 1025 0)) = false := by decide +kernel
theorem test_wf_layer : Instr.wf (.dispLineStart [(5, 0)]) = false := by decide
theorem test_wf_short_flags : Instr.wf (.add 0 true true 8 8 9) = false := by decide
theorem test_wf_short_two_address : Instr.wf (.sub 0 true false 8 9 10) = false := by decide
theorem test_wf_short_imm : Instr.wf (.addi 0 true 8 8 16) = false := by decide
theorem test_wf_short_mac : Instr.wf (.mac 0 true 0 7 8) = false := by decide
theorem test_wf_load_size : Instr.wf (.ld 0 false 8 9 3 0) = false := by decide
theorem test_wf_short_load : Instr.wf (.ld 0 true 8 9 2 64) = false := by decide
theorem test_wf_store_size : Instr.wf (.st 0 false 8 9 3 0) = false := by decide
theorem test_wf_mode : Instr.wf (.ldx 0 false 8 9 10 5 0 2) = false := by decide
theorem test_wf_short_branch : Instr.wf (.bcc 0 true 5 0) = false := by decide
theorem test_wf_short_jump : Instr.wf (.jal 0 true 2 0) = false := by decide
theorem test_wf_short_register_jump : Instr.wf (.jalr 0 true 0 8 1) = false := by decide
theorem test_wf_target : Instr.wf (.intcClaim (.core 0) 3 0) = false := by decide
theorem test_wf_member : Instr.wf (.registryOwn 3 0) = false := by decide
theorem test_wf_coherent : Instr.wf (.coherentRead .disp 0x10000000 4) = false := by decide
theorem test_wf_bus_boundary :
    Instr.wf (.busAccess { m := .core 0, write := false, fetch := false, addr := 62, size := 4, data := [], locked := false,
                           last := true, ecc := .clean } []) = false := by decide
theorem test_wf_xspi_window : Instr.wf (.dsTimeout (.core 0) 0x60000000) = false := by decide
theorem test_wf_xmc_window : Instr.wf (.xmcConfigWrite (.core 0) 0x60170000 0) = false := by decide
theorem test_wf_sequence_data : Instr.wf (.xspiSequenceComplete (List.replicate 65 0)) = false := by decide
theorem test_wf_host_channel : Instr.wf (.hostGapTimeout 3) = false := by decide
theorem test_wf_host_payload : Instr.wf (.hostNop 0 0 (List.replicate 1025 0) 0 0) = false := by decide +kernel
theorem test_wf_assigned_op : Instr.wf (.hostUnassignedOp 0 0x10 0 [] 0 0) = false := by decide
theorem test_wf_parallel_port : Instr.wf (.hostReplyRead 1 true) = false := by decide
theorem test_wf_rtc_window : Instr.wf (.rtcWindowRead (.core 0) 0x60100018) = false := by decide
theorem test_wf_pin : Instr.wf (.pinMuxWrite (.core 0) 96 0) = false := by decide
theorem test_wf_pin_port : Instr.wf (.pinSet (.core 0) 3 0) = false := by decide

/-! ### States that meet the hypotheses: the Clerk cores -/

theorem executes0 : (run0 {}).Executes 0 := ⟨⟨by decide, by decide⟩, by decide, by decide, by decide⟩
theorem executes1 : (run1 {}).Executes 1 := ⟨⟨by decide, by decide⟩, by decide, by decide, by decide⟩

/-- IntegerAluResultsAndFlags, ImmediatesChangeNoFlag, MultiplyDivideResults, SaturatingResults, AccumulatorResults,
BitFieldResults, BranchesAndJumps, ControlRegisterAccesses. -/
theorem witness_executes : (run0 {}).Executes 0 ∧ (run1 {}).Executes 1 := ⟨executes0, executes1⟩

/-- Core 0 with g1 = `a` and g2 = `b`. -/
def based (a b : Word) : State := run0 { g := [(1, a), (2, b)] }

/-- LoadsFromOwnCarrelRam, StoresToOwnCarrelRamAndTheWriteBuffer: both ends of the local alias, and LDX with a step down. -/
theorem witness_loads_and_stores :
    (based 0x08000000 0).Executes 0 ∧ (based 0x0800FFFC 0).Executes 0 ∧
    (((based 0x08000000 0).chip.core 0).src 1 + (0 : BitVec 12).signExtend 32).toNat = 0x08000000 ∧
    (((based 0x0800FFFC 0).chip.core 0).src 1 + (0 : BitVec 12).signExtend 32).toNat % 4 = 0 ∧
    (((based 0x0800FFFC 0).chip.core 0).src 1).toNat < 0x08010000 ∧
    (((based 0x08000004 4).chip.core 0).src 1 - ((based 0x08000004 4).chip.core 0).src 2).toNat = 0x08000000 :=
  ⟨⟨⟨by decide, by decide⟩, by decide, by decide, by decide⟩, ⟨⟨by decide, by decide⟩, by decide, by decide, by decide⟩,
    by decide, by decide, by decide, by decide⟩

/-- StoresToOwnCarrelRamAndTheWriteBuffer: a store that leaves the core. -/
theorem witness_StoresEnterTheWriteBuffer :
    (based 0x10000000 0).Executes 0 ∧ (((based 0x10000000 0).chip.core 0).src 1 + (0 : BitVec 12).signExtend 32).toNat % 4 = 0 ∧
    regionOf (((based 0x10000000 0).chip.core 0).src 1 + (0 : BitVec 12).signExtend 32).toNat ≠ .local ∧
    ((based 0x10000000 0).chip.core 0).wb = [] :=
  ⟨⟨⟨by decide, by decide⟩, by decide, by decide, by decide⟩, by decide, by decide, by decide⟩

theorem witness_RaisingFormsHaveNoOtherEffect :
    (3 : BitVec 3).toNat ∉ [0, 1, 2, 4, 5] ∧
    (((based 1 0).chip.core 0).src 1 + (0 : BitVec 12).signExtend 32).toNat % 4 ≠ 0 ∧
    4 < (5 : BitVec 3).toNat ∧
    (run0 { depth := 4 }).Executes 0 ∧ 4 ≤ ((run0 { depth := 4 }).chip.core 0).depth ∧
    (((based 1 0).chip.core 0).src 1).toNat % 4 ≠ 0 ∧
    (((based 0x30000000 0).chip.core 0).src 1).toNat % 4 = 0 ∧
    regionOf (((based 0x30000000 0).chip.core 0).src 1).toNat = .xspi 0 0 ∧
    ((run0 {}).chip.core 0).psw.getLsbD 11 = false ∧ (((run0 {}).chip.core 0).crw 0x60).getLsbD 0 = false :=
  ⟨by decide, by decide, by decide, ⟨⟨by decide, by decide⟩, by decide, by decide, by decide⟩, by decide, by decide, by decide,
    by decide, by decide, by decide⟩

theorem witness_ExceptionEntryStacksAndJumps :
    let s := run0 { g := [(2, 0x08000020)] }
    let t := run0 { g := [(2, 0x08010000)] }
    s.Executes 0 ∧ (((s.chip.core 0).crw 0x41).getLsbD 31 = false) ∧ ((s.chip.core 0).reg 2).toNat % 4 = 0 ∧
    0x08000020 ≤ ((s.chip.core 0).reg 2).toNat ∧ ((t.chip.core 0).reg 2).toNat ≤ 0x08010000 ∧
    ((s.chip.setMem (carrelBase 0) (List.replicate 32 0)).memW (carrelBase 0)).getLsbD 0 = false ∧
    ((s.chip.core 0).crw 0x60).getLsbD 0 = false :=
  ⟨⟨⟨by decide, by decide⟩, by decide, by decide, by decide⟩, by decide, by decide, by decide, by decide, by decide, by decide⟩

/-- Core 0 with IE set and software interrupt 0 requested, enabled and of priority 1. -/
def called : State :=
  run0 { g := [(2, 0x08000020)], psw := 0x100, swi := 1 }
    { regsOf [(A.INTC_ENk 0 0, 4)] with intc := { priv := [(2, 1)] } }

/-- InterruptEntryAndStoreBus: an acceptable level. -/
theorem witness_InterruptEntryStacksAndJumps :
    called.chip.powered = true ∧ called.chip.duties = false ∧ (called.chip.core 0).run = .running ∧
    (called.chip.core 0).stepping = false ∧ (called.chip.core 0).storeErr = [] ∧
    called.chip.admitted 0 (called.chip.core 0).psw = some 1 ∧ ((called.chip.core 0).reg 2).toNat % 4 = 0 ∧
    (called.chip.memW (carrelBase 0 + 64 * (((called.chip.core 0).crw 0x40).toNat % 1024) + 4 * (4 + 1))).getLsbD 0 = false := by
  decide +kernel

/-- InterruptEntryAndStoreBus: a held bus error. -/
theorem witness_StoreBusIsTakenAtTheBoundary :
    let s := run0 { storeErr := [0x10000000] }
    s.chip.powered = true ∧ s.chip.duties = false ∧ (s.chip.core 0).storeErr = [0x10000000] ∧ (s.chip.core 0).run = .running := by
  decide

theorem witness_ReturnRestoresTheFrame :
    let s := run0 { g := [(2, 0x08000000)], psw := 0x800 }
    let t := run0 { g := [(2, 0x0800FFE0)], psw := 0x800 }
    s.Executes 0 ∧ (s.chip.core 0).psw.getLsbD 11 = true ∧ ((s.chip.core 0).reg 2).toNat % 4 = 0 ∧
    0x08000000 ≤ ((s.chip.core 0).reg 2).toNat ∧ ((t.chip.core 0).reg 2).toNat + 32 ≤ 0x08010000 ∧ (s.chip.core 0).wb = [] ∧
    s.chip.admitted 0 (s.chip.memW (carrelBase 0 + 4) &&& 0xF1F) = none :=
  ⟨⟨⟨by decide, by decide⟩, by decide, by decide, by decide⟩, by decide, by decide, by decide, by decide, by decide, by decide⟩

theorem witness_LoopsBeginEndAndPop :
    ((based 0 0).chip.core 0).src 1 = 0 ∧ ((based 1 0).chip.core 0).src 1 ≠ 0 ∧ ((based 1 0).chip.core 0).depth < 4 ∧
    (let k : Core := { depth := 1, le := [(0, 4)], lc := [(0, 2)] }
     k.depth = 0 + 1 ∧ k.pc + word 4 = getS 0 k.le 0 ∧ 1 < (getS 0 k.lc 0).toNat ∧ k.pc + word 2 ≠ getS 0 k.le 0) ∧
    (let k : Core := { depth := 1, le := [(0, 4)], lc := [(0, 1)] }
     k.pc + word 4 = getS 0 k.le 0 ∧ (getS 0 k.lc 0).toNat ≤ 1) := by decide

theorem witness_AtomicsInOwnCarrelRam :
    let s := based 0x08000000 1
    s.Executes 0 ∧ ((s.chip.core 0).src 1).toNat % 4 = 0 ∧ 0x08000000 ≤ ((s.chip.core 0).src 1).toNat ∧
    ((s.chip.core 0).src 1).toNat < 0x08010000 ∧ s.chip.memW (carrelBase 0) = (s.chip.core 0).src 3 ∧
    s.chip.memW (carrelBase 0) ≠ (s.chip.core 0).src 2 :=
  ⟨⟨⟨by decide, by decide⟩, by decide, by decide, by decide⟩, by decide, by decide, by decide, by decide, by decide⟩

theorem witness_ControlRegisterAccesses :
    (run0 {}).Executes 0 ∧ (11 : BitVec 9).toNat = 8 + 3 ∧ (0x72 : BitVec 9).toNat ∈ [0x70, 0x72] ∧
    (((based 0x80000000 0).chip.core 0).src 1).getLsbD 31 = true := ⟨executes0, by decide, by decide, by decide⟩

theorem witness_WaitSyncAndCacheInstructions :
    ((run0 {}).chip.core 0).wb = [] ∧ (regionOf (((based 0x10000000 0).chip.core 0).src 1).toNat).cacheable = true ∧
    (regionOf (((based 0x08000000 0).chip.core 0).src 1).toNat).cacheable = false ∧
    regionOf (((based 0xFFFF 0).chip.core 0).src 1).toNat = .rom := by decide

theorem witness_ClaimDoneAndSoftwareInterrupts :
    let s := run0 { tmrZero := none } { regsOf [(A.INTC_ENk 0 0, 0xFFFFFFFF)] with
      intc := { inService := [(40, 0)], privService := [(20, 0)] } }
    s.chip.powered = true ∧ s.chip.duties = false ∧ admits 8 (Master.core 0).port = true ∧ claimant 0 (.core 0) = true ∧
    s.chip.presented 0 255 = false ∧ s.chip.intc.inService.contains (40, 0) = true ∧
    s.chip.intc.privService.contains (20, 0) = true ∧ s.chip.intc.inService.contains (41, 0) = false ∧
    (run0 { cr := [(0x50, 4), (0x53, 1)] } (regsOf [(A.INTC_ENk 0 0, 1)])).chip.presented 0 0 = true ∧
    (let c := regsOf [(A.INTC_ENk 0 3, 0x10000), (A.TIMn_STAT 0, 1), (A.TIMn_CFG 0, 0x100)]
     c.presented 0 112 = true ∧ c.bit (A.INTC_SRCn_CFG 112) 4 = false) := by decide

theorem witness_PrivateTimerAndWatchdog :
    (let s := run0 { tmrZero := some 5, cr := [(0x50, 3)] } locked
     s.chip.slow = false ∧ s.chip.powered = true ∧ s.chip.duties = false ∧ (s.chip.core 0).tmrZero = some 5 ∧ s.clock.abs ≤ 5 ∧
     ((s.chip.core 0).crw 0x50).getLsbD 1 = true) ∧
    (((({ tmrZero := some 0, cr := [(0x50, 1)] } : Core).setCrw 0x53 1).crw 0x50).getLsbD 1 = false) ∧
    (let s := run0 { cr := [(0x58, 1), (0x5A, 2), (0x5B, 3)] }
     s.chip.wdgOn 0 = true ∧ ((s.chip.core 0).crw 0x5A).toNat < ((s.chip.core 0).crw 0x5B).toNat ∧ (s.chip.core 0).crw 0x5A ≠ 0) := by
  decide

theorem witness_DebugUnitAndCoreReset :
    (let s := run0 { cr := [(0x60, 0x10)] }
     (∀ i, i < 16 → s.chip.timRunning i = false) ∧ s.chip.powered = true ∧ (s.chip.core 0).run = .running ∧ (s.chip.core 0).haltDue = some 0 ∧
     ((s.chip.core 1).crw 0x60).getLsbD 1 = false) ∧
    (let s := run0 { watchHit := true } { core1 := { run := .running, cr := [(0x60, 2)] } }
     (s.chip.core 0).haltDue = some 3 ∧ ((s.chip.core 1).crw 0x60).getLsbD 1 = true ∧ (s.chip.core 1).run = .running) ∧
    ((run0 {}).chip.core 0).haltDue = none ∧ (st { core0 := { run := .halted } }).chip.core0.run = .halted ∧
    (let s := st { regsOf [(A.SYS_CORE_CTL, 1)] with pwr := { due := { core0 := true } } }
     s.chip.powered = true ∧ s.chip.pwr.due.core0 = true ∧ (s.chip.core 0).wb = [] ∧
     (let d := s.chip.pwr.due
      let c0 : Chip := { s.chip with pwr := { s.chip.pwr with due := { d with core0 := false, reload0 := false } } }
      ((c0.wholeCacheOp s.env 0 3).wholeCacheOp s.env 0 4).bit A.SYS_CORE_CTL 0 = true)) := by
  decide

/-! ### The interconnect, registers and memory -/

theorem witness_RegisterFileAndAccessCodes :
    (regsOf [(A.SYS_CLK_CFG, 1), (A.PIN_OUTx 0, 5)]).regsWf = true ∧
    memWf (((({} : Chip).setMem 0x10000000 [1, 2]).setMem 0x08100000 [3]).mem) = true := by decide

theorem witness_RegisterAccessByAMaster :
    (st {}).chip.powered = true ∧ admits 8 (Master.host 0).port = true ∧ (regFind A.SYS_CLK_CFG).isSome = true ∧
    (regFind 0x60010000).isSome = true ∧ admits 8 Master.wave.port = false ∧ isCoreMaster .wave = false := by decide

theorem witness_BusErrorsFollowTheFirstRuleBroken :
    regionOf 0xFFFFFFFF = .unmapped ∧ regionOf 0x0800FFFF = .local ∧ (regionOf 0x60000000).target = some 8 ∧
    admits 8 Master.wave.port = false ∧ badWidth (regionOf 0x60000001) 0x60000001 4 = true ∧
    badWidth (regionOf 0x60000000) 0x60000000 4 = false ∧ (regionOf 0x10000000).target = some 1 ∧
    badWidth (regionOf 0x10000000) 0x10000000 1 = false := by decide

theorem witness_CoherentAndLocalAccesses :
    admits 1 (Master.host 0).port = true ∧ (st {}).chip.bus.waiting = [] ∧
    (let s := st { locked with bus := { lock := some { m := .core 0, target := 1, beats := 1, since := 0 } } }
     s.chip.bus.lock = some { m := .core 0, target := 1, beats := 1, since := 0 } ∧ s.chip.bus.waiting = [] ∧
     s.chip.slow = false ∧ s.clock.abs ≤ 0 + 7) := by decide

theorem witness_ExternalMemoryCommands :
    admits 8 (Master.core 0).port = true ∧ ({ ldr := { live := some charter } } : Chip).wheelLive 5 = true ∧
    ({} : Chip).wheelLive 5 = false ∧ (regFind (A.XMC_XSPI_DEVn_TIM 1)).isSome = true ∧
    ({} : Chip).bit A.XMC_XSPI_SEQ_STAT 0 = false ∧
    (let c : Chip := { bus := { seq := true } }
     c.bus.seq = true ∧ (c.rd A.XMC_XSPI_SEQ).getLsbD 14 = false ∧ c.fld A.XMC_XSPI_SEQ 10 9 ≠ 1) ∧
    (let c := regsOf [(A.XMC_XSPI_SEQ_STAT, 1), (A.XMC_XSPI_DEVn_CFG 0, 0x200)]
     c.bit A.XMC_XSPI_SEQ_STAT 0 = true ∧ c.bus.seq = false ∧ c.xspiBusy (c.fld A.XMC_XSPI_SEQ 13 13) = true ∧
     (0 : Byte).getLsbD ((c.rd (A.XMC_XSPI_DEVn_POLL 0)).toNat / 2 ^ 24 % 8) ≠ (c.rd (A.XMC_XSPI_DEVn_POLL 0)).getLsbD 28) ∧
    ({} : Chip).sdrReady = false ∧ (regsOf [(A.XMC_SDR_CTL, 1), (A.SYS_CLK_STAT, 3)]).bit A.XMC_SDR_CTL 0 = true ∧
    (regsOf [(A.XMC_SDR_CTL, 1), (A.SYS_CLK_STAT, 3)]).slow = false ∧
    (regsOf [(A.XMC_XSPI_DEVn_CFG 0, 0x101)]).busCause Master.wave false false 0x30000000 1 = none ∧
    (let c : Chip := { regsOf [(A.SYS_CLK_STAT, 1)] with pwr := { wipe := false } }
     c.pwr.boot = .inReset ∧ c.bit A.SYS_BUS_INIT 0 = false ∧ c.bit A.SYS_CLK_STAT 0 = true) := by decide

/-! ### The Metronome and structures -/

theorem witness_ClockSourceCommands :
    ({} : Chip).mode = .configure ∧ performing.mode ≠ .configure ∧ (regsOf [(A.SYS_CLK_CFG, 1)]).bit A.SYS_CLK_CFG 0 = true ∧
    locked.slow = false ∧ ({} : Chip).met.goodMeas < 3 ∧
    (regsOf [(A.SYS_CLK_CFG, 1), (A.SYS_CLK_STAT, 1)]).canHoldover = true := by decide

theorem witness_TicksAndTheCount :
    ({} : Chip).slow = true ∧
    (let c : Chip := { locked with met := { lastSample := some 0, lastBlock := some 0, lastFrame := some 0, frame0 := 1 } }
     c.slow = false ∧ c.met.lastSample = some 0 ∧ c.met.lastBlock = some 0 ∧ c.ldr.commitAt = none ∧ c.met.lastFrame = some 0 ∧
     0 < c.met.frame0 ∧ 0 % c.met.ticks.cb = 0 ∧ c.stk.closed ≠ some (0 + c.met.ticks.cb)) ∧
    (st {}).clock.abs < 2 ^ 48 ∧ (2 : Nat) ^ 48 < 2 ^ 80 := by decide

/-- LoaderAndSlotOperations: the operations on a candidate. -/
theorem witness_LoaderOperations :
    ({} : Chip).ldr.state = .empty ∧
    (let c : Chip := { ldr := { state := .admitted, cand := some charter, candSrc := 3 } }
     c.mode = .configure ∧ c.timingCode (st {}).env charter = none) ∧
    (let c : Chip := { performing with ldr := { state := .admitted, cand := some charter, live := some charter } }
     c.mode = .perform ∧ c.ldr.cand = some charter ∧ c.ldr.live = some charter ∧ c.timingCode (st {}).env charter = none) ∧
    (let p : Plan := { s := 4, x := 0, hard := false, atAbs := 0, begun := false }
     let c : Chip := { performing with ldr := { state := .planned, plan := some p } }
     c.ldr.plan = some p ∧ 4 ≤ ahead p.s.toNat (c.block (st {}).env) ∧ ahead p.s.toNat (c.block (st {}).env) < 2 ^ 31) ∧
    ({ ldr := { job := some (2, 0x10000000) } } : Chip).ldr.job = some (2, 0x10000000) ∧
    ({ ldr := { state := .armed } } : Chip).ldr.state = .armed ∧ ({ ldr := { state := .verifying } } : Chip).ldr.state ≠ .empty := by
  decide

/-- LoaderAndSlotOperations: the NVM slots. -/
theorem witness_SlotProgrammingAndErasing :
    ({} : Chip).mode = .configure ∧ ({} : Chip).slotRefused 0 = false ∧ ({} : Chip).slotRefused 1 = false ∧
    ({} : Chip).slotRefused 2 = true ∧
    ({ ldr := { nvm := some { erase := true, slot := 0, data := [] } } } : Chip).ldr.nvm = some { erase := true, slot := 0, data := [] } ∧
    memWf ({} : Chip).mem = true := by decide

theorem witness_StructureChangesHappenAtTheirTicks :
    ({} : Chip).slow = true ∧
    (let c : Chip := { locked with met := { lastBlock := some 0 }, ldr := { commitAt := some (0, charter, 1) } }
     c.slow = false ∧ c.ldr.commitAt = some (0, charter, 1) ∧ c.met.lastBlock = some 0) ∧
    (let p : Plan := { s := 4, x := 0, hard := true, atAbs := 3 * locked.met.ticks.cb, begun := false }
     let c : Chip := { locked with ldr := { state := .armed, plan := some p } }
     c.ldr.plan = some p ∧ c.ldr.ramp = none ∧ c.ldr.swapAt = none ∧ 3 * c.met.ticks.cb ≤ p.atAbs) ∧
    ({ locked with ldr := { state := .xfade, plan := some { s := 0, x := 2, hard := false, atAbs := 0, begun := true } } } : Chip).ldr.state
      = .xfade := by decide

theorem witness_CoupledGroupsStageArmAndApply :
    groupOf (A.TIMn_RELOAD 0) ≠ none ∧ ((groupOf (A.TIMn_RELOAD 0)).getD []).getLast? = some (A.TIMn_RELOAD 0) ∧
    ((groupOf (A.TIMn_PRESC 0)).getD []).getLast? ≠ some (A.TIMn_PRESC 0) ∧ groupOf (A.TIMn_PRESC 0) ≠ none ∧
    locked.pendingGroup 0x70000000 = none ∧ timerGroup 0x70000000 = false ∧
    (let c : Chip := { locked with met := { lastBlock := some 0 }, armed := [(0x70000000, 5, [])] }
     c.pendingGroup 0x70000000 = some (5, []) ∧ 0 ≤ 5 ∧ 5 < 0 + (c.met.ticks.cb - 0 % c.met.ticks.cb)) ∧
    absentVoice State.reset.fuses 0x70000010 = false ∧ (regFind 0x70000010).isSome = true := by decide

/-! ### Queues and voices -/

theorem witness_PushesStageAndCommit :
    admits 8 (Master.core 0).port = true ∧ (({} : Chip).qe 20).depth ≠ 0 ∧ (({} : Chip).qe 20).producer = 0 ∧
    (({} : Chip).qe 63).depth = 0 ∧ (({} : Chip).qe 0).producer ≠ 0 := by decide

/-- Queue 20 with a record in its skid buffer. -/
def skidding : Chip := { que := { skid := [{ queue := 20, r := rec0, byMaster := true, since := 0 }] } }

theorem witness_QueuePortsAcceptInOrder :
    ({} : Chip).nextSkid 20 = none ∧
    skidding.nextSkid 20 = some ({ queue := 20, r := rec0, byMaster := true, since := 0 }, []) ∧ skidding.holding 20 = false ∧
    (let c : Chip := { skidding with que := {
       skidding.que with map := [(20, { policy := 0, producer := 0, consumer := 0, base := 0, depth := 4, wmLo := 1, wmHi := 3 })] } }
     c.nextSkid 20 = some ({ queue := 20, r := rec0, byMaster := true, since := 0 }, []) ∧ (c.qe 20).policy ≠ 2 ∧
     c.qFill 20 + 4 ≤ (c.qe 20).depth) := by decide

theorem witness_PopsTakeTheOldestRecord :
    (({} : Chip).qe 63).depth = 0 ∧ (({} : Chip).qe 20).consumer = 0 ∧ ({} : Chip).qItems 20 = [] ∧
    ({ que := { items := [(20, [item0])] } } : Chip).qItems 20 = item0 :: [] ∧
    (let c : Chip := { skidding with que := {
       skidding.que with
       map := [(20, { policy := 3, producer := 0, consumer := 0, base := 0, depth := 1, wmLo := 0, wmHi := 0 })]
       items := [(20, [item0])] } }
     (c.heldCommit 20).isSome = true ∧ (regsOf [(A.SYS_CLK_STAT, 3)] c).slow = false ∧
     ((regsOf [(A.SYS_CLK_STAT, 3)] c).heldCommit 20).isSome = true) := by decide

/-- VoiceCommandsAndEnds: plain writes. -/
theorem witness_VoiceCommandsWaitForTheIntake :
    absentVoice State.reset.fuses 0x70000000 = false ∧ (regFind 0x70000000).isSome = true ∧ groupOf 0x70000000 = none := by decide

/-- VoiceCommandsAndEnds: ends of segments, waves and chimes. -/
theorem witness_EnvelopesWavesAndChimesEnd :
    (({} : Chip).voice 0).st = .idle ∧
    (let c : Chip := { stk := { v := [(0, { st := .playing, e2 := { mode := .run } })] } }
     (c.voice 0).st = .playing ∧ (c.voice 0).e2.mode = .run ∧ (c.vReg 0 (c.voice 0) 0x18).toNat / 16 % 4 = 0 ∧ (c.vEntry 0).kind ≠ 5) ∧
    (let c : Chip := { regsOf [(A.CHMn_ENV 0, 0x00010105), (A.SYS_CLK_STAT, 3)] with
       met := { lastBlock := some 0 }
       stk := { chimes := [(0, { on := true })] } }
     c.slow = false ∧ c.ldr.commitAt = none ∧ c.met.lastBlock = some 0 ∧ (c.chime 0).on = true ∧
     (c.rd (A.CHMn_ENV 0)).toNat / 256 % 256 = 1 ∧ (c.rd (A.CHMn_ENV 0)).toNat / 65536 = 1 ∧ (c.chime 0).blocks + 1 = 1 ∧
     (c.chime 0).volAt < 0 + (c.met.ticks.cb - 0 % c.met.ticks.cb) ∧ (c.chime 0).lenAt < c.met.ticks.cb) := by decide

/-! ### Ports, MIDI, USB and the display -/

/-- A clock slave port of two slots. -/
def slavePort : SapEntry :=
  { mode := 1, master := false, outEn := true, inEn := true, slots := 2, width := 24, outBase := 0, inBase := 0 }

theorem witness_AudioPortsKeysAndConverter :
    (let c : Chip := { regsOf [(A.PINp_MUX 32, 1), (A.PINp_MUX 33, 1)] with aud := { saps := [slavePort] } }
     c.sapClocked 0 = true ∧ c.aud.frameAt ≤ 0 ∧ (c.sapEntry 0).mode ≠ 0 ∧ (c.sapEntry 0).master = false ∧ (c.sap 0).locked = false ∧ (c.sap 0).good < 64 ∧ c.framing = true ∧
     ((c.setFld (A.SAPn_PHASE 0) 25 16 5).sap 0 = c.sap 0)) ∧
    (let c : Chip := { locked with aud := { saps := [slavePort], sap := [(0, { good := 64 })] } }
     (c.sap 0).locked = false ∧ (c.sap 0).good = 64) ∧
    (let c : Chip := { locked with
       aud := { saps := [slavePort], sap := [(0, { locked := true })], spdifEn := true }
       met := { lastSample := some 0 }
       key := { lastScan := some 0 }
       adc := { last := some 0, cycle := [1], chans := [(1, { n := 1 })] } }
     c.slow = false ∧ (c.sap 0).locked = true ∧ 0 ≤ (c.sap 0).lastFrame + 2 * c.met.ticks.cs ∧ c.aud.spdifEn = true ∧
     c.aud.spdifAt = none ∧ c.met.lastSample = some 0 ∧ c.key.lastScan = some 0 ∧ c.adc.last = some 0 ∧ c.adc.cycle = [1] ∧
     c.pwr.sub = .none ∧ (c.adcChan 1).n ≠ 0 ∧ (c.adcChan 1).n + 1 < 2 ^ 2) ∧
    ((regsOf [(A.ADCn_CFG 1, 2)]).adcOs 1 = 2) ∧
    (let x : KeyRec := { stamp := 0, contact := 3, formed := 0, r := { rec0 with source := 0xE0 } }
     let c : Chip := { key := { contacts := [(16, { lock := some 4 })], buf := [x] } }
     (c.contact 16).lock = some 4 ∧ c.key.buf = [x] ∧ x.formed ≤ 0 ∧ c.skidRoom x.r.source x.r.kind = true) ∧
    (regsOf [(A.KEY_CFG, 0x80000000)]).bit A.KEY_CFG 31 = true ∧ (regsOf [(A.ADCn_CFG 0, 0x80000000)]).bit (A.ADCn_CFG 0) 31 = true ∧
    (let c : Chip := { regsOf [(A.KEY_CFG, 0x80000000)] with pwr := { sub := .doze } }
     c.pwr.sub = .doze ∧ c.bit A.KEY_CFG 31 = true ∧ c.key.sleep = []) := by decide

theorem witness_MidiMessagesAndPorts :
    dataLen 0x90 = 2 ∧ dataLen 0xEF = 2 ∧ dataLen 0xC0 = 1 ∧ dataLen 0xDF = 1 ∧ ({} : MidiIn).sysex = none ∧
    (let c : Chip := regsOf [(A.MID_INn_CFG 0, 0x80000000), (A.PINp_MUX 0, 1)]
     c.midiListens 0 = true ∧ c.met.stopped = false) ∧
    ({} : Chip).midiListens 0 = false ∧
    (let c : Chip := regsOf [(A.MID_INn_STAT 0, 1)] locked
     c.slow = false ∧ c.bit (A.MID_INn_STAT 0) 0 = true ∧ c.bit (A.MID_INn_CFG 0) 1 = false) ∧
    (let c : Chip := { regsOf [(A.MID_OUTn_CFG 0, 0x80000002)] with que := { items := [(14, [item0])] } }
     c.moutOn 0 = true ∧ (c.mout 0).msg = [] ∧ (c.mout 0).slot = none ∧ c.consumerQueue 0x14 = some 14 ∧ c.qItems 14 = item0 :: [] ∧
     c.bit (A.MID_OUTn_CFG 0) 2 = false ∧ c.bit (A.MID_OUTn_CFG 0) 1 = true ∧ (c.popRec 14).isSome = true) ∧
    (let c : Chip := { regsOf [(A.MID_OUTn_CFG 0, 0x80000004)] with que := { items := [(14, [item0])] } }
     c.moutOn 0 = true ∧ c.bit (A.MID_OUTn_CFG 0) 2 = true ∧ absOf item0.r.time 0 = 0) ∧
    outBytes { rec0 with kind := 0x20 } = none ∧
    (let c : Chip := { regsOf [(A.MID_OUTn_CFG 0, 0x80000000)] with midiOut := [(0, { slot := some ([0xF8], 0) })] }
     c.moutOn 0 = true ∧ (c.mout 0).msg = [] ∧ (c.mout 0).slot = some ([0xF8], 0) ∧
     (c.gridAt (c.gridFrom (max (c.mout 0).freeAt (max 0 0))) - 0) * bitDen ≤ c.fld (A.MID_OUTn_CFG 0) 23 16 * c.bitNum) := by decide

/-- The USB device in configuration 1 at high speed, with its alternates in bits 7 to 2 and a word for USB_CFG. -/
def onUsb (alts cfg : Word) (u : Usb := {}) : Chip :=
  { regsOf [(A.USB_STAT, 0x20100 ||| alts), (A.USB_CFG, cfg)] locked with usb := { u with pullup := true, outCh := 2, inCh := 2 } }

/-- The boot ROM's DFU device, configured. -/
def onDfu (data : List Byte) : Chip := { onUsb 0 0 { dfuData := data } with pwr := { boot := .waitDfu } }

theorem witness_UsbDeviceCommands :
    (st (onUsb 0 0)).chip.usbUp = true ∧ (onUsb 0 0).dfuMode = false ∧ (onUsb 0 0).usb.pullup = true ∧
    (onUsb 0 0).bit A.USB_STAT 1 = false ∧ (onUsb 2 0).bit A.USB_STAT 1 = true ∧ (onUsb 2 0).pwr.sub = .none ∧
    (onUsb 0 0x40000000).bit A.USB_CFG 30 = true ∧ (onUsb 0 0).usbConfig ≠ 0 ∧ ({} : Chip).usbConfig = 0 ∧
    2 ≤ (onUsb 0 0).maxAlt 2 ∧ (onUsb 0 0).maxAlt 4 < 2 ∧ (onUsb 0 0).usb.outRing.length + 1 ≤ 256 ∧
    (onUsb 4 0).outAlt = 1 ∧ (onUsb 4 0).usbHigh = true ∧ (onUsb 0x10 0).inAlt ≠ 0 ∧ (onUsb 0 0).msAlt = 0 ∧ (onUsb 0x40 0).msAlt = 1 ∧
    (onUsb 0x40 0).bit A.USB_CFG 28 = false ∧ (onUsb 0 0).usb.held.length < 1024 ∧ 8 ≤ bits (0x80 : Word) 7 4 ∧
    ({ locked with usb := { reconnect := some 5 } } : Chip).usb.reconnect = some 5 ∧
    ({ locked with usb := { reconnect := some 5 } } : Chip).slow = false ∧
    (let c : Chip := { onUsb 0x40 0 with que := { items := [(18, [{ item0 with r := { rec0 with kind := 0x0A } }])] } }
     c.consumerQueue 0x1A = some 18 ∧ (c.popRec 18).map (·.1.r.kind) = some 0x0A) ∧
    (onDfu []).dfuOn = true ∧ (onDfu []).usb.dfuAlt = 0 ∧ imageCode State.reset.fuses [] ≠ 0 := by decide

/-- An image of four bytes at 1000 0000H that starts there. -/
def image : List Byte :=
  [0x4C, 0x4B, 0x46, 0x57] ++ leBytes 4 0 ++ leBytes 4 0x10000000 ++ leBytes 4 4 ++ leBytes 4 0x10000000 ++
    leBytes 4 (crc32 [1, 2, 3, 4]).toNat ++ leBytes 8 0 ++ [1, 2, 3, 4]

/-- UsbDeviceCommands: an image that the boot ROM accepts. -/
theorem witness_dfu_image : imageCode State.reset.fuses image = 0 ∧ (onDfu image).dfuOn = true := by decide +kernel

/-- A chip whose clocks run and whose display has the section given. -/
def showing (d : DisplaySec) (x : Disp := {}) : Chip :=
  { locked with disp := { x with sec := some d }, met := { locked.met with lastFrame := some 0 } }

theorem witness_DisplayControllerCommands :
    (let c := showing { panel with mode := 1 }
     c.slow = false ∧ c.dkind = 1 ∧ 0 < c.vTotal ∧ 0 < c.frameCounts ∧ c.met.frame0 ≤ 0 ∧ c.disp.row = [] ∧ c.disp.current.2 = [] ∧
     c.disp.scan = false ∧ c.bit A.DISP_CTL 0 = false ∧ c.scrBusy = false) ∧
    (let c := showing { panel with kind := 2 } { waitTe := some [(0, 0, 1, 1)] }
     c.disp.waitTe = some [(0, 0, 1, 1)] ∧ c.dirtyMap = true ∧ c.bit A.DISP_STAT 6 = false ∧ c.disp.fifo = []) ∧
    (let p : Push := { start := 0, finish := 100 }
     let b : DispByte := { dc := false, nibble := false, byte := 0 }
     let c := showing { panel with kind := 2 } { push := some p, fifo := List.replicate 16 b }
     c.slow = false ∧ c.disp.push = some p ∧ 0 ≤ p.finish ∧ c.disp.fifo.length = 16) ∧
    ({} : Chip).disp.push = none ∧ ({} : Chip).disp.fifo.length < 16 := by decide

/-! ### The Scriptorium -/

/-- The engine busy with a register command of the words given. -/
def drawing (l : List Word) : Chip :=
  regsOf ((A.SCR_STAT, 1) :: (List.range l.length).map fun i => (A.SCR_CMDw i, l.getD i 0)) locked

theorem witness_ScriptoriumRunsItsCommands :
    ({} : Chip).bit A.SCR_STAT 0 = false ∧ (drawing []).bit A.SCR_STAT 0 = true ∧ (drawing []).bit A.SCR_STAT 1 = false ∧
    (drawing []).scr.list = false ∧ (regsOf [(A.SCR_STAT, 3)]).bit A.SCR_STAT 1 = true ∧
    (let k := fun (o : Nat) (c : Chip) => ({ w := (List.range 8).map fun i => c.rd (A.SCR_CMDw i) } : ScrCmd).op = o
     k 0 (drawing [0]) ∧ k 0x13 (drawing [0x13000000]) ∧ k 1 (drawing [0x01000000]) ∧ k 0x0F (drawing [0x0F000000]) ∧
     k 0x10 (drawing [0x10000000]) ∧ k 0x12 (drawing [0x12000000]) ∧ k 0x14 (drawing [0x14000000]) ∧
     k 0x11 (drawing [0x11000000]) ∧ k 0x11 (drawing [0x11009000])) ∧
    0x14 ∉ scrOps ∧ (drawing []).disp.push = none ∧ (drawing []).scr.fence = none ∧ (drawing []).dkind = 0 ∧
    (let c : Chip := { drawing [0x11009000] with disp := { sec := some { panel with mode := 1 } } }
     let k : ScrCmd := { w := (List.range 8).map fun i => c.rd (A.SCR_CMDw i) }
     c.dkind = 1 ∧ k.low % 2048 < c.vTotal ∧ k.low / 4096 % 4 = 1 ∧ (k.word 0).getLsbD 15 = true) ∧
    (let f : Fence := { line := 0, frame := 0 }
     let c : Chip := { showing { panel with mode := 1 } with scr := { fence := some f } }
     let ahead := (f.frame + 2 ^ 32 - c.frameIndex (st {}).env % 2 ^ 32) % 2 ^ 32
     c.slow = false ∧ c.scr.fence = some f ∧ c.dkind = 1 ∧ c.bit A.SCR_STAT 1 = false ∧ ahead < 2 ^ 31 ∧
     0 ≤ c.lineCount (c.frameStart 0 + ahead * c.frameCounts) f.line) := by decide

/-- FILL of one byte, the only pixel of a target of one pixel. -/
def oneByte : ScrCmd := { w := [0x010000AB, 0, 0x00010001, 0, 0, 0, 0, 0] }

/-- Its chip: a target of 8 bits per pixel at 1000 0000H. -/
def onePixel : Chip := regsOf [(A.SCR_TGT_ADDR, 0x10000000), (A.SCR_TGT_FMT, 0x00010100), (A.SCR_TGT_SIZE, 0x00010001)]

theorem witness_FillWritesItsRectangle :
    memWf onePixel.mem = true ∧ oneByte.op = 1 ∧ onePixel.scrBreach oneByte = none ∧ onePixel.scrTarget.code = 1 ∧
    onePixel.scrTarget.tiled = false ∧
    ∀ x y, onePixel.scrAllows oneByte.clip x y = true → onePixel.scrCheck true (onePixel.scrTarget.at x y) 1 = none := by
  refine ⟨by decide, by decide, by decide, by decide, by decide, fun x y h => ?_⟩
  simp only [Chip.scrAllows, Bool.and_eq_true, decide_eq_true_eq] at h
  obtain ⟨⟨h0, h1, h2, h3⟩, -⟩ := h
  have e1 : bits (onePixel.rd A.SCR_TGT_SIZE) 15 0 = 1 := by decide
  have e2 : bits (onePixel.rd A.SCR_TGT_SIZE) 31 16 = 1 := by decide
  rw [e1] at h1
  rw [e2] at h3
  obtain rfl : x = 0 := by omega
  obtain rfl : y = 0 := by omega
  decide

/-! ### DMA, caches and the host port -/

/-- Channel 0 about to execute the words at 1000 0000H. -/
def program (ws : List Word) (k : DmaChan := {}) : Chip :=
  ({ regsOf [(A.CHn_CFG 0, 0x80000000), (A.CHn_STAT 0, 0x20000000), (A.CHn_PC 0, 0x10000000)] locked with
     dma := { chans := putS {} [] 0 k } } : Chip).setMem 0x10000000 (ws.flatMap fun w => leBytes 4 w.toNat)

/-- Its fetch of them. -/
def fetched (c : Chip) : Fetched := (chFetch 0 0x10000000 (st c).env c).1

theorem witness_DmaChannelControl :
    ({} : Chip).chActive 0 = false ∧ (program []).chActive 0 = true ∧ (program []).chProgram 0 = true ∧
    (let c := regsOf [(A.CHn_COUNT 0, 4)]
     c.chProgram 0 = false ∧ bits (c.rd (A.CHn_CFG 0)) 13 12 ≠ 3 ∧ bits (c.rd (A.CHn_CFG 0)) 17 16 ≠ 3 ∧
     (c.rd (A.CHn_COUNT 0)).toNat ≠ 0 ∧ c.dma.chans = []) ∧
    (let c : Chip := { regsOf [(A.CHn_STAT 0, 0x40000000), (A.SYS_CLK_STAT, 3)] with dma := { chans := [(0, { wait := some (.block 9) })] } }
     c.slow = false ∧ c.met.gap.2 ≤ 9 ∧ c.chState 0 = 2 ∧ (c.ch 0).wait = some (.block 9)) ∧
    (let c : Chip := { regsOf [(A.CHn_STAT 0, 0x20000000)] with
       dma := { chans := [(0, { x := some { src := 0, dst := 0x10000000, smode := 0, dmode := 0, width := 4, buf := [1, 2, 3, 4] } })] } }
     c.chNextAccess 0 = some (true, 0x10000000, 4) ∧ c.busCause (.dma 0) true false 0x10000000 4 = none ∧
     (let z : Chip := { c with dma := { chans := [(0, { x := some { src := 0xF0000000, dst := 0, smode := 0, dmode := 0, width := 4 } })] } }
      z.chNextAccess 0 = some (false, 0xF0000000, 4) ∧ (z.busCause (.dma 0) false false 0xF0000000 4).isSome = true) ∧
     c.chProgram 0 = false ∧ c.chState 0 = 1) ∧
    (let c : Chip := { regsOf [(A.CHn_STAT 0, 0x60000000), (A.SYS_CLK_STAT, 3)] with dma := { chans := [(0, { backoff := 9 })] } }
     c.slow = false ∧ c.chState 0 = 3 ∧ (c.ch 0).backoff = 9 ∧ (c.ch 0).x = none) ∧
    (program [0x00000001]).chReady 0 = true ∧ fetched (program [0x00000001]) = .words [1] ∧ insValid 1 0 = false := by
  decide

/-- Every instruction of a channel's program, as its first word and what follows. -/
theorem witness_DmaProgramInstructions :
    (∀ ws ∈ ([[0], [0x10000004], [0x30000002], [0x40000000], [0x50000001], [0x50800001], [0x51000000, 5], [0x52000001], [0x53000000],
        [0x54000014], [0x55000003], [0x60000007], [0x64140007], [0x68000003]] : List (List Word)),
      (program ws).chReady 0 = true ∧ insValid (ws.headD 0) (ws.getD 1 0) = true) ∧
    (let c := program [0x40000000] { loops := [(0x10000004, 2, false)] }
     (c.ch 0).loops = (0x10000004, 2, false) :: []) ∧
    isFuture 5 ((program []).block (st {}).env) = true ∧ bits (0x50800001 : Word) 8 0 < (program []).met.ticks.f ∧
    ({ program [] with disp := { sec := some { panel with mode := 1 } } } : Chip).dkind = 1 ∧
    ((program []).qe 20).depth ≠ 0 ∧ ((program []).qe 20).producer = 0 ∧ ((program []).qe 0).producer ≠ 0 ∧
    (program []).qItems 20 = [] ∧ (program []).dma.chans = [] ∧ (program []).bit A.DMA_EVT 3 = false ∧
    (program []).holding 20 = false := by decide +kernel

/-- DmaProgramInstructions: fetches of the longer instructions. -/
theorem witness_dma_fetches :
    fetched (program [0x1C000004, 0x10000100, 0x10000200]) = .words [0x1C000004, 0x10000100, 0x10000200] ∧
    fetched (program [0x64140007]) = .words [0x64140007] ∧
    fetched (program [0x70000000, 0x10000100, 7]) = .words [0x70000000, 0x10000100, 7] := by decide +kernel

/-- A register copy of four bytes. -/
def copying : Chip :=
  { regsOf [(A.CHn_COUNT 0, 4), (A.CHn_SRC 0, 0x10000000), (A.CHn_DST 0, 0x10000004), (A.CHn_STAT 0, 0x20000000)] with
    dma := { chans := [(0, { x := some { src := 0x10000000, dst := 0x10000004, smode := 0, dmode := 0, width := 4 } })] } }

theorem witness_DmaCopyMovesItsBytes :
    memWf copying.mem = true ∧ copying.regsWf = true ∧ copying.chState 0 = 1 ∧ copying.chProgram 0 = false ∧ copying.chCoh 0 = false ∧
    copying.bit (A.CHn_CFG 0) 29 = false ∧ copying.bit (A.CHn_STREAM 0) 31 = false ∧
    (0x10000000 + 4 ≤ 0x10000004 ∧ (0x10000004 + 4 ≤ 0x10200000)) := by decide

/-- A wave cache that holds line 0800 0000H in state M at its way 0. -/
def cached : Chip := { locked with caches := { w := [(0, { st := .m, line := 0x800000, data := List.replicate 32 7, tenure := 5 })] } }

theorem witness_RegistryAndCacheCommands :
    ({} : Chip).isRetiring 5 = false ∧ ({} : Chip).tenureBlocks (st {}).env 0 5 .own = false ∧
    cached.findLine 2 0x800000 = some 0 ∧ (cached.way 2 0).st = .m ∧ cached.isRetiring 0x800000 = false ∧
    cached.tenureBlocks (st {}).env 0 0x800000 .own = true ∧
    ({ caches := { retiring := [{ line := 5, data := [], mask := 0 }] } } : Chip).isRetiring 5 = true ∧
    cached.slow = false ∧ cached.caches.waits = [] ∧ (∀ y, y < 3 → y ≠ 2 → cached.findLine y 0x800000 = none) ∧ (cached.way 2 0).tenure ≠ 0 ∧
    (let c : Chip := { regsOf [(A.REGY_COREn_CFG 0, 3)] with
       core0 := { wb := [{ line := true, addr := 0x10000000, bytes := [(0x10000000, 1)] }] } }
     c.dcOn 0 = true ∧ c.busCause (.core 0) true false 0x10000000 1 = none ∧ c.rd (A.REGY_COREn_CFG 0) = 3) ∧
    ({ caches := { op0 := 4 } } : Chip).caches.op0 = 4 ∧ ({} : Chip).rd (A.REGY_COREn_CFG 0) = 0 ∧
    wfFrom (fun _ => ({} : CLine)) 0 ({ cached.caches with wop := 2 } : Caches).w = true := by decide

theorem witness_OwnershipIsExclusive :
    (∀ y, y < 3 → wfFrom (fun _ => ({} : CLine)) 0 (cached.cache y) = true) := by decide

/-- OwnershipIsExclusive: no line in two ways. -/
theorem witness_one_way_per_line : ∀ y i j, y < 3 → (({} : Chip).way y i).st ≠ .i → (({} : Chip).way y j).st ≠ .i → i = j := by
  intro y i j hy h
  have h0 : (({} : Chip).way y i).st = .i := by
    match y, hy with
    | 0, _ => rfl
    | 1, _ => rfl
    | 2, _ => rfl
  exact absurd h0 h

/-- Channel 0 of the host port listening. -/
def listening (h : HostChan := {}) : Chip :=
  { regsOf ((A.HOST_CFG, 0x00040001) :: (List.range 11).map fun i => (A.PINp_MUX (64 + i), 1)) locked with
    pwr := { boot := .handedOver }
    host := { chans := putS {} [] 0 h } }

theorem witness_HostRequestsAndReplies :
    (st (listening)).chip.powered = true ∧ (listening).hostListens 0 = true ∧ (listening).pwr.sub = .none ∧
    wfFrom (fun _ => ({} : HostChan)) 0 (listening).host.chans = true ∧
    ((listening).hc 0).pending = none ∧ ((listening).hc 0).cache = [] ∧ ((listening).hc 0).current = .none ∧
    (listening).modeAllowed 0 = true ∧ (listening).modeAllowed 1 = false ∧
    hostRunCode { listening with pwr := { boot := .waitHost } } 0x10000000 = 0 ∧
    charterFields [5, 0, 0, 0, 0, 0, 0, 0, 0, 0, 0, 0] = true ∧ charterFields [] = false ∧
    (listening).route 0x38 0x38 = some 12 ∧ (listening).noRoom 12 = false ∧
    ({ listening with que := { map := [] } } : Chip).route 0x38 0x38 = none ∧
    (listening).fld A.HOST_CFG 31 16 ≠ 0 := by decide +kernel

/-- HostRequestsAndReplies: replies and pending requests. -/
theorem witness_host_replies :
    (let r : HostReply := { tag := 1, code := 0, payload := [], errf := false }
     let x : HostEntry := { tag := 1, crc := 2, reply := some r }
     let p : HostPending := { op := 0x90, tag := 1, what := .software, since := 0 }
     ((listening { cache := [x] }).hc 0).cache.find? (fun y => y.tag = 1) = some x ∧ x.reply = some r ∧
     ((listening { pending := some p }).hc 0).pending = some p ∧
     ((listening { current := .ready r 1 0 }).hc 0).current = .ready r (0 + 1) 0 ∧ 0 + 1 < (r.bytes 0).length) ∧
    (let r : Rec := { rec0 with kind := 0x38, valueA := 0, valueB := 1 }
     let c : Chip := { listening with que := { items := [(13, [{ item0 with r := r }])] } }
     (List.range 64).find? (fun q => (c.qe q).depth ≠ 0 && (c.qe q).consumer == 0xE2) = some 13 ∧ (c.popRec 13).isSome = true) := by
  decide +kernel

/-! ### Timers, modes, resets, the Ledger, faults and pins -/

/-- A device in VAULT. -/
def vaulted : Chip := { mode := .vault, pwr := { boot := .handedOver, pwrEn := false } }

theorem witness_TimersClockAndRandomNumbers :
    ({} : Chip).timRunning 0 = false ∧ ({} : Chip).pendingGroup (A.TIMn_RELOAD 0) = none ∧ ({} : Chip).rtc.freeze = none ∧
    ({ rtc := { freeze := some ([], 2) } } : Chip).rtc.freeze = some ([], 2) ∧ ({ rng := { out := [7] } } : Chip).rng.out = 7 :: [] ∧
    (regsOf [(A.RNG_CTL, 1)]).bit A.RNG_CTL 0 = true ∧
    (let c := regsOf [(A.TIMn_STAT 0, 2), (A.TIMn_COUNT 0, 3)] locked
     let x := c.tim 0
     c.timRunning 0 = true ∧ c.timRate 0 = .fast ∧ x.pre = 0 ∧ 0 ≤ x.asOf + (c.rd (A.TIMn_COUNT 0)).toNat * 2 ^ c.timShift 0 ∧
     x.asOf < x.asOf + (c.rd (A.TIMn_COUNT 0)).toNat * 2 ^ c.timShift 0 ∧ c.bit (A.TIMn_CFG 0) 0 = false) ∧
    (regsOf [(A.RNG_CTL, 1), (A.RNG_STAT, 1)]).rngReady = true ∧ ({} : Chip).rngSince < 1000 ∧
    (vaulted.mode = .vault ∧ vaulted.pwr.boot ≠ .noSupply ∧ vaulted.duties = false ∧ vaulted.rtc.writes = []) ∧
    (let c : Chip := { regsOf [(A.RTC_CTL, 0), (A.RTC_ALMn_LO 0, 6), (A.RTC_ALMn_HI 0, 0x80000000)] with
       mode := .vault
       rtc := { secs := 5, frac := 0xFFFFFFFFFF } }
     c.rtcHalt = false ∧ c.almDue 0 = true ∧ c.almDue 1 = false ∧ c.regsWf = true) ∧
    (let c : Chip := { rtc := { writes := [(A.RTC_TRIM, 0, 1)] } }
     c.rtcHalt = true ∧ c.rtc.freeze = none ∧ c.rtc.writes = [(A.RTC_TRIM, 0, 1)] ∧ c.rtcWriteDue = true) := by decide

theorem witness_ModeRequestsAndTheRampToConfigure :
    performing.mode = .perform ∧ performing.pwr.ramp = none ∧ ({} : Chip).mode = .configure ∧ ({ mode := .hush } : Chip).mode = .hush ∧
    ({ performing with pwr := { ramp := some 9 } } : Chip).slow = false := by decide

theorem witness_SleepEndsAndVaultBeginsAndEnds :
    (let c : Chip := { mode := .hush, pwr := { sub := .doze, waking := true } }
     c.powered = true ∧ c.pwr.sub ≠ .none ∧ c.wakeCause (st {}).env = true ∧ c.pwr.waking = true) ∧
    (let c : Chip := { pwr := { toVault := true } }
     c.powered = true ∧ c.mode = .configure ∧ c.ldr.nvm = none ∧ c.pwr.prog = none) ∧
    (let c : Chip := { vaulted with regs := (regsOf [(A.SYS_VAULT_CFG, 0x13)]).regs }
     c.mode = .vault ∧ c.bit A.SYS_VAULT_CFG 0 = true ∧ c.bit A.SYS_VAULT_CFG 1 = true ∧ c.bit A.SYS_VAULT_CFG 4 = true ∧
     c.bit A.SYS_VAULT_CFG 5 = false) ∧
    ({ vaulted with pwr := { vaulted.pwr with pwrEn := true } } : Chip).pwr.pwrEn = true ∧ vaulted.regsWf = true := by decide

theorem witness_ResetsStartTheDeviceAnew :
    ({} : Chip).pwr.boot ≠ .noSupply ∧ ({} : Chip).mode ≠ .vault ∧ ({} : Chip).regsWf = true ∧ ({} : Chip).ldg.snap = none ∧
    (st {}).Quiet ∧ admits 8 (Master.host 0).port = true ∧ ({ pwr := { boot := .noSupply } } : Chip).powered = false :=
  ⟨by decide, by decide, by decide, by decide, ⟨by decide, by decide⟩, by decide, by decide⟩

theorem witness_ResetSequenceAndNvmProgrammer :
    (st {}).chip.powered = true ∧ (st {}).Quiet ∧ ({} : Chip).pwr.boot = .inReset ∧ ({} : Chip).regsWf = true ∧
    (regsOf [(A.SYS_CORE_CTL, 3)]).bit A.SYS_CORE_CTL 1 = true ∧ ({} : Chip).bit A.SYS_CORE_CTL 1 = false ∧
    ((({} : Chip).writeCoded A.SYS_CORE_CTL (setBitTo (({} : Chip).rd A.SYS_CORE_CTL) 1 true)).core1.run = .held) ∧
    ({} : Chip).pwr.prog = none ∧ ({ pwr := { prog := some { op := 2, word := 3, data := [1] } } } : Chip).pwr.prog.isSome = true :=
  ⟨by decide, ⟨by decide, by decide⟩, by decide, by decide, by decide, by decide, by decide, by decide, by decide⟩

theorem witness_LedgerMeasuresSamplesAndResets :
    (let c : Chip := { ldg := { core := { base0 := some (100, -128) }, measure := (true, true), sample := some 3 } }
     c.ldg.measure = (true, true) ∧ c.mode ≠ .vault ∧ c.pwr.sub ≠ .drowse ∧ c.ldg.core.base0 = some (100, -128) ∧
     c.ldg.core.base1 = none ∧ c.ldg.sample = some 3 ∧
     (-128 ≤ (BitVec.ofNat 16 (c.rd A.RTC_TEMP).toNat).toInt - -128 ∧ (BitVec.ofNat 16 (c.rd A.RTC_TEMP).toNat).toInt - -128 ≤ 128)) ∧
    (128 : Int) < (BitVec.ofNat 16 (({} : Chip).rd A.RTC_TEMP).toNat).toInt - -129 ∧
    ({ ldg := { core := { base1 := some (5, 7) } } } : Chip).ldg.core.base1 = some (5, 7) ∧
    ({} : Chip).ldg.measure = (false, false) ∧ ({} : Chip).ldg.sample = none ∧ ({} : Chip).rtc.secs.toNat % 86400 = 0 ∧
    ({ rtc := { secs := 1 } } : Chip).rtc.secs.toNat % 3600 ≠ 0 ∧
    (regsOf [(A.RTC_STAT, 0)]).bit A.RTC_STAT 6 = false := by decide

theorem witness_FaultsAreAcknowledgedMutedAndInjected :
    (let c : Chip := { locked with flt := { mute := .due }, met := { lastBlock := some 0 } }
     c.slow = false ∧ c.flt.mute = .due ∧ c.flt.muteAt = none) ∧
    (regsOf [(A.FLT_STAT, 8)]).bit A.FLT_STAT 3 = true ∧ (regsOf [(A.FLT_STAT, 2)]).bit A.FLT_STAT 1 = true ∧
    ({ flt := { mute := .on } } : Chip).bit A.FLT_STAT 1 = false ∧ ({ flt := { mute := .on } } : Chip).flt.mute = .on ∧
    (0x0000A5C3 : Word).toNat % 65536 = 0xA5C3 ∧ (0x1E570003 : Word).toNat / 65536 = 0x1E57 := by decide

theorem witness_PinsAndJtag :
    pinAssigned 0 0 = true ∧ pinAssigned 95 1 = true ∧ pinAssigned 95 2 = false ∧
    (({} : Chip).writeCoded (A.PINp_MUX 0) 0x100).fld (A.PINp_MUX 0) 3 0 = ({} : Chip).fld (A.PINp_MUX 0) 3 0 ∧
    (({} : Chip).writeCoded (A.PINp_MUX 0) 1).fld (A.PINp_MUX 0) 3 0 ≠ ({} : Chip).fld (A.PINp_MUX 0) 3 0 ∧
    ({} : Chip).pinDriven 0 = none ∧ (regsOf [(A.PIN_OEx 0, 1), (A.PIN_OUTx 0, 1)]).pinDriven 0 = some true ∧
    ({} : Chip).pinBusy 0 = false ∧ (regsOf [(A.PINp_MUX 0, 0x80000000), (A.SYS_CLK_STAT, 3)]).pinBusy 0 = true ∧
    (regsOf [(A.PINp_MUX 0, 0x80000000), (A.SYS_CLK_STAT, 3)]).slow = false ∧
    (getS (0, 0) ({} : Chip).pins.mask 0).2 = 0 ∧ locked.slow = false ∧ locked.pinDriven 0 ≠ some (!(!locked.pinLevel 0)) ∧
    locked.pinRunDone 0 0 = true ∧ ({ jtag := { ins := .extest } } : Chip).jtag.ins = .extest := by decide

/-- The premises of the other statements about whole steps: a supply, and the state after reset. -/
theorem witness_WholeChipResetsClearTheCount :
    (st {}).chip.pwr.boot ≠ .noSupply ∧ (st {}).chip.mode ≠ .vault ∧ (st {}).Quiet ∧
    ({ mode := .vault } : Chip).pwr.pwrEn = true :=
  ⟨by decide, by decide, ⟨by decide, by decide⟩, by decide⟩

theorem witness_UnpoweredDeviceIgnoresCommands : (st vaulted).chip.powered = false := by decide

/-- StepsOnlyProgramFusesAndTakeTheFront: the idle step after reset. -/
theorem witness_StepsOnlyProgramFusesAndTakeTheFront : step State.reset = .next State.reset := rfl

theorem witness_StepRunsTheFrontCommand :
    State.reset.pending = [] ∧ ({ State.reset with pending := [.verify 0] } : State).pending = Instr.verify 0 :: [] := by decide

/-! ### Single steps whose results the manual's worked examples give -/

/-- What a command answers, or the state after reset where it stops. -/
def after (o : Host.Outcome State Fault Refusal) : State :=
  match o with
  | .next t => t
  | _ => State.reset

/-- A state at a count. -/
def at' (n : Nat) (c : Chip) : State := { st c with clock := { count := BitVec.ofNat 48 n, epoch := 0 } }

/-- The four words of the records in a queue, and of those in its skid buffer. -/
def words (c : Chip) (q : Nat) : List (List Word) :=
  let w := fun (r : Rec) => [r.w0, r.w1, r.w2, r.valueB]
  (c.qItems q).map (fun i => w i.r) ++ (c.que.skid.filter (fun i => i.queue = q)).map (fun i => w i.r)

/-- 00_scope.md, worked example: SYS_FEAT0 of the two grades. -/
theorem test_feat0_example :
    getS 0 (after (exec (.rcRegisterRead (.core 0) A.SYS_FEAT0) (st {}))).chip.readback (Master.core 0).port = 0x04108100 ∧
    getS 0 (after (exec (.rcRegisterRead (.core 0) A.SYS_FEAT0) { st {} with fuses := { grade := .lk7_128, otp := [] } })).chip.readback
      (Master.core 0).port = 0x04104080 := by decide +kernel

/-- 02_charter.md, worked example: the fixture's voices and graph. -/
def fixture : Charter :=
  let node := fun (t i : Nat) => ({ type := t, index := i, kind := 0, stereo := false, delayBase := 0, delayBytes := 0, init := 0 } : Node)
  { charter with
    fs := 1, blk := 1, lat := 1, dispatch := 8
    voices := List.replicate 8 { kind := 1, lane := 0, maxoct := 1, format := 1 }
    nodes := [node 1 0, node 4 0, node 4 1]
    edges := [{ src := 0, dst := 1, gain := 0x2D41, fb := false }, { src := 0, dst := 2, gain := 0x2D41, fb := false }] }

/-- 02_charter.md, worked example: the fixture's budget. -/
theorem test_budget_example :
    fixture.load.stkTotal = 2144 ∧ fixture.load.stkPeak = 10336 ∧ fixture.load.fxTotal = 48 ∧ fixture.load.fxFinish = 10372 ∧
    voiceStream 8 { kind := 1, lane := 0, maxoct := 1, format := 1 } = 96 := by decide +kernel

/-- 02_charter.md, R54: the CRC-32 of "123456789" is CBF4 3926H. -/
theorem test_crc : crc32 ([0x31, 0x32, 0x33, 0x34, 0x35, 0x36, 0x37, 0x38, 0x39] : List Byte) = 0xCBF43926 := by decide +kernel

/-- 06_keys_and_controls.md, worked example: key 43 strikes. -/
theorem test_key_example :
    let c : Chip := { regsOf [(A.KEY_CFG, 0xA0401500), (A.KEY_MAP, 88), (A.KEY_LEVELm 4, 0x400000)] performing with
      key := { lastScan := some 0x12345000, keys := [(43, { st := .armed, t := 0x12335660 })] } }
    let t := (after (exec (.keyScan (BitVec.ofNat 256 (2 ^ 150)) [(632, 151)]) (at' 0x123453FF c))).chip
    t.key.buf.map (fun x => [x.r.w0, x.r.w1, x.r.w2, x.r.valueB]) = [[0x01014000, 0x12345678, 0x0000C000, 0]] ∧
    t.rd A.KEY_LAST = 0x40010018 := by decide +kernel

/-- 04_voices.md, worked example: the tables of part 0, zone 0 and patch 3. -/
def pianoRegs : List (Nat × Word) :=
  [(A.STK_PARTi_w 0 0, 0x80022001), (A.STK_ZONEi_w 0 0, 0x80006C15), (A.STK_ZONEi_w 0 1, 0xFFFF0000), (A.STK_ZONEi_w 0 2, 0x00037F00),
   (A.STK_PATCHi_w 3 0, 0x00C0803C), (A.STK_PATCHi_w 3 7, 0x10000), (A.STK_PATCHi_w 3 8, 0x80E000), (A.STK_PATCHi_w 3 9, 0x80),
   (A.STK_PATCHi_w 3 11, 5), (A.STK_SHAPEi_w 5 0, 0x005FFFFF)]

/-- 04_voices.md, worked example: key 64 of velocity C000H at its intake close, with voices 0 to 16 busy. -/
theorem test_intake_example :
    let r : Rec := { source := 1, kind := 1, key := 64, flags := 0, time := 0x12345678, valueA := 0xC000, valueB := 0 }
    let s := { charter with
      lanes := 8, dispatch := 8, steal := 2, retrig := 1, fs := 1, blk := 1, lat := 1
      voices := (List.range 128).map (fun v => { kind := 4, lane := v / 16, maxoct := 1, format := 4 }) }
    let c : Chip := { regsOf pianoRegs performing with
      ldr := { live := some s }, met := { lastBlock := some 305422336 }
      que := { items := [(0, [{ item0 with r := r }])], sources := [{ source := 1, late := 0, resv := 16 }] }
      stk := { v := (List.range 17).map fun v => (v, { st := .playing }) } }
    let t := (after (exec .allocatorIntakeClose (at' 305423000 c)))
    let v := t.chip.voice 17
    t.clock.abs = 305424384 ∧ v.st = .playing ∧ v.key = 64 ∧ v.phase = 31608 ∧ v.first = 6 ∧ v.e1.pos = 98 ∧
    t.chip.rd (0x70000000 + 64 * 17 + 0x1C) = 0x1428A ∧ t.chip.rd (0x70000000 + 64 * 17 + 0x20) = 0x809680 := by decide +kernel

/-- 07_midi_and_usb.md, worked example: the note 90H 40H 64H. -/
theorem test_midi_example :
    let c := regsOf [(A.MID_INn_CFG 0, 0x80000000), (A.PINp_MUX 0, 1)] performing
    let t := after (exec (.midiInMessage 0 [(0, 0x90, true), (0, 0x40, true), (0, 0x64, true)]) (at' 536871168 c))
    t.clock.abs = 536917568 ∧ words t.chip 2 = [[0x10014000, 0x20000100, 0x0000C993, 0]] := by decide +kernel

/-- 07_midi_and_usb.md, worked example: USB_FB at high speed with the OUT ring at 128 frames. -/
theorem test_usb_feedback_example :
    (after (exec (.usbFeedback 393216) (st (onUsb 4 0 { outRing := List.replicate 128 [] })))).chip.rd A.USB_FB = 0x60000 := by
  decide +kernel

/-- 08_display.md, worked example: DISP_BEAM at the note. -/
theorem test_beam_example :
    let c := showing { panel with mode := 3, w := 800, h := 480 }
    let c := { c with met := { c.met with frame0 := 0x1000000 } }
    getS 0 (after (exec (.rcRegisterRead (.core 0) A.DISP_BEAM) (at' (0x1000000 + 352 * 819200 + 300664) c))).chip.readback
      (Master.core 0).port = 0x40BB0393 := by decide +kernel

/-- 08_display.md, worked example: the Folio-Pack line, below a line of nines. -/
theorem test_pack_line_example :
    let c := ({} : Chip).setMem 0x10000000 [0xC3, 0x45, 0x05, 0x02, 0x07, 0x08, 0x09, 0x82]
    packDecode c.mem 1 17 0x10000000 76 16 (List.replicate 16 9) = ([0, 0, 0, 0, 5, 5, 5, 5, 5, 5, 7, 8, 9, 9, 9, 9], false) := by
  decide +kernel

/-- 09_scriptorium.md, worked example: the first LINE, from (0, 384) to (1, 391). -/
theorem test_line_example :
    ({ w := [0x0380FFE0, 0x01800000, 0x01870001] } : ScrCmd).path =
      [(0, 384), (0, 385), (0, 386), (0, 387), (1, 388), (1, 389), (1, 390), (1, 391)] := by decide +kernel

/-- 10_quire_instruction_set.md, worked example: LOOPI 512, ENDOFF 3 at 0800 0108H. -/
theorem test_loopi_example :
    let k := (after (exec (.loopi 0 512 3) (run0 { pc := 0x08000108 }))).chip.core0
    k.pc = 0x0800010C ∧ getS 0 k.ls 0 = 0x0800010C ∧ getS 0 k.le 0 = 0x08000112 ∧ getS 0 k.lc 0 = 512 ∧ k.depth = 1 := by
  decide +kernel

/-- 10_quire_instruction_set.md, worked example: the MAC16 of iteration 200. -/
theorem test_mac16_example :
    let k := (after (exec (.mac16 0 0 9 9)
      (run0 { pc := 0x0800010E, g := [(9, 0xC0004000)], ls := [(0, 0x0800010C)], le := [(0, 0x08000112)], lc := [(0, 313)], depth := 1 }))).chip.core0
    k.pc = 0x0800010C ∧ getS 0 k.lc 0 = 312 ∧ k.a0 = 0x20000000 := by decide +kernel

/-- 10_quire_instruction_set.md, worked example: ACCR g10, a0, 9 of 2^38. -/
theorem test_accr_example :
    let k := (after (exec (.accr 0 10 0 9) (run0 { a0 := 0x4000000000 }))).chip.core0
    k.src 10 = 0x20000000 ∧ k.psw = 0 := by decide +kernel

/-- 16_timers_clock_random.md, worked example: 2031-06-15 14:30:00, a Sunday, is second 992,615,400. -/
theorem test_rtc_commit_example :
    let c : Chip := { regsOf [(A.RTC_SET_DATE, 0x7EF60F00), (A.RTC_SET_TIME, 0x000E1E00)] locked with
      rtc := { writes := [(A.RTC_CTL, 2, 1)] } }
    let t := (after (exec (.rtcTick 0) (st c))).chip
    t.rtcWindow.take 5 = [0, 0x3B2A1BE8, 0, 0x7EF60F06, 0x000E1E00] := by decide +kernel

/-- 18_ledger_and_faults.md, worked example: the strobe timeout on xSPI device 1. -/
theorem test_strobe_timeout_example :
    let c := regsOf [(A.XMC_XSPI_DEVn_CFG 1, 0x172)] performing
    let t := (after (exec (.dsTimeout .wave 0x50123440) (at' 67110000 c))).chip
    t.rd A.FLT_FIRST_SRC = 0x810A0001 ∧ t.rd A.FLT_FIRST_ADDR = 0x50123440 ∧ t.rd A.FLT_FIRST_TIME_LO = 0x04000470 := by
  decide +kernel

/-- 20_electrical_and_package.md, worked example: 101.6 °C falls in bin 6, weight 724; 41.6 °C in bin 1, weight 8. -/
theorem test_ledger_bin_example :
    l6Bin (1016 * 16 / 10) = 6 ∧ l6Weights.getD 6 0 = 724 ∧ l6Bin (416 * 16 / 10) = 1 ∧ l6Weights.getD 1 0 = 8 := by decide

/-- 19_pins_and_gpio.md, worked example: a plug comes to rest. -/
theorem test_pin_example :
    let c := { regsOf [(A.PINp_MUX 10, 0x40), (A.PINp_FILT 10, 0x00130102), (A.LDG_INS1_CFG, 0x8000010A)] performing with pins := { level := 0 } }
    let t := (after (exec (.pinFilterAccept 10 23100) (at' 805329500 c))).chip
    t.pinLevel 10 = true ∧ t.rd (A.PIN_IRQx 0) = 0x400 ∧ t.rd (A.LDG_Ln_VALUE 5) = 1 ∧
    words t 9 = [[0x20200A00, 0x30000020, 0x00000001, 0]] := by decide +kernel

end Sys2Proof.Tests
end

section
/-! PROOF. The conventions of 00_scope.md: the access codes of R16 bit by bit, the byte order of R12, and the state after a
power-on reset. -/

namespace Sys2Proof.Machine

/-! ### Access codes (R16) -/

theorem getLsbD_m32 (n : Nat) {i : Nat} (hi : i < 32) : (m32 n).getLsbD i = n.testBit i := by
  rw [m32, BitVec.getLsbD_ofNat, decide_eq_true hi, Bool.true_and]

/-- R16: a bit after a write, by the access code of its position. -/
theorem getLsbD_codedWrite (r : RegSpec) (old v : Word) {i : Nat} (hi : i < 32) :
    (codedWrite r old v).getLsbD i =
      if r.w1c.testBit i = true ∧ v.getLsbD i = true then false
      else if r.w1s.testBit i = true ∧ v.getLsbD i = true then true
      else if r.rw.testBit i = true then v.getLsbD i
      else old.getLsbD i := by
  have hbit : (codedWrite r old v).getLsbD i =
      ((old.getLsbD i && !r.rw.testBit i || v.getLsbD i && r.rw.testBit i || v.getLsbD i && r.w1s.testBit i) &&
        !(v.getLsbD i && r.w1c.testBit i)) := by
    simp only [codedWrite, BitVec.getLsbD_and, BitVec.getLsbD_or, BitVec.getLsbD_not, getLsbD_m32 _ hi, decide_eq_true hi,
      Bool.true_and]
  rw [hbit]
  cases v.getLsbD i
  case false => cases r.rw.testBit i <;> simp
  case true =>
    cases r.w1c.testBit i
    case true => simp
    case false => cases r.w1s.testBit i <;> cases r.rw.testBit i <;> simp

/-! ### Byte order (R12) -/

/-- Byte `i` of a number stored least significant byte first. -/
theorem getD_leBytes {n i : Nat} (v : Nat) (hi : i < n) :
    (leBytes n v).getD i 0 = BitVec.ofNat 8 (v >>> (8 * i)) := by
  induction n generalizing i v with
  | zero => omega
  | succ n ih =>
    cases i with
    | zero => rfl
    | succ i =>
      calc (leBytes (n + 1) v).getD (i + 1) 0
          = (leBytes n (v / 256)).getD i 0 := rfl
        _ = BitVec.ofNat 8 ((v >>> 8) >>> (8 * i)) := by rw [ih _ (by omega), Nat.shiftRight_eq_div_pow v 8]
        _ = BitVec.ofNat 8 (v >>> (8 * (i + 1))) := by rw [← Nat.shiftRight_add, Nat.mul_succ, Nat.add_comm]

/-- Settles O23: `getLsbD_codedWrite` gives the access codes; the canonical form and the reads after a write are the laws of
maps; `getD_leBytes` gives the byte order. -/
theorem registerFileAndAccessCodes : Obligations.RegisterFileAndAccessCodes :=
  ⟨fun r old v _ hi => getLsbD_codedWrite r old v hi,
    fun _ a b v h => ⟨Chip.rd_wr a b v h, Chip.regsWf_wr a v h, Chip.wr_mem _ a v⟩,
    fun _ a x bs h => ⟨getB_putBytes a x bs h, Chip.memWf_setMem a bs h, Chip.setMem_regs _ a bs⟩,
    fun v _ hi => getD_leBytes v.toNat hi⟩

/-! ### The reset state (R15) -/

/-- R15: where no register has been changed, each reads the reset word of its table. -/
theorem Chip.rd_of_regs_nil {c : Chip} (h : c.regs = []) (a : Nat) : c.rd a = regReset a := by
  rw [Chip.rd, h, getS]

/-- R549: the clock is stopped after power-on (RTC_CTL.HALT). -/
theorem regReset_rtcCtl_halt : (regReset A.RTC_CTL).getLsbD 0 = true := by decide

/-- R549: the time is not valid after power-on (RTC_STAT.POWER_LOST). -/
theorem regReset_rtcStat_powerLost : (regReset A.RTC_STAT).getLsbD 6 = true := by decide

/-- R582: a power-on reset shows POR alone. -/
theorem regReset_sysRstCause : regReset A.SYS_RST_CAUSE = 1 := by decide

/-- Settles O2: `State.reset` lists no register and no byte, so that each register reads its reset word; the fields of the
state are their initial values. -/
theorem resetLeavesTheResetValues : Obligations.ResetLeavesTheResetValues := by
  have hrd : ∀ a, State.reset.chip.rd a = regReset a := Chip.rd_of_regs_nil rfl
  refine ⟨rfl, rfl, rfl, rfl, rfl, rfl, rfl, rfl, rfl, rfl, rfl, rfl, ?halt, ?lost, ?cause, hrd, rfl, rfl⟩
  case halt => rw [Chip.bit, hrd, regReset_rtcCtl_halt]
  case lost => rw [Chip.bit, hrd, regReset_rtcStat_powerLost]
  case cause => rw [hrd, regReset_sysRstCause]

end Sys2Proof.Machine
end

section
/-! PROOF. What the forms of a meaning (Machine/Settle.lean) answer on a powered device, and what moving the count on leaves
of the chip. -/

namespace Sys2Proof.Machine

variable {s : State} {f : Env → Chip → Chip}

/-! ### Moving the count on -/

/-- The wraps that the count passes are status bits of registers: every other part of the chip stays. -/
theorem Chip.passed_eq_regs (c : Chip) (a b : Nat) : ∃ r, c.passed a b = { c with regs := r } := by
  unfold Chip.passed
  dsimp only
  split <;> split <;> exact ⟨_, rfl⟩

theorem State.advTo_chip_eq_regs (s : State) (t : Nat) : ∃ r, (s.advTo t).chip = { s.chip with regs := r } := by
  unfold State.advTo
  split
  · exact ⟨_, rfl⟩
  · exact Chip.passed_eq_regs _ _ _

@[simp] theorem State.advTo_chip_ldr (s : State) (t : Nat) : (s.advTo t).chip.ldr = s.chip.ldr := by
  obtain ⟨r, hr⟩ := s.advTo_chip_eq_regs t
  rw [hr]

@[simp] theorem State.advTo_chip_met (s : State) (t : Nat) : (s.advTo t).chip.met = s.chip.met := by
  obtain ⟨r, hr⟩ := s.advTo_chip_eq_regs t
  rw [hr]

/-- Only what an effect makes of the chip at `t` itself counts. -/
theorem State.becomesAt_congr {g : Env → Chip → Chip} {t : Nat}
    (h : f { now := t, fuses := s.fuses } (s.advTo t).chip = g { now := t, fuses := s.fuses } (s.advTo t).chip) :
    s.becomesAt t f = s.becomesAt t g := by
  simp only [State.becomesAt, h]

/-! ### Effects and ticks -/

theorem run_of_powered (hp : s.chip.powered = true) : run f s = .next (s.becomes (f s.env s.chip)) := by
  simp only [run, State.cmd, hp, if_true]
  rfl

theorem runAt_of_powered {t : Nat} (hp : s.chip.powered = true) (hs : s.chip.slow = false) :
    runAt t f s = .next (s.becomesAt t f) := by
  simp only [runAt, State.cmd, hp, if_true, hs, Bool.false_and, Bool.false_eq_true, if_false, State.onAt, State.advTo_fuses,
    State.becomesAt, State.withChip]

/-- No tick fires while the count runs slow (R29). -/
theorem runTickDue_of_slow {t : Option Nat} (hp : s.chip.powered = true) (hs : s.chip.slow = true) :
    runTickDue t f s = .next (s.becomes s.chip) := by
  rw [runTickDue, if_pos hs, run_of_powered hp]

theorem runTickDue_of_due {o : Option Nat} {t : Nat} (hp : s.chip.powered = true) (hs : s.chip.slow = false) (ho : o = some t) :
    runTickDue o f s = .next (s.becomesAt t f) := by
  rw [runTickDue, hs, if_neg Bool.false_ne_true, ho, runDue, runAt_of_powered hp hs]

/-! ### Register accesses of an admitted master (R448) -/

theorem store_of_admits {m : Master} {a : Nat} {v : Word} (hp : s.chip.powered = true) (hm : admits 8 m.port = true) :
    store m a v s = .next (s.becomes (regWrite m a v s.env s.chip)) := by
  rw [store, run_of_powered hp, regStore, if_pos hm]

theorem load_of_admits {m : Master} {a : Nat} (hp : s.chip.powered = true) (hm : admits 8 m.port = true) :
    load m a s = .next (s.becomes ((regRead m a s.env s.chip).2.answered m (regRead m a s.env s.chip).1)) := by
  rw [load, run_of_powered hp, regLoad, if_pos hm]

end Sys2Proof.Machine
end

section
/-! PROOF. The clock source commands of 01_metronome.md: the selection (R21, R22), the lock, the monitor (R24) and holdover
(R25), and the read of the count (R48). -/

namespace Sys2Proof.Machine

/-! ### Maps in any form: what a write leaves at other keys, and a value that is not the default -/

section
variable {α : Type} [DecidableEq α]

theorem getS_putS_of_ne {i j : Nat} (h : j ≠ i) (d d' v : α) (m : SMap α) : getS d (putS d' m i v) j = getS d m j := by
  induction m with
  | nil => by_cases hv : v = d' <;> simp [putS, getS, hv, h.symm]
  | cons e m ih =>
    obtain ⟨k, w⟩ := e
    rcases Nat.lt_trichotomy i k with hlt | rfl | hgt
    · by_cases hv : v = d' <;> simp [putS, getS, hlt, hv, h.symm]
    · by_cases hv : v = d' <;> simp [putS, getS, hv, h.symm]
    · have hlt : ¬ i < k := by omega
      have hne : ¬ i = k := by omega
      simp only [putS, if_neg hlt, if_neg hne, getS, ih]

theorem getS_putS_self_of_ne {d v : α} (h : v ≠ d) (m : SMap α) (i : Nat) : getS d (putS d m i v) i = v := by
  induction m with
  | nil => simp [putS, getS, h]
  | cons e m ih =>
    obtain ⟨k, w⟩ := e
    rcases Nat.lt_trichotomy i k with hlt | rfl | hgt
    · simp [putS, getS, hlt, h]
    · simp [putS, getS, h]
    · have hlt : ¬ i < k := by omega
      have hne : ¬ i = k := by omega
      simp only [putS, if_neg hlt, if_neg hne, getS, if_neg (Ne.symm hne), ih]

end

theorem Chip.rd_wr_of_ne {a b : Nat} (h : b ≠ a) (c : Chip) (v : Word) : (c.wr a v).rd b = c.rd b :=
  getS_putS_of_ne h _ _ v c.regs

theorem Chip.rd_wr_self_of_ne_reset {a : Nat} {v : Word} (h : v ≠ regReset a) (c : Chip) : (c.wr a v).rd a = v :=
  getS_putS_self_of_ne h c.regs a

@[simp] theorem Chip.putBit_met (c : Chip) (a i : Nat) (b : Bool) : (c.putBit a i b).met = c.met := by
  cases b <;> rfl

/-! ### The count runs slow (R29) -/

theorem regReset_sysClkStat : regReset A.SYS_CLK_STAT = 0 := by decide

theorem Chip.slow_eq_false_iff (c : Chip) :
    c.slow = false ↔ c.met.stopped = false ∧ c.bit A.SYS_CLK_STAT 0 = true ∧ c.bit A.SYS_CLK_STAT 1 = true := by
  simp [Chip.slow]

/-- Seeing edges on MCLK_IN does not unlock a PLL. The status word that is stored is not the reset word, so that it is read
back whatever form the register file has. -/
theorem Chip.slow_setBit_edges {c : Chip} (h : c.slow = false) : (c.setBit A.SYS_CLK_STAT 3).slow = false := by
  obtain ⟨hstop, h0, h1⟩ := c.slow_eq_false_iff.mp h
  have hor : ∀ i, c.bit A.SYS_CLK_STAT i = true → (c.rd A.SYS_CLK_STAT ||| word (2 ^ 3)).getLsbD i = true := fun i hi => by
    rw [BitVec.getLsbD_or, Bool.or_eq_true]
    exact .inl hi
  have hne : c.rd A.SYS_CLK_STAT ||| word (2 ^ 3) ≠ regReset A.SYS_CLK_STAT := fun hz => by
    have hbit := hor 0 h0
    rw [hz, regReset_sysClkStat] at hbit
    exact absurd hbit (by decide)
  rw [Chip.slow_eq_false_iff, Chip.bit, Chip.bit, Chip.setBit, Chip.rd_wr_self_of_ne_reset hne]
  exact ⟨hstop, hor 0 h0, hor 1 h1⟩

/-! ### The commands on the chip -/

/-- A write of SYS_CLK_CFG reaches no other register's rule. -/
theorem regWrite_sysClkCfg (m : Master) (v : Word) (e : Env) (c : Chip) :
    regWrite m A.SYS_CLK_CFG v e c = writeClkCfg v c := rfl

theorem regRead_metCountLo (m : Master) (e : Env) (c : Chip) :
    regRead m A.MET_COUNT_LO e c = readCountLo m.port e c := rfl

theorem writeClkCfg_of_ne_configure {c : Chip} (h : c.mode ≠ .configure) (v : Word) :
    writeClkCfg v c = c.setBit A.SYS_CLK_STAT 9 := by
  rw [writeClkCfg, if_neg h]

/-- Both PLLs stay as they are where MCLK_IN is selected and carries no edges. -/
theorem pllLock_of_no_edges {c : Chip} (h : c.bit A.SYS_CLK_CFG 0 = true) (e : Env) :
    pllLock false e c = c.clrBit A.SYS_CLK_STAT 3 := by
  have hcfg : (c.clrBit A.SYS_CLK_STAT 3).bit A.SYS_CLK_CFG 0 = true := by
    rw [Chip.bit, Chip.clrBit, Chip.rd_wr_of_ne (by decide)]
    exact h
  simp [pllLock, Chip.putBit, hcfg]

/-- Where the PLLs are locked already, no tick is skipped. -/
theorem pllLock_of_not_slow {c : Chip} (h : c.slow = false) (e : Env) :
    pllLock true e c = ((c.setBit A.SYS_CLK_STAT 3).setBit A.SYS_CLK_STAT 0).setBit A.SYS_CLK_STAT 1 := by
  simp [pllLock, Chip.putBit, Chip.slow_setBit_edges h]

/-- R24: the error bit is set beyond one percent of the nominal `n`, on either side. -/
theorem measurementBad_eq (x n : Nat) :
    (decide (100 * (x - n) > n) || decide (100 * (n - x) > n)) = decide (x * 100 > n * 101 ∨ x * 100 < n * 99) := by
  rw [← Bool.decide_or, decide_eq_decide]
  omega

/-- Fewer than four good measurements in a row do not end holdover (R25). -/
theorem clockMeasurement_of_lt {c : Chip} (h : c.met.goodMeas < 3) (x : Nat) :
    clockMeasurement x c =
      let bad := decide (x * 100 > c.nominalMeas * 101 ∨ x * 100 < c.nominalMeas * 99)
      { (c.setFld A.SYS_CLK_MEAS 16 0 x).putBit A.SYS_CLK_STAT 4 bad with
        met := { c.met with goodMeas := if bad then 0 else c.met.goodMeas + 1 } } := by
  have hfew : ∀ bad : Bool, ¬ 4 ≤ (if bad then 0 else c.met.goodMeas + 1) := fun bad => by split <;> omega
  simp only [clockMeasurement, measurementBad_eq, if_neg (hfew _), Chip.putBit_met, Chip.setFld_met]

theorem holdoverEntry_of_canHoldover {c : Chip} (h : c.canHoldover = true) (e : Env) :
    holdoverEntry e c = (holdoverBits c).report e 0x09 clsSevere 0 0 := by
  rw [holdoverEntry, if_pos h]

/-- Settles O28: each command is its operation on the chip, and the lemmas above say what the operation does. -/
theorem clockSourceCommands : Obligations.ClockSourceCommands := by
  intro m v cycles s hp
  refine ⟨?configure, ?refused, ?noEdges, ?lock, ?measure, ?holdover, ?count⟩
  case configure =>
    intro hm hmode
    refine (store_of_admits hp hm).trans ?_
    rw [regWrite_sysClkCfg, writeClkCfg, if_pos hmode]
    rfl
  case refused =>
    intro hm hmode
    refine (store_of_admits hp hm).trans ?_
    rw [regWrite_sysClkCfg, writeClkCfg_of_ne_configure hmode]
  case noEdges =>
    intro hcfg
    exact (run_of_powered hp).trans (by rw [pllLock_of_no_edges hcfg])
  case lock =>
    intro hs
    exact (run_of_powered hp).trans (by rw [pllLock_of_not_slow hs])
  case measure =>
    intro hfew
    refine (run_of_powered hp).trans ?_
    rw [clockMeasurement_of_lt hfew]
    rfl
  case holdover =>
    intro hcan
    refine (run_of_powered hp).trans ?_
    rw [holdoverEntry_of_canHoldover hcan]
    rfl
  case count =>
    intro hm
    refine (load_of_admits hp hm).trans ?_
    rw [regRead_metCountLo]
    rfl

end Sys2Proof.Machine
end

section
/-! PROOF. The ticks of a structure change (02_charter.md, R40, R81, R83): a commit, a hard change's ramp, a swap and a
crossfade's end. -/

namespace Sys2Proof.Machine

/-! ### Multiples -/

theorem Ticks.cb_pos (t : Ticks) : 0 < t.cb := by
  have hcs : 0 < t.cs := by unfold Ticks.cs; split <;> decide
  exact Nat.mul_pos (Nat.mul_pos (by decide) (Nat.two_pow_pos _)) hcs

theorem multAfter_mod (m t : Nat) : multAfter m t % m = 0 := Nat.mul_mod_left _ _

theorem lt_multAfter {m : Nat} (hm : 0 < m) (t : Nat) : t < multAfter m t := by
  rw [multAfter, Nat.mul_comm]
  exact Nat.lt_mul_div_succ t hm

theorem multAfter_le (m t : Nat) : multAfter m t ≤ t + m := by
  rw [multAfter, Nat.succ_mul]
  exact Nat.add_le_add_right (Nat.div_mul_le_self t m) m

/-! ### When each is due -/

/-- Counts per block of a structure: what Cb is once it is live. -/
def Charter.newCb (ch : Charter) : Nat := Ticks.cb { fs := ch.fs, blk := ch.blk, lat := ch.lat, fclass := 0 }

theorem Charter.newCb_pos (ch : Charter) : 0 < ch.newCb := Ticks.cb_pos _

/-- R40: where no block tick has passed the commit, it is due at the first multiple of its own Cb. -/
theorem Chip.commitTick_eq {c : Chip} {w src l : Nat} {ch : Charter} (hat : c.ldr.commitAt = some (w, ch, src))
    (hl : c.met.lastBlock = some l) (hlw : l ≤ w) (now : Nat) : c.commitTick now = some (multAfter ch.newCb w) := by
  have hlt : ¬ multAfter ch.newCb w ≤ l := by
    have := lt_multAfter ch.newCb_pos w
    omega
  simp only [Chip.commitTick, hat, Option.map_some, hl]
  exact congrArg some (if_neg hlt)

theorem Chip.rampDue_eq {c : Chip} {p : Plan} (hplan : c.ldr.plan = some p) (harmed : c.ldr.state = .armed)
    (hhard : p.hard = true) : c.rampDue = some (p.atAbs - 3 * c.met.ticks.cb) := by
  simp [Chip.rampDue, hplan, harmed, hhard]

theorem Chip.swapDue_eq {c : Chip} {p : Plan} (hplan : c.ldr.plan = some p) (harmed : c.ldr.state = .armed)
    (hnone : c.ldr.swapAt = none) : c.swapDue = some p.atAbs := by
  simp [Chip.swapDue, hplan, harmed, hnone]

theorem Chip.xfadeDue_eq {c : Chip} {p : Plan} (hplan : c.ldr.plan = some p) (hx : c.ldr.state = .xfade) :
    c.xfadeDue = some (p.atAbs + p.x * c.met.ticks.cb) := by
  simp [Chip.xfadeDue, hplan, hx]

/-! ### What is done at the tick -/

theorem commitTick_of_multiple {c : Chip} {w src t : Nat} {ch : Charter} (hat : c.ldr.commitAt = some (w, ch, src))
    (hlt : w < t) (hmod : t % ch.newCb = 0) (e : Env) : commitTick t e c = commitNow ch src t e c := by
  have hdue : (decide (w < t) && t % ch.newCb == 0) = true := by simp [hlt, hmod]
  simp only [commitTick, hat]
  exact if_pos hdue

theorem hardRamp_of_due {c : Chip} {p : Plan} {t : Nat} (hplan : c.ldr.plan = some p) (harmed : c.ldr.state = .armed)
    (hhard : p.hard = true) (hramp : c.ldr.ramp = none) (ht : p.atAbs ≤ t + 3 * c.met.ticks.cb) :
    hardRamp t c = { c with ldr := { c.ldr with ramp := some (p.atAbs - 3 * c.met.ticks.cb) } } := by
  simp [hardRamp, Chip.ldrDo, hplan, harmed, hhard, hramp, ht]

/-- Settles O31: each command is a tick that is due at the count the lemmas above give; the chip at that count has the loader
and the block length that it had before, so the tick finds the change due. -/
theorem structureChangesHappenAtTheirTicks : Obligations.StructureChangesHappenAtTheirTicks := by
  intro w src ch p s hp
  refine ⟨?slow, ?commit, ?ramp, ?swap, ?xfade⟩
  case slow =>
    intro hs
    exact ⟨runTickDue_of_slow hp hs, runTickDue_of_slow hp hs, runTickDue_of_slow hp hs, runTickDue_of_slow hp hs⟩
  case commit =>
    rintro hs hat ⟨l, hl, hlw⟩
    have hlt := lt_multAfter ch.newCb_pos w
    refine ⟨multAfter ch.newCb w, multAfter_mod _ _, hlt, multAfter_le _ _, ?_⟩
    refine (runTickDue_of_due hp hs (Chip.commitTick_eq hat hl hlw _)).trans (congrArg _ (State.becomesAt_congr ?_))
    exact commitTick_of_multiple (by rw [State.advTo_chip_ldr, hat]) hlt (multAfter_mod _ _) _
  case ramp =>
    intro hs hplan harmed hhard hramp hroom
    refine (runTickDue_of_due hp hs (Chip.rampDue_eq hplan harmed hhard)).trans (congrArg _ (State.becomesAt_congr ?_))
    have hdue : p.atAbs ≤ p.atAbs - 3 * s.chip.met.ticks.cb + 3 * s.chip.met.ticks.cb := by omega
    rw [hardRamp_of_due (p := p) (by simpa) (by simpa) hhard (by simpa) (by simpa using hdue), State.advTo_chip_met]
  case swap =>
    intro hs hplan harmed hnone
    exact runTickDue_of_due hp hs (Chip.swapDue_eq hplan harmed hnone)
  case xfade =>
    intro hs hplan hx
    exact runTickDue_of_due hp hs (Chip.xfadeDue_eq hplan hx)

end Sys2Proof.Machine
end

section
/-! PROOF. The coupled groups (02_charter.md, R85 to R87): a member's write stages, the arming register's write copies, and
the copy applies whole at the next block tick. -/

namespace Sys2Proof.Machine

/-! ### A write reaches the group of its register -/

/-- In each of the four windows that hold coupled groups, a write to a member is the group's write; in voice parameter space
the register must be one that the grade has. -/
theorem regWrite_eq_groupWrite {a : Nat} {e : Env}
    (hwin : (0x60050000 ≤ a ∧ a < 0x60060000) ∨ (0x60090000 ≤ a ∧ a < 0x600A0000) ∨ (0x600F0000 ≤ a ∧ a < 0x60100000) ∨
      (0x70000000 ≤ a ∧ a < 0x70010000))
    (hvoice : 0x70000000 ≤ a → absentVoice e.fuses a = false ∧ (regFind a).isSome = true)
    (hg : (groupOf a).isSome = true) (m : Master) (v : Word) (c : Chip) : regWrite m a v e c = groupWrite a v e c := by
  rcases hwin with effects | direct | timers | voices
  · have hwindow : a / 65536 = 0x6005 := by omega
    simp only [regWrite, lowWrite, hwindow, hg, if_true]
  · have hwindow : a / 65536 = 0x6009 := by omega
    simp only [regWrite, lowWrite, hwindow, hg, if_true]
  · have hwindow : a / 65536 = 0x600F := by omega
    simp only [regWrite, hwindow, hg, if_true]
  · have hwindow : a / 65536 = 0x7000 := by omega
    obtain ⟨hpresent, hfind⟩ := hvoice voices.1
    have hnone : ¬(regFind a).isNone = true := by simpa using Option.isSome_iff_ne_none.mp hfind
    simp only [regWrite, hwindow, voiceSpaceWrite, hpresent, Bool.false_or, if_neg hnone, hg, if_true]

/-- The chip in which a member's staging word is the coupled bits of `v`. -/
def Chip.stage (c : Chip) (a : Nat) (v : Word) : Chip :=
  { c with staging := putS (regReset a &&& rwaMask a) c.staging a (v &&& rwaMask a) }

theorem groupWrite_of_member {a : Nat} {ms : List Nat} (hg : groupOf a = some ms) (hlast : ms.getLast? ≠ some a) (v : Word)
    (e : Env) (c : Chip) : groupWrite a v e c = c.stage a v := by
  simp only [groupWrite, hg, if_neg hlast, Chip.stage]

/-- The copy holds what each member has staged after the write, and replaces an earlier copy (R87). -/
theorem groupWrite_of_arming {a : Nat} {ms : List Nat} (hg : groupOf a = some ms) (hlast : ms.getLast? = some a) (v : Word)
    (e : Env) (c : Chip) :
    groupWrite a v e c =
      { c.stage a v with
        armed := c.armed.filter (fun g => g.1 ≠ a) ++ [(a, e.now, ms.map fun x => (x, (c.stage a v).staged x))] } := by
  simp only [groupWrite, hg, if_pos hlast, Chip.stage]

/-! ### When a pending copy is due (R86) -/

theorem multAfter_eq_add {m : Nat} (hm : 0 < m) (t : Nat) : multAfter m t = t + (m - t % m) := by
  have hdiv := Nat.div_add_mod' t m
  have hrest := Nat.mod_lt t hm
  rw [multAfter, Nat.succ_mul]
  omega

theorem Chip.nextBlock_eq {c : Chip} {b : Nat} (hno : c.ldr.commitAt = none) (hb : c.met.lastBlock = some b) (now : Nat) :
    c.nextBlock now = multAfter c.met.ticks.cb b := by
  simp only [Chip.nextBlock, Chip.commitTick, hno, Option.map_none, hb]

theorem Chip.groupDue_of_none {c : Chip} {arm : Nat} (h : c.pendingGroup arm = none) (now : Nat) :
    c.groupDue arm now = none := by
  simp only [Chip.groupDue, h]

/-- A copy armed before the next block tick is due at it. -/
theorem Chip.groupDue_eq_nextBlock {c : Chip} {arm w now : Nat} {copy : SMap Word} (h : c.pendingGroup arm = some (w, copy))
    (ht : timerGroup arm = false) (hw : w < c.nextBlock now) : c.groupDue arm now = some (c.nextBlock now) := by
  simp only [Chip.groupDue, h, ht, Bool.false_eq_true, if_false, if_pos hw]

theorem runTickDue_of_none {s : State} {f : Env → Chip → Chip} (hp : s.chip.powered = true) (hs : s.chip.slow = false) :
    runTickDue none f s = .next (s.becomes s.chip) := by
  rw [runTickDue, hs, if_neg Bool.false_ne_true, runDue, run_of_powered hp]

theorem execGroupApply_of_not_timerGroup {arm : Nat} (ht : timerGroup arm = false) (s : State) :
    execGroupApply arm s = runTickDue (s.chip.groupDue arm s.clock.abs) (fun e c => applyArm arm e.now e c) s := by
  rw [execGroupApply, ht, if_neg Bool.false_ne_true]

/-! ### The copy applies whole (R86) -/

/-- A member's coupled bits take the copied word; its other bits stay. -/
def Chip.takeCoupled (c : Chip) (x : Nat × Word) : Chip :=
  c.wr x.1 ((c.rd x.1 &&& ~~~rwaMask x.1) ||| (x.2 &&& rwaMask x.1))

/-- The members' words do not depend on which copies are pending. -/
theorem Chip.foldl_takeCoupled_armed (copy : SMap Word) (c : Chip) (l : List (Nat × Nat × SMap Word)) :
    copy.foldl Chip.takeCoupled { c with armed := l } = { copy.foldl Chip.takeCoupled c with armed := l } :=
  List.foldl_hom (fun c : Chip => { c with armed := l }) fun _ _ => rfl

theorem Chip.applyGroup_of_pending {c : Chip} {arm w : Nat} {copy : SMap Word} (h : c.pendingGroup arm = some (w, copy)) :
    c.applyGroup arm = { copy.foldl Chip.takeCoupled c with armed := c.armed.filter (fun g => g.1 ≠ arm) } := by
  rw [← Chip.foldl_takeCoupled_armed]
  simp only [Chip.applyGroup, h]
  rfl

/-- Settles O32: both writes are the group's write at the register, the copy is due at the block tick after the arming, and
what it makes of the registers is the members' take, one after the other. -/
theorem coupledGroupsStageArmAndApply : Obligations.CoupledGroupsStageArmAndApply := by
  intro m a arm w b v ms copy s hp
  refine ⟨?writes, ?idle, ?due, ?whole⟩
  case writes =>
    intro hm hwin hvoice hg
    have hstore : store m a v s = .next (s.becomes (groupWrite a v s.env s.chip)) := by
      rw [store_of_admits hp hm, regWrite_eq_groupWrite hwin hvoice (Option.isSome_of_eq_some hg)]
    refine ⟨fun hlast => ?_, fun hlast => ?_⟩
    · exact hstore.trans (by rw [groupWrite_of_member hg hlast]; rfl)
    · exact hstore.trans (by rw [groupWrite_of_arming hg hlast]; rfl)
  case idle =>
    intro hs hnone ht
    refine (execGroupApply_of_not_timerGroup ht s).trans ?_
    rw [Chip.groupDue_of_none hnone, runTickDue_of_none hp hs]
  case due =>
    intro hs hpend ht hno hb _ hw
    have hnext : s.chip.nextBlock s.clock.abs = b + (s.chip.met.ticks.cb - b % s.chip.met.ticks.cb) := by
      rw [Chip.nextBlock_eq hno hb, multAfter_eq_add (Ticks.cb_pos _)]
    refine (execGroupApply_of_not_timerGroup ht s).trans (runTickDue_of_due hp hs ?_)
    rw [Chip.groupDue_eq_nextBlock hpend ht (hnext ▸ hw), hnext]
  case whole =>
    intro c hpend
    rw [Chip.applyGroup_of_pending hpend]
    rfl

end Sys2Proof.Machine
end

section
/-! PROOF. Pushes by software (03_queues_and_events.md, R93, R110, R112): which register of a queue's window a write reaches,
the record that the staged words spell, and what a commit puts into the write port. -/

namespace Sys2Proof.Machine

/-! ### The windows of the queues (R91) -/

/-- A register in a queue's 128 bytes of the QUE window: the page of its address, and the queue and the place that the
address spells. -/
theorem queueReg_decode {a q off : Nat} (hq : q < 64) (hoff : off < 0x80) (ha : a = 0x60031000 + 0x80 * q + off) :
    a / 65536 = 0x6003 ∧ (0x60031000 ≤ a ∧ a < 0x60033000) ∧ (a - 0x60031000) / 0x80 = q ∧ (a - 0x60031000) % 0x80 = off := by
  omega

/-- R110: the three words of a staging set lie one after the other. -/
theorem regWrite_quenPushStage {q k : Nat} (hq : q < 64) (h1 : 1 ≤ k) (h3 : k ≤ 3) (m : Master) (v : Word) (e : Env) (c : Chip) :
    regWrite m (A.QUEn_PUSH1 q + 4 * (k - 1)) v e c = pushStage m k v c := by
  obtain ⟨hpage, hwindow, -, hplace⟩ := queueReg_decode (a := A.QUEn_PUSH1 q + 4 * (k - 1)) (off := 0x40 + 4 * (k - 1)) hq
    (by omega) (by rw [A.QUEn_PUSH1]; omega)
  have hregs : k = 1 ∨ k = 2 ∨ k = 3 := by omega
  rcases hregs with rfl | rfl | rfl <;>
    simp only [regWrite, lowWrite, hpage, queWrite, hwindow, hplace, decide_true, Bool.and_self, if_true]

theorem regWrite_quenPush {q : Nat} (hq : q < 64) (m : Master) (v : Word) (e : Env) (c : Chip) :
    regWrite m (A.QUEn_PUSH q) v e c = pushCommit m q false v e c := by
  obtain ⟨hpage, hwindow, hqueue, hplace⟩ := queueReg_decode (a := A.QUEn_PUSH q) (off := 0x4C) hq (by decide)
    (by rw [A.QUEn_PUSH]; omega)
  simp only [regWrite, lowWrite, hpage, queWrite, hwindow, hqueue, hplace, decide_true, Bool.and_self, if_true]

theorem regWrite_quenPushT {q : Nat} (hq : q < 64) (m : Master) (v : Word) (e : Env) (c : Chip) :
    regWrite m (A.QUEn_PUSH_T q) v e c = pushCommit m q true v e c := by
  obtain ⟨hpage, hwindow, hqueue, hplace⟩ := queueReg_decode (a := A.QUEn_PUSH_T q) (off := 0x50) hq (by decide)
    (by rw [A.QUEn_PUSH_T]; omega)
  simp only [regWrite, lowWrite, hpage, queWrite, hwindow, hqueue, hplace, decide_true, Bool.and_self, if_true]

/-! ### The record that four words spell (R93) -/

theorem bits_eq (w : Word) (hi lo : Nat) : bits w hi lo = w.toNat / 2 ^ lo % 2 ^ (hi + 1 - lo) := by
  rw [bits, Nat.shiftRight_eq_div_pow]

/-- TIME is the upper half of word 2 above word 1. -/
theorem recOfWords_time (w0 w1 w2 w3 : Word) : (recOfWords w0 w1 w2 w3).time = w2.extractLsb' 16 16 ++ w1 := by
  apply BitVec.eq_of_toNat_eq
  have h1 := w1.isLt
  rw [BitVec.toNat_append, ← Nat.shiftLeft_add_eq_or_of_lt h1, Nat.shiftLeft_eq, BitVec.extractLsb'_toNat,
    Nat.shiftRight_eq_div_pow, recOfWords, bits_eq w2, BitVec.toNat_ofNat]
  omega

/-- The fields of a record, each from its place in the words. -/
theorem recOfWords_eq (w0 w1 w2 w3 : Word) :
    recOfWords w0 w1 w2 w3 =
      { source := w0.toNat / 2 ^ 24 % 256, kind := w0.toNat / 65536 % 256, key := w0.toNat / 256 % 256, flags := w0.setWidth 8,
        time := w2.extractLsb' 16 16 ++ w1, valueA := w2.setWidth 16, valueB := w3 } :=
  Rec.mk.injEq .. |>.mpr ⟨bits_eq w0 31 24, bits_eq w0 23 16, bits_eq w0 15 8, BitVec.ofNat_toNat 8 w0, recOfWords_time w0 w1 w2 w3,
    BitVec.ofNat_toNat 16 w2, rfl⟩

/-! ### A stage and a commit (R110, R112) -/

/-- Each word of the set is the written one where it is named, and else as it was. -/
theorem pushStage_eq {k : Nat} (h1 : 1 ≤ k) (h3 : k ≤ 3) (m : Master) (v : Word) (c : Chip) :
    pushStage m k v c =
      let st := getS {} c.que.stage m.port
      { c with que := { c.que with
        stage := putS {} c.que.stage m.port
          { w1 := if k = 1 then v else st.w1, w2 := if k = 2 then v else st.w2, w3 := if k = 3 then v else st.w3 } } } := by
  have hwords : k = 1 ∨ k = 2 ∨ k = 3 := by omega
  rcases hwords with rfl | rfl | rfl <;> rfl

/-- R112: a queue that is not enabled or has another producer takes no commit. -/
theorem pushCommit_of_refused {c : Chip} {q : Nat} (h : (c.qe q).depth = 0 ∨ (c.qe q).producer ≠ 0) (m : Master) (timed : Bool)
    (v : Word) (e : Env) : pushCommit m q timed v e c = c.setBit (A.QUEn_STAT q) 6 := by
  have hrefused : (decide ((c.qe q).depth = 0) || decide ((c.qe q).producer ≠ 0)) = true := by simpa using h
  rw [pushCommit, if_pos hrefused]

/-- What a commit makes of the record that the words spell: SOURCE is the master's, of the flags CONT alone stays (bit 2, log
entry 34), and TIME stays only in a timed commit (R110). -/
def Rec.committed (r : Rec) (m : Master) (timed : Bool) (e : Env) : Rec :=
  { r with source := masterSource m, flags := r.flags &&& 4, time := if timed then r.time else e.stamp }

/-- The chip with a master's record last in the write port of queue `q` (R103). -/
def Chip.waiting (c : Chip) (q : Nat) (r : Rec) (e : Env) : Chip :=
  { c with que := { c.que with skid := c.que.skid ++ [{ queue := q, r := r, byMaster := true, since := e.now }] } }

/-- The record that a master's staged words and a written word 0 spell. -/
def Chip.spelled (c : Chip) (m : Master) (w0 : Word) : Rec :=
  let st := getS {} c.que.stage m.port
  recOfWords w0 st.w1 st.w2 st.w3

/-- A queue that is enabled and whose producer is software takes the commit into its write port. -/
theorem pushCommit_of_taken {c : Chip} {q : Nat} (h : ¬((c.qe q).depth = 0 ∨ (c.qe q).producer ≠ 0)) (m : Master) (timed : Bool)
    (v : Word) (e : Env) : pushCommit m q timed v e c = c.waiting q ((c.spelled m v).committed m timed e) e := by
  have htaken : ¬(decide ((c.qe q).depth = 0) || decide ((c.qe q).producer ≠ 0)) = true := by simpa using h
  exact if_neg htaken

/-- Settles O33: each command is a write of one register of the queue, and the lemmas above say what a stage and a commit
do. -/
theorem pushesStageAndCommit : Obligations.PushesStageAndCommit := by
  intro m q k v s hp hm hq
  have hpush : exec (.quenPush m q v) s = .next (s.becomes (pushCommit m q false v s.env s.chip)) :=
    (store_of_admits hp hm).trans (by rw [regWrite_quenPush hq])
  have hpushT : exec (.quenPushT m q v) s = .next (s.becomes (pushCommit m q true v s.env s.chip)) :=
    (store_of_admits hp hm).trans (by rw [regWrite_quenPushT hq])
  refine ⟨?stage, ?taken, ?refused⟩
  case stage =>
    intro h1 h3
    exact (store_of_admits hp hm).trans (by rw [regWrite_quenPushStage hq h1 h3, pushStage_eq h1 h3])
  case taken =>
    intro hon
    refine ⟨hpush.trans ?_, hpushT.trans ?_⟩ <;> rw [pushCommit_of_taken hon, Chip.spelled, recOfWords_eq] <;> rfl
  case refused =>
    intro hoff
    exact ⟨hpush.trans (by rw [pushCommit_of_refused hoff]), hpushT.trans (by rw [pushCommit_of_refused hoff])⟩

end Sys2Proof.Machine
end

section
/-! PROOF. Pops and the end of a wait (03_queues_and_events.md, R109, R111 to R113): what a read of QUEn_POP returns and
leaves, and what HOLD_TIMEOUT does to the commit that has waited longest. -/

namespace Sys2Proof.Machine

/-! ### A read of QUEn_POP (R111, R112) -/

theorem regRead_quenPop {q : Nat} (hq : q < 64) (m : Master) (e : Env) (c : Chip) :
    regRead m (A.QUEn_POP q) e c = popRead m q c := by
  obtain ⟨hpage, hwindow, hqueue, hplace⟩ := queueReg_decode (a := A.QUEn_POP q) (off := 0x60) hq (by decide)
    (by rw [A.QUEn_POP]; omega)
  have hsum : A.QUEn_POP q ≠ A.QUE_INT_SUM0 ∧ A.QUEn_POP q ≠ A.QUE_INT_SUM1 := by
    simp only [A.QUEn_POP, A.QUE_INT_SUM0, A.QUE_INT_SUM1]
    omega
  simp only [regRead, hpage, queRead, hsum, hwindow, hqueue, hplace, decide_true, Bool.and_self, if_true, if_false]

/-- R112: a queue that is not enabled or has another consumer gives nothing. -/
theorem popRead_of_refused {c : Chip} {q : Nat} (h : (c.qe q).depth = 0 ∨ (c.qe q).consumer ≠ 0) (m : Master) :
    popRead m q c = (0, c.setBit (A.QUEn_STAT q) 6) := by
  have hrefused : (decide ((c.qe q).depth = 0) || decide ((c.qe q).consumer ≠ 0)) = true := by simpa using h
  rw [popRead, if_pos hrefused]

theorem Chip.popRec_of_nil {c : Chip} {q : Nat} (h : c.qItems q = []) : c.popRec q = none := by
  simp only [Chip.popRec, h]

/-- R111, R113: the oldest record leaves; the low watermark is reached where the fill was above it and no longer is. -/
theorem Chip.popRec_of_cons {c : Chip} {q : Nat} {it : QItem} {l : List QItem} (h : c.qItems q = it :: l) :
    c.popRec q = some (it,
      if (c.qe q).wmLo < c.qFill q ∧ (c.setItems q l).qFill q ≤ (c.qe q).wmLo then (c.setItems q l).setBit (A.QUEn_STAT q) 2
      else c.setItems q l) := by
  have hmap : (c.setItems q l).qe q = c.qe q := rfl
  simp only [Chip.popRec, h, hmap, Bool.and_eq_true, decide_eq_true_eq]

section
variable {c : Chip} {q : Nat} (hd : (c.qe q).depth ≠ 0) (hc : (c.qe q).consumer = 0)
include hd hc

theorem popRead_of_nil (h : c.qItems q = []) (m : Master) :
    popRead m q c = (0, { c.setBit (A.QUEn_STAT q) 4 with que := { c.que with pop := putS {} c.que.pop m.port {} } }) := by
  have hopen : ¬(decide ((c.qe q).depth = 0) || decide ((c.qe q).consumer ≠ 0)) = true := by simp [hd, hc]
  rw [popRead, if_neg hopen, Chip.popRec_of_nil h]

/-- R111: the reader keeps the other three words. -/
theorem popRead_of_cons {it : QItem} {l : List QItem} (h : c.qItems q = it :: l) (m : Master) :
    popRead m q c =
      let left := c.setItems q l
      let low := (c.qe q).wmLo < c.qFill q ∧ left.qFill q ≤ (c.qe q).wmLo
      (it.r.w0, { (if low then left.setBit (A.QUEn_STAT q) 2 else left) with
        que := { left.que with
          pop := putS {} c.que.pop m.port { w1 := it.r.w1, w2 := it.r.w2, w3 := it.r.valueB } } }) := by
  have hopen : ¬(decide ((c.qe q).depth = 0) || decide ((c.qe q).consumer ≠ 0)) = true := by simp [hd, hc]
  rw [popRead, if_neg hopen, Chip.popRec_of_cons h]
  by_cases hlow : (c.qe q).wmLo < c.qFill q ∧ (c.setItems q l).qFill q ≤ (c.qe q).wmLo
  · simp only [if_pos hlow]
    rfl
  · simp only [if_neg hlow]
    rfl

end

/-! ### The end of a wait (R109) -/

/-- Which commit is held depends on the queues alone, and they stay as the count moves on. -/
theorem State.advTo_heldCommit (s : State) (t q : Nat) : (s.advTo t).chip.heldCommit q = s.chip.heldCommit q := by
  obtain ⟨r, hr⟩ := s.advTo_chip_eq_regs t
  rw [hr]
  rfl

/-- 65,536 interconnect cycles are 26,215 counts. -/
theorem Chip.holdDue_of_held {c : Chip} {q : Nat} {i : SkidItem} (h : c.heldCommit q = some i) :
    c.holdDue q = some (i.since + 26215) := by
  rw [Chip.holdDue, h]
  rfl

/-- Only the DMA channels' sources name a channel. -/
theorem commitChannel_of_lt {i : SkidItem} (h : i.r.source < 0x40) : commitChannel i = none := by
  rw [commitChannel, if_neg (by omega)]

theorem holdTimeout_of_held {c : Chip} {q : Nat} {i : SkidItem} (h : c.heldCommit q = some i) (hsrc : i.r.source < 0x40) (e : Env) :
    holdTimeout q e c = Chip.report e 0x07 clsRecoverable q 0
      ((Chip.drop1 { c with que := { c.que with skid := c.que.skid.erase i } } q).setBit (A.QUEn_STAT q) 5) := by
  simp only [holdTimeout, h, commitChannel_of_lt hsrc]

/-- Settles O35: a pop is a read of the queue's register, whose cases are the lemmas above; a held commit is due a fixed time
after it began to wait, and is still the one held when the count has come there. -/
theorem popsTakeTheOldestRecord : Obligations.PopsTakeTheOldestRecord := by
  intro m q it l i s hp hq
  have hpop (hm : admits 8 m.port = true) :
      exec (.quenPop m q) s = .next (s.becomes ((popRead m q s.chip).2.answered m (popRead m q s.chip).1)) :=
    (load_of_admits hp hm).trans (by rw [regRead_quenPop hq])
  refine ⟨?refused, ?empty, ?oldest, ?timeout⟩
  case refused =>
    intro hm hoff
    exact (hpop hm).trans (by rw [popRead_of_refused hoff])
  case empty =>
    intro hm hd hc hnil
    exact (hpop hm).trans (by rw [popRead_of_nil hd hc hnil])
  case oldest =>
    intro hm hd hc hcons
    exact (hpop hm).trans (by rw [popRead_of_cons hd hc hcons])
  case timeout =>
    intro hs hheld hsrc _
    have hdue : exec (.holdTimeout q) s = runDue (some (i.since + 26215)) (holdTimeout q) s := by
      rw [← Chip.holdDue_of_held hheld]
      rfl
    refine (hdue.trans (runAt_of_powered hp hs)).trans (congrArg _ (State.becomesAt_congr ?_))
    exact holdTimeout_of_held ((s.advTo_heldCommit _ q).trans hheld) hsrc _

end Sys2Proof.Machine
end

section
/-! PROOF. The voices' commands and ends (04_voices.md): what a word written to a register does, the commands of STK_VCMD
(R168) and the plain writes (R125) that wait, the ends of an envelope's segment (R137, R138) and of a wave (R134), and the
decay and the length of a chime (R173). -/

namespace Sys2Proof.Machine

/-! ### A word written to a register (R11, R12, R448) -/

/-- R12: the bytes of a number, the least significant first, give it back. -/
theorem leNat_leBytes (n v : Nat) : leNat (leBytes n v) = v % 256 ^ n := by
  induction n generalizing v with
  | zero => exact (Nat.mod_one v).symm
  | succ n ih =>
    have hbyte : (BitVec.ofNat 8 v).toNat = v % 256 := BitVec.toNat_ofNat v 8
    rw [leBytes, leNat, hbyte, ih, Nat.pow_succ', Nat.mod_mul]

theorem word_leNat_leBytes (v : Word) : word (leNat (leBytes 4 v.toNat)) = v := by
  have hv : v.toNat % 256 ^ 4 = v.toNat := Nat.mod_eq_of_lt v.isLt
  rw [leNat_leBytes, hv, word, BitVec.ofNat_toNat, BitVec.setWidth_eq]

section
variable {a : Nat}

theorem regionOf_voiceWindow (hlo : 0x70000000 ≤ a) (hhi : a < 0x70010000) : regionOf a = .voice := by
  have hnot (n : Nat) (hn : n ≤ 0x70000000) : ¬a < n := by omega
  simp [regionOf, hnot, hlo, hhi]

variable {m : Master} (hr : regionOf a = .periph ∨ regionOf a = .voice)
include hr

/-- Only the bytes at a core's own local addresses are held elsewhere (R379). -/
theorem heldBy_of_register : heldBy m a = a := by
  have hlocal : regionOf a ≠ .local := fun h => by simp [h] at hr
  cases m <;> simp [heldBy, hlocal]

variable (hm : admits 8 m.port = true) (ha : a % 4 = 0)
include hm ha

theorem Chip.busCause_of_register (c : Chip) (write : Bool) : c.busCause m write false a 4 = none := by
  rcases hr with h | h <;>
    simp [Chip.busCause, h, Region.target, hm, badWidth, ha, Chip.notReady, Chip.notWritable, Chip.beyond]

/-- A word that an admitted master writes to a register is the register's write, and no more. -/
theorem complete_wordAccess_write (v : Word) (e : Env) (c : Chip) : complete (wordAccess m true a v) e c = regWrite m a v e c := by
  have hperform : perform (wordAccess m true a v) e c = ([], regWrite m a v e c) := by
    have hreg : (regionOf a == .periph || regionOf a == .voice) = true := by simpa using hr
    simp only [perform, wordAccess, heldBy_of_register hr, hreg, if_true, word_leNat_leBytes]
  have haccess : access (wordAccess m true a v) e c = (.ok [], regWrite m a v e c) := by
    have hcause := Chip.busCause_of_register hr hm ha c true
    simp only [access, wordAccess, hcause, lockBeat, eccCheck, Bool.false_and, Bool.not_false, if_true] at hperform ⊢
    rw [hperform]
  rw [complete, haccess]
  rfl

end

theorem execRegisterWrite_of_voiceWindow {m : Master} {a : Nat} {s : State} (hp : s.chip.powered = true)
    (hm : admits 8 m.port = true) (hlo : 0x70000000 ≤ a) (hhi : a < 0x70010000) (ha : a % 4 = 0) (v : Word) :
    execRegisterWrite m a v s = .next (s.becomes (regWrite m a v s.env s.chip)) := by
  rw [execRegisterWrite, run_of_powered hp, complete_wordAccess_write (.inr (regionOf_voiceWindow hlo hhi)) hm ha]

/-! ### Bytes and halves of a word -/

theorem bits_15_8 (w : Word) : bits w 15 8 = w.toNat / 256 % 256 := bits_eq w 15 8

theorem bits_31_16 (w : Word) : bits w 31 16 = w.toNat / 65536 := by
  have := w.isLt
  rw [bits_eq]
  omega

/-! ### Voice commands wait for the intake (R168) -/

theorem vcmdWord_toNat {op v : Nat} (hop : op < 4) (hv : v < 256) : (vcmdWord op v).toNat = v * 256 + op := by
  rw [vcmdWord, word, BitVec.toNat_ofNat, Nat.mod_eq_of_lt hv]
  omega

theorem bits_vcmdWord_op {op v : Nat} (hop : op < 4) (hv : v < 256) : bits (vcmdWord op v) 1 0 = op := by
  rw [bits_eq, vcmdWord_toNat hop hv]
  omega

theorem bits_vcmdWord_voice {op v : Nat} (hop : op < 4) (hv : v < 256) : bits (vcmdWord op v) 15 8 = v := by
  rw [bits_eq, vcmdWord_toNat hop hv]
  omega

/-- A write of STK_VCMD reaches no other register's rule. -/
theorem regWrite_stkVcmd (m : Master) (w : Word) (e : Env) (c : Chip) :
    regWrite m A.STK_VCMD w e c = vcmdWrite (bits w 1 0) (bits w 15 8) (masterSource m) c := rfl

/-- The chip with a command last among those that wait for the intake close. -/
def Chip.withCmd (c : Chip) (m : VCmd) : Chip := { c with stk := { c.stk with cmds := c.stk.cmds ++ [m] } }

/-- Operation 0 of STK_VCMD is no command; each other one waits. -/
theorem vcmdWrite_of_ne_zero {op : Nat} (hop : op ≠ 0) (v src : Nat) (c : Chip) :
    vcmdWrite op v src c = c.withCmd { op := op, voice := v, source := src } := by
  rw [vcmdWrite, if_neg hop]
  rfl

theorem store_stkVcmd_of_admits {m : Master} {op v : Nat} {s : State} (hp : s.chip.powered = true) (hm : admits 8 m.port = true)
    (h0 : op ≠ 0) (h4 : op < 4) (hv : v < 256) :
    store m A.STK_VCMD (vcmdWord op v) s =
      .next (s.becomes (s.chip.withCmd { op := op, voice := v, source := masterSource m })) := by
  rw [store_of_admits hp hm, regWrite_stkVcmd, bits_vcmdWord_op h4 hv, bits_vcmdWord_voice h4 hv, vcmdWrite_of_ne_zero h0]

/-! ### Plain writes wait for a block tick (R125) -/

/-- A register of a voice that the grade has, and that is in no coupled group, is written plainly. -/
theorem regWrite_eq_voiceWrite {a : Nat} {e : Env} (hlo : 0x70000000 ≤ a) (hhi : a < 0x70010000)
    (hpresent : absentVoice e.fuses a = false) (hfind : (regFind a).isSome = true) (hg : groupOf a = none)
    (m : Master) (w : Word) (c : Chip) : regWrite m a w e c = voiceWrite a w e c := by
  have hwindow : a / 65536 = 0x7000 := by omega
  have hnone : (regFind a).isNone = false := Option.isNone_eq_false_iff.mpr hfind
  simp only [regWrite, hwindow, voiceSpaceWrite, hpresent, hnone, hg, Option.isSome_none, Bool.or_self, Bool.false_eq_true,
    if_false]

/-- The only write that waits, and that came before the tick, is applied under the access codes. -/
theorem Chip.applyVoiceWrites_of_singleton {c : Chip} {x : VWrite} {t : Nat} (h : c.stk.writes = [x]) (ht : x.at' < t) :
    c.applyVoiceWrites t = Chip.writeCoded { c with stk := { c.stk with writes := [] } } x.addr x.v := by
  simp [Chip.applyVoiceWrites, Chip.stkDo, h, ht]

/-! ### Ends of segments and waves (R134, R137, R138) -/

/-- A voice in this state sounds (04_voices.md, the table of the voices' states). -/
def VState.Sounds (st : VState) : Prop := st = .playing ∨ st = .released ∨ st = .stealing

/-- The test that the ends make. -/
theorem VState.Sounds.test {st : VState} (h : st.Sounds) :
    (decide (st = .playing) || decide (st = .released) || decide (st = .stealing)) = true := by
  simpa [VState.Sounds, or_assoc] using h

section
variable {c : Chip} {v : Nat}

theorem envelopeEnd_of_idle (h : (c.voice v).st = .idle) (env : Nat) (e : Env) : envelopeEnd v env e c = c := by
  simp [envelopeEnd, h]

theorem waveEnd_of_idle (h : (c.voice v).st = .idle) (e : Env) : waveEnd v e c = c := by
  simp [waveEnd, h]

/-- The shape of the second envelope is the one that bits 15:8 of the voice's envelope word name; its end never ends the
voice. -/
theorem envelopeEnd_second_of_run (h : (c.voice v).st.Sounds) (hrun : (c.voice v).e2.mode = .run) (e : Env) :
    envelopeEnd v 1 e c = c.setVoice v { c.voice v with
      e2 := segEnd (c.shape (bits (c.vReg v (c.voice v) 0x2C) 15 8)) { (c.voice v).e2 with pos := (c.voice v).e2.total } } := by
  have hrunning : (decide ((c.voice v).e2.mode = .run) || decide ((c.voice v).e2.mode = .fall)) = true := by simp [hrun]
  rw [envelopeEnd, if_pos h.test]
  simp only [hrunning, if_true, Nat.one_ne_zero, decide_false, Bool.false_and, Bool.false_eq_true, if_false]

/-- A voice that has no loop and is no pair ends at END, with cause 1 (R134). -/
theorem waveEnd_of_oneShot (h : (c.voice v).st.Sounds) (hloop : bits (c.vReg v (c.voice v) 0x18) 5 4 = 0) (e : Env) :
    let ended := (c.setVoice v { c.voice v with phase := (c.vReg v (c.voice v) 0x0C).toNat * 65536 }).endVoice e v 1 e.stamp
    (ended.vEntry v).kind ≠ 5 → waveEnd v e c = ended := by
  intro ended hpair
  have hnoLoop : (!(decide (bits (c.vReg v (c.voice v) 0x18) 5 4 = 1) || decide (bits (c.vReg v (c.voice v) 0x18) 5 4 = 2))) =
      true := by simp [hloop]
  simp only [waveEnd, h.test, hnoLoop, Bool.true_or, Bool.and_self, if_true]
  exact if_neg hpair

end

/-! ### Chimes (R173) -/

section
variable {c : Chip} {n next : Nat} (hon : (c.chime n).on = true)
include hon

/-- The decay's last block passes at the next block tick. -/
theorem Chip.decayDue_of_last (hd : bits (c.rd (A.CHMn_ENV n)) 15 8 ≠ 0) (hat : (c.chime n).volAt < next)
    (hlast : (c.chime n).blocks + 1 = bits (c.rd (A.CHMn_ENV n)) 15 8) : c.decayDue n next = some next := by
  have hleft : bits (c.rd (A.CHMn_ENV n)) 15 8 - 1 - (c.chime n).blocks = 0 := by omega
  simp [Chip.decayDue, Chip.chimeTick, hon, hd, Nat.not_le.mpr hat, hleft]

/-- The length's last block passes at the next block tick. -/
theorem Chip.lengthDue_of_last (hl : bits (c.rd (A.CHMn_ENV n)) 31 16 = 1) (hat : (c.chime n).lenAt < next) :
    c.lengthDue n next = some next := by
  simp [Chip.lengthDue, Chip.chimeTick, hon, hl, Nat.not_le.mpr hat]

end

/-- Settles O36: a command and a plain write are appended by the writes of their registers; the ends are their effects on the
chip; a chime's step is due at the next block tick, and is what the effect makes of the chip there. -/
theorem voiceCommandsAndEnds : Obligations.VoiceCommandsAndEnds := by
  refine ⟨?waiting, ?ending⟩
  case waiting =>
    intro m v a t w s hp hm hv
    refine ⟨store_stkVcmd_of_admits hp hm (by decide) (by decide) hv, store_stkVcmd_of_admits hp hm (by decide) (by decide) hv,
      store_stkVcmd_of_admits hp hm (by decide) (by decide) hv, ?write, ?apply⟩
    case write =>
      intro hlo hhi ha hpresent hfind hg
      have hwindow : a < 0x70010000 := by omega
      exact (execRegisterWrite_of_voiceWindow hp hm hlo hwindow ha w).trans
        (by rw [regWrite_eq_voiceWrite hlo hwindow hpresent hfind hg]; rfl)
    case apply =>
      exact fun hwrites ht => Chip.applyVoiceWrites_of_singleton hwrites ht
  case ending =>
    intro v n b s hp
    have hnext (hno : s.chip.ldr.commitAt = none) (hb : s.chip.met.lastBlock = some b) :
        s.chip.nextBlock s.clock.abs = b + (s.chip.met.ticks.cb - b % s.chip.met.ticks.cb) := by
      rw [Chip.nextBlock_eq hno hb, multAfter_eq_add (Ticks.cb_pos _)]
    refine ⟨?idle, ?segment, ?wave, ?decay, ?length⟩
    case idle =>
      intro hidle
      exact ⟨(run_of_powered hp).trans (by rw [envelopeEnd_of_idle hidle]),
        (run_of_powered hp).trans (by rw [waveEnd_of_idle hidle])⟩
    case segment =>
      intro hsounds hrun
      exact (run_of_powered hp).trans (by rw [envelopeEnd_second_of_run hsounds hrun, bits_15_8])
    case wave =>
      intro hsounds hloop _
      refine ⟨rfl, fun hpair => (run_of_powered hp).trans ?_⟩
      rw [waveEnd_of_oneShot hsounds ((bits_eq ..).trans hloop) _ hpair]
      rfl
    case decay =>
      rintro ⟨hs, hno, hb, hon⟩ hd hat hlast
      refine (runTickDue_of_due hp hs ?_).trans (congrArg _ (State.becomesAt_congr rfl))
      rw [hnext hno hb, Chip.decayDue_of_last hon (by rwa [bits_15_8]) hat (hlast.trans (bits_15_8 _).symm)]
    case length =>
      rintro ⟨hs, hno, hb, hon⟩ hl hat
      refine (runTickDue_of_due hp hs ?_).trans (congrArg _ (State.becomesAt_congr rfl))
      rw [hnext hno hb, Chip.lengthDue_of_last hon ((bits_31_16 _).trans hl) hat]

end Sys2Proof.Machine
end

section
/-! PROOF. The display controller (08_display.md, R270 to R298): when the next line starts (R271, R272), what a line start
does where scan-out is stopped, the FIFO while a push runs (R293, R297), the dirty map (R288), a push from its TE edge to its
last transfer (R290 to R293), the commands that are writes of registers, and all of these over the states whose register file is
in canonical form.

PUSHING reads 0 after a push in a register file in canonical form, and the form is needed: `pushEnd_pushing_of_statListedTwice`
is about a file in which the clearing write uncovers a second entry of DISP_STAT. -/

namespace Sys2Proof.Machine

variable {s : State} {c : Chip}

/-! ### The beam (R271, R272) -/

section
variable {now : Nat} (hfc : 0 < c.frameCounts) (h0 : c.met.frame0 ≤ now)

include h0 in
/-- The frame that holds a count began at it or before it. -/
theorem Chip.frameStart_le : c.frameStart now ≤ now := by
  have := Nat.div_mul_le_self (now - c.met.frame0) c.frameCounts
  rw [Chip.frameStart]
  omega

include hfc in
/-- It ends after it. -/
theorem Chip.lt_frameStart_add : now < c.frameStart now + c.frameCounts := by
  have := Nat.lt_div_mul_add hfc (a := now - c.met.frame0)
  rw [Chip.frameStart]
  omega

/-- Every line of a frame starts within it. -/
theorem Chip.lineCount_le (f : Nat) {l : Nat} (hl : l < c.vTotal) : c.lineCount f l ≤ f + c.frameCounts := by
  have hv : 0 < c.vTotal := by omega
  have hmul : l * c.frameCounts + c.vTotal - 1 < (c.frameCounts + 1) * c.vTotal := by
    have := Nat.mul_le_mul_right c.frameCounts (Nat.le_of_lt hl)
    rw [Nat.succ_mul, Nat.mul_comm c.frameCounts]
    omega
  exact Nat.add_le_add_left (Nat.lt_succ_iff.mp ((Nat.div_lt_iff_lt_mul hv).mpr hmul)) f

include hfc in
/-- The line after the one that the beam is on `x` counts into a frame starts later. -/
theorem Chip.lt_lineCount_next (hv : 0 < c.vTotal) (f x : Nat) :
    f + x < c.lineCount f (x * c.vTotal / c.frameCounts + 1) := by
  have hline := Nat.lt_div_mul_add hfc (a := x * c.vTotal)
  have hcount : (x + 1) * c.vTotal ≤ (x * c.vTotal / c.frameCounts + 1) * c.frameCounts + c.vTotal - 1 := by
    rw [Nat.succ_mul, Nat.succ_mul]
    omega
  exact Nat.add_lt_add_left ((Nat.le_div_iff_mul_le hv).mpr hcount) f

include hfc h0 in
/-- R272: the next line start is not before the present count and within a frame of it. -/
theorem Chip.nextLine_bounds (hv : 0 < c.vTotal) : now ≤ c.nextLine now ∧ c.nextLine now ≤ now + c.frameCounts := by
  have hstart := Chip.frameStart_le h0
  have hend := Chip.lt_frameStart_add hfc (now := now)
  have hsum : c.frameStart now + (now - c.frameStart now) = now := Nat.add_sub_cancel' hstart
  have hnext := Chip.lt_lineCount_next hfc hv (c.frameStart now) (now - c.frameStart now)
  simp only [Chip.nextLine]
  split
  · exact ⟨Nat.le_refl _, Nat.le_add_right ..⟩
  · split
    case isTrue hlast =>
      have := Chip.lineCount_le (c.frameStart now) hlast
      omega
    case isFalse => omega

end

/-! ### A line start where scan-out is stopped (R270, R272) -/

/-- Moving the count on writes MET_STAT alone. -/
theorem State.advTo_rd (s : State) (t : Nat) {a : Nat} (h : a ≠ A.MET_STAT) : (s.advTo t).chip.rd a = s.chip.rd a := by
  unfold State.advTo Chip.passed
  dsimp only
  split
  · rfl
  · split <;> split <;> simp only [Chip.setBit, Chip.rd_wr_of_ne h]

@[simp] theorem State.advTo_chip_disp (s : State) (t : Nat) : (s.advTo t).chip.disp = s.chip.disp := by
  obtain ⟨r, hr⟩ := s.advTo_chip_eq_regs t
  rw [hr]

/-- No line is on its way to the panel, and none will be fetched. -/
structure Chip.ScanStopped (c : Chip) : Prop where
  standard : c.dkind = 1
  row : c.disp.row = []
  current : c.disp.current.2 = []
  scan : c.disp.scan = false
  enabled : c.bit A.DISP_CTL 0 = false
  engine : c.scrBusy = false

theorem Chip.ScanStopped.advTo (h : s.chip.ScanStopped) (t : Nat) : (s.advTo t).chip.ScanStopped where
  standard := by rw [Chip.dkind, Chip.dsec, State.advTo_chip_disp]; exact h.standard
  row := by rw [State.advTo_chip_disp]; exact h.row
  current := by rw [State.advTo_chip_disp]; exact h.current
  scan := by rw [State.advTo_chip_disp]; exact h.scan
  enabled := by rw [Chip.bit, State.advTo_rd s t (by decide)]; exact h.enabled
  engine := by rw [Chip.scrBusy, Chip.bit, State.advTo_rd s t (by decide)]; exact h.engine

theorem Chip.overtakeFetch_of_idle (h : c.scrBusy = false) (y : Nat) : c.overtakeFetch y = c := by
  simp [Chip.overtakeFetch, Chip.scrOnSurface, h]

/-- R272: such a line start records its count, and no more. -/
theorem lineTick_of_scanStopped (h : c.ScanStopped) (late : List (Nat × Nat)) (e : Env) :
    lineTick late e c = { c with disp := { c.disp with lineAt := some e.now } } := by
  obtain ⟨hkind, hrow, hcurrent, hscan, hen, hscr⟩ := h
  have hrecorded : lineStart late e c = c.dispDo fun d => { d with lineAt := some e.now } := by
    have hscanning : (c.dispDo fun d => { d with lineAt := some e.now }).scanning = false := by
      simp [Chip.scanning, Chip.dispDo, hscan]
    have hwill : (c.dispDo fun d => { d with lineAt := some e.now }).willScan = false :=
      Bool.and_eq_false_iff.mpr (.inl hen)
    simp [lineStart, hkind, hrow, hcurrent, hscanning, hwill]
  rw [lineTick, hrecorded]
  exact Chip.overtakeFetch_of_idle (c := c.dispDo fun d => { d with lineAt := some e.now }) hscr _

theorem exec_dispLineStart (hp : s.chip.powered = true) (hs : s.chip.slow = false) (late : List (Nat × Nat)) :
    exec (.dispLineStart late) s = .next (s.becomesAt (s.chip.nextLine s.clock.abs) (lineTick late)) := by
  refine Eq.trans ?_ (runAt_of_powered hp hs)
  exact if_neg (Bool.eq_false_iff.mp hs)

theorem exec_dispLineStart_of_scanStopped (hp : s.chip.powered = true) (hs : s.chip.slow = false) (h : s.chip.ScanStopped)
    (late : List (Nat × Nat)) :
    exec (.dispLineStart late) s = .next (s.becomesAt (s.chip.nextLine s.clock.abs)
      fun e c => { c with disp := { c.disp with lineAt := some e.now } }) :=
  (exec_dispLineStart hp hs late).trans
    (congrArg _ (State.becomesAt_congr (lineTick_of_scanStopped (h.advTo _) late _)))

/-! ### The FIFO (R293, R297) -/

section
variable {p : Push}

theorem Chip.fifoNow_of_nil (h : c.disp.fifo = []) (e : Env) : c.fifoNow e = c := by
  simp [Chip.fifoNow, fifoRun, h]

/-- No byte leaves while a push runs. -/
theorem Chip.fifoNow_of_push (h : c.disp.push = some p) (e : Env) : c.fifoNow e = c := by
  rw [Chip.fifoNow, fifoRun]
  split
  · rfl
  · simp [h]

/-- The chip with a byte last in the FIFO. -/
def Chip.queued (c : Chip) (b : DispByte) (now : Nat) : Chip :=
  { c with disp := { c.disp with
      fifo := c.disp.fifo ++ [b], busFree := if c.disp.fifo.isEmpty then max c.disp.busFree now else c.disp.busFree } }

theorem fifoWrite_of_push_of_lt (h : c.disp.push = some p) (hroom : c.disp.fifo.length < 16) (b : DispByte) (e : Env) :
    fifoWrite b e c = c.queued b e.now := by
  simp only [fifoWrite, Chip.fifoNow_of_push h, if_neg (Nat.not_le.mpr hroom)]
  exact Chip.fifoNow_of_push (c := c.queued b e.now) h e

/-- A byte that finds the FIFO full is refused with CMD_OVF. -/
theorem fifoWrite_of_push_of_full (h : c.disp.push = some p) (hfull : c.disp.fifo.length = 16) (b : DispByte) (e : Env) :
    fifoWrite b e c = c.setBit A.DISP_STAT 5 := by
  simp only [fifoWrite, Chip.fifoNow_of_push h, if_pos (Nat.le_of_eq hfull.symm)]

end

/-! ### The dirty map (R288) -/

/-- A mark keeps the marks that stand and adds the tiles of its rectangle. -/
theorem Chip.markTiles_eq (h : c.dirtyMap = true) (x0 y0 x1 y1 : Nat) :
    ∃ l, c.markTiles x0 y0 x1 y1 = { c with disp := { c.disp with dirty := l } } ∧
      ∀ i, i ∈ l ↔ i < c.tilesW * c.tilesH ∧
        (i ∈ c.disp.dirty ∨ x0 ≤ i % c.tilesW ∧ i % c.tilesW ≤ x1 ∧ y0 ≤ i / c.tilesW ∧ i / c.tilesW ≤ y1) := by
  refine ⟨_, by simp only [Chip.markTiles, h, Bool.not_true, Bool.false_eq_true, if_false]; rfl, fun i => ?_⟩
  simp

theorem Chip.markAll_eq (h : c.dirtyMap = true) :
    ∃ l, c.markAll = { c with disp := { c.disp with dirty := l } } ∧ ∀ i, i ∈ l ↔ i < c.tilesW * c.tilesH := by
  obtain ⟨l, hl, hmem⟩ := Chip.markTiles_eq h 0 0 c.tilesW c.tilesH
  refine ⟨l, hl, fun i => (hmem i).trans (and_iff_left_of_imp fun hi => .inr ?_)⟩
  have hw : 0 < c.tilesW := Nat.pos_of_mul_pos_right (Nat.zero_lt_of_lt hi)
  exact ⟨Nat.zero_le _, Nat.le_of_lt (Nat.mod_lt i hw), Nat.zero_le _, Nat.div_le_of_le_mul (Nat.le_of_lt hi)⟩

/-! ### A push begins (R292) -/

/-- R292: the edge begins the push of the snapshot that waits, when the bus is free. -/
theorem teEdge_of_waiting {rects : List (Nat × Nat × Nat × Nat)} (hwait : c.disp.waitTe = some rects) (hne : rects ≠ [])
    (hmap : c.dirtyMap = true) (hfatal : c.bit A.DISP_STAT 6 = false) (hrest : c.bit A.DISP_SR 1 = false)
    (hfifo : c.disp.fifo = []) (e : Env) :
    teEdge e c =
      let start := max e.now c.disp.busFree
      let fin := start + cyclesToCounts ((rects.map c.rectXfers).sum * c.xferCycles)
      Chip.setBit { c with disp :=
        { c.disp with waitTe := none, push := some { rects := rects, start := start, finish := fin } } } A.DISP_STAT 8 := by
  simp only [teEdge, hwait, hmap, hfatal, hrest, Chip.fifoNow_of_nil hfifo, Chip.beginPush, List.isEmpty_iff, hne]
  rfl

/-! ### A push ends (R293) -/

/-- `d` has the display of `c`, and a register file in canonical form where `c` has. -/
def Chip.SameDisplay (c d : Chip) : Prop := d.disp = c.disp ∧ (c.regsWf = true → d.regsWf = true)

theorem Chip.SameDisplay.refl (c : Chip) : c.SameDisplay c := ⟨rfl, id⟩

theorem Chip.SameDisplay.trans {d x : Chip} (h : c.SameDisplay d) (h' : d.SameDisplay x) : c.SameDisplay x :=
  ⟨h'.1.trans h.1, h'.2 ∘ h.2⟩

theorem Chip.sameDisplay_wr (c : Chip) (a : Nat) (v : Word) : c.SameDisplay (c.wr a v) := ⟨rfl, Chip.regsWf_wr a v⟩

theorem Chip.sameDisplay_clrBit (c : Chip) (a i : Nat) : c.SameDisplay (c.clrBit a i) := c.sameDisplay_wr a _

theorem Chip.sameDisplay_scrDo (c : Chip) (f : Scr → Scr) : c.SameDisplay (c.scrDo f) := ⟨rfl, id⟩

theorem Chip.sameDisplay_overtaken (c : Chip) (y : Nat) : c.SameDisplay (c.overtaken y) := by
  have hline : c.SameDisplay (if c.bit A.SCR_STAT 9 then c else c.wr A.SCR_OVT_LINE (word y)) := by
    split
    · exact .refl c
    · exact c.sameDisplay_wr _ _
  exact (hline.trans (Chip.sameDisplay_wr _ _ _)).trans (Chip.sameDisplay_wr _ _ _)

theorem Chip.sameDisplay_overtakePush (c : Chip) (a b : Nat) : c.SameDisplay (c.overtakePush a b) := by
  unfold Chip.overtakePush
  split
  · split
    · exact .refl c
    · refine List.foldlRecOn (motive := c.SameDisplay) _ _ (.refl c) fun d hd y _ => ?_
      dsimp only
      split
      · exact hd.trans (d.sameDisplay_overtaken y)
      · exact hd
  · exact .refl c

theorem Chip.sameDisplay_scrNext (e : Env) (c : Chip) : c.SameDisplay (c.scrNext e) := by
  unfold Chip.scrNext
  split
  · exact (c.sameDisplay_scrDo _).trans (Chip.sameDisplay_wr _ _ _)
  · exact ((c.sameDisplay_wr _ _).trans (Chip.sameDisplay_wr _ _ _)).trans (Chip.sameDisplay_wr _ _ _)

theorem Chip.sameDisplay_fenceFires (e : Env) (c : Chip) (line : Nat) (late : Bool) :
    c.SameDisplay (c.fenceFires e line late) := by
  have hlate (d : Chip) : d.SameDisplay (if late then d.setBit A.SCR_STAT 8 else d) := by
    split
    · exact d.sameDisplay_wr _ _
    · exact .refl d
  exact ((((c.sameDisplay_wr _ _).trans (hlate _)).trans (Chip.sameDisplay_wr _ _ _)).trans (Chip.sameDisplay_wr _ _ _)).trans
    (Chip.sameDisplay_scrDo _ _)

theorem Chip.sameDisplay_armedFires (e : Env) (c : Chip) (late : Bool) : c.SameDisplay (c.armedFires e late) := by
  unfold Chip.armedFires
  split
  · exact .refl c
  next f _ =>
    have hfired := (((c.sameDisplay_fenceFires e f.line late).trans (Chip.sameDisplay_scrDo _ fun s =>
      { s with fence := none, own := false })).trans (Chip.sameDisplay_clrBit _ A.SCR_STAT 2)).trans
        (Chip.sameDisplay_clrBit _ A.SCR_FENCE 31)
    dsimp only
    split
    · split
      · exact (hfired.trans (Chip.sameDisplay_wr _ _ _)).trans (Chip.sameDisplay_scrNext e _)
      · exact hfired.trans (Chip.sameDisplay_wr _ _ _)
    · exact hfired

/-- The bytes that leave the FIFO change it, the bus's time and what went out. -/
theorem fifoRun_eq (now fuel : Nat) (c : Chip) : ∃ l t out,
    fifoRun now fuel c = { c with disp := { c.disp with fifo := l, busFree := t, sent := out } } := by
  induction fuel generalizing c with
  | zero => exact ⟨_, _, _, rfl⟩
  | succ fuel ih =>
    rw [fifoRun]
    split
    · exact ⟨_, _, _, rfl⟩
    · split
      · exact ⟨_, _, _, rfl⟩
      · obtain ⟨l, t, out, h⟩ := ih (c.dispDo _)
        exact ⟨l, t, out, h⟩

/-- The characters sent change the shadow, what went out and what is left of the refresh. -/
theorem Chip.chrNow_eq (c : Chip) (now : Nat) : ∃ m out p,
    c.chrNow now = { c with disp := { c.disp with shadow := m, sent := out, push := p } } := by
  have hsent (l : List (Nat × Nat)) : ∀ q : Chip × Option Nat, ∃ m out,
      (l.foldl (fun (q : Chip × Option Nat) x => (q.1.chrOut q.2 x.1, some (x.1 + 1))) q).1 =
        { q.1 with disp := { q.1.disp with shadow := m, sent := out } } := by
    induction l with
    | nil => exact fun q => ⟨_, _, rfl⟩
    | cons x l ih =>
      intro q
      obtain ⟨m, out, h⟩ := ih (q.1.chrOut q.2 x.1, some (x.1 + 1))
      exact ⟨m, out, h⟩
  unfold Chip.chrNow
  split
  · exact ⟨_, _, _, rfl⟩
  next p _ =>
    obtain ⟨m, out, h⟩ := hsent (p.chars.filter fun x => decide (x.2 ≤ now)) (c, p.after)
    simp only [h]
    exact ⟨m, out, _, rfl⟩

theorem Chip.bit_clrBit_self (h : c.regsWf = true) {a i : Nat} (hi : i < 32) : (c.clrBit a i).bit a i = false := by
  have hword : (word (2 ^ i)).getLsbD i = true := by
    rw [word, BitVec.getLsbD_ofNat, decide_eq_true hi, Nat.testBit_two_pow_self, Bool.and_self]
  rw [Chip.bit, Chip.clrBit, Chip.rd_wr _ _ _ h, if_pos rfl, BitVec.getLsbD_and, BitVec.getLsbD_not, hword, Bool.not_true,
    Bool.and_false, Bool.and_false]

/-- R293: the push is over, and the marks made meanwhile stand. -/
theorem pushComplete_of_push {p : Push} (h : c.disp.push = some p) (e : Env) :
    (pushComplete e c).disp.push = none ∧ (pushComplete e c).disp.dirty = c.disp.dirty ∧
      (c.regsWf = true → (pushComplete e c).bit A.DISP_STAT 8 = false) := by
  have herr (b : Bool) : c.SameDisplay (if b then c.setBit A.DISP_STAT 2 else c) := by
    split
    · exact c.sameDisplay_wr _ _
    · exact .refl c
  simp only [pushComplete, h]
  generalize (c.dirtyMap && _) = err
  obtain ⟨hdisp, hwf⟩ := herr err
  have hdirty := congrArg Disp.dirty hdisp
  generalize (if err = true then c.setBit A.DISP_STAT 2 else c) = d at hdirty hwf ⊢
  obtain ⟨m, out, q, hchr⟩ := d.chrNow_eq e.now
  rw [hchr, Chip.fifoNow]
  obtain ⟨l, t, out', hfifo⟩ := fifoRun_eq e.now _ _
  rw [hfifo]
  refine ⟨rfl, hdirty, fun hc => ?_⟩
  exact Chip.bit_clrBit_self (c := d) (hwf hc) (by decide)

theorem pushEnd_of_push {p : Push} (h : c.disp.push = some p) (e : Env) :
    (pushEnd e c).disp.push = none ∧ (pushEnd e c).disp.dirty = c.disp.dirty ∧
      (c.regsWf = true → (pushEnd e c).bit A.DISP_STAT 8 = false) := by
  have hbefore : ∃ d, c.SameDisplay d ∧ pushEnd e c = pushComplete e d := by
    have hpush := c.sameDisplay_overtakePush c.scr.began e.now
    simp only [pushEnd]
    split
    · exact ⟨_, hpush.trans (Chip.sameDisplay_armedFires e _ false), rfl⟩
    · exact ⟨_, hpush, rfl⟩
  obtain ⟨d, ⟨hdisp, hwf⟩, hd⟩ := hbefore
  obtain ⟨hnone, hdirty, hbit⟩ := pushComplete_of_push (c := d) (by rw [hdisp, h]) e
  rw [hd]
  exact ⟨hnone, hdirty.trans (congrArg Disp.dirty hdisp), hbit ∘ hwf⟩

theorem State.advTo_regsWf (s : State) (t : Nat) (h : s.chip.regsWf = true) : (s.advTo t).chip.regsWf = true := by
  unfold State.advTo Chip.passed
  dsimp only
  split
  · exact h
  · split <;> split <;> simp only [Chip.setBit, Chip.regsWf_wr, h]

/-- A push at its end, in a register file that lists DISP_STAT twice, as none in canonical form does. -/
def statListedTwice : Chip :=
  { regs := [(A.DISP_STAT, 0x100), (A.DISP_STAT, 0x100)], disp := { push := some { start := 0, finish := 0 } } }

/-- The write that clears PUSHING takes the first entry away, and the second is read from then on: this is why
`pushComplete_of_push` asks for the canonical form. -/
theorem pushEnd_pushing_of_statListedTwice :
    statListedTwice.regsWf = false ∧ (pushEnd State.reset.env statListedTwice).bit A.DISP_STAT 8 = true := by decide

/-! ### RESYNC and self-refresh (R296, R298) -/

@[simp] theorem Chip.writeCoded_disp (c : Chip) (a : Nat) (v : Word) : (c.writeCoded a v).disp = c.disp := by
  unfold Chip.writeCoded
  split <;> rfl

theorem chrCfg_of_resync (h : c.disp.push = none) (v : Word) (e : Env) :
    chrCfg (setBitTo v 17 true) e c =
      { c.writeCoded A.DISP_CHR_CFG (setBitTo v 17 true) with disp := { c.disp with shadow := [] } } := by
  have hbit : (setBitTo v 17 true).getLsbD 17 = true := by simp [setBitTo]
  have hchr : c.chrNow e.now = c := by rw [Chip.chrNow, h]
  simp only [chrCfg, hchr, hbit, if_true, Chip.dispDo, Chip.writeCoded_disp]

theorem srWrite_eq (v : Word) (c : Chip) :
    srWrite v c = { c.writeCoded A.DISP_SR v with disp := { c.disp with srAsk := v.getLsbD 0 || c.disp.srAsk } } := by
  rw [srWrite]
  cases v.getLsbD 0
  case true => simp only [if_true, Chip.dispDo, Chip.writeCoded_disp, Bool.true_or]
  case false =>
    simp only [Bool.false_eq_true, if_false, Bool.false_or]
    rw [← Chip.writeCoded_disp c A.DISP_SR v]

/-! ### The commands -/

section
variable {m : Master} {v : Word} (hp : s.chip.powered = true)
include hp

/-- R292: the edge at a command-mode panel whose snapshot waits. -/
theorem exec_dispTeEdge_of_waiting {rects : List (Nat × Nat × Nat × Nat)} (hwait : s.chip.disp.waitTe = some rects)
    (hne : rects ≠ []) (hmap : s.chip.dirtyMap = true) (hfatal : s.chip.bit A.DISP_STAT 6 = false)
    (hrest : s.chip.bit A.DISP_SR 1 = false) (hfifo : s.chip.disp.fifo = []) :
    exec .dispTeEdge s =
      let start := max s.clock.abs s.chip.disp.busFree
      let fin := start + cyclesToCounts ((rects.map s.chip.rectXfers).sum * s.chip.xferCycles)
      .next (s.becomes (Chip.setBit { s.chip with disp :=
        { s.chip.disp with waitTe := none, push := some { rects := rects, start := start, finish := fin } } } A.DISP_STAT 8)) :=
  (run_of_powered hp).trans (congrArg (fun c => Host.Outcome.next (s.becomes c))
    (teEdge_of_waiting hwait hne hmap hfatal hrest hfifo _))

/-- R293: a push ends at its last transfer. -/
theorem exec_pushComplete_of_push {p : Push} (hs : s.chip.slow = false) (hpush : s.chip.disp.push = some p)
    (hwf : s.chip.regsWf = true) :
    ∃ t : State, exec .pushComplete s = .next t.settle ∧ t.clock = (s.advTo p.finish).clock ∧ t.chip.disp.push = none ∧
      t.chip.disp.dirty = s.chip.disp.dirty ∧ t.chip.bit A.DISP_STAT 8 = false := by
  obtain ⟨hnone, hdirty, hbit⟩ := pushEnd_of_push (c := (s.advTo p.finish).chip) (by rw [State.advTo_chip_disp, hpush])
    { now := p.finish, fuses := s.fuses }
  have hdue : s.chip.pushDue = some p.finish := by rw [Chip.pushDue, hpush, Option.map_some]
  exact ⟨(s.advTo p.finish).withChip _, runTickDue_of_due hp hs hdue, rfl, hnone,
    hdirty.trans (congrArg Disp.dirty (s.advTo_chip_disp _)), hbit (s.advTo_regsWf _ hwf)⟩

variable (hm : admits 8 m.port = true)
include hm

/-- R270, R273: the pixels that the beam has passed are composed under the old DISP_CTL. -/
theorem exec_dispCtlWrite : exec (.dispCtlWrite m v) s = .next (s.becomes ((s.chip.composeNow s.env).writeCoded A.DISP_CTL v)) :=
  store_of_admits hp hm

theorem exec_dispDbiCmd :
    exec (.dispDbiCmd m v) s =
      .next (s.becomes (fifoWrite { dc := v.getLsbD 8, nibble := false, byte := bits v 7 0 } s.env s.chip)) :=
  store_of_admits hp hm

/-- R297: a single nibble is a matter of a 4-bit bus. -/
theorem exec_dispChrCmd :
    exec (.dispChrCmd m v) s = .next (s.becomes (fifoWrite
      { dc := v.getLsbD 8, nibble := v.getLsbD 9 && s.chip.bit A.DISP_CHR_CFG 16, byte := bits v 7 0 } s.env s.chip)) :=
  store_of_admits hp hm

theorem exec_dispDirtyMark :
    exec (.dispDirtyMark m v) s =
      .next (s.becomes (s.chip.markTiles (bits v 7 0) (bits v 15 8) (bits v 23 16) (bits v 31 24))) :=
  store_of_admits hp hm

theorem exec_dispDirtyAll (hall : v.getLsbD 0 = true) : exec (.dispDirtyAll m v) s = .next (s.becomes s.chip.markAll) :=
  (store_of_admits hp hm).trans (congrArg (fun c => Host.Outcome.next (s.becomes c)) (if_pos hall))

/-- R296: RESYNC makes the whole shadow invalid. -/
theorem exec_resync (hpush : s.chip.disp.push = none) :
    exec (.resync m v) s = .next (s.becomes { s.chip.writeCoded A.DISP_CHR_CFG (setBitTo v 17 true) with
      disp := { s.chip.disp with shadow := [] } }) :=
  (store_of_admits hp hm).trans (congrArg (fun c => Host.Outcome.next (s.becomes c)) (chrCfg_of_resync hpush v s.env))

/-- R298: REQ asks for self-refresh at the next frame tick. -/
theorem exec_dispSrWrite :
    exec (.dispSrWrite m v) s = .next (s.becomes { s.chip.writeCoded A.DISP_SR v with
      disp := { s.chip.disp with srAsk := v.getLsbD 0 || s.chip.disp.srAsk } }) :=
  (store_of_admits hp hm).trans (congrArg (fun c => Host.Outcome.next (s.becomes c)) (srWrite_eq v s.chip))

end

/-- The statement of O40 over the states whose register file is in canonical form. -/
theorem displayControllerCommands_of_regsWf :
  ∀ (m : Master) (v : Word) (late : List (Nat × Nat)) (p : Push) (rects : List (Nat × Nat × Nat × Nat)) (s : State),
    s.chip.powered = true → s.chip.regsWf = true →
    let c := s.chip
    let d := c.disp
    let now := s.clock.abs
    let byte := fun (nibble : Bool) => ({ dc := v.getLsbD 8, nibble := nibble, byte := bits v 7 0 } : DispByte)
    let queued := fun (b : DispByte) => Host.Outcome.next (s.becomes { c with disp :=
      { d with fifo := d.fifo ++ [b], busFree := if d.fifo.isEmpty then max d.busFree now else d.busFree } })
    let marked := fun (o : Host.Outcome State Fault Refusal) (hit : Nat → Prop) => ∃ l,
      o = .next (s.becomes { c with disp := { d with dirty := l } }) ∧
      ∀ i, i ∈ l ↔ i < c.tilesW * c.tilesH ∧ (i ∈ d.dirty ∨ hit i)
    (admits 8 m.port = true → exec (.dispCtlWrite m v) s =
      .next (s.becomes ((c.composeNow s.env).writeCoded A.DISP_CTL v))) ∧
    (c.slow = false → c.dkind = 1 → 0 < c.vTotal → 0 < c.frameCounts → c.met.frame0 ≤ now →
      ∃ t, now ≤ t ∧ t ≤ now + c.frameCounts ∧ exec (.dispLineStart late) s = .next (s.becomesAt t (lineTick late)) ∧
        (d.row = [] → d.current.2 = [] → d.scan = false → c.bit A.DISP_CTL 0 = false → c.scrBusy = false →
          exec (.dispLineStart late) s =
            .next (s.becomesAt t fun _ c => { c with disp := { c.disp with lineAt := some t } }))) ∧
    (d.waitTe = some rects → rects ≠ [] → c.dirtyMap = true → c.bit A.DISP_STAT 6 = false → c.bit A.DISP_SR 1 = false → d.fifo = [] →
      exec .dispTeEdge s =
      let start := max now d.busFree
      let fin := start + cyclesToCounts ((rects.map c.rectXfers).sum * c.xferCycles)
      .next (s.becomes (Chip.setBit { c with disp :=
        { d with waitTe := none, push := some { rects := rects, start := start, finish := fin } } } A.DISP_STAT 8))) ∧
    (c.slow = false → d.push = some p → now ≤ p.finish → ∃ t : State, exec .pushComplete s = .next t.settle ∧
      t.clock = (s.advTo p.finish).clock ∧ t.chip.disp.push = none ∧ t.chip.disp.dirty = d.dirty ∧
      t.chip.bit A.DISP_STAT 8 = false) ∧
    (admits 8 m.port = true → d.push = some p → d.fifo.length < 16 → exec (.dispDbiCmd m v) s = queued (byte false) ∧
      exec (.dispChrCmd m v) s = queued (byte (v.getLsbD 9 && c.bit A.DISP_CHR_CFG 16))) ∧
    (admits 8 m.port = true → d.push = some p → d.fifo.length = 16 →
      exec (.dispDbiCmd m v) s = .next (s.becomes (c.setBit A.DISP_STAT 5)) ∧
      exec (.dispChrCmd m v) s = .next (s.becomes (c.setBit A.DISP_STAT 5))) ∧
    (admits 8 m.port = true → c.dirtyMap = true →
      marked (exec (.dispDirtyMark m v) s) (fun i => bits v 7 0 ≤ i % c.tilesW ∧ i % c.tilesW ≤ bits v 23 16 ∧
        bits v 15 8 ≤ i / c.tilesW ∧ i / c.tilesW ≤ bits v 31 24) ∧
      (v.getLsbD 0 = true → marked (exec (.dispDirtyAll m v) s) (fun _ => True))) ∧
    (admits 8 m.port = true → d.push = none → exec (.resync m v) s =
      .next (s.becomes { c.writeCoded A.DISP_CHR_CFG (setBitTo v 17 true) with disp := { d with shadow := [] } })) ∧
    (admits 8 m.port = true → exec (.dispSrWrite m v) s =
      .next (s.becomes { c.writeCoded A.DISP_SR v with disp := { d with srAsk := v.getLsbD 0 || d.srAsk } })) := by
  intro m v late p rects s hp hwf
  refine ⟨exec_dispCtlWrite hp, ?line, exec_dispTeEdge_of_waiting hp, ?push, ?room, ?full, ?marks, fun hm => exec_resync hp hm,
    exec_dispSrWrite hp⟩
  case line =>
    intro hs hkind hv hfc h0
    obtain ⟨hlo, hhi⟩ := Chip.nextLine_bounds hfc h0 hv
    exact ⟨_, hlo, hhi, exec_dispLineStart hp hs late, fun hrow hcurrent hscan hen hscr =>
      (exec_dispLineStart_of_scanStopped hp hs ⟨hkind, hrow, hcurrent, hscan, hen, hscr⟩ late).trans
        (congrArg _ (State.becomesAt_congr rfl))⟩
  case push =>
    exact fun hs hpush _ => exec_pushComplete_of_push hp hs hpush hwf
  case room =>
    intro hm hpush hroom
    refine ⟨(exec_dispDbiCmd hp hm).trans ?_, (exec_dispChrCmd hp hm).trans ?_⟩ <;>
      rw [fifoWrite_of_push_of_lt hpush hroom] <;> rfl
  case full =>
    intro hm hpush hfull
    refine ⟨(exec_dispDbiCmd hp hm).trans ?_, (exec_dispChrCmd hp hm).trans ?_⟩ <;>
      rw [fifoWrite_of_push_of_full hpush hfull]
  case marks =>
    intro hm hmap
    refine ⟨?_, fun hall => ?_⟩
    · obtain ⟨l, hl, hmem⟩ := Chip.markTiles_eq hmap (bits v 7 0) (bits v 15 8) (bits v 23 16) (bits v 31 24)
      exact ⟨l, (exec_dispDirtyMark hp hm).trans (by rw [hl]), hmem⟩
    · obtain ⟨l, hl, hmem⟩ := Chip.markAll_eq hmap
      exact ⟨l, (exec_dispDirtyAll hp hm hall).trans (by rw [hl]), fun i => by simp only [hmem, or_true, and_true]⟩

end Sys2Proof.Machine
end

section
/-! PROOF. FILL (09_scriptorium.md, R307, R310, R317): what the write of a pixel, of a row and of the whole rectangle leave in
memory. -/

namespace Sys2Proof.Machine

variable {c : Chip} {m : Mem} {b : Byte} {P Q : Nat → Prop}

/-! ### Painting memory -/

/-- `m'` is `m` with the bytes of `P` set to `b`. -/
structure Painted (b : Byte) (P : Nat → Prop) (m m' : Mem) : Prop where
  wf : memWf m' = true
  drawn : ∀ a, P a → getB m' a = b
  kept : ∀ a, ¬P a → getB m' a = getB m a

theorem Painted.refl (hm : memWf m = true) (hP : ∀ a, ¬P a) : Painted b P m m where
  wf := hm
  drawn a h := absurd h (hP a)
  kept _ _ := rfl

theorem Painted.trans {m' m'' : Mem} (h : Painted b P m m') (h' : Painted b Q m' m'') :
    Painted b (fun a => P a ∨ Q a) m m'' where
  wf := h'.wf
  drawn a ha := by
    by_cases hQ : Q a
    · exact h'.drawn a hQ
    · rw [h'.kept a hQ, h.drawn a (ha.resolve_right hQ)]
  kept a ha := by rw [h'.kept a (ha ∘ .inr), h.kept a (ha ∘ .inl)]

theorem Painted.congr {m' : Mem} (h : Painted b P m m') (hPQ : ∀ a, P a ↔ Q a) : Painted b Q m m' :=
  (funext fun a => propext (hPQ a) : P = Q) ▸ h

theorem painted_putBytes_singleton (hm : memWf m = true) (a : Nat) : Painted b (· = a) m (putBytes m a [b]) where
  wf := memWf_putBytes a [b] hm
  drawn x hx := by rw [putBytes, putBytes, getB_putB a x b hm, if_pos hx]
  kept x hx := by rw [putBytes, putBytes, getB_putB a x b hm, if_neg hx]

/-! ### Drawing steps that end without an error -/

/-- The chip with another memory. -/
def Chip.withMem (c : Chip) (m : Mem) : Chip := { c with mem := m }

/-- `r` is how a drawing step on the chip `c` with memory `m` ended: without an error, with the bytes of `P` set to `b`, and with
nothing else of the chip changed. -/
def Chip.Paints (c : Chip) (b : Byte) (P : Nat → Prop) (m : Mem) (r : Chip × Option ScrErr) : Prop :=
  ∃ m', r = (c.withMem m', none) ∧ Painted b P m m'

theorem Chip.Paints.congr {r : Chip × Option ScrErr} (h : c.Paints b P m r) (hPQ : ∀ a, P a ↔ Q a) : c.Paints b Q m r := by
  obtain ⟨m', hr, hpainted⟩ := h
  exact ⟨m', hr, hpainted.congr hPQ⟩

theorem Chip.paints_nothing (hm : memWf m = true) (hP : ∀ a, ¬P a) : c.Paints b P m (c.withMem m, none) :=
  ⟨m, rfl, .refl hm hP⟩

/-- A fold of painting steps paints the bytes of each of them. -/
theorem scrFold_paints {α : Type} {f : Chip → α → Chip × Option ScrErr} {P : α → Nat → Prop}
    (hf : ∀ m i, memWf m = true → c.Paints b (P i) m (f (c.withMem m) i)) (l : List α) (hm : memWf m = true) :
    c.Paints b (fun a => ∃ i ∈ l, P i a) m (scrFold f l (c.withMem m)) := by
  induction l generalizing m with
  | nil => exact Chip.paints_nothing hm (by simp)
  | cons i l ih =>
    obtain ⟨m', hstep, hfirst⟩ := hf m i hm
    obtain ⟨m'', hrest, hlater⟩ := ih hfirst.wf
    refine ⟨m'', ?_, (hfirst.trans hlater).congr fun a => by simp⟩
    simp only [scrFold, hstep, hrest]

/-! ### Pixels of an 8 bpp surface in rows (R307) -/

theorem Surface.at_of_rows {t : Surface} (h8 : t.code = 1) (hrows : t.tiled = false) (x y : Int) :
    t.at x y = t.addr + y * t.pitch + x := by
  have hbpp : ((bppOf 1 : Nat) : Int) = 8 := rfl
  simp only [Surface.at, hrows, h8, hbpp, Bool.false_eq_true, if_false, Int.mul_ediv_cancel x (by decide : (8 : Int) ≠ 0)]

/-- An access that the engine may make is at an address of R305. -/
theorem nonneg_of_scrCheck {write : Bool} {a : Int} {size : Nat} (h : c.scrCheck write a size = none) : 0 ≤ a := by
  have hreach : scrReach a = true := Bool.of_not_eq_false fun hno => by
    rw [Chip.scrCheck, hno, Bool.not_false, Bool.true_or, if_pos rfl] at h
    cases h
  simp only [scrReach, Bool.or_eq_true, decide_eq_true_eq] at hreach
  omega

/-- The write of a pixel sets its byte. -/
theorem scrWritePx_paints {t : Surface} (h8 : t.code = 1) {x y : Int} (v : Nat)
    (hcheck : c.scrCheck true (t.at x y) 1 = none) (hm : memWf m = true) :
    c.Paints (BitVec.ofNat 8 v) (fun a => (a : Int) = t.at x y) m ((c.withMem m).scrWritePx t x y v) := by
  have hunit : t.unit = 1 := by simp [Surface.unit, h8]
  have hcheck' : (c.withMem m).scrCheck true (t.at x y) 1 = none := hcheck
  have hpos := nonneg_of_scrCheck hcheck
  refine ⟨putBytes m (t.at x y).toNat [BitVec.ofNat 8 v], ?_, (painted_putBytes_singleton hm _).congr fun a => by omega⟩
  simp only [Chip.scrWritePx, hunit, hcheck', h8]
  rfl

/-! ### Rows and the rectangle (R310, R317) -/

section
variable {k : ScrCmd} (hop : k.op = 1)
include hop

theorem ScrCmd.area_of_fill : k.area = (k.x 1, k.y 1, k.wd 2, k.ht 2) := by simp [ScrCmd.area, hop]

theorem ScrCmd.covers_of_fill (x y : Int) :
    k.covers x y = decide (k.x 1 ≤ x ∧ x < k.x 1 + k.wd 2 ∧ k.y 1 ≤ y ∧ y < k.y 1 + k.ht 2) := by
  simp [ScrCmd.covers, hop, ScrCmd.area_of_fill hop]

/-- A row of the rectangle: of its pixels, those that the bounds and clips allow. -/
theorem fillRow_paints (h8 : c.scrTarget.code = 1)
    (hcheck : ∀ x y, c.scrAllows k.clip x y = true → c.scrCheck true (c.scrTarget.at x y) 1 = none)
    (hm : memWf m = true) (j : Nat) :
    c.Paints (BitVec.ofNat 8 k.low)
      (fun a => ∃ x ∈ cols (k.x 1) (k.wd 2), (c.scrAllows k.clip x (k.y 1 + j) && k.covers x (k.y 1 + j)) = true ∧
        (a : Int) = c.scrTarget.at x (k.y 1 + j)) m (fillRow k (c.withMem m) j) := by
  simp only [fillRow, ScrCmd.area_of_fill hop]
  refine scrFold_paints (fun m x hm => ?_) _ hm
  have hallows : (c.withMem m).scrAllows k.clip x (k.y 1 + j) = c.scrAllows k.clip x (k.y 1 + j) := rfl
  rw [hallows]
  split
  case isTrue hin =>
    have hcolour : BitVec.ofNat 8 (k.low % 2 ^ bppOf c.scrTarget.code) = BitVec.ofNat 8 k.low := by
      rw [h8]
      exact BitVec.eq_of_toNat_eq (by simp [bppOf])
    have hpixel := scrWritePx_paints h8 (k.low % 2 ^ bppOf c.scrTarget.code) (hcheck x _ (Bool.and_eq_true_iff.mp hin).1) hm
    rw [hcolour] at hpixel
    exact hpixel.congr fun a => (and_iff_right hin).symm
  case isFalse hout => exact Chip.paints_nothing hm fun a ha => hout ha.1

/-- A command without a breach does all of its rows: no rectangle is higher than the engine's bound. -/
theorem scrDraw_of_fill (hok : c.scrBreach k = none) :
    scrDraw k 65536 c = scrFold (fillRow k) (List.range (k.ht 2)) c := by
  have hheight : k.ht 2 < 65536 := Nat.mod_lt _ (by decide)
  simp only [scrDraw, hok, hop, ScrCmd.area_of_fill hop, Nat.min_eq_left (Nat.le_of_lt hheight)]

/-- R310, R317: the pixels of the rectangle, row by row. -/
theorem exists_row_iff (p : Int → Int → Prop) :
    (∃ j ∈ List.range (k.ht 2), ∃ x ∈ cols (k.x 1) (k.wd 2),
        (c.scrAllows k.clip x (k.y 1 + j) && k.covers x (k.y 1 + j)) = true ∧ p x (k.y 1 + j)) ↔
      ∃ x y : Int, k.x 1 ≤ x ∧ x < k.x 1 + k.wd 2 ∧ k.y 1 ≤ y ∧ y < k.y 1 + k.ht 2 ∧
        c.scrAllows k.clip x y = true ∧ p x y := by
  simp only [ScrCmd.covers_of_fill hop, Bool.and_eq_true, decide_eq_true_eq]
  constructor
  · rintro ⟨j, _, x, _, ⟨hallows, hx, hxw, hy, hyh⟩, hp⟩
    exact ⟨x, _, hx, hxw, hy, hyh, hallows, hp⟩
  · rintro ⟨x, y, hx, hxw, hy, hyh, hallows, hp⟩
    have hrow : k.y 1 + ((y - k.y 1).toNat : Int) = y := by omega
    refine ⟨(y - k.y 1).toNat, List.mem_range.mpr (by omega), x, ?_, ?_⟩
    · exact List.mem_map.mpr ⟨(x - k.x 1).toNat, List.mem_range.mpr (by omega), by omega⟩
    · rw [hrow]
      exact ⟨⟨hallows, hx, hxw, hy, hyh⟩, hp⟩

end

/-- Settles O42: the rows of the rectangle are painted one after the other, each pixel by the write of its byte. -/
theorem fillWritesItsRectangle : Obligations.FillWritesItsRectangle := by
  intro c k hwf hop hok h8 hrows hcheck
  have hpaints := scrFold_paints (fun _ j hm => fillRow_paints hop h8 hcheck hm j) (List.range (k.ht 2)) hwf
  obtain ⟨m', hdraw, hpainted⟩ := hpaints.congr fun a => exists_row_iff hop fun x y => (a : Int) = c.scrTarget.at x y
  simp only [scrDraw_of_fill hop hok]
  rw [show c.withMem c.mem = c from rfl] at hdraw
  simp only [Surface.at_of_rows h8 hrows] at hpainted
  rw [hdraw]
  exact ⟨rfl, rfl, hpainted.wf, hpainted.drawn, hpainted.kept⟩

end Sys2Proof.Machine
end

section
/-! PROOF. The Scriptorium (09_scriptorium.md, R309 to R327): the engine at a register command, what drawing leaves of its state,
and fences that fire or are armed. -/

namespace Sys2Proof.Machine

variable {c : Chip} {e : Env}

/-! ### The engine at a register command (R319) -/

/-- The command in SCR_CMD0 to SCR_CMD7. -/
def Chip.registerCommand (c : Chip) : ScrCmd := { w := (List.range 8).map fun i => c.rd (A.SCR_CMDw i) }

/-- The engine is busy with the register command and waits for no fence. -/
def Chip.AtRegisterCommand (c : Chip) : Prop := c.bit A.SCR_STAT 0 = true ∧ c.bit A.SCR_STAT 1 = false ∧ c.scr.list = false

theorem Chip.AtRegisterCommand.list (h : c.AtRegisterCommand) : c.scr.list = false := h.2.2

theorem Chip.scrFetch_of_register (h : c.scr.list = false) : c.scrFetch = .ok c.registerCommand := by
  simp [Chip.scrFetch, h, Chip.registerCommand]

theorem Chip.scrShowPc_of_register (h : c.scr.list = false) : c.scrShowPc = c := by simp [Chip.scrShowPc, h]

theorem Chip.scrNext_of_register (h : c.scr.list = false) (e : Env) : c.scrNext e = c.scrStop 4 := by simp [Chip.scrNext, h]

/-- An event at the engine that wants the command carries it out. -/
theorem scrAt_of_wanted (h : c.AtRegisterCommand) {want : Nat → Bool} (hwant : want c.registerCommand.op = true)
    (f : ScrCmd → Env → Chip → Chip) (e : Env) : scrAt want f e c = f c.registerCommand e c := by
  obtain ⟨hbusy, hwait, hlist⟩ := h
  simp only [scrAt, Chip.scrBusy, hbusy, Chip.scrWaiting, hwait, Chip.scrShowPc_of_register hlist,
    Chip.scrFetch_of_register hlist, hwant, Bool.not_true, Bool.or_false, Bool.false_eq_true, if_false, if_true]

theorem engine_of_reached {s : State} (hp : s.chip.powered = true) (h : s.chip.AtRegisterCommand) {op : Nat}
    (hop : s.chip.registerCommand.op = op) (f : ScrCmd → Env → Chip → Chip) :
    engine op f s = .next (s.becomes (f s.chip.registerCommand s.env s.chip)) := by
  rw [engine, run_of_powered hp, scrAt_of_wanted h (want := (· == op)) (beq_iff_eq.mpr hop)]

/-- R322: an error other than one of the bus stops the engine with its code. -/
theorem Chip.scrFail_of_ne_bus {x : ScrErr} (h : x.code ≠ 8) (e : Env) (c : Chip) :
    c.scrFail e x = (c.wr A.SCR_ERR (word x.code)).scrStop 5 := by
  simp only [Chip.scrFail, if_neg h]

/-! ### Starting and aborting (R319, R320, R322) -/

/-- A busy engine refuses SCR_GO, as it refuses the other registers of R320. -/
theorem regWrite_scrGo (m : Master) (v : Word) (e : Env) (c : Chip) :
    regWrite m A.SCR_GO v e c = scrGo (bits v 1 0) e c := by
  change scrWrite A.SCR_GO v e c = _
  cases h : c.scrBusy
  case false => simp [scrWrite, h]
  case true => simp [scrWrite, scrGo, h, scrGuarded]

section
variable (hidle : c.scrBusy = false)
include hidle

theorem scrGo_command (e : Env) :
    scrGo 1 e c = Chip.setBit { c with scr := { c.scr with list := false, began := e.now, fired := none } } A.SCR_STAT 0 := by
  simp only [scrGo, hidle, Bool.false_eq_true, if_false, if_true]
  rfl

theorem scrGo_list (e : Env) :
    scrGo 2 e c = (Chip.wr { c with scr :=
      { c.scr with list := true, pc := (c.rd A.SCR_LIST_ADDR).toNat, began := e.now, fired := none } }
        A.SCR_PC (c.rd A.SCR_LIST_ADDR)).setBit A.SCR_STAT 0 := by
  have hword : word (c.rd A.SCR_LIST_ADDR).toNat = c.rd A.SCR_LIST_ADDR := BitVec.ofNat_toNat ..
  simp only [scrGo, hidle, hword, Bool.false_eq_true, if_false, if_true, if_neg (by decide : ¬(2 : Nat) = 1)]
  rfl

theorem scrAbort_of_idle (rows : Nat) (e : Env) : scrAbort rows e c = c := by simp [scrAbort, hidle]

end

theorem scrGo_of_busy (hbusy : c.scrBusy = true) (op : Nat) (e : Env) : scrGo op e c = c.setBit A.SCR_STAT 10 := by
  rw [scrGo, if_pos hbusy]

/-- R322: an engine that waits at a fence is aborted at once, and the fence is disarmed. -/
theorem scrAbort_of_waiting (hbusy : c.scrBusy = true) (hwait : c.scrWaiting = true) (hlist : c.scr.list = false)
    (rows : Nat) (e : Env) :
    scrAbort rows e c = (((Chip.clrBit { c with scr := { c.scr with fence := none, own := false } } A.SCR_STAT 2).clrBit
      A.SCR_FENCE 31).scrStop 6) := by
  simp only [scrAbort, hbusy, Chip.scrShowPc_of_register hlist, hwait, Bool.not_true, Bool.false_eq_true, if_false, if_true]
  rfl

/-! ### Drawing leaves the engine's state as it is -/

theorem scrFold_scr {α : Type} {f : Chip → α → Chip × Option ScrErr} (hf : ∀ c i, (f c i).1.scr = c.scr)
    (l : List α) (c : Chip) : (scrFold f l c).1.scr = c.scr := by
  induction l generalizing c with
  | nil => rfl
  | cons i l ih =>
    rw [scrFold]
    have hstep := hf c i
    split
    next d h => rw [ih, ← hstep, h]
    next d x h => rw [← hstep, h]

@[simp] theorem scrWritePx_scr (c : Chip) (s : Surface) (x y : Int) (v : Nat) : (c.scrWritePx s x y v).1.scr = c.scr := by
  unfold Chip.scrWritePx
  dsimp only
  split <;> rfl

theorem fillRow_scr (k : ScrCmd) (c : Chip) (j : Nat) : (fillRow k c j).1.scr = c.scr := by
  unfold fillRow
  generalize k.area = r
  exact scrFold_scr (fun c x => by split <;> simp) _ c

theorem lineRow_scr (k : ScrCmd) (c : Chip) (j : Nat) : (lineRow k c j).1.scr = c.scr :=
  scrFold_scr (fun c p => by split <;> simp) _ c

theorem copyRow_scr (k : ScrCmd) (m : Option Mem) (c : Chip) (j : Nat) : (copyRow k m c j).1.scr = c.scr := by
  unfold copyRow
  dsimp only
  split
  · rfl
  · refine scrFold_scr (fun c p => ?_) _ c
    split
    · rfl
    · split
      · split <;> simp
      · split <;> simp
      · simp

theorem glyphRow_scr (k : ScrCmd) (c : Chip) (j : Nat) : (glyphRow k c j).1.scr = c.scr := by
  refine scrFold_scr (fun c i => ?_) _ c
  dsimp only
  split
  · rfl
  · split
    · rfl
    · split
      · rfl
      · split
        · simp
        · split
          · simp
          · split <;> simp

theorem tileRow_scr (k : ScrCmd) (c : Chip) (j : Nat) : (tileRow k c j).1.scr = c.scr :=
  scrFold_scr (fun c i => by dsimp only; split <;> rfl) _ c

theorem scrPut_scr (a : Nat) (bs : List Byte) (c : Chip) : (scrPut a bs c).1.scr = c.scr :=
  scrFold_scr (fun c p => by split <;> rfl) _ c

theorem packRows_scr (k : ScrCmd) (limit left j pos : Nat) (up : List Nat) (c : Chip) :
    (packRows k limit left j pos up c).1.scr = c.scr := by
  induction left generalizing j pos up c with
  | zero => rfl
  | succ left ih =>
    rw [packRows]
    split
    · rfl
    · dsimp only
      generalize packEncode _ _ _ _ _ = bytes
      split
      · rfl
      · split
        next d x hoff => rw [← scrPut_scr _ _ c, hoff]
        next d hoff =>
          have hd : d.scr = c.scr := by rw [← scrPut_scr _ _ c, hoff]
          rw [← hd]
          split
          next d' x hline => rw [← scrPut_scr _ _ d, hline]
          next d' hline => rw [ih, ← scrPut_scr _ _ d, hline]

theorem packRun_scr (k : ScrCmd) (rows : Nat) (c : Chip) : (packRun k rows c).1.scr = c.scr := by
  unfold packRun
  dsimp only
  split
  · rfl
  · split
    next d x hhead => rw [← scrPut_scr _ _ c, hhead]
    next d hhead =>
      have hd : d.scr = c.scr := by rw [← scrPut_scr _ _ c, hhead]
      rw [← hd]
      split
      next x hrows =>
        have hx : x.scr = d.scr := by rw [← packRows_scr k _ _ _ _ _ d, hrows]
        split <;> exact hx
      next x err hrows => rw [← packRows_scr k _ _ _ _ _ d, hrows]

/-- A drawing command, TILEW or PACK changes no list, fence or command address. -/
theorem scrDraw_scr (k : ScrCmd) (rows : Nat) (c : Chip) : (scrDraw k rows c).1.scr = c.scr := by
  unfold scrDraw
  split
  · rfl
  · dsimp only
    split
    case h_1 | h_2 => exact scrFold_scr (fillRow_scr k) _ c
    case h_3 => exact scrFold_scr (lineRow_scr k) _ c
    case h_4 | h_5 | h_6 => split <;> exact scrFold_scr (copyRow_scr k _) _ c
    case h_7 => exact scrFold_scr (glyphRow_scr k) _ c
    case h_8 => exact scrFold_scr (tileRow_scr k) _ c
    case h_9 => exact packRun_scr k rows c
    case h_10 => rfl

theorem scr_of_scrDraw_eq {k : ScrCmd} {rows : Nat} {x : Chip} {r : Option ScrErr} (h : scrDraw k rows c = (x, r)) :
    x.scr = c.scr := by
  rw [← scrDraw_scr k rows c, h]

@[simp] theorem Chip.markTiles_scr (c : Chip) (x0 y0 x1 y1 : Nat) : (c.markTiles x0 y0 x1 y1).scr = c.scr := by
  unfold Chip.markTiles
  split <;> rfl

@[simp] theorem Chip.autoMark_scr (c : Chip) (k : ScrCmd) : (c.autoMark k).scr = c.scr := by
  unfold Chip.autoMark
  split
  · rfl
  · dsimp only
    split
    · rfl
    · simp

theorem Chip.overtakePush_of_no_push (h : c.disp.push = none) (a b : Nat) : c.overtakePush a b = c := by
  unfold Chip.overtakePush
  rw [h]
  cases c.scrOnSurface <;> rfl

section
variable {x : Chip} {k : ScrCmd} (hpush : c.disp.push = none)
include hpush

theorem scrWork_of_done (hlist : c.scr.list = false) (hdraw : scrDraw k 65536 c = (x, none)) (e : Env) :
    scrWork k e c = (x.autoMark k).scrStop 4 := by
  simp only [scrWork, Chip.overtakePush_of_no_push hpush, Nat.reducePow, hdraw]
  exact Chip.scrNext_of_register (by rw [Chip.autoMark_scr, scr_of_scrDraw_eq hdraw, hlist]) e

theorem scrWork_of_failed {err : ScrErr} (hdraw : scrDraw k 65536 c = (x, some err)) (hcode : err.code ≠ 8) (e : Env) :
    scrWork k e c = ((x.autoMark k).wr A.SCR_ERR (word err.code)).scrStop 5 := by
  simp only [scrWork, Chip.overtakePush_of_no_push hpush, Nat.reducePow, hdraw]
  exact Chip.scrFail_of_ne_bus hcode e _

end

/-! ### TARGET, CLIP and JUMP (R310, R318, R321) -/

theorem scrTargetCmd_of_register (hlist : c.scr.list = false) (k : ScrCmd) (e : Env) :
    scrTargetCmd k e c =
      (((c.wr A.SCR_TGT_ADDR (k.word 1)).wr A.SCR_TGT_FMT (k.word 2)).wr A.SCR_TGT_SIZE (k.word 3)).scrStop 4 := by
  rw [scrTargetCmd]
  exact Chip.scrNext_of_register (by simpa only [Chip.wr_scr] using hlist) e

@[simp] theorem Chip.putBit_scr (c : Chip) (a i : Nat) (b : Bool) : (c.putBit a i b).scr = c.scr := by
  cases b <;> rfl

theorem scrClip_of_register (hlist : c.scr.list = false) (k : ScrCmd) (e : Env) :
    scrClip k e c =
      let i := k.low % 4
      let d := (c.wr (A.SCR_CLIPi_MIN i) (k.word 1)).wr (A.SCR_CLIPi_MAX i) (k.word 2)
      ((d.putBit A.SCR_CLIP_CTL i (k.low.testBit 4)).putBit A.SCR_CLIP_CTL (4 + i) (k.low.testBit 5)).scrStop 4 := by
  simp only [scrClip, Nat.testBit_eq_decide_div_mod_eq, Nat.reducePow]
  exact Chip.scrNext_of_register (by simpa using hlist) e

theorem scrJump_eq (k : ScrCmd) (e : Env) (c : Chip) :
    scrJump k e c =
      if (k.word 1).toNat % 32 = 0 then
        Chip.wr { c with scr := { c.scr with list := true, pc := (k.word 1).toNat, began := e.now } } A.SCR_PC (k.word 1)
      else (c.wr A.SCR_ERR 3).scrStop 5 := by
  have hfail : c.scrFail e { code := 3 } = (c.wr A.SCR_ERR 3).scrStop 5 := Chip.scrFail_of_ne_bus (by decide) e c
  have hword : word (k.word 1).toNat = k.word 1 := BitVec.ofNat_toNat ..
  simp only [scrJump, hfail, hword, ite_not]
  rfl

/-! ### Fences (R325, R327) -/

/-- The chip after a fence on `line` has fired in time. -/
def Chip.firedInTime (c : Chip) (e : Env) (line : Nat) : Chip :=
  { (((c.setBit A.SCR_STAT 7).wr A.SCR_FENCE_LAST (word line)).wr A.SCR_FENCE_FRAME (word (c.frameIndex e))) with
    scr := { c.scr with fired := some (c.frameIndex e) } }

theorem Chip.fenceFires_in_time (e : Env) (c : Chip) (line : Nat) : c.fenceFires e line false = c.firedInTime e line := by
  simp only [Chip.fenceFires, Bool.false_eq_true, if_false, Nat.zero_add]
  rfl

/-- A fence for the frame after the present one is ahead by one frame. -/
theorem fence_ahead_of_next (i : Nat) : ((i + 1) % 2 ^ 32 + 2 ^ 32 - i % 2 ^ 32) % 2 ^ 32 = 1 := by omega

section
variable {k : ScrCmd} (hno : c.scr.fence = none)
include hno

/-- R326: where no beam is, a fence fires at once. -/
theorem scrFence_of_no_beam (hlist : c.scr.list = false) (hkind : c.dkind = 0 ∨ c.dkind = 4) (e : Env) :
    scrFence k e c = (c.firedInTime e (k.low % 2048)).scrStop 4 := by
  have hline : ¬2048 ≤ k.low % 2048 := Nat.not_le.mpr (Nat.mod_lt _ (by decide))
  have hfires : (c.fenceFires e (k.low % 2048) false).scrNext e = (c.firedInTime e (k.low % 2048)).scrStop 4 := by
    rw [Chip.fenceFires_in_time]
    exact Chip.scrNext_of_register (c := c.firedInTime e _) hlist e
  rcases hkind with h | h <;> simp [scrFence, Chip.fenceNow, h, hline, hno, hfires]

/-- R325: a fence for the next frame is armed, and WAIT holds the engine. -/
theorem scrFence_of_next_frame (hkind : c.dkind = 1) (hline : k.low % 2048 < c.vTotal) (hnext : k.low / 4096 % 4 = 1)
    (hhold : (k.word 0).getLsbD 15 = true) (e : Env) :
    scrFence k e c =
      let g : Fence := { line := k.low % 2048, frame := (c.frameIndex e + 1) % 2 ^ 32 }
      Chip.setBit { ((c.setBit A.SCR_STAT 2).wr A.SCR_FENCE (word (2 ^ 31 + g.line))) with
        scr := { c.scr with fence := some g, own := true } } A.SCR_STAT 1 := by
  have harmed : c.fenceNow e { line := k.low % 2048, frame := (c.frameIndex e + 1) % 2 ^ 32 } = none := by
    simp only [Chip.fenceNow, hkind, fence_ahead_of_next]
    rfl
  simp only [scrFence, hkind, Nat.not_le.mpr hline, hno, hnext, harmed, hhold, if_false, if_true, Option.isSome_none,
    Bool.false_eq_true]
  rfl

end

theorem regReset_scrStat : regReset A.SCR_STAT = 0 := by decide

/-- The status word that a firing stores has WM set, so that it is read back whatever form the register file has. -/
theorem Chip.rd_wr_scrStat_of_wm {w : Word} (h : w.getLsbD 7 = true) (c : Chip) : (c.wr A.SCR_STAT w).rd A.SCR_STAT = w := by
  refine Chip.rd_wr_self_of_ne_reset (fun hz => ?_) c
  rw [hz, regReset_scrStat] at h
  exact absurd h (by decide)

theorem Chip.firedInTime_rd_scrStat (c : Chip) (e : Env) (line : Nat) :
    (c.firedInTime e line).rd A.SCR_STAT = c.rd A.SCR_STAT ||| word (2 ^ 7) := by
  have hwm : (c.rd A.SCR_STAT ||| word (2 ^ 7)).getLsbD 7 = true := by
    rw [BitVec.getLsbD_or, show (word (2 ^ 7)).getLsbD 7 = true by decide, Bool.or_true]
  calc (c.firedInTime e line).rd A.SCR_STAT
      = (((c.setBit A.SCR_STAT 7).wr A.SCR_FENCE_LAST (word line)).wr A.SCR_FENCE_FRAME
          (word (c.frameIndex e))).rd A.SCR_STAT := rfl
    _ = (c.setBit A.SCR_STAT 7).rd A.SCR_STAT := by rw [Chip.rd_wr_of_ne (by decide), Chip.rd_wr_of_ne (by decide)]
    _ = c.rd A.SCR_STAT ||| word (2 ^ 7) := Chip.rd_wr_scrStat_of_wm hwm c

/-- R327: the armed fence is fired and no longer armed. -/
def Chip.firedAndDisarmed (c : Chip) (e : Env) (line : Nat) : Chip :=
  (Chip.clrBit { c.firedInTime e line with
    scr := { c.scr with fired := some (c.frameIndex e), fence := none, own := false } } A.SCR_STAT 2).clrBit A.SCR_FENCE 31

theorem Chip.firedAndDisarmed_scrWaiting (hwait : c.bit A.SCR_STAT 1 = false) (e : Env) (line : Nat) :
    (c.firedAndDisarmed e line).scrWaiting = false := by
  have hstat : (c.firedAndDisarmed e line).rd A.SCR_STAT = (c.rd A.SCR_STAT ||| word (2 ^ 7)) &&& ~~~word (2 ^ 2) := by
    have hrd : Chip.rd { c.firedInTime e line with
        scr := { c.scr with fired := some (c.frameIndex e), fence := none, own := false } } A.SCR_STAT =
        c.rd A.SCR_STAT ||| word (2 ^ 7) := c.firedInTime_rd_scrStat e line
    rw [Chip.firedAndDisarmed, Chip.clrBit, Chip.rd_wr_of_ne (by decide), Chip.clrBit, hrd]
    refine Chip.rd_wr_scrStat_of_wm ?_ _
    simp [word]
  rw [Chip.scrWaiting, Chip.bit, hstat, BitVec.getLsbD_and, BitVec.getLsbD_or,
    show (c.rd A.SCR_STAT).getLsbD 1 = false from hwait, show (word (2 ^ 7)).getLsbD 1 = false by decide, Bool.or_false,
    Bool.false_and]

/-- A fence that fires lets nothing go on where the engine does not wait. -/
theorem armedFires_of_not_waiting {f : Fence} (hf : c.scr.fence = some f) (hwait : c.bit A.SCR_STAT 1 = false) (e : Env) :
    c.armedFires e false = c.firedAndDisarmed e f.line := by
  have hfired : (((c.fenceFires e f.line false).scrDo fun s => { s with fence := none, own := false }).clrBit A.SCR_STAT 2).clrBit
      A.SCR_FENCE 31 = c.firedAndDisarmed e f.line := by
    rw [Chip.fenceFires_in_time]
    rfl
  simp only [Chip.armedFires, hf, hfired, Chip.firedAndDisarmed_scrWaiting hwait, Bool.false_eq_true, if_false]

theorem Chip.fenceDue_of_ahead {f : Fence} (hf : c.scr.fence = some f) (hkind : c.dkind = 1)
    (hahead : (f.frame + 2 ^ 32 - c.frameIndex e % 2 ^ 32) % 2 ^ 32 < 2 ^ 31) :
    c.fenceDue e = some (c.lineCount (c.frameStart e.now +
      (f.frame + 2 ^ 32 - c.frameIndex e % 2 ^ 32) % 2 ^ 32 * c.frameCounts) f.line) := by
  simp only [Chip.fenceDue, hf, hkind, if_neg (Nat.not_le.mpr hahead)]

/-! ### The commands -/

@[simp] theorem State.advTo_chip_scr (s : State) (t : Nat) : (s.advTo t).chip.scr = s.chip.scr := by
  obtain ⟨r, hr⟩ := s.advTo_chip_eq_regs t
  rw [hr]

/-- FENCE_FIRE: the fence fires at the first count of its line. -/
theorem exec_fenceFire_of_ahead {s : State} {f : Fence} (hp : s.chip.powered = true) (hs : s.chip.slow = false)
    (hf : s.chip.scr.fence = some f) (hkind : s.chip.dkind = 1) (hwait : s.chip.bit A.SCR_STAT 1 = false)
    (hahead : (f.frame + 2 ^ 32 - s.chip.frameIndex s.env % 2 ^ 32) % 2 ^ 32 < 2 ^ 31) :
    exec .fenceFire s = .next (s.becomesAt (s.chip.lineCount (s.chip.frameStart s.clock.abs +
      (f.frame + 2 ^ 32 - s.chip.frameIndex s.env % 2 ^ 32) % 2 ^ 32 * s.chip.frameCounts) f.line)
        fun e c => c.firedAndDisarmed e f.line) := by
  have hdue : exec .fenceFire s = runAt _ (fun e c => c.armedFires e false) s :=
    congrArg (fun o => runDue o (fun e c => c.armedFires e false) s) (Chip.fenceDue_of_ahead (e := s.env) hf hkind hahead)
  refine (hdue.trans (runAt_of_powered hp hs)).trans (congrArg _ (State.becomesAt_congr ?_))
  refine armedFires_of_not_waiting (by rw [State.advTo_chip_scr, hf]) ?_ _
  rw [Chip.bit, State.advTo_rd s _ (by decide)]
  exact hwait

theorem next_becomes_congr {s : State} {c d : Chip} (h : c = d) :
    (.next (s.becomes c) : Host.Outcome State Fault Refusal) = .next (s.becomes d) := by rw [h]

section
variable {s : State} {m : Master} (hp : s.chip.powered = true) (hm : admits 8 m.port = true)
include hp hm

theorem store_scrGo (v : Word) : store m A.SCR_GO v s = .next (s.becomes (scrGo (bits v 1 0) s.env s.chip)) :=
  (store_of_admits hp hm).trans (next_becomes_congr (regWrite_scrGo m v _ _))

theorem exec_scrAbort (rows : Nat) : exec (.scrAbort m rows) s = .next (s.becomes (scrAbort rows s.env s.chip)) :=
  (run_of_powered hp).trans (next_becomes_congr (if_pos hm))

end

/-- Each drawing command, TILEW and PACK is the engine's work under its operation code (R309). -/
theorem exec_drawing (s : State) :
    ∀ p ∈ [(Instr.scrFill, 1), (.scrRect, 2), (.scrLine, 3), (.scrCopy, 4), (.scrKeycopy, 5), (.scrBlend, 6), (.scrGlyph, 7),
      (.scrTilew, 8), (.scrPack, 9)], exec p.1 s = engine p.2 scrWork s := by
  simp only [List.forall_mem_cons]
  exact ⟨rfl, rfl, rfl, rfl, rfl, rfl, rfl, rfl, rfl, List.forall_mem_nil _⟩

/-- Settles O41: every case is the command's operation on the chip, reached through the register SCR_GO, through the engine at its
register command or at the count at which the fence is due; the lemmas above say what the operation does. -/
theorem scriptoriumRunsItsCommands : Obligations.ScriptoriumRunsItsCommands := by
  intro m rows x f s hp
  refine ⟨?idle, ?busy, ?abort, ?nop, ?done, ?drawing, ?target, ?clip, ?jump, ?unknown, ?noBeam, ?nextFrame, ?fire⟩
  case idle =>
    intro hm hidle
    exact ⟨(store_scrGo hp hm 1).trans (next_becomes_congr (scrGo_command hidle _)),
      (store_scrGo hp hm 2).trans (next_becomes_congr (scrGo_list hidle _)),
      (exec_scrAbort hp hm rows).trans (next_becomes_congr (scrAbort_of_idle hidle _ _))⟩
  case busy =>
    intro hm hbusy
    exact ⟨(store_scrGo hp hm 1).trans (next_becomes_congr (scrGo_of_busy hbusy _ _)),
      (store_scrGo hp hm 2).trans (next_becomes_congr (scrGo_of_busy hbusy _ _))⟩
  case abort =>
    intro hm hbusy hwait hlist
    exact (exec_scrAbort hp hm rows).trans (next_becomes_congr (scrAbort_of_waiting hbusy hwait hlist rows s.env))
  case nop =>
    intro (h : s.chip.AtRegisterCommand) hop
    exact (engine_of_reached hp h hop _).trans (next_becomes_congr (Chip.scrNext_of_register h.list _))
  case done =>
    intro (h : s.chip.AtRegisterCommand) hop
    exact engine_of_reached hp h hop _
  case drawing =>
    intro row op hrow (h : s.chip.AtRegisterCommand) hop hpush
    have hexec := (exec_drawing s _ hrow).trans (engine_of_reached hp h hop scrWork)
    exact ⟨fun hdraw => ⟨scr_of_scrDraw_eq hdraw, hexec.trans (next_becomes_congr (scrWork_of_done hpush h.list hdraw _))⟩,
      fun err hdraw hcode => hexec.trans (next_becomes_congr (scrWork_of_failed hpush hdraw hcode _))⟩
  case target =>
    intro (h : s.chip.AtRegisterCommand) hop
    exact (engine_of_reached hp h hop _).trans (next_becomes_congr (scrTargetCmd_of_register h.list _ _))
  case clip =>
    intro (h : s.chip.AtRegisterCommand) hop
    exact (engine_of_reached hp h hop _).trans (next_becomes_congr (scrClip_of_register h.list _ _))
  case jump =>
    intro (h : s.chip.AtRegisterCommand) hop
    refine (engine_of_reached hp h hop _).trans ((next_becomes_congr (scrJump_eq _ _ _)).trans ?_)
    exact apply_ite (fun c => Host.Outcome.next (s.becomes c)) _ _ _
  case unknown =>
    intro (h : s.chip.AtRegisterCommand) hop
    refine (run_of_powered hp).trans (next_becomes_congr ?_)
    rw [scrAt_of_wanted h (by simpa [Chip.registerCommand] using hop)]
    exact Chip.scrFail_of_ne_bus (by decide) _ _
  case noBeam =>
    intro (h : s.chip.AtRegisterCommand) hop hno hkind
    exact (engine_of_reached hp h hop _).trans (next_becomes_congr (scrFence_of_no_beam hno h.list hkind _))
  case nextFrame =>
    intro (h : s.chip.AtRegisterCommand) hop hno hkind hline hframe hhold
    exact (engine_of_reached hp h hop _).trans (next_becomes_congr (scrFence_of_next_frame hno hkind hline hframe hhold _))
  case fire =>
    intro hs hf hkind hwait ahead t hahead _
    exact exec_fenceFire_of_ahead hp hs hf hkind hwait hahead

end Sys2Proof.Machine
end

section
/-! PROOF. What an instruction of a core answers (10_quire_instruction_set.md, R344 to R373): one that completes, one that
changes its core alone, one that transfers control, and one that raises an exception. -/

namespace Sys2Proof.Machine

variable {core : BitVec 1} {s : State}

/-! ### The core that an instruction leaves -/

/-- Core `k'` leaves the device as much to do as `k`: it waits for the same, and steps as it did. -/
structure Core.SameDuties (k k' : Core) : Prop where
  stepping : k'.stepping = k.stepping
  expects : k'.expects = k.expects

namespace Core

variable (k : Core)

@[simp] theorem watch_stepping (a : Nat) (l st : Bool) : (k.watch a l st).stepping = k.stepping := by
  unfold watch; dsimp only; split <;> rfl

@[simp] theorem watch_expects (a : Nat) (l st : Bool) : (k.watch a l st).expects = k.expects := by
  unfold watch; dsimp only; split <;> rfl

theorem sameDuties_setReg (r : Nat) (v : Word) : k.SameDuties (k.setReg r v) := ⟨by simp, by simp⟩

theorem sameDuties_result (rd : BitVec 5) (f : Bool) (v psw : Word) : k.SameDuties (k.result rd f v psw) := ⟨by simp, by simp⟩

theorem sameDuties_setAcc (a : Nat) (v : Acc) : k.SameDuties (k.setAcc a v) := ⟨by simp, by simp⟩

theorem sameDuties_stick (q : Bool) : k.SameDuties (k.stick q) := ⟨by simp, by simp⟩

theorem sameDuties_watch (a : Nat) (l st : Bool) : k.SameDuties (k.watch a l st) := ⟨by simp, by simp⟩

theorem sameDuties_sequential (n : Nat) : k.SameDuties (k.sequential n) := ⟨by simp, by simp⟩

theorem sameDuties_psw (w : Word) : k.SameDuties { k with psw := w } := ⟨rfl, rfl⟩

theorem sameDuties_pc (w : Word) : k.SameDuties { k with pc := w } := ⟨rfl, rfl⟩

theorem sameDuties_wb (wb : List WbEntry) : k.SameDuties { k with wb := wb } := ⟨rfl, rfl⟩

variable {k}

theorem SameDuties.trans {k' k'' : Core} (h : k.SameDuties k') (h' : k'.SameDuties k'') : k.SameDuties k'' :=
  ⟨h'.stepping.trans h.stepping, h'.expects.trans h.expects⟩

end Core

/-! ### The chip that an instruction leaves -/

theorem Chip.core_modCore (c : Chip) (n : Nat) (f : Core → Core) : (c.modCore n f).core n = f (c.core n) :=
  c.core_setCore n _

theorem Chip.duties_modCore {c : Chip} {n : Nat} {f : Core → Core} (h : (c.core n).SameDuties (f (c.core n))) :
    (c.modCore n f).duties = c.duties :=
  c.duties_setCore n _ h.expects

theorem Chip.core_setMem (c : Chip) (a : Nat) (bs : List Byte) (n : Nat) : (c.setMem a bs).core n = c.core n := rfl

theorem Chip.duties_setMem (c : Chip) (a : Nat) (bs : List Byte) : (c.setMem a bs).duties = c.duties := rfl

/-- Only what an instruction makes of the chip as it stands counts. -/
theorem quire_congr {op op' : Env → Chip → Res} (h : op s.env s.chip = op' s.env s.chip) :
    quire core op s = quire core op' s := by
  simp only [quire, run, State.cmd, State.on, instr, h]

/-- An instruction that completes and leaves the device nothing to do. -/
theorem quire_of_done {op : Env → Chip → Res} {c : Chip} (hs : s.Executes core.toNat) (hop : op s.env s.chip = .done c)
    (hstep : (c.core core.toNat).stepping = false) (hd : c.duties = false) : quire core op s = .next (s.withChip c) := by
  obtain ⟨hq, hrun, hdue, -⟩ := hs
  have hin : instr core.toNat op s.env s.chip = c := by simp [instr, hrun, hdue, hop, stepDone, hstep]
  rw [quire, run_of_quiet hq (by rw [hin, hd]), hin]

/-- An instruction that makes `c` of the chip, from the same core and with the same to do, and then changes its core. -/
theorem quire_of_done_modCore {op : Env → Chip → Res} {c : Chip} {f : Core → Core} (hs : s.Executes core.toNat)
    (hop : op s.env s.chip = .done (c.modCore core.toNat f)) (hc : c.core core.toNat = s.chip.core core.toNat)
    (hd : c.duties = s.chip.duties) (hf : (s.chip.core core.toNat).SameDuties (f (s.chip.core core.toNat))) :
    quire core op s = .next (s.withChip (c.modCore core.toNat f)) := by
  obtain ⟨⟨-, hquiet⟩, -, -, hstep⟩ := id hs
  refine quire_of_done hs hop ?_ ?_
  · rw [Chip.core_modCore, hc, hf.stepping, hstep]
  · rw [Chip.duties_modCore (hc ▸ hf), hd, hquiet]

/-- Such an instruction that goes on to its successor. -/
theorem quire_of_done_afterOp {op : Env → Chip → Res} {c : Chip} {size : Nat} {f : Core → Core} (hs : s.Executes core.toNat)
    (hop : op s.env s.chip = .done (c.modCore core.toNat fun k => (f k).sequential size))
    (hc : c.core core.toNat = s.chip.core core.toNat) (hd : c.duties = s.chip.duties)
    (hf : (s.chip.core core.toNat).SameDuties (f (s.chip.core core.toNat))) :
    quire core op s = .next ((s.withChip c).afterOp core.toNat size f) :=
  quire_of_done_modCore hs hop hc hd (hf.trans (Core.sameDuties_sequential _ _))

/-- An instruction that goes on to its successor: only what it makes of its own core counts. -/
theorem coreOp_answers {c16 : Bool} {f g : Core → Core} (hs : s.Executes core.toNat)
    (hfg : f (s.chip.core core.toNat) = g (s.chip.core core.toNat))
    (hg : (s.chip.core core.toNat).SameDuties (g (s.chip.core core.toNat))) :
    quire core (coreOp core.toNat c16 f) s = .next (s.afterOp core.toNat (isz c16) g) := by
  rw [coreOp_of_executes hs (by rw [hfg, hg.stepping]) (by rw [hfg, hg.expects]), hfg, State.afterOp]

/-- One that writes a result, and its flags where F is set. -/
theorem coreOp_result {c16 f : Bool} {op : Core → Core} {rd : BitVec 5} {v : Word} {psw : Core → Word}
    (hs : s.Executes core.toNat)
    (h : op (s.chip.core core.toNat) = (s.chip.core core.toNat).result rd f v (psw (s.chip.core core.toNat))) :
    quire core (coreOp core.toNat c16 op) s = .next (s.afterOp core.toNat (isz c16) fun k => k.result rd f v (psw k)) :=
  coreOp_answers hs h (Core.sameDuties_result ..)

/-- One that writes a general register alone. -/
theorem coreOp_setReg {c16 : Bool} {op : Core → Core} {r : Nat} {v : Core → Word} (hs : s.Executes core.toNat)
    (h : op (s.chip.core core.toNat) = (s.chip.core core.toNat).setReg r (v (s.chip.core core.toNat))) :
    quire core (coreOp core.toNat c16 op) s = .next (s.afterOp core.toNat (isz c16) fun k => k.setReg r (v k)) :=
  coreOp_answers hs h (Core.sameDuties_setReg ..)

/-- One that performs no loop-end step. -/
theorem jumpOp_answers {f : Core → Core} (hs : s.Executes core.toNat)
    (hf : (s.chip.core core.toNat).SameDuties (f (s.chip.core core.toNat))) :
    quire core (jumpOp core.toNat f) s = .next (s.withCore core.toNat (f (s.chip.core core.toNat))) :=
  quire_of_done_modCore hs rfl rfl rfl hf

/-- One that raises an exception has no effect but the taking of it (R373). -/
theorem quire_of_raise {op : Env → Chip → Res} {x : Exc} (hs : s.Executes core.toNat)
    (hop : op s.env s.chip = .raise x s.chip) : quire core op s = .next (s.raised core.toNat x) := by
  obtain ⟨⟨hpowered, -⟩, -⟩ := hs
  rw [quire_congr (op' := fun _ c => .raise x c) hop]
  exact run_of_powered hpowered

end Sys2Proof.Machine
end

section
/-! PROOF. The integer instructions of Quire (10_quire_instruction_set.md, R344 to R346): the sums and differences with their
flags, the results of the integer table, the shifts, the compares and the immediates. -/

namespace Sys2Proof.Machine

/-! ### Words, signed numbers and bytes -/

theorem signBit_eq_msb (w : Word) : signBit w = w.msb := (BitVec.msb_eq_getLsbD_last w).symm

theorem signBit_eq_decide (w : Word) : signBit w = decide (2 ^ 31 ≤ w.toNat) := by
  rw [signBit_eq_msb, BitVec.msb_eq_decide]

/-- The number that a bit vector spells is written as that bit vector. -/
theorem ofInt_eq_of_toInt {n : Nat} {w : BitVec n} {x : Int} (h : w.toInt = x) : BitVec.ofInt n x = w := by
  rw [← h, BitVec.ofInt_toInt]

theorem sgn_eq_toInt (n v : Nat) : sgn n v = (BitVec.ofNat n v).toInt := by
  rw [sgn, BitVec.toInt_eq_msb_cond, BitVec.msb_eq_decide, BitVec.toNat_ofNat]
  by_cases h : v % 2 ^ n < 2 ^ (n - 1)
  · simp [h, Nat.not_le.mpr h]
  · simp [h, Nat.not_lt.mp h]

theorem wordI_sgn (n v : Nat) : wordI (sgn n v) = (BitVec.ofNat n v).signExtend 32 := by rw [sgn_eq_toInt]; rfl

theorem toNat_append_eq {m n : Nat} (x : BitVec m) (y : BitVec n) : (x ++ y).toNat = x.toNat * 2 ^ n + y.toNat := by
  rw [BitVec.toNat_append, ← Nat.shiftLeft_add_eq_or_of_lt y.isLt, Nat.shiftLeft_eq]

theorem ofNat_toNat_eq_extractLsb' {n : Nat} (w : BitVec n) (m : Nat) : BitVec.ofNat m w.toNat = w.extractLsb' 0 m := rfl

theorem and_low_half (w : Word) : w &&& 0xFFFF = (w.extractLsb' 0 16).setWidth 32 := by
  have hlow : (w.extractLsb' 0 16).toNat = w.toNat % 2 ^ 16 := rfl
  apply BitVec.eq_of_toNat_eq
  rw [BitVec.toNat_and, BitVec.toNat_setWidth_of_le (by decide), hlow]
  exact Nat.and_two_pow_sub_one_eq_mod _ 16

theorem setWidth_shiftLeft_eq_append (x : BitVec 20) : x.setWidth 32 <<< 12 = x ++ (0 : BitVec 12) := by
  have hx := x.isLt
  have hzero : (0 : BitVec 12).toNat = 0 := rfl
  apply BitVec.eq_of_toNat_eq
  rw [BitVec.toNat_shiftLeft, BitVec.toNat_setWidth_of_le (by decide), toNat_append_eq, Nat.shiftLeft_eq, hzero]
  omega

theorem toNat_eq_ite (b : Bool) : b.toNat = if b then 1 else 0 := by cases b <;> rfl

theorem toNat_not (b : Bool) : (!b).toNat = 1 - if b then 1 else 0 := by cases b <;> rfl

/-- R12: the bytes of a number, the least significant first. -/
theorem leBytes_eq_map (n v : Nat) : leBytes n v = (List.range n).map fun i => BitVec.ofNat 8 (v >>> (8 * i)) := by
  induction n generalizing v with
  | zero => rfl
  | succ n ih =>
    have hnext (i : Nat) : BitVec.ofNat 8 ((v / 256) >>> (8 * i)) = BitVec.ofNat 8 (v >>> (8 * (i + 1))) := by
      rw [← Nat.shiftRight_eq_div_pow v 8, ← Nat.shiftRight_add, Nat.mul_succ, Nat.add_comm]
    rw [leBytes, ih, List.range_succ_eq_map, List.map_cons, List.map_map]
    exact congrArg _ (List.map_congr_left fun i _ => hnext i)

theorem leBytes_word_eq_map (n : Nat) (w : Word) : leBytes n w.toNat = (List.range n).map fun i => w.extractLsb' (8 * i) 8 :=
  leBytes_eq_map n w.toNat

theorem word_leNat_four (b0 b1 b2 b3 : Byte) : word (leNat [b0, b1, b2, b3]) = b3 ++ b2 ++ b1 ++ b0 := by
  apply BitVec.eq_of_toNat_eq
  simp only [word, leNat, BitVec.toNat_ofNat, toNat_append_eq]
  omega

/-! ### Sums and differences with their flags (R345) -/

section
variable {a b r : Word} {cin : Bool}

/-- V of a sum: the operands have one sign and the result has the other where the exact sum does not fit. -/
theorem overflow_of_add (hr : BitVec.ofNat 32 (a.toNat + b.toNat + cin.toNat) = r) :
    (signBit a == signBit b && signBit r != signBit a) = decide (r.toInt ≠ a.toInt + b.toInt + cin.toNat) := by
  have hcin := Bool.toNat_lt cin
  have ha := a.isLt
  have hb := b.isLt
  have hn : r.toNat = (a.toNat + b.toNat + cin.toNat) % 2 ^ 32 := by rw [← hr, BitVec.toNat_ofNat]
  rw [Bool.eq_iff_iff]
  simp only [signBit_eq_decide, Bool.and_eq_true, beq_iff_eq, bne_iff_ne, decide_eq_decide, decide_eq_true_eq, ne_eq,
    BitVec.toInt_eq_toNat_cond]
  omega

/-- V of a difference: the operands have two signs and the result has not the first one's. -/
theorem overflow_of_sub (hr : BitVec.ofNat 32 (a.toNat + 2 ^ 33 - (b.toNat + (!cin).toNat)) = r) :
    (signBit a != signBit b && signBit r != signBit a) = decide (r.toInt ≠ a.toInt - b.toInt - (!cin).toNat) := by
  have hcin := Bool.toNat_lt (!cin)
  have ha := a.isLt
  have hb := b.isLt
  have hn : r.toNat = (a.toNat + 2 ^ 33 - (b.toNat + (!cin).toNat)) % 2 ^ 32 := by rw [← hr, BitVec.toNat_ofNat]
  rw [Bool.eq_iff_iff]
  simp only [signBit_eq_decide, Bool.and_eq_true, bne_iff_ne, decide_eq_decide, decide_eq_true_eq, ne_eq,
    BitVec.toInt_eq_toNat_cond]
  omega

end

theorem addFlags_eq (a b : Word) (cin : Bool) :
    addFlags a b cin =
      let r := a + b + word cin.toNat
      (r, { n := r.msb, z := decide (r = 0), c := decide (2 ^ 32 ≤ a.toNat + b.toNat + cin.toNat),
            v := decide (r.toInt ≠ a.toInt + b.toInt + cin.toNat) }) := by
  have hr : BitVec.ofNat 32 (a.toNat + b.toNat + cin.toNat) = a + b + word cin.toNat := by
    simp [word, BitVec.ofNat_add]
  dsimp only
  rw [← overflow_of_add hr, ← signBit_eq_msb, addFlags, hr]
  rfl

theorem subFlags_eq (a b : Word) (cin : Bool) :
    subFlags a b cin =
      let r := a - b - word (!cin).toNat
      (r, { n := r.msb, z := decide (r = 0), c := decide (b.toNat + (!cin).toNat ≤ a.toNat),
            v := decide (r.toInt ≠ a.toInt - b.toInt - (!cin).toNat) }) := by
  have hr : BitVec.ofNat 32 (a.toNat + 2 ^ 33 - (b.toNat + (!cin).toNat)) = a - b - word (!cin).toNat := by
    have hcin := Bool.toNat_lt (!cin)
    apply BitVec.eq_of_toNat_eq
    simp only [word, BitVec.toNat_ofNat, BitVec.toNat_sub]
    omega
  dsimp only
  rw [← overflow_of_sub hr, ← signBit_eq_msb, subFlags, hr]
  rfl

theorem addFlags_false (a b : Word) :
    addFlags a b false = (a + b, { n := (a + b).msb, z := decide (a + b = 0), c := decide (2 ^ 32 ≤ a.toNat + b.toNat),
                                   v := decide ((a + b).toInt ≠ a.toInt + b.toInt) }) := by
  simp [addFlags_eq, word]

theorem subFlags_true (a b : Word) :
    subFlags a b true = (a - b, { n := (a - b).msb, z := decide (a - b = 0), c := decide (b.toNat ≤ a.toNat),
                                  v := decide ((a - b).toInt ≠ a.toInt - b.toInt) }) := by
  simp [subFlags_eq, word]

/-! ### The results of the integer table (R344) -/

section
variable (a b : Word)

theorem oneIf_slt : oneIf (a.slt b) = if a.toInt < b.toInt then 1 else 0 := by
  simp only [oneIf, BitVec.slt_iff_toInt_lt]

theorem oneIf_ult : oneIf (a.ult b) = if a.toNat < b.toNat then 1 else 0 := by
  simp only [oneIf, BitVec.ult_iff_toNat_lt]

theorem ite_slt_eq_min : (if b.slt a then b else a) = BitVec.ofInt 32 (min a.toInt b.toInt) := by
  refine (ofInt_eq_of_toInt ?_).symm
  split <;> rename_i h <;> rw [BitVec.slt_iff_toInt_lt] at h <;> omega

theorem ite_slt_eq_max : (if a.slt b then b else a) = BitVec.ofInt 32 (max a.toInt b.toInt) := by
  refine (ofInt_eq_of_toInt ?_).symm
  split <;> rename_i h <;> rw [BitVec.slt_iff_toInt_lt] at h <;> omega

theorem ite_ult_eq_min : (if b.ult a then b else a) = BitVec.ofNat 32 (min a.toNat b.toNat) := by
  refine BitVec.eq_of_toNat_eq ?_
  rw [BitVec.toNat_ofNat, Nat.mod_eq_of_lt (by omega)]
  split <;> rename_i h <;> rw [BitVec.ult_iff_toNat_lt] at h <;> omega

theorem ite_ult_eq_max : (if a.ult b then b else a) = BitVec.ofNat 32 (max a.toNat b.toNat) := by
  refine BitVec.eq_of_toNat_eq ?_
  rw [BitVec.toNat_ofNat, Nat.mod_eq_of_lt (by omega)]
  split <;> rename_i h <;> rw [BitVec.ult_iff_toNat_lt] at h <;> omega

/-- CLZ: the first set bit from the top is that of the binary logarithm. -/
theorem leadingZeros_eq (w : Word) : leadingZeros w = if w = 0 then 32 else 31 - Nat.log2 w.toNat := by
  unfold leadingZeros
  split
  case isTrue h =>
    subst h
    rw [List.find?_range_eq_none.mpr (by simp)]
    rfl
  case isFalse h =>
    have hw : w.toNat ≠ 0 := fun h0 => h (BitVec.eq_of_toNat_eq h0)
    have hlog : Nat.log2 w.toNat < 32 := (Nat.log2_lt hw).mpr w.isLt
    have htop : w.getLsbD (31 - (31 - Nat.log2 w.toNat)) = true := by
      rw [show 31 - (31 - Nat.log2 w.toNat) = Nat.log2 w.toNat by omega]
      exact Nat.testBit_log2 hw
    have habove (j : Nat) (hj : j < 31 - Nat.log2 w.toNat) : (!w.getLsbD (31 - j)) = true := by
      have hlt : w.toNat < 2 ^ (31 - j) := (Nat.log2_lt hw).mp (by omega)
      rw [BitVec.getLsbD, Nat.testBit_lt_two_pow hlt]
      rfl
    have hfind : (List.range 32).find? (fun i => w.getLsbD (31 - i)) = some (31 - Nat.log2 w.toNat) :=
      List.find?_range_eq_some.mpr ⟨htop, List.mem_range.mpr (by omega), habove⟩
    rw [hfind]
    rfl

theorem reverseBytes_eq (w : Word) :
    reverseBytes w = w.extractLsb' 0 8 ++ w.extractLsb' 8 8 ++ w.extractLsb' 16 8 ++ w.extractLsb' 24 8 := by
  rw [reverseBytes, leBytes_word_eq_map]
  exact word_leNat_four ..

theorem abs_eq_natAbs : (if signBit a then -a else a) = BitVec.ofInt 32 a.toInt.natAbs := by
  rw [signBit_eq_msb, BitVec.msb_eq_toInt]
  split <;> rename_i h <;> rw [decide_eq_true_eq] at h
  · rw [Int.ofNat_natAbs_of_nonpos (Int.le_of_lt h), BitVec.ofInt_neg, BitVec.ofInt_toInt]
  · rw [Int.natAbs_of_nonneg (Int.not_lt.mp h), BitVec.ofInt_toInt]

end

/-! ### The shifts (R344, R345) -/

theorem Core.amount_eq (k : Core) (rb : BitVec 5) : k.amount rb = (k.src rb).toNat % 32 :=
  rfl

theorem sshiftRight_eq_ofInt {w : Nat} (a : BitVec w) (n : Nat) : a.sshiftRight n = BitVec.ofInt w (a.toInt / 2 ^ n) := by
  have hquot : (a.sshiftRight n).toInt = a.toInt / 2 ^ n :=
    BitVec.toInt_sshiftRight.trans
      ((Int.shiftRight_eq_div_pow ..).trans (congrArg (a.toInt / ·) (Int.natCast_pow 2 n)))
  exact (ofInt_eq_of_toInt hquot).symm

section
variable (k : Core) (rd ra : BitVec 5) (n : Nat) (f : Bool)

theorem Core.shift_sra :
    k.shift .sra rd ra n f =
      let r := BitVec.ofInt 32 ((k.src ra).toInt / 2 ^ n)
      k.result rd f r (withNZC k.psw r (srCarry (k.src ra) n k.carry)) := by
  rw [← sshiftRight_eq_ofInt]
  rfl

variable {n} in
theorem Core.shift_ror (hn : n < 32) :
    k.shift .ror rd ra n f =
      let r := k.src ra >>> n ||| k.src ra <<< (32 - n)
      k.result rd f r (withNZC k.psw r r.msb) := by
  have hr : (k.src ra).rotateRight n = k.src ra >>> n ||| k.src ra <<< (32 - n) :=
    BitVec.rotateRight_eq_rotateRightAux_of_lt hn
  dsimp only
  rw [← hr, ← signBit_eq_msb]
  rfl

end

/-! ### The statements -/

/-- Settles O3: each instruction changes its core alone and goes on, and the lemmas above say what its result and its flags
are. -/
theorem integerAluResultsAndFlags : Obligations.IntegerAluResultsAndFlags := by
  refine ⟨?sums, ?table, ?shifts, ?compares⟩
  case sums =>
    intro core c16 f rd ra rb s hs
    refine ⟨coreOp_result hs ?add, coreOp_result hs ?sub, coreOp_result hs ?adc, coreOp_result hs ?sbc⟩
    case add => simp only [Core.nzcv, addFlags_false]
    case sub => simp only [Core.nzcv, subFlags_true]
    case adc => simp only [Core.nzcv, addFlags_eq, toNat_eq_ite]
    case sbc => simp only [Core.nzcv, subFlags_eq, toNat_not]
  case table =>
    intro core c16 f rd ra rb s hs
    refine ⟨coreOp_result hs rfl, coreOp_result hs rfl, coreOp_result hs rfl, coreOp_result hs rfl, coreOp_result hs ?slt,
      coreOp_result hs ?sltu, coreOp_result hs ?min, coreOp_result hs ?max, coreOp_result hs ?minu, coreOp_result hs ?maxu,
      coreOp_result hs ?clz, coreOp_result hs ?rev, coreOp_result hs ?sextb, coreOp_result hs ?sexth, coreOp_result hs ?zexth,
      coreOp_result hs ?abs⟩
    case slt => simp only [Core.nz, oneIf_slt]
    case sltu => simp only [Core.nz, oneIf_ult]
    case min => simp only [Core.nz, ite_slt_eq_min]
    case max => simp only [Core.nz, ite_slt_eq_max]
    case minu => simp only [Core.nz, ite_ult_eq_min]
    case maxu => simp only [Core.nz, ite_ult_eq_max]
    case clz => simp only [Core.nz, leadingZeros_eq, word]
    case rev => simp only [Core.nz, reverseBytes_eq]
    case sextb => simp only [Core.nz, wordI_sgn, ofNat_toNat_eq_extractLsb']
    case sexth => simp only [Core.nz, wordI_sgn, ofNat_toNat_eq_extractLsb']
    case zexth => simp only [Core.nz, and_low_half]
    case abs => simp only [abs_eq_natAbs]; rfl
  case shifts =>
    intro core c16 f rd ra rb imm s hs
    have hreg : (s.chip.core core.toNat).amount rb < 32 := by rw [Core.amount_eq]; exact Nat.mod_lt _ (by decide)
    simp only [← Core.amount_eq]
    exact ⟨coreOp_result hs rfl, coreOp_result hs rfl, coreOp_result hs (Core.shift_sra ..),
      coreOp_result hs (Core.shift_ror _ _ _ _ hreg), coreOp_result hs rfl, coreOp_result hs rfl,
      coreOp_result hs (Core.shift_sra ..), coreOp_result hs (Core.shift_ror _ _ _ _ imm.isLt)⟩
  case compares =>
    intro core c16 ra rb imm s hs
    have hz (a b : Word) : decide (a - b = 0) = decide (a = b) := by
      rw [decide_eq_decide, BitVec.sub_eq_iff_eq_add, show 0 + b = b from BitVec.zero_add b]
    refine ⟨coreOp_answers hs ?cmp (Core.sameDuties_psw ..), coreOp_answers hs ?cmpi (Core.sameDuties_psw ..),
      coreOp_answers hs rfl (Core.sameDuties_psw ..)⟩
    case cmp => rw [subFlags_true, hz]; rfl
    case cmpi => rw [subFlags_true, hz]; rfl

/-- Settles O4: the immediate forms write a general register alone. -/
theorem immediatesChangeNoFlag : Obligations.ImmediatesChangeNoFlag := by
  intro core c16 rd ra imm up s hs
  have hzero : BitVec.ofNat 32 imm.toNat = imm.setWidth 32 := BitVec.ofNat_toNat ..
  refine ⟨coreOp_setReg hs rfl, coreOp_setReg hs ?andi, coreOp_setReg hs ?ori, coreOp_setReg hs ?xori, coreOp_setReg hs ?slti,
    coreOp_setReg hs ?lui, coreOp_setReg hs ?auipc⟩
  case andi => rw [hzero]
  case ori => rw [hzero]
  case xori => rw [hzero]
  case slti => simp only [oneIf_slt, BitVec.toInt_signExtend_of_le (show 15 ≤ 32 by decide)]
  case lui => rw [setWidth_shiftLeft_eq_append]
  case auipc => rw [setWidth_shiftLeft_eq_append]

end Sys2Proof.Machine
end

section
/-! PROOF. The multiply and divide instructions of Quire (10_quire_instruction_set.md, R347, R348): their results are exact
numbers modulo 2^32, which division by zero and the signed overflow do not break. -/

namespace Sys2Proof.Machine

/-! ### Products -/

theorem highHalf_natCast (x y : Nat) : highHalf (x * y) = BitVec.ofNat 32 (x * y / 2 ^ 32) := by
  have hcast : (x * y / 2 ^ 32 : Int) = (x * y / 2 ^ 32 : Nat) := by rw [Int.natCast_ediv, Int.natCast_mul]; rfl
  rw [highHalf, wordI, hcast, BitVec.ofInt_natCast]

/-! ### Quotients and remainders -/

section
variable (a b : Word)

/-- R348: the one quotient that no word holds is 2^31, whose low bits are those of -2^31. -/
theorem quoS_eq :
    quoS a b =
      if b = 0 then 0xFFFFFFFF else if a = 0x80000000 ∧ b = 0xFFFFFFFF then 0x80000000
        else BitVec.ofInt 32 (a.toInt.tdiv b.toInt) := by
  rw [quoS]
  refine ite_congr rfl (fun _ => rfl) fun _ => ?_
  split
  case isTrue h =>
    obtain ⟨rfl, rfl⟩ := h
    decide
  case isFalse => rfl

theorem sub_mul_zero : a - b * 0 = a :=
  (congrArg (a - ·) BitVec.mul_zero).trans (BitVec.sub_zero a)

theorem sub_quoS_mul :
    a - quoS a b * b =
      if b = 0 then a else if a = 0x80000000 ∧ b = 0xFFFFFFFF then 0 else BitVec.ofInt 32 (a.toInt.tmod b.toInt) := by
  rw [quoS_eq]
  by_cases hzero : b = 0
  · rw [if_pos hzero, if_pos hzero, hzero]
    exact sub_mul_zero ..
  · rw [if_neg hzero, if_neg hzero]
    by_cases hover : a = 0x80000000 ∧ b = 0xFFFFFFFF
    · rw [if_pos hover, if_pos hover]
      obtain ⟨rfl, rfl⟩ := hover
      decide
    · have hsum := congrArg (BitVec.ofInt 32) (Int.tmod_add_tdiv_mul a.toInt b.toInt)
      rw [BitVec.ofInt_add, BitVec.ofInt_mul, BitVec.ofInt_toInt, BitVec.ofInt_toInt] at hsum
      rw [if_neg hover, if_neg hover, BitVec.sub_eq_iff_eq_add, hsum]

theorem sub_quoU_mul : a - quoU a b * b = if b = 0 then a else BitVec.ofNat 32 (a.toNat % b.toNat) := by
  rw [quoU]
  by_cases hzero : b = 0
  · rw [if_pos hzero, if_pos hzero, hzero]
    exact sub_mul_zero ..
  · have hsum := congrArg (BitVec.ofNat 32) (Nat.mod_add_div' a.toNat b.toNat)
    rw [BitVec.ofNat_add, BitVec.ofNat_mul, BitVec.ofNat_toNat, BitVec.ofNat_toNat, BitVec.setWidth_eq,
      BitVec.setWidth_eq] at hsum
    rw [if_neg hzero, if_neg hzero, word, BitVec.sub_eq_iff_eq_add, hsum]

end

/-- Settles O5: each instruction writes a general register alone, and the lemmas above give the numbers. -/
theorem multiplyDivideResults : Obligations.MultiplyDivideResults := by
  intro core rd ra rb s hs
  refine ⟨coreOp_setReg hs rfl, coreOp_setReg hs rfl, coreOp_setReg hs ?mulhu, coreOp_setReg hs rfl, coreOp_setReg hs ?div,
    coreOp_setReg hs rfl, coreOp_setReg hs ?rem, coreOp_setReg hs ?remu⟩
  case mulhu => rw [highHalf_natCast]
  case div => rw [quoS_eq]
  case rem => rw [sub_quoS_mul]
  case remu => rw [sub_quoU_mul]

end Sys2Proof.Machine
end

section
/-! PROOF. The saturating and the accumulator instructions of Quire (10_quire_instruction_set.md, R338, R339, R349, R350): the
clamps and the roundings, the lanes of a pair, and the parts of an accumulator. -/

namespace Sys2Proof.Machine

/-! ### Clamps (R338) -/

theorem clamp_eq {lo hi : Int} (x : Int) (h : lo ≤ hi) :
    (if x < lo then (lo, true) else if hi < x then (hi, true) else (x, false)) =
      let y := max lo (min hi x); (y, decide (y ≠ x)) := by
  dsimp only
  by_cases hlo : x < lo
  · have hy : max lo (min hi x) = lo := by omega
    rw [if_pos hlo, hy, decide_eq_true (Int.ne_of_gt hlo)]
  · rw [if_neg hlo]
    by_cases hhi : hi < x
    · have hy : max lo (min hi x) = hi := by omega
      rw [if_pos hhi, hy, decide_eq_true (Int.ne_of_lt hhi)]
    · have hy : max lo (min hi x) = x := by omega
      rw [if_neg hhi, hy, decide_eq_false (not_not_intro rfl)]

theorem satS_eq (n : Nat) (x : Int) :
    satS n x = let y := max (-(2 ^ (n - 1))) (min (2 ^ (n - 1) - 1) x); (y, decide (y ≠ x)) := by
  have hpos : (0 : Int) < 2 ^ (n - 1) := Int.pow_pos (by decide)
  exact clamp_eq x (by omega)

theorem satU_eq (n : Nat) (x : Int) : satU n x = let y := max 0 (min (2 ^ n - 1) x); (y, decide (y ≠ x)) := by
  have hpos : (0 : Int) < 2 ^ n := Int.pow_pos (by decide)
  exact clamp_eq x (by omega)

/-- R350: Q is set where the exact sum is not one of 72 signed bits. -/
theorem satS_72_snd (x : Int) : (satS 72 x).2 = decide (x < -(2 ^ 71) ∨ 2 ^ 71 ≤ x) := by
  rw [satS_eq, decide_eq_decide]
  omega

/-! ### Lanes (R349) -/

theorem lane_eq_toInt (w : Word) (i : Nat) : lane w i = (w.extractLsb' (16 * i) 16).toInt := by
  rw [lane, sgn_eq_toInt, ← Nat.shiftRight_eq_div_pow]
  rfl

theorem word_of_lanes (x y : Int) :
    word ((x % 65536).toNat + 65536 * (y % 65536).toNat) = BitVec.ofInt 16 y ++ BitVec.ofInt 16 x := by
  apply BitVec.eq_of_toNat_eq
  simp only [word, BitVec.toNat_ofNat, toNat_append_eq, BitVec.toNat_ofInt]
  omega

theorem high_half_mask : ∀ i < 32, (0xFFFF0000 : Word).getLsbD i = decide (16 ≤ i) := by decide

theorem pack_low_halves (a b : Word) : b <<< 16 ||| (a &&& 0xFFFF) = b.extractLsb' 0 16 ++ a.extractLsb' 0 16 := by
  apply BitVec.eq_of_getLsbD_eq
  intro i hi
  rw [and_low_half, BitVec.getLsbD_or, BitVec.getLsbD_shiftLeft, BitVec.getLsbD_setWidth, BitVec.getLsbD_append,
    BitVec.getLsbD_extractLsb', BitVec.getLsbD_extractLsb']
  by_cases h : i < 16
  · simp [hi, h]
  · simp [hi, h]
    omega

theorem pack_high_halves (a b : Word) :
    (b &&& (0xFFFF0000 : Word)) ||| a >>> 16 = b.extractLsb' 16 16 ++ a.extractLsb' 16 16 := by
  apply BitVec.eq_of_getLsbD_eq
  intro i hi
  rw [BitVec.getLsbD_or, BitVec.getLsbD_and, high_half_mask i hi, BitVec.getLsbD_ushiftRight, BitVec.getLsbD_append,
    BitVec.getLsbD_extractLsb', BitVec.getLsbD_extractLsb']
  by_cases h : i < 16
  · have hmask : ¬16 ≤ i := by omega
    simp [h, hmask]
  · have hmask : 16 ≤ i := by omega
    have hplace : 16 + (i - 16) = i := by omega
    have hlow : i - 16 < 16 := by omega
    simp [h, hmask, hplace, hlow, a.getLsbD_of_ge (16 + i) (by omega)]

/-! ### What such an instruction leaves -/

variable {core : BitVec 1} {s : State} {op : Core → Core}

/-- A clamped result. -/
theorem coreOp_clamped {r : Nat} {v : Word} {q : Bool} (hs : s.Executes core.toNat)
    (h : op (s.chip.core core.toNat) = ((s.chip.core core.toNat).setReg r v).stick q) :
    quire core (coreOp core.toNat false op) s =
      .next (s.afterOp core.toNat 4 fun k =>
        if q then { k.setReg r v with psw := (k.setReg r v).psw ||| 16 } else k.setReg r v) :=
  coreOp_answers hs h ((Core.sameDuties_setReg ..).trans (Core.sameDuties_stick ..))

theorem Core.clamped_satS_32 (k : Core) (rd : BitVec 5) (x : Int) :
    k.clamped rd (satS 32 x) =
      let y := max (-(2 ^ 31)) (min (2 ^ 31 - 1) x)
      (k.setReg rd.toNat (BitVec.ofInt 32 y)).stick (decide (y ≠ x)) := by
  rw [satS_eq]
  rfl

/-- Lanes combined one by one and clamped. -/
theorem Core.perLane_eq (k : Core) (rd ra rb : BitVec 5) (f : Int → Int → Int) :
    k.perLane rd ra rb f =
      let x := fun i => f ((k.src ra).extractLsb' (16 * i) 16).toInt ((k.src rb).extractLsb' (16 * i) 16).toInt
      let y := fun i => max (-32768) (min 32767 (x i))
      (k.setReg rd.toNat (BitVec.ofInt 16 (y 1) ++ BitVec.ofInt 16 (y 0))).stick (decide (y 0 ≠ x 0 ∨ y 1 ≠ x 1)) := by
  simp only [Core.perLane, Core.lanes, lane_eq_toInt, satS_eq, word_of_lanes, Bool.decide_or]
  rfl

/-- Settles O6: an instruction writes its clamped value and sets Q where the clamp changed it, by `satS_eq` and `satU_eq`; the
lanes do so one by one. -/
theorem saturatingResults : Obligations.SaturatingResults := by
  intro core rd ra rb s hs
  dsimp only
  refine ⟨coreOp_clamped hs (Core.clamped_satS_32 ..), coreOp_clamped hs (Core.clamped_satS_32 ..),
    coreOp_clamped hs (Core.clamped_satS_32 ..), coreOp_clamped hs (Core.clamped_satS_32 ..),
    coreOp_clamped hs (Core.clamped_satS_32 ..), coreOp_clamped hs ?sats, coreOp_clamped hs ?satu,
    coreOp_clamped hs (Core.perLane_eq ..), coreOp_clamped hs (Core.perLane_eq ..), coreOp_clamped hs (Core.perLane_eq ..),
    coreOp_setReg hs ?packll, coreOp_setReg hs ?packhh⟩
  case sats => rw [satS_eq]; rfl
  case satu => rw [satU_eq]; rfl
  case packll => exact congrArg _ (pack_low_halves ..)
  case packhh => exact congrArg _ (pack_high_halves ..)

/-! ### Accumulators (R350) -/

theorem laneDot_eq (x y : Word) :
    laneDot x y = (x.extractLsb' (16 * 0) 16).toInt * (y.extractLsb' (16 * 0) 16).toInt +
      (x.extractLsb' (16 * 1) 16).toInt * (y.extractLsb' (16 * 1) 16).toInt := by
  simp only [laneDot, lane_eq_toInt]

theorem Core.accumulate_eq (k : Core) (a : BitVec 1) (x : Int) :
    k.accumulate a x =
      let sum := (k.acc a.toNat).toInt + x
      (k.setAcc a.toNat (BitVec.ofInt 72 sum)).stick (decide (sum < -(2 ^ 71) ∨ 2 ^ 71 ≤ sum)) := by
  dsimp only
  rw [← satS_72_snd]
  rfl

/-- An accumulator that is written, with Q set where `q` holds. -/
theorem coreOp_setAcc_stick {c16 : Bool} {a : Nat} {v : Acc} {q : Bool} (hs : s.Executes core.toNat)
    (h : op (s.chip.core core.toNat) = ((s.chip.core core.toNat).setAcc a v).stick q) :
    quire core (coreOp core.toNat c16 op) s =
      .next (s.afterOp core.toNat (isz c16) fun k =>
        if q then { k.setAcc a v with psw := (k.setAcc a v).psw ||| 16 } else k.setAcc a v) :=
  coreOp_answers hs h ((Core.sameDuties_setAcc ..).trans (Core.sameDuties_stick ..))

theorem coreOp_setAcc {a : Nat} {v : Acc} (hs : s.Executes core.toNat)
    (h : op (s.chip.core core.toNat) = (s.chip.core core.toNat).setAcc a v) :
    quire core (coreOp core.toNat false op) s = .next (s.afterOp core.toNat 4 fun k => k.setAcc a v) :=
  coreOp_answers hs h (Core.sameDuties_setAcc ..)

/-! ### The parts of an accumulator -/

/-- R339: an amount of 0 rounds nothing. -/
theorem roundShift_eq (x : Int) (sh : BitVec 6) :
    roundShift x sh.toNat = if sh = 0 then x else (x + 2 ^ (sh.toNat - 1)) / 2 ^ sh.toNat := by
  have hzero : sh.toNat = 0 ↔ sh = 0 := BitVec.toNat_inj (y := 0)
  simp only [roundShift, hzero]

section
variable (acc : Acc) (x : Word)

theorem signExtend_guard : (acc.extractLsb' 64 8).signExtend 32 = BitVec.ofInt 32 (acc.toInt / 2 ^ 64) := by
  have hguard : (acc.extractLsb' 64 8).toNat = acc.toNat / 2 ^ 64 % 2 ^ 8 := by
    rw [BitVec.extractLsb'_toNat, Nat.shiftRight_eq_div_pow]
  have hlt := acc.isLt
  refine congrArg (BitVec.ofInt 32) ?_
  rw [BitVec.toInt_eq_toNat_cond, BitVec.toInt_eq_toNat_cond, hguard]
  omega

theorem replace_low : (acc.extractLsb' 32 40 ++ x : Acc) = acc - BitVec.ofNat 72 (acc.toNat % 2 ^ 32) + x.setWidth 72 := by
  have hlt := acc.isLt
  have hx := x.isLt
  apply BitVec.eq_of_toNat_eq
  rw [toNat_append_eq, BitVec.extractLsb'_toNat, Nat.shiftRight_eq_div_pow, BitVec.toNat_add, BitVec.toNat_sub,
    BitVec.toNat_ofNat, BitVec.toNat_setWidth]
  omega

theorem replace_middle :
    (acc.extractLsb' 64 8 ++ x ++ acc.extractLsb' 0 32 : Acc) =
      BitVec.ofNat 72 (acc.toNat / 2 ^ 64 * 2 ^ 64 + x.toNat * 2 ^ 32 + acc.toNat % 2 ^ 32) := by
  have hlt := acc.isLt
  have hx := x.isLt
  apply BitVec.eq_of_toNat_eq
  rw [toNat_append_eq, toNat_append_eq, BitVec.extractLsb'_toNat, BitVec.extractLsb'_toNat, Nat.shiftRight_eq_div_pow,
    Nat.shiftRight_zero, BitVec.toNat_ofNat]
  omega

theorem replace_guard :
    (x.extractLsb' 0 8 ++ acc.extractLsb' 0 64 : Acc) = BitVec.ofNat 72 (x.toNat % 256 * 2 ^ 64 + acc.toNat % 2 ^ 64) := by
  apply BitVec.eq_of_toNat_eq
  rw [toNat_append_eq, BitVec.extractLsb'_toNat, BitVec.extractLsb'_toNat, Nat.shiftRight_zero, Nat.shiftRight_zero,
    BitVec.toNat_ofNat]
  omega

end

/-- Settles O7: a product form accumulates its exact number; the other forms write one register or one accumulator, whose
number the lemmas above give. -/
theorem accumulatorResults : Obligations.AccumulatorResults := by
  refine ⟨?products, ?parts⟩
  case products =>
    intro core a c16 ra rb sh s hs
    dsimp only
    refine ⟨coreOp_setAcc_stick hs (Core.accumulate_eq ..), coreOp_setAcc_stick hs (Core.accumulate_eq ..),
      coreOp_setAcc_stick hs ?macu, coreOp_setAcc_stick hs (Core.accumulate_eq ..), coreOp_setAcc_stick hs ?mac16,
      coreOp_setAcc_stick hs ?macq16, coreOp_setAcc_stick hs rfl, coreOp_setAcc_stick hs ?ashr, coreOp_setAcc_stick hs rfl⟩
    case macu => rw [Int.natCast_mul, Core.accumulate_eq]
    case mac16 => rw [Core.accumulate_eq, laneDot_eq]
    case macq16 => rw [Core.accumulate_eq, laneDot_eq]
    case ashr => rw [sshiftRight_eq_ofInt]; rfl
  case parts =>
    intro core a rd ra sh s hs
    dsimp only
    refine ⟨coreOp_setReg hs rfl, coreOp_setReg hs ?accrh, coreOp_setReg hs ?accrg, ?accr, coreOp_setAcc hs ?accwl,
      coreOp_setAcc hs ?accwh, coreOp_setAcc hs ?accwg⟩
    case accrh => rw [← Nat.shiftRight_eq_div_pow]; rfl
    case accrg => rw [signExtend_guard]
    case accr =>
      rw [← roundShift_eq]
      exact (coreOp_clamped hs (Core.clamped_satS_32 ..)).trans (by simp only [decide_eq_true_eq])
    case accwl => rw [replace_low]
    case accwh => rw [replace_middle]
    case accwg => rw [replace_guard]

end Sys2Proof.Machine
end

section
/-! PROOF. The bit-field instructions of Quire (10_quire_instruction_set.md, R351), bit by bit. -/

namespace Sys2Proof.Machine

/-! ### Fields of a word -/

theorem getLsbD_word (x : Nat) {i : Nat} (hi : i < 32) : (word x).getLsbD i = x.testBit i := by
  rw [word, BitVec.getLsbD_ofNat, decide_eq_true hi, Bool.true_and]

/-- The number of which `n` bits from bit `lo` up are those of `v` and the others those of `x`. -/
theorem testBit_replaceField (x v lo n i : Nat) :
    (x - ((x >>> lo) % 2 ^ n) <<< lo + (v % 2 ^ n) <<< lo).testBit i =
      if lo ≤ i ∧ i < lo + n then v.testBit (i - lo) else x.testBit i := by
  have hsplit (y : Nat) : y = 2 ^ lo * (2 ^ n * (y >>> lo / 2 ^ n) + y >>> lo % 2 ^ n) + y % 2 ^ lo := by
    rw [Nat.div_add_mod, Nat.shiftRight_eq_div_pow, Nat.div_add_mod]
  have hnew : x - ((x >>> lo) % 2 ^ n) <<< lo + (v % 2 ^ n) <<< lo =
      2 ^ lo * (2 ^ n * (x >>> lo / 2 ^ n) + v % 2 ^ n) + x % 2 ^ lo := by
    have hx := hsplit x
    rw [Nat.mul_add] at hx ⊢
    rw [Nat.shiftLeft_eq, Nat.shiftLeft_eq, Nat.mul_comm _ (2 ^ lo), Nat.mul_comm _ (2 ^ lo)]
    omega
  have hlow : x % 2 ^ lo < 2 ^ lo := Nat.mod_lt _ (Nat.two_pow_pos _)
  have hfield : v % 2 ^ n < 2 ^ n := Nat.mod_lt _ (Nat.two_pow_pos _)
  rw [hnew, Nat.testBit_two_pow_mul_add _ hlow, Nat.testBit_two_pow_mul_add _ hfield]
  rcases Nat.lt_or_ge i lo with hbelow | hlo
  · have hout : ¬(lo ≤ i ∧ i < lo + n) := by omega
    rw [if_pos hbelow, if_neg hout, Nat.testBit_mod_two_pow, decide_eq_true hbelow, Bool.true_and]
  · rw [if_neg (by omega)]
    rcases Nat.lt_or_ge (i - lo) n with hin | habove
    · rw [if_pos hin, if_pos (by omega), Nat.testBit_mod_two_pow, decide_eq_true hin, Bool.true_and]
    · have hplace : lo + (i - lo - n + n) = i := by omega
      rw [if_neg (by omega), if_neg (by omega), Nat.testBit_div_two_pow, Nat.testBit_shiftRight, hplace]

/-- What `putFld` leaves, bit by bit. -/
theorem getLsbD_putFld (w : Word) {hi lo i : Nat} (v : Nat) (h : lo ≤ hi) (hi' : i < 32) :
    (putFld w hi lo v).getLsbD i = if lo ≤ i ∧ i ≤ hi then v.testBit (i - lo) else w.getLsbD i := by
  have hwidth : i < lo + (hi + 1 - lo) ↔ i ≤ hi := by omega
  rw [putFld, BitVec.getLsbD_ofNat, decide_eq_true hi', Bool.true_and, testBit_replaceField]
  exact ite_congr (propext (and_congr_right fun _ => hwidth)) (fun _ => rfl) fun _ => rfl

variable {a : Word} {p n i : Nat}

theorem getLsbD_unsignedField (hi : i < 32) :
    (word (a.toNat / 2 ^ p % 2 ^ n)).getLsbD i = (decide (i < n) && a.getLsbD (p + i)) := by
  rw [getLsbD_word _ hi, Nat.testBit_mod_two_pow, Nat.testBit_div_two_pow, Nat.add_comm]
  rfl

/-- Above a signed field its last bit is repeated. -/
theorem getLsbD_signedField (hn : 0 < n) (hi : i < 32) :
    (wordI (sgn n (a.toNat / 2 ^ p))).getLsbD i = a.getLsbD (p + min i (n - 1)) := by
  have hbit (j : Nat) (hj : j < n) : (BitVec.ofNat n (a.toNat / 2 ^ p)).getLsbD j = a.getLsbD (p + j) := by
    rw [BitVec.getLsbD_ofNat, decide_eq_true hj, Bool.true_and, Nat.testBit_div_two_pow, Nat.add_comm]
    rfl
  rw [wordI_sgn, BitVec.getLsbD_signExtend, decide_eq_true hi, Bool.true_and, BitVec.msb_eq_getLsbD_last]
  split
  case isTrue h => rw [hbit i h, Nat.min_eq_left (by omega)]
  case isFalse h => rw [hbit (n - 1) (by omega), Nat.min_eq_right (by omega)]

theorem getLsbD_placedField (hi : i < 32) :
    (word (a.toNat % 2 ^ n * 2 ^ p)).getLsbD i = (decide (p ≤ i ∧ i < p + n) && a.getLsbD (i - p)) := by
  have hplace : (p ≤ i ∧ i < p + n) ↔ (i ≥ p ∧ i - p < n) := by omega
  rw [getLsbD_word _ hi, ← Nat.shiftLeft_eq, Nat.testBit_shiftLeft, Nat.testBit_mod_two_pow, decide_eq_decide.mpr hplace,
    Bool.decide_and, Bool.and_assoc]
  rfl

/-- Settles O8: each instruction writes a general register alone, and the lemmas above give its bits. -/
theorem bitFieldResults : Obligations.BitFieldResults := by
  intro core rd ra pos wm1 s hs
  have hp := pos.isLt
  have hw : 0 < fieldWidth pos.toNat wm1.toNat := by rw [fieldWidth]; omega
  refine ⟨⟨_, fun i hi => ?extu, coreOp_setReg hs rfl⟩, ⟨_, fun i hi => ?exts, coreOp_setReg hs rfl⟩,
    ⟨_, fun i hi => ?ins, coreOp_setReg hs rfl⟩, ⟨_, fun i hi => ?insz, coreOp_setReg hs rfl⟩⟩
  case extu => exact getLsbD_unsignedField hi
  case exts => exact getLsbD_signedField hw hi
  case ins =>
    have hlast : i ≤ pos.toNat + fieldWidth pos.toNat wm1.toNat - 1 ↔ i < pos.toNat + fieldWidth pos.toNat wm1.toNat := by
      omega
    exact (getLsbD_putFld _ _ (by omega) hi).trans
      (ite_congr (propext (and_congr_right fun _ => hlast)) (fun _ => rfl) fun _ => rfl)
  case insz => exact getLsbD_placedField hi

end Sys2Proof.Machine
end

section
/-! PROOF. The branches, jumps and hardware loops of Quire (10_quire_instruction_set.md, R356 to R362). -/

namespace Sys2Proof.Machine

variable {core : BitVec 1} {s : State} {c : Chip} {e : Env} {n : Nat}

/-! ### Branches and jumps (R356, R357) -/

/-- The conditions of R357 in the order of their codes; code 15 names none. -/
theorem condHolds_eq (psw : Word) (cond : Nat) :
    condHolds psw cond =
      let v := psw.getLsbD 0
      let c := psw.getLsbD 1
      let z := psw.getLsbD 2
      let n := psw.getLsbD 3
      [true, z, !z, n != v, n == v, z || n != v, !z && n == v, !c, c, !c || z, c && !z, n, !n, v, !v].getD cond false := by
  match cond with
  | 0 | 1 | 2 | 3 | 4 | 5 | 6 | 7 | 8 | 9 | 10 | 11 | 12 | 13 | 14 => rfl
  | _ + 15 => rfl

/-- An offset in halfwords. -/
theorem two_mul_signExtend (off : BitVec 20) : 2 * off.signExtend 32 = BitVec.ofInt 32 (2 * off.toInt) :=
  (BitVec.ofInt_mul 2 off.toInt).symm

theorem Core.sameDuties_jump (k : Core) (size : Nat) (link : BitVec 5) (target : Word) : k.SameDuties (k.jump size link target) :=
  (Core.sameDuties_setReg ..).trans (Core.sameDuties_pc ..)

section
variable {c16 : Bool} {cond : BitVec 4} {off : BitVec 20} (hcond : cond ≠ 15)
include hcond

theorem exec_bcc_of_holds (h : condHolds (s.chip.core core.toNat).psw cond.toNat = true) :
    exec (.bcc core c16 cond off) s = quire core (jumpOp core.toNat fun k => { k with pc := k.pc + 2 * off.signExtend 32 }) s :=
  quire_congr (by simp only [if_neg hcond, if_pos h])

theorem exec_bcc_of_not_holds (h : ¬condHolds (s.chip.core core.toNat).psw cond.toNat = true) :
    exec (.bcc core c16 cond off) s = quire core (coreOp core.toNat c16 id) s :=
  quire_congr (by simp only [if_neg hcond, if_neg h])

end

/-- Settles O15: a condition's place in the list of R357 is its code, and the transfers change their core alone. -/
theorem branchesAndJumps : Obligations.BranchesAndJumps := by
  intro core c16 cond off rd ra imm s hs
  dsimp only
  rw [← two_mul_signExtend]
  refine ⟨?bcc, jumpOp_answers hs (Core.sameDuties_jump ..), jumpOp_answers hs (Core.sameDuties_jump ..)⟩
  case bcc =>
    intro hle
    have hcond : cond ≠ 15 := fun h => absurd (h ▸ hle) (by decide)
    rw [← condHolds_eq]
    split
    case isTrue h => exact (exec_bcc_of_holds hcond h).trans (jumpOp_answers hs (Core.sameDuties_pc ..))
    case isFalse h => exact (exec_bcc_of_not_holds hcond h).trans (coreOp_answers hs rfl ⟨rfl, rfl⟩)

/-! ### Hardware loops (R358 to R362) -/

section
variable {count : Word} {endoff : BitVec 10} (hoff : endoff ≠ 0)

theorem loopOp_of_endoff_zero : loopOp n count 0 e c = .raise excIllegal c := rfl

include hoff

theorem loopOp_of_count_zero (hcount : count = 0) :
    loopOp n count endoff e c = .done (c.modCore n fun k => { k with pc := k.pc + 4 + word (2 * endoff.toNat) }) := by
  have hle : 2 * word endoff.toNat = word (2 * endoff.toNat) := (BitVec.ofNat_mul 2 endoff.toNat).symm
  rw [← hle, loopOp, if_neg hoff, if_pos hcount]
  rfl

theorem loopOp_of_depth_lt (hcount : count ≠ 0) (hdepth : (c.core n).depth < 4) :
    loopOp n count endoff e c = .done (c.modCore n fun k =>
      { k with ls := putS 0 k.ls k.depth (k.pc + 4), le := putS 0 k.le k.depth (k.pc + 4 + word (2 * endoff.toNat)),
               lc := putS 0 k.lc k.depth count, depth := k.depth + 1, pc := k.pc + 4 }) := by
  have hle : 2 * word endoff.toNat = word (2 * endoff.toNat) := (BitVec.ofNat_mul 2 endoff.toNat).symm
  rw [← hle, loopOp, if_neg hoff, if_neg hcount, if_neg (Nat.not_le.mpr hdepth)]
  rfl

theorem loopOp_of_depth_full (hcount : count ≠ 0) (hdepth : 4 ≤ (c.core n).depth) :
    loopOp n count endoff e c = .raise excLoopDepth c := by
  rw [loopOp, if_neg hoff, if_neg hcount, if_pos hdepth]

end

/-- The count of LOOPI (R358). -/
theorem setWidth_eq_zero_iff (count : BitVec 15) : count.setWidth 32 = 0 ↔ count = 0 := by
  rw [← BitVec.toNat_inj, ← BitVec.toNat_inj, BitVec.toNat_setWidth_of_le (by decide)]
  rfl

section
variable {k : Core} {size d : Nat} (hdepth : k.depth = d + 1)
include hdepth

/-- R359: inside a loop an instruction that is not the last of the body goes on. -/
theorem Core.sequential_of_ne (hne : k.pc + word size ≠ getS 0 k.le d) :
    k.sequential size = { k with pc := k.pc + word size } := by
  simp only [Core.sequential, hdepth, loopEnd, if_neg hne]

/-- The body is repeated. -/
theorem Core.sequential_of_repeat (heq : k.pc + word size = getS 0 k.le d) (hlc : 1 < (getS 0 k.lc d).toNat) :
    k.sequential size = { k with pc := getS 0 k.ls d, lc := putS 0 k.lc d (getS 0 k.lc d - 1) } := by
  simp only [Core.sequential, hdepth, loopEnd, if_pos heq, if_pos hlc]

/-- The level closes, and the step goes on at the next level out. -/
theorem Core.sequential_of_close (heq : k.pc + word size = getS 0 k.le d) (hlc : (getS 0 k.lc d).toNat ≤ 1) :
    k.sequential size = ({ k with lc := putS 0 k.lc d 0, depth := d } : Core).sequential size := by
  simp only [Core.sequential, hdepth, loopEnd, if_pos heq, if_neg (Nat.not_lt.mpr hlc)]

end

/-- Settles O16: the loop instructions change their core as the lemmas above say, and the loop-end step is that of the innermost
level. -/
theorem loopsBeginEndAndPop : Obligations.LoopsBeginEndAndPop := by
  refine ⟨?instructions, ?loopEnd⟩
  case instructions =>
    intro core c16 ra count endoff s hs hoff
    have hcnt : word count.toNat = count.setWidth 32 := BitVec.ofNat_toNat ..
    have hcnt0 : count.setWidth 32 = 0 ↔ count = 0 := setWidth_eq_zero_iff count
    dsimp only
    rw [hcnt]
    exact ⟨fun hzero => quire_of_done_modCore hs (loopOp_of_count_zero hoff hzero) rfl rfl ⟨rfl, rfl⟩,
      fun hzero => quire_of_done_modCore hs (loopOp_of_count_zero hoff (hcnt0.mpr hzero)) rfl rfl ⟨rfl, rfl⟩,
      fun hcount hdepth => quire_of_done_modCore hs (loopOp_of_depth_lt hoff hcount hdepth) rfl rfl ⟨rfl, rfl⟩,
      fun hcount hdepth => quire_of_done_modCore hs (loopOp_of_depth_lt hoff (mt hcnt0.mp hcount) hdepth) rfl rfl ⟨rfl, rfl⟩,
      jumpOp_answers hs ⟨rfl, rfl⟩⟩
  case loopEnd =>
    intro k size d
    exact ⟨Core.sequential_of_depth_zero size, Core.sequential_of_ne, Core.sequential_of_repeat, Core.sequential_of_close⟩

end Sys2Proof.Machine
end

section
/-! PROOF. The forms of Quire's instructions that raise an exception (10_quire_instruction_set.md, R341, R352 to R373): each is
the taking of that exception and nothing else. -/

namespace Sys2Proof.Machine

variable {n sz : Nat} {c16 : Bool} {a : Word} {base : Option (Nat × Word)} {e : Env} {c : Chip}

/-! ### Access sizes (R352) -/

theorem loadSz_iff : loadSz sz = true ↔ sz ∈ [0, 1, 2, 4, 5] := List.contains_iff_mem

theorem szBytes_of_load :
    ∀ sz ∈ [0, 1, 2, 4, 5], szBytes sz = if sz = 0 ∨ sz = 4 then 1 else if sz = 1 ∨ sz = 5 then 2 else 4 := by decide

/-- The sizes of stores are sizes of loads. -/
theorem mem_loadSz_of_store (h : sz ≤ 2) : sz ∈ [0, 1, 2, 4, 5] := by
  have hsz : sz = 0 ∨ sz = 1 ∨ sz = 2 := by omega
  rcases hsz with rfl | rfl | rfl <;> decide

/-! ### Loads, stores and atomics that raise (R352 to R354, R365, R367) -/

section
variable {rd : BitVec 5}

theorem loadAt_of_unassigned (h : sz ∉ [0, 1, 2, 4, 5]) : loadAt n c16 sz rd a base e c = .raise excIllegal c := by
  have hsz : loadSz sz = false := Bool.eq_false_iff.mpr (mt loadSz_iff.mp h)
  rw [loadAt, hsz]
  rfl

theorem loadAt_of_misaligned (h : sz ∈ [0, 1, 2, 4, 5]) (ha : a.toNat % szBytes sz ≠ 0) :
    loadAt n c16 sz rd a base e c = .raise (excAlign a) c := by
  rw [loadAt, loadSz_iff.mpr h, if_neg (by decide), if_pos ha]

theorem storeAt_of_unassigned (h : 2 < sz) : storeAt n c16 sz rd a base e c = .raise excIllegal c := by
  rw [storeAt, if_pos h]

theorem storeAt_of_misaligned (h : sz ≤ 2) (ha : a.toNat % szBytes sz ≠ 0) :
    storeAt n c16 sz rd a base e c = .raise (excAlign a) c := by
  rw [storeAt, if_neg (Nat.not_lt.mpr h), if_pos ha]

end

theorem indexedAt_of_unassigned {mode sz : BitVec 3} {sc : BitVec 2} {ra rb : BitVec 5}
    {acc : Word → Option (Nat × Word) → Env → Chip → Res} (h : 4 < mode.toNat) :
    indexedAt n mode sc sz ra rb acc e c = .raise excIllegal c := by
  rw [indexedAt, if_pos h]

section
variable {f : Word → Option Word × (Core → Core)}

theorem atomicAt_of_misaligned (ha : a.toNat % 4 ≠ 0) : atomicAt n a f e c = .raise (excAlign a) c := by
  rw [atomicAt, if_pos ha]

theorem atomicAt_of_elsewhere (ha : a.toNat % 4 = 0) (hlocal : regionOf a.toNat ≠ .local)
    (hsram : ∀ t, regionOf a.toNat ≠ .sram t) : atomicAt n a f e c = .raise (excAtomic a) c := by
  rw [atomicAt, if_neg (not_not_intro ha)]
  split
  case h_1 h => exact absurd h hlocal
  case h_2 t h => exact absurd h (hsram t)
  case h_3 => rfl

end

/-! ### Returns and breakpoints that raise (R368) -/

theorem retiOp_of_no_handler (h : (c.core n).psw.getLsbD 11 = false) : retiOp n e c = .raise excIllegal c := by
  have hhnd : (c.core n).psw.getLsbD pswHND = false := h
  rw [retiOp]
  simp only [hhnd, Bool.not_false, if_true]

theorem bkptOp_of_no_debugger {code : BitVec 9} (h : ((c.core n).crw 0x60).getLsbD 0 = false) :
    bkptOp n c16 code e c = .raise { cause := 8, code := code.toNat } c := by
  rw [bkptOp, h, if_neg Bool.false_ne_true]

/-- Settles O11: each form raises its exception by the lemmas above, and `quire_of_raise` says that nothing else happens. -/
theorem raisingFormsHaveNoOtherEffect : Obligations.RaisingFormsHaveNoOtherEffect := by
  intro core c16 rd ra rb mode sz sc imm off code endoff count s hs
  dsimp only
  refine ⟨fun hsz => quire_of_raise hs (loadAt_of_unassigned hsz), fun hsz => quire_of_raise hs (storeAt_of_unassigned hsz),
    fun hsz ha => quire_of_raise hs (loadAt_of_misaligned hsz (szBytes_of_load _ hsz ▸ ha)),
    fun hsz ha => quire_of_raise hs (storeAt_of_misaligned hsz (szBytes_of_load _ (mem_loadSz_of_store hsz) ▸ ha)),
    fun hmode => quire_of_raise hs (indexedAt_of_unassigned hmode),
    fun hmode => quire_of_raise hs (indexedAt_of_unassigned hmode),
    quire_of_raise hs rfl, quire_of_raise hs loopOp_of_endoff_zero, quire_of_raise hs loopOp_of_endoff_zero,
    fun hdepth hoff hcount => quire_of_raise hs (loopOp_of_depth_full hoff hcount hdepth),
    fun hdepth hoff hcount => quire_of_raise hs (loopOp_of_depth_full hoff (mt (setWidth_eq_zero_iff count).mp hcount) hdepth),
    fun ha => ⟨quire_of_raise hs (atomicAt_of_misaligned ha), quire_of_raise hs (atomicAt_of_misaligned ha)⟩,
    fun ha hlocal hsram => ⟨quire_of_raise hs (atomicAt_of_elsewhere ha hlocal hsram),
      quire_of_raise hs (atomicAt_of_elsewhere ha hlocal hsram)⟩,
    fun hhnd => quire_of_raise hs (retiOp_of_no_handler hhnd), quire_of_raise hs rfl, quire_of_raise hs rfl,
    fun hdebug => quire_of_raise hs (bkptOp_of_no_debugger hdebug)⟩

end Sys2Proof.Machine
end

section
/-! PROOF. The local addresses of a core (10_quire_instruction_set.md, R352 to R355, R365, R367; R379, R422, R424): the bytes that a
load from it returns, what a store to it leaves in memory, and a store elsewhere, which enters the write buffer. -/

namespace Sys2Proof.Machine

variable {n a size : Nat} {e : Env} {c : Chip}

/-! ### The place of a local address (R379) -/

/-- An access whose bytes are all at local addresses. -/
structure InLocal (a size : Nat) : Prop where
  low : 0x08000000 ≤ a
  high : a + size ≤ 0x08010000
  pos : 0 < size

/-- Where core `n`'s Carrel RAM holds the byte of a local address. -/
def carrelAt (n a : Nat) : Nat := carrelBase n + (a - 0x08000000)

theorem regionOf_eq_local (hlo : 0x08000000 ≤ a) (hhi : a < 0x08010000) : regionOf a = .local := by
  have hrom : ¬a < 0x10000 := by omega
  simp [regionOf, hrom, hlo, hhi]

theorem InLocal.region (h : InLocal a size) : regionOf a = .local := by
  obtain ⟨hlo, hhi, hpos⟩ := h
  exact regionOf_eq_local hlo (by omega)

/-- The place where a Carrel RAM is held is one that every master reaches. -/
theorem regionOf_carrelBase_add (n : Nat) {i : Nat} (hi : i < 0x10000) :
    regionOf (carrelBase n + i) = .carrel (if n = 0 then 0 else 1) := by
  unfold carrelBase
  split
  · have hrom : ¬0x08100000 + i < 0x10000 := by omega
    have hlocal : ¬0x08100000 + i < 0x08010000 := by omega
    simp [regionOf, hrom, hlocal]
    omega
  · have hrom : ¬0x08200000 + i < 0x10000 := by omega
    have hlocal : ¬0x08200000 + i < 0x08010000 := by omega
    have hzero : ¬0x08200000 + i < 0x08110000 := by omega
    simp [regionOf, hrom, hlocal, hzero]
    omega

theorem heldBy_of_local (hn : n < 2) (h : regionOf a = .local) : heldBy (.core n) a = carrelAt n a := by
  have hheld : heldBy (.core n) a = if regionOf a = .local then carrelAt (n % 2) a else a := rfl
  rw [hheld, if_pos h, Nat.mod_eq_of_lt hn]

theorem InLocal.region_carrelAt (h : InLocal a size) (n : Nat) :
    regionOf (carrelAt n a) = .carrel (if n = 0 then 0 else 1) := by
  obtain ⟨hlo, hhi, hpos⟩ := h
  exact regionOf_carrelBase_add n (by omega)

/-! ### Reading it (R379, R424) -/

theorem Chip.fetchByte_of_carrel (n : Nat) {i : Nat} (hi : i < 0x10000) :
    c.fetchByte e (carrelBase n + i) = getB c.mem (carrelBase n + i) := by
  have hbase : carrelBase n ≤ 0x08200000 := by unfold carrelBase; split <;> decide
  have hotp : ¬0x220DF000 ≤ carrelBase n + i := by omega
  simp only [Chip.fetchByte, hotp, decide_false, Bool.false_and, Bool.false_eq_true, if_false, Chip.memByte,
    regionOf_carrelBase_add n hi]

theorem Chip.fetchBytes_of_carrel (n : Nat) {i : Nat} (hi : i + size ≤ 0x10000) :
    c.fetchBytes e (carrelBase n + i) size = getBytes c.mem (carrelBase n + i) size := by
  induction size generalizing i with
  | zero => rfl
  | succ size ih =>
    rw [Chip.fetchBytes, getBytes, Chip.fetchByte_of_carrel n (by omega), Nat.add_assoc, ih (by omega)]

theorem InLocal.fetchBytes (h : InLocal a size) (n : Nat) :
    c.fetchBytes e (carrelAt n a) size = getBytes c.mem (carrelAt n a) size := by
  obtain ⟨hlo, hhi, -⟩ := h
  exact Chip.fetchBytes_of_carrel n (by omega)

theorem Chip.busCause_of_local (h : regionOf a = .local) (c : Chip) (n : Nat) (write locked : Bool) (size : Nat) :
    c.busCause (.core n) write locked a size = none := by
  simp [Chip.busCause, h, Region.target, isCoreMaster]

theorem busRead_of_local (hn : n < 2) (h : InLocal a size) (e : Env) (c : Chip) :
    busRead (.core n) a size e c = (.ok (getBytes c.mem (carrelAt n a) size), c) := by
  rw [← h.fetchBytes n (e := e)]
  simp [busRead, access, Chip.busCause_of_local h.region, lockBeat, eccCheck, perform, heldBy_of_local hn h.region,
    h.region_carrelAt, Region.cacheable]

/-- The bytes of a load: those of the core's own write buffer over memory's. -/
theorem overlay_getBytes (wb : List WbEntry) (m : Mem) (a x size : Nat) :
    overlay wb a (getBytes m x size) = (List.range size).map fun i => (wbByte wb (a + i)).getD (getB m (x + i)) := by
  induction size generalizing a x with
  | zero => rfl
  | succ size ih =>
    rw [getBytes, overlay, ih, List.range_succ_eq_map, List.map_cons, List.map_map]
    refine congrArg _ (List.map_congr_left fun i _ => ?_)
    simp only [Function.comp_apply, Nat.succ_eq_add_one, Nat.add_assoc, Nat.add_comm 1]

theorem coreLoad_of_local (hn : n < 2) (h : InLocal a size) (e : Env) (c : Chip) :
    coreLoad n a size e c =
      (.ok ((List.range size).map fun i => (wbByte (c.core n).wb (a + i)).getD (getB c.mem (carrelAt n a + i))), c) := by
  have hbridge : ¬(regionOf a).target = some 8 := by rw [h.region]; decide
  have hcached : ((regionOf a).cacheable && c.dcOn n) = false := by rw [h.region]; rfl
  simp only [coreLoad, if_neg hbridge, Chip.busCause_of_local h.region, hcached, Bool.false_eq_true, if_false,
    busRead_of_local hn h, overlay_getBytes]

/-! ### Writing it -/

theorem InLocal.setMemBytes (h : InLocal a size) (n : Nat) (bs : List Byte) (c : Chip) :
    c.setMemBytes (carrelAt n a) bs = c.setMem (carrelAt n a) bs := by
  have hregion : regionOf (carrelAt n a) ≠ .queueRam := by simp [h.region_carrelAt]
  rw [Chip.setMemBytes, if_neg hregion]

theorem coreStore_of_local (hn : n < 2) (h : InLocal a size) (bs : List Byte) (e : Env) (c : Chip) :
    coreStore n a bs e c = c.setMem (carrelAt n a) bs := by
  rw [coreStore, if_pos h.region, heldBy_of_local hn h.region, h.setMemBytes]

end Sys2Proof.Machine
end

section
/-! PROOF. Loads, stores and atomics at a core's own Carrel RAM, and a store that enters the write buffer
(10_quire_instruction_set.md, R352 to R355, R365, R367; R422). -/

namespace Sys2Proof.Machine

variable {n sz : Nat} {c16 : Bool} {rd : BitVec 5} {a : Word} {base : Option (Nat × Word)} {e : Env} {c : Chip}

/-! ### The base update (R353) -/

/-- The base register takes the address that the MODE gives it, where it gives one. -/
def Core.rebase (k : Core) : Option (Nat × Word) → Core
  | some (r, v) => k.setReg r v
  | none => k

theorem Core.sameDuties_rebase (k : Core) (base : Option (Nat × Word)) : k.SameDuties (k.rebase base) := by
  cases base with
  | none => exact ⟨rfl, rfl⟩
  | some b => exact k.sameDuties_setReg b.1 b.2

theorem indexedAt_of_assigned {mode sz : BitVec 3} {sc : BitVec 2} {ra rb : BitVec 5}
    {acc : Word → Option (Nat × Word) → Env → Chip → Res} (h : mode.toNat ≤ 4) :
    indexedAt n mode sc sz ra rb acc e c =
      let p := indexed mode.toNat (szBytes sz.toNat) ((c.core n).src ra) ((c.core n).src rb <<< sc.toNat)
      acc p.1 (p.2.map (ra.toNat, ·)) e c := by
  rw [indexedAt, if_neg (Nat.not_lt.mpr h)]

/-- MODE 1 to 4: the address, and the base that follows the access or gives the address. -/
theorem indexed_of_ne_zero {mode : BitVec 3} (h0 : mode ≠ 0) (h4 : mode.toNat ≤ 4) (size : Nat) (b x : Word) :
    indexed mode.toNat size b x =
      let step := if mode = 1 ∨ mode = 2 then word size else x
      let low := if mode = 2 ∨ mode = 4 then b - step else b
      (low, some (if mode = 1 ∨ mode = 3 then b + step else low)) := by
  have hmode : ∀ m : BitVec 3, m ≠ 0 → m.toNat ≤ 4 → m = 1 ∨ m = 2 ∨ m = 3 ∨ m = 4 := by decide
  rcases hmode mode h0 h4 with rfl | rfl | rfl | rfl <;> rfl

/-! ### The size of an access (R352) -/

theorem szBytes_cases (sz : Nat) : szBytes sz = 1 ∨ szBytes sz = 2 ∨ szBytes sz = 4 := by
  unfold szBytes
  split
  · exact .inl rfl
  · split
    · exact .inr (.inl rfl)
    · exact .inr (.inr rfl)

theorem getD_sizes : ∀ sz ∈ [0, 1, 2, 4, 5], [1, 2, 4, 0, 1, 2].getD sz 0 = szBytes sz := by decide

theorem two_pow_eq_szBytes : ∀ sz ≤ 2, 2 ^ sz = szBytes sz := by decide

/-- An aligned access that begins at a local address does not leave them. -/
theorem inLocal_of_aligned {x : Nat} (ha : x % szBytes sz = 0) (hlo : 0x08000000 ≤ x) (hhi : x < 0x08010000) :
    InLocal x (szBytes sz) := by
  rcases szBytes_cases sz with h | h | h <;> rw [h] at ha ⊢ <;> exact ⟨hlo, by omega, by decide⟩

/-! ### Loads (R352, R355) -/

theorem word_append_byte (b0 b1 : Byte) : BitVec.ofNat 16 (leNat [b0, b1]) = b1 ++ b0 := by
  apply BitVec.eq_of_toNat_eq
  simp only [leNat, BitVec.toNat_ofNat, toNat_append_eq]
  omega

theorem loadExt_byte (b0 : Byte) : loadExt 0 (leNat [b0]) = b0.signExtend 32 := by
  have hbyte : BitVec.ofNat 8 (leNat [b0]) = b0 := BitVec.ofNat_toNat 8 b0
  rw [loadExt, wordI_sgn, hbyte]

theorem loadExt_halfword (b0 b1 : Byte) : loadExt 1 (leNat [b0, b1]) = (b1 ++ b0).signExtend 32 := by
  rw [loadExt, wordI_sgn, word_append_byte]

theorem loadExt_word (b0 b1 b2 b3 : Byte) : loadExt 2 (leNat [b0, b1, b2, b3]) = b3 ++ b2 ++ b1 ++ b0 :=
  word_leNat_four b0 b1 b2 b3

theorem loadExt_unsigned_byte (b0 : Byte) : loadExt 4 (leNat [b0]) = b0.setWidth 32 := BitVec.ofNat_toNat 32 b0

theorem loadExt_unsigned_halfword (b0 b1 : Byte) : loadExt 5 (leNat [b0, b1]) = (b1 ++ b0).setWidth 32 := by
  have hnat : (b1 ++ b0).toNat = leNat [b0, b1] := by
    rw [toNat_append_eq]
    simp only [leNat]
    omega
  rw [← BitVec.ofNat_toNat, hnat]
  rfl

/-- A load from the own Carrel RAM. -/
theorem loadAt_of_local (hn : n < 2) (hsz : sz ∈ [0, 1, 2, 4, 5]) (ha : a.toNat % szBytes sz = 0)
    (h : InLocal a.toNat (szBytes sz)) :
    loadAt n c16 sz rd a base e c =
      .done (c.modCore n fun k => (((k.rebase base).setReg rd.toNat (loadExt sz (leNat ((List.range (szBytes sz)).map fun i =>
        (wbByte (c.core n).wb (a.toNat + i)).getD (getB c.mem (carrelAt n a.toNat + i)))))).watch a.toNat true false).sequential
          (isz c16)) := by
  rw [loadAt, loadSz_iff.mpr hsz, if_neg (by decide), if_neg (not_not_intro ha), coreLoad_of_local hn h]
  cases base <;> rfl

/-! ### Stores (R352 to R354, R422) -/

/-- A store to the own Carrel RAM. -/
theorem storeAt_of_local (hn : n < 2) (hsz : sz ≤ 2) (ha : a.toNat % szBytes sz = 0) (h : InLocal a.toNat (szBytes sz)) :
    storeAt n c16 sz rd a base e c =
      .done ((c.setMem (carrelAt n a.toNat) (leBytes (szBytes sz) ((c.core n).src rd).toNat)).modCore n fun k =>
        ((k.rebase base).watch a.toNat false true).sequential (isz c16)) := by
  rw [storeAt, if_neg (Nat.not_lt.mpr hsz), if_neg (not_not_intro ha)]
  dsimp only
  rw [coreStore_of_local hn h]
  cases base <;> rfl

theorem addByte_of_lt {l : List (Nat × Byte)} {x : Nat} (h : ∀ p ∈ l, p.1 < x) (b : Byte) :
    addByte l x b = l ++ [(x, b)] := by
  induction l with
  | nil => rfl
  | cons p l ih =>
    have hp : p.1 < x := h p List.mem_cons_self
    rw [addByte, if_neg (by omega), if_neg (by omega), ih fun q hq => h q (List.mem_cons_of_mem _ hq)]
    rfl

/-- Bytes that lie above those of an entry are added in their order. -/
theorem addBytes_map_range {l : List (Nat × Byte)} {x : Nat} (h : ∀ p ∈ l, p.1 < x) (f : Nat → Byte) (m : Nat) :
    addBytes l x ((List.range m).map f) = l ++ (List.range m).map fun i => (x + i, f i) := by
  induction m generalizing l x f with
  | zero => exact (List.append_nil l).symm
  | succ m ih =>
    have hnext : ∀ p ∈ l ++ [(x, f 0)], p.1 < x + 1 := by
      intro p hp
      rcases List.mem_append.mp hp with hl | hx
      · exact Nat.lt_succ_of_lt (h p hl)
      · rw [List.mem_singleton.mp hx]
        exact Nat.lt_succ_self x
    rw [List.range_succ_eq_map, List.map_cons, List.map_map, addBytes, addByte_of_lt h, ih hnext, List.append_assoc]
    simp only [List.map_cons, List.map_map, List.singleton_append, Nat.add_zero]
    refine congrArg _ (congrArg _ (List.map_congr_left fun i _ => ?_))
    simp only [Function.comp_apply, Nat.succ_eq_add_one, Nat.add_assoc, Nat.add_comm 1]

/-- A store to an address that is not local enters an empty write buffer. -/
theorem coreStore_of_empty_buffer {x : Nat} (hx : regionOf x ≠ .local) (hwb : (c.core n).wb = []) (bs : List Byte) :
    coreStore n x bs e c =
      c.modCore n fun k =>
        { k with wb := k.wb ++ [{ addr := x, line := (regionOf x).cacheable, bytes := addBytes [] x bs }] } := by
  simp only [coreStore, if_neg hx, hwb, mergeYoungest, ite_self, List.length_nil]
  rfl

theorem Chip.modCore_modCore (c : Chip) (n : Nat) (f g : Core → Core) :
    (c.modCore n f).modCore n g = c.modCore n fun k => g (f k) := by
  unfold Chip.modCore Chip.setCore Chip.core
  split <;> rfl

theorem storeAt_of_empty_buffer (hsz : sz ≤ 2) (ha : a.toNat % szBytes sz = 0) (hregion : regionOf a.toNat ≠ .local)
    (hwb : (c.core n).wb = []) :
    storeAt n c16 sz rd a none e c =
      .done (c.modCore n fun k =>
        (({ k with wb := [{ addr := a.toNat, line := (regionOf a.toNat).cacheable,
                            bytes := (List.range (szBytes sz)).map fun i => (a.toNat + i, (k.src rd).extractLsb' (8 * i) 8) }]
          } : Core).watch a.toNat false true).sequential (isz c16)) := by
  rw [storeAt, if_neg (Nat.not_lt.mpr hsz), if_neg (not_not_intro ha)]
  dsimp only
  rw [coreStore_of_empty_buffer hregion hwb, Chip.modCore_modCore, leBytes_word_eq_map,
    addBytes_map_range (fun p hp => absurd hp List.not_mem_nil), Chip.modCore, hwb]
  rfl

/-! ### Atomics (R365, R367) -/

section
variable {f : Word → Option Word × (Core → Core)} (hn : n < 2) (ha : a.toNat % 4 = 0) (h : InLocal a.toNat 4)
include hn ha h

/-- An atomic that writes. -/
theorem atomicAt_of_local_write {v : Word} {g : Core → Core} (hf : f (c.memW (carrelAt n a.toNat)) = (some v, g)) :
    atomicAt n a f e c =
      .done ((c.setMemW (carrelAt n a.toNat) v).modCore n fun k => ((g k).watch a.toNat true true).sequential 4) := by
  have hword : word (leNat (getBytes c.mem (carrelAt n a.toNat) 4)) = c.memW (carrelAt n a.toNat) := rfl
  rw [atomicAt, if_neg (not_not_intro ha), h.region]
  dsimp only
  rw [heldBy_of_local hn h.region, h.fetchBytes, hword, hf]
  dsimp only
  rw [h.setMemBytes]
  rfl

/-- An atomic that does not. -/
theorem atomicAt_of_local_keep {g : Core → Core} (hf : f (c.memW (carrelAt n a.toNat)) = (none, g)) :
    atomicAt n a f e c = .done (c.modCore n fun k => ((g k).watch a.toNat true false).sequential 4) := by
  have hword : word (leNat (getBytes c.mem (carrelAt n a.toNat) 4)) = c.memW (carrelAt n a.toNat) := rfl
  rw [atomicAt, if_neg (not_not_intro ha), h.region]
  dsimp only
  rw [heldBy_of_local hn h.region, h.fetchBytes, hword, hf]
  rfl

end

/-! ### The statements -/

section
variable {core : BitVec 1} {s : State} {op : Env → Chip → Res}

theorem quire_of_loadAt {v : Word} (hs : s.Executes core.toNat)
    (hop : op s.env s.chip = loadAt core.toNat c16 sz rd a base s.env s.chip)
    (hsz : sz ∈ [0, 1, 2, 4, 5]) (ha : a.toNat % szBytes sz = 0) (hlo : 0x08000000 ≤ a.toNat) (hhi : a.toNat < 0x08010000)
    (hv : loadExt sz (leNat ((List.range (szBytes sz)).map fun i =>
      (wbByte (s.chip.core core.toNat).wb (a.toNat + i)).getD (getB s.chip.mem (carrelAt core.toNat a.toNat + i)))) = v) :
    quire core op s =
      .next (s.afterOp core.toNat (isz c16) fun k => ((k.rebase base).setReg rd.toNat v).watch a.toNat true false) := by
  rw [loadAt_of_local core.isLt hsz ha (inLocal_of_aligned ha hlo hhi), hv] at hop
  exact quire_of_done_afterOp hs hop rfl rfl
    (((Core.sameDuties_rebase _ base).trans (Core.sameDuties_setReg ..)).trans (Core.sameDuties_watch ..))

theorem quire_of_storeAt {data : List Byte} (hs : s.Executes core.toNat)
    (hop : op s.env s.chip = storeAt core.toNat c16 sz rd a base s.env s.chip) (hsz : sz ≤ 2) (ha : a.toNat % szBytes sz = 0)
    (hlo : 0x08000000 ≤ a.toNat) (hhi : a.toNat < 0x08010000)
    (hdata : leBytes (szBytes sz) ((s.chip.core core.toNat).src rd).toNat = data) :
    quire core op s =
      .next ((s.withChip (s.chip.setMem (carrelAt core.toNat a.toNat) data)).afterOp core.toNat (isz c16) fun k =>
        (k.rebase base).watch a.toNat false true) := by
  rw [storeAt_of_local core.isLt hsz ha (inLocal_of_aligned ha hlo hhi), hdata] at hop
  exact quire_of_done_afterOp hs hop (Chip.core_setMem ..) (Chip.duties_setMem ..)
    ((Core.sameDuties_rebase _ base).trans (Core.sameDuties_watch ..))

end

/-- Settles O9: an LD is a load at its address and an LDX one at the address of its MODE, and the loaded value is the extended
word of the bytes there. -/
theorem loadsFromOwnCarrelRam : Obligations.LoadsFromOwnCarrelRam := by
  intro core c16 rd ra rb mode sz sc imm s hs hsz hmode n k size base x byte value after good step low
  have hsize : size = szBytes sz.toNat := getD_sizes _ hsz
  have hvalue (a : Word) : loadExt sz.toNat (leNat ((List.range (szBytes sz.toNat)).map fun i =>
      (wbByte k.wb (a.toNat + i)).getD (getB s.chip.mem (carrelAt n a.toNat + i)))) = value a := by
    simp only [List.mem_cons, List.not_mem_nil, or_false] at hsz
    simp only [value]
    rcases hsz with h | h | h | h | h <;> rw [h]
    · exact loadExt_byte _
    · exact loadExt_halfword _ _
    · exact loadExt_word _ _ _ _
    · exact loadExt_unsigned_byte _
    · exact loadExt_unsigned_halfword _ _
  have hload (op : Env → Chip → Res) (a : Word) (b : Option (Nat × Word)) (hgood : good a)
      (hop : op s.env s.chip = loadAt n c16 sz.toNat rd a b s.env s.chip) :
      quire core op s = after (isz c16) a (·.rebase b) := by
    obtain ⟨halign, hlo, hhi⟩ := hgood
    exact quire_of_loadAt hs hop hsz (hsize ▸ halign) hlo hhi (hvalue a)
  refine ⟨fun hgood => ?direct, fun h0 hgood => ?indexed, fun h0 hgood => ?updating⟩
  case direct => exact hload _ (base + imm.signExtend 32) none hgood rfl
  case indexed =>
    refine hload (indexedAt n mode sc sz ra rb (loadAt n c16 sz.toNat rd)) (base + x) none hgood ?_
    rw [indexedAt_of_assigned hmode, h0]
    rfl
  case updating =>
    refine hload (indexedAt n mode sc sz ra rb (loadAt n c16 sz.toNat rd)) low
      (some (ra.toNat, if mode = 1 ∨ mode = 3 then base + step else low)) hgood ?_
    rw [indexedAt_of_assigned hmode, indexed_of_ne_zero h0 hmode, ← hsize]
    rfl

/-- Settles O10: a store to a local address writes its bytes to memory at once, and an ST elsewhere is the one entry of its write
buffer. -/
theorem storesToOwnCarrelRamAndTheWriteBuffer : Obligations.StoresToOwnCarrelRamAndTheWriteBuffer := by
  refine ⟨?own, ?buffer⟩
  case own =>
    intro core c16 rd ra rb mode sz sc imm s hs hsz hmode n k size base x v data after good step low
    have hsize : size = szBytes sz.toNat := two_pow_eq_szBytes _ hsz
    have hdata : leBytes (szBytes sz.toNat) v.toNat = data := by
      have hcases : sz.toNat = 0 ∨ sz.toNat = 1 ∨ sz.toNat = 2 := by omega
      rw [leBytes_word_eq_map]
      simp only [data]
      rcases hcases with h | h | h <;> rw [h] <;> rfl
    have hstore (c16 : Bool) (op : Env → Chip → Res) (a : Word) (b : Option (Nat × Word)) (hgood : good a)
        (hop : op s.env s.chip = storeAt n c16 sz.toNat rd a b s.env s.chip) :
        quire core op s = after (isz c16) a (·.rebase b) := by
      obtain ⟨halign, hlo, hhi⟩ := hgood
      exact quire_of_storeAt hs hop hsz (hsize ▸ halign) hlo hhi hdata
    refine ⟨fun hgood => ?direct, fun h0 hgood => ?indexed, fun h0 hgood => ?updating⟩
    case direct => exact hstore c16 _ (base + imm.signExtend 32) none hgood rfl
    case indexed =>
      refine hstore false (indexedAt n mode sc sz ra rb (storeAt n false sz.toNat rd)) (base + x) none hgood ?_
      rw [indexedAt_of_assigned hmode, h0]
      rfl
    case updating =>
      refine hstore false (indexedAt n mode sc sz ra rb (storeAt n false sz.toNat rd)) low
        (some (ra.toNat, if mode = 1 ∨ mode = 3 then base + step else low)) hgood ?_
      rw [indexedAt_of_assigned hmode, indexed_of_ne_zero h0 hmode, ← hsize]
      rfl
  case buffer =>
    intro core c16 rd ra sz imm s n k a hs hsz ha hregion hwb
    rw [two_pow_eq_szBytes _ hsz] at ha ⊢
    exact quire_of_done_afterOp hs (storeAt_of_empty_buffer hsz ha hregion hwb) rfl rfl
      ((Core.sameDuties_wb ..).trans (Core.sameDuties_watch ..))

/-- What CAS makes of the word that it reads (R365): the word that it writes, if any, and the change of its core. -/
def casOp (k : Core) (rd rb : BitVec 5) (w : Word) : Option Word × (Core → Core) :=
  (if w == k.src rd then some (k.src rb) else none,
    fun k' => { k'.setReg rd.toNat w with psw := setBitTo k'.psw pswZ (w == k.src rd) })

theorem casOp_of_eq {k : Core} {rd : BitVec 5} {w : Word} (h : w = k.src rd) (rb : BitVec 5) :
    casOp k rd rb w = (some (k.src rb), fun k' => { k'.setReg rd.toNat w with psw := k'.psw ||| 4 }) := by
  rw [casOp, beq_iff_eq.mpr h]
  rfl

theorem casOp_of_ne {k : Core} {rd : BitVec 5} {w : Word} (h : w ≠ k.src rd) (rb : BitVec 5) :
    casOp k rd rb w = (none, fun k' => { k'.setReg rd.toNat w with psw := k'.psw &&& ~~~4 }) := by
  rw [casOp, beq_eq_false_iff_ne.mpr h]
  rfl

theorem exec_cas (core : BitVec 1) (rd ra rb : BitVec 5) (s : State) :
    exec (.cas core rd ra rb) s =
      quire core (atomicAt core.toNat ((s.chip.core core.toNat).src ra) (casOp (s.chip.core core.toNat) rd rb)) s :=
  quire_congr rfl

/-- Settles O17: the word that an atomic reads is memory's, and CAS writes where it equals rd. -/
theorem atomicsInOwnCarrelRam : Obligations.AtomicsInOwnCarrelRam := by
  intro core rd ra rb s n k a at' old stored hs ha hlo hhi
  have hlocal : InLocal a 4 := ⟨hlo, by omega, by decide⟩
  rw [exec_cas]
  refine ⟨?swap, fun hsame => ?equal, fun hne => ?unequal⟩
  case swap =>
    exact quire_of_done_afterOp hs (atomicAt_of_local_write core.isLt ha hlocal rfl) rfl rfl
      ((Core.sameDuties_setReg ..).trans (Core.sameDuties_watch ..))
  case equal =>
    exact quire_of_done_afterOp hs (atomicAt_of_local_write core.isLt ha hlocal (casOp_of_eq hsame rb)) rfl rfl
      (((Core.sameDuties_setReg ..).trans (Core.sameDuties_psw ..)).trans (Core.sameDuties_watch ..))
  case unequal =>
    exact quire_of_done_afterOp hs (atomicAt_of_local_keep core.isLt ha hlocal (casOp_of_ne hne rb)) rfl rfl
      (((Core.sameDuties_setReg ..).trans (Core.sameDuties_psw ..)).trans (Core.sameDuties_watch ..))

end Sys2Proof.Machine
end

section
/-! PROOF. Taking an exception whose frame lies in the own Carrel RAM (11_clerk_cores_and_interrupts.md, R383, R384): the frame in
memory, the handler's PSW, and the whole of the state that TRAP, BKPT and an unassigned encoding leave. -/

namespace Sys2Proof.Machine

variable {n : Nat} {e : Env} {c : Chip}

/-! ### The frame in memory (R384) -/

theorem length_leBytes (m v : Nat) : (leBytes m v).length = m := by rw [leBytes_eq_map, List.length_map, List.length_range]

theorem putBytes_append (m : Mem) (a : Nat) (bs bs' : List Byte) :
    putBytes m a (bs ++ bs') = putBytes (putBytes m a bs) (a + bs.length) bs' := by
  induction bs generalizing m a with
  | nil => rfl
  | cons b bs ih => rw [List.cons_append, putBytes, putBytes, ih, List.length_cons, Nat.add_right_comm, Nat.add_assoc]

/-- Words written one after the other at local addresses are their bytes in a row. -/
theorem pushWords_of_local (hn : n < 2) {ws : List Word} {a : Nat} (hlo : 0x08000000 ≤ a)
    (hhi : a + 4 * ws.length ≤ 0x08010000) (c : Chip) :
    pushWords n e ws a c = (true, c.setMem (carrelAt n a) (ws.flatMap fun w => leBytes 4 w.toNat)) := by
  induction ws generalizing a c with
  | nil => rfl
  | cons w ws ih =>
    rw [List.length_cons] at hhi
    have hlocal : InLocal a 4 := ⟨hlo, by omega, by decide⟩
    have hnext : carrelAt n (a + 4) = carrelAt n a + (leBytes 4 w.toNat).length := by
      rw [length_leBytes]
      change carrelBase n + (a + 4 - 0x08000000) = carrelBase n + (a - 0x08000000) + 4
      omega
    rw [pushWords, Chip.busCause_of_local hlocal.region]
    dsimp only
    rw [coreStore_of_local hn hlocal, ih (by omega) (by omega), hnext, List.flatMap_cons]
    simp only [Chip.setMem, putBytes_append]

/-! ### The handler's PSW (R384) -/

theorem testBit_bits (w : Word) {hi lo j : Nat} (h : j < hi + 1 - lo) : (bits w hi lo).testBit j = w.getLsbD (lo + j) := by
  rw [bits, Nat.testBit_mod_two_pow, decide_eq_true h, Bool.true_and, Nat.testBit_shiftRight]
  rfl

/-- HND is set, IE is cleared, and LEVEL is the level that the core was at. -/
theorem handlerPsw_of_exception (psw : Word) : handlerPsw psw (bits psw 10 9) false = (psw ||| 0x800) &&& ~~~0x100 := by
  have hkeep : putFld (psw ||| 0x800) 10 9 (bits psw 10 9) = psw ||| 0x800 := by
    apply BitVec.eq_of_getLsbD_eq
    intro i hi
    rw [getLsbD_putFld _ _ (by decide) hi]
    split
    case isTrue h =>
      have hplace : 9 + (i - 9) = i := by omega
      have hclear : (0x800 : Word).getLsbD i = false := by
        have hi : i = 9 ∨ i = 10 := by omega
        rcases hi with rfl | rfl <;> decide
      rw [testBit_bits psw (by omega), hplace, BitVec.getLsbD_or, hclear, Bool.or_false]
    case isFalse => rfl
  change putFld (psw ||| 0x800) 10 9 (bits psw 10 9) &&& ~~~0x100 = _
  rw [hkeep]

/-! ### Taking the exception (R383, R384) -/

theorem Chip.vectorWord_zero (c : Chip) (n : Nat) :
    c.vectorWord n 0 = c.memW (carrelBase n + 64 * (((c.core n).crw 0x40).toNat % 1024)) := by
  rw [Chip.vectorWord, bits_eq, Nat.pow_zero, Nat.div_one]
  rfl

/-- The chip with core `n`'s frame below its stack pointer. -/
def Chip.stacked (c : Chip) (n : Nat) : Chip :=
  c.setMem (carrelAt n (((c.core n).reg 2).toNat - 32)) ((c.core n).frame.flatMap fun w => leBytes 4 w.toNat)

theorem Chip.stacked_eq (c : Chip) (n : Nat) :
    c.stacked n =
      let k := c.core n
      c.setMem (carrelBase n + ((k.reg 2).toNat - 32 - 0x08000000))
        ([k.pc, k.psw, word k.depth, k.reg 3, k.reg 4, k.reg 5, k.reg 6, k.reg 7].flatMap fun w => leBytes 4 w.toNat) := rfl

theorem Chip.core_stacked (c : Chip) (n m : Nat) : (c.stacked n).core m = c.core m := Chip.core_setMem ..

theorem Chip.duties_stacked (c : Chip) (n : Nat) : (c.stacked n).duties = c.duties := Chip.duties_setMem ..

/-- Core `k` in the handler of an exception. -/
def Core.entered (k : Core) (x : Exc) (vector : Word) : Core :=
  { (k.setReg 2 (k.reg 2 - 32)).noteExc x with psw := (k.psw ||| 0x800) &&& ~~~0x100, depth := 0, pc := vector }

theorem takeExc_of_local (hn : n < 2) {x : Exc} (hvalid : ((c.core n).crw 0x41).getLsbD 31 = false)
    (hsp : ((c.core n).reg 2).toNat % 4 = 0) (hlo : 0x08000020 ≤ ((c.core n).reg 2).toNat)
    (hhi : ((c.core n).reg 2).toNat ≤ 0x08010000) (hv : ((c.stacked n).vectorWord n 0).getLsbD 0 = false) :
    takeExc n x e c = (c.stacked n).modCore n fun k => k.entered x ((c.stacked n).vectorWord n 0) := by
  have h32 : (32 : Word) ≤ (c.core n).reg 2 := BitVec.le_def.mpr (Nat.le_trans (by decide) hlo)
  have hpush : pushWords n e (c.core n).frame ((c.core n).reg 2 - 32).toNat c = (true, c.stacked n) := by
    have hlen : (c.core n).frame.length = 8 := rfl
    have hbelow : ((c.core n).reg 2 - 32).toNat = ((c.core n).reg 2).toNat - 32 := BitVec.toNat_sub_of_le h32
    rw [hbelow]
    exact pushWords_of_local hn (by omega) (by omega) c
  have hopen : ¬(((c.core n).crw 0x41).getLsbD 31 || decide (((c.core n).reg 2).toNat % 4 ≠ 0)) = true := by
    rw [hvalid, Bool.false_or, decide_eq_true_eq]
    exact not_not_intro hsp
  rw [takeExc]
  dsimp only
  rw [if_neg hopen, hpush]
  dsimp only
  rw [hv, if_neg Bool.false_ne_true, Chip.modCore, Chip.modCore, Chip.core_stacked, Core.level, handlerPsw_of_exception]
  rfl

theorem Core.sameDuties_noteExc (k : Core) (x : Exc) : k.SameDuties (k.noteExc x) := by
  unfold Core.noteExc
  cases x.addr <;> exact ⟨rfl, rfl⟩

theorem Core.sameDuties_entered (k : Core) (x : Exc) (v : Word) : k.SameDuties (k.entered x v) :=
  ((k.sameDuties_setReg ..).trans (Core.sameDuties_noteExc _ x)).trans ⟨rfl, rfl⟩

/-- R384: EXC_ADDR stays where the exception has no address. -/
theorem Core.entered_of_no_address (k : Core) (cause : Nat) {code : Nat} (hcode : code < 512) (v : Word) :
    k.entered { cause := cause, code := code } v =
      { (k.setReg 2 (k.reg 2 - 32)).setCrw 0x41 (word (2 ^ 31 + code * 65536 + cause)) with
        psw := (k.psw ||| 0x800) &&& ~~~0x100, depth := 0, pc := v } := by
  rw [Core.entered, Core.noteExc]
  dsimp only
  rw [Nat.mod_eq_of_lt hcode]

theorem State.withChip_withCore (s : State) (c : Chip) (n : Nat) (k : Core) :
    (s.withChip c).withCore n k = s.withChip (c.setCore n k) := rfl

/-- Only the taking of the exception is left of an instruction that raises it (R373). -/
theorem quire_of_raise_taken {core : BitVec 1} {s : State} {op : Env → Chip → Res} {x : Exc}
    (hop : op s.env s.chip = .raise x s.chip) :
    quire core op s = quire core (fun e c => .done (takeExc core.toNat x e c)) s := by
  simp only [quire, run, State.cmd, State.on, instr, hop]

/-- Settles O12: the three instructions raise their exception, and taking it leaves the frame in memory and the core in the
handler. -/
theorem exceptionEntryStacksAndJumps : Obligations.ExceptionEntryStacksAndJumps := by
  intro core c16 code s n k sp frame stacked vector entered hs hvalid hsp hlo hhi hv
  have hstacked : s.chip.stacked n = stacked := Chip.stacked_eq ..
  have hvec : (s.chip.stacked n).vectorWord n 0 = vector := by rw [Chip.vectorWord_zero, Chip.core_stacked]; rfl
  have hv' : ((s.chip.stacked n).vectorWord n 0).getLsbD 0 = false := by rw [hvec]; exact hv
  have hentered (op : Env → Chip → Res) (cause cd : Nat) (hcd : cd < 512)
      (hop : op s.env s.chip = .raise { cause := cause, code := cd } s.chip) : quire core op s = entered cause cd := by
    have htake := takeExc_of_local (e := s.env) core.isLt (x := { cause := cause, code := cd }) hvalid hsp hlo hhi hv'
    rw [quire_of_raise_taken hop, quire_of_done_modCore hs (congrArg _ htake) (Chip.core_stacked ..) (Chip.duties_stacked ..)
      (Core.sameDuties_entered ..)]
    rw [Chip.modCore, Chip.core_stacked, Core.entered_of_no_address _ _ hcd, hvec, hstacked, ← State.withChip_withCore]
  exact ⟨hentered _ 7 _ code.isLt rfl, hentered _ 1 0 (by decide) rfl,
    fun hdebug => hentered _ 8 _ code.isLt (bkptOp_of_no_debugger hdebug)⟩

end Sys2Proof.Machine
end

section
/-! PROOF. An interrupt's entry, a held STORE_BUS at an instruction boundary, and the return from a handler
(11_clerk_cores_and_interrupts.md, R385, R388, R389, R391), for a core whose frame lies in its own Carrel RAM. -/

namespace Sys2Proof.Machine

/-! ### An effect that leaves the device nothing to do -/

/-- An effect that makes `c` of the chip, with the same to do, and then core `n` into `k`, which waits for nothing new. -/
theorem run_of_quiet_setCore {f : Env → Chip → Chip} {s : State} {c : Chip} {n : Nat} {k : Core} (hq : s.Quiet)
    (hf : f s.env s.chip = c.setCore n k) (hd : c.duties = s.chip.duties) (hk : k.expects = (c.core n).expects) :
    run f s = .next ((s.withChip c).withCore n k) := by
  have hduties : (f s.env s.chip).duties = false := by rw [hf, Chip.duties_setCore _ _ _ hk, hd, hq.2]
  rw [run_of_quiet hq hduties, hf, State.withChip_withCore]

/-- An effect that changes core `n` alone. -/
theorem run_of_quiet_withCore {f : Env → Chip → Chip} {s : State} {n : Nat} {k : Core} (hq : s.Quiet)
    (hf : f s.env s.chip = s.chip.setCore n k) (hk : k.expects = (s.chip.core n).expects) :
    run f s = .next (s.withCore n k) :=
  run_of_quiet_setCore hq hf rfl hk

variable {n l : Nat} {e : Env} {c : Chip}

/-! ### The level that is accepted (R388) -/

theorem Chip.highestLevel_eq_some {p : Nat → Bool} (h : c.highestLevel n p = some l) :
    l < 4 ∧ p l = true ∧ c.levelLine n l = true := by
  have hholds := List.find?_some h
  have hmem : l ∈ [3, 2, 1, 0] := List.mem_of_find?_eq_some h
  rw [Bool.and_eq_true] at hholds
  refine ⟨?_, hholds⟩
  simp only [List.mem_cons, List.not_mem_nil, or_false] at hmem
  omega

/-- IE is set, and inside a handler the level is above the PSW's own. -/
theorem Chip.admitted_eq_some {psw : Word} (h : c.admitted n psw = some l) :
    l < 4 ∧ psw.getLsbD 8 = true ∧ (psw.getLsbD 11 = false ∨ psw.toNat / 2 ^ 9 % 4 < l) ∧ c.levelLine n l = true := by
  rw [Chip.admitted] at h
  split at h
  case isTrue hie =>
    obtain ⟨hl, hlevel, hline⟩ := Chip.highestLevel_eq_some h
    rw [Bool.or_eq_true, Bool.not_eq_true', decide_eq_true_eq, bits_eq] at hlevel
    exact ⟨hl, hie, hlevel, hline⟩
  case isFalse => cases h

/-! ### The entry (R389) -/

/-- The lowest bits of a word are its remainder. -/
theorem bits_low (w : Word) (hi : Nat) : bits w hi 0 = w.toNat % 2 ^ (hi + 1) := rfl

theorem Chip.vectorWord_eq (c : Chip) (n i : Nat) :
    c.vectorWord n i = c.memW (carrelBase n + 64 * (((c.core n).crw 0x40).toNat % 1024) + 4 * i) := by
  have hbase : bits ((c.core n).crw 0x40) 9 0 = ((c.core n).crw 0x40).toNat % 1024 := bits_low _ 9
  rw [Chip.vectorWord, hbase]

theorem level_mask : ∀ i < 32, (0x600 : Word).getLsbD i = decide (9 ≤ i ∧ i ≤ 10) := by decide

theorem hnd_mask : ∀ i < 32, (0x800 : Word).getLsbD i = decide (i = 11) := by decide

theorem ie_mask : ∀ i < 32, (0x100 : Word).getLsbD i = decide (i = 8) := by decide

theorem handler_mask : ∀ i < 32, (0x900 : Word).getLsbD i = decide (i = 11 ∨ i = 8) := by decide

/-- A level stands in bits 9 and 10. -/
theorem getLsbD_level (hl : l < 4) {i : Nat} (hi : i < 32) :
    (BitVec.ofNat 32 (l * 512)).getLsbD i = (decide (9 ≤ i ∧ i ≤ 10) && l.testBit (i - 9)) := by
  have hshift : (l * 512).testBit i = (decide (i ≥ 9) && l.testBit (i - 9)) := Nat.testBit_mul_two_pow l i 9
  rw [BitVec.getLsbD_ofNat, decide_eq_true hi, Bool.true_and, hshift]
  by_cases hhigh : i ≤ 10
  · simp [hhigh]
  · have hclear : l.testBit (i - 9) = false :=
      Nat.testBit_lt_two_pow (Nat.lt_of_lt_of_le hl (Nat.pow_le_pow_right (Nat.succ_pos 1) (by omega : 2 ≤ i - 9)))
    rw [hclear, Bool.and_false, Bool.and_false]

/-- HND and IE are set, LEVEL is the level that is entered, and the flags stay. -/
theorem handlerPsw_of_interrupt (psw : Word) (hl : l < 4) :
    handlerPsw psw l true = ((psw &&& ~~~0x600) ||| 0x900) ||| BitVec.ofNat 32 (l * 512) := by
  change putFld (psw ||| 0x800) 10 9 l ||| 0x100 = _
  apply BitVec.eq_of_getLsbD_eq
  intro i hi
  simp only [BitVec.getLsbD_or, BitVec.getLsbD_and, BitVec.getLsbD_not, getLsbD_putFld (hi := 10) (lo := 9) _ _ (by decide) hi,
    getLsbD_level hl hi, level_mask i hi, handler_mask i hi, hnd_mask i hi, ie_mask i hi, hi,
    decide_true, Bool.true_and]
  by_cases hlevel : 9 ≤ i ∧ i ≤ 10
  · have hnd : i ≠ 11 := by omega
    have hie : i ≠ 8 := by omega
    simp [hlevel, hnd, hie]
  · simp [hlevel, Bool.or_assoc]

/-- The frame goes below the stack pointer. -/
theorem pushWords_frame_of_local (hn : n < 2) (hlo : 0x08000020 ≤ ((c.core n).reg 2).toNat)
    (hhi : ((c.core n).reg 2).toNat ≤ 0x08010000) :
    pushWords n e (c.core n).frame ((c.core n).reg 2 - 32).toNat c = (true, c.stacked n) := by
  have h32 : (32 : Word) ≤ (c.core n).reg 2 := BitVec.le_def.mpr (Nat.le_trans (by decide) hlo)
  have hlen : (c.core n).frame.length = 8 := rfl
  have hbelow : ((c.core n).reg 2 - 32).toNat = ((c.core n).reg 2).toNat - 32 := BitVec.toNat_sub_of_le h32
  rw [hbelow]
  exact pushWords_of_local hn (by omega) (by omega) c

/-- Core `k` in the handler of level `l`. -/
def Core.inHandler (k : Core) (l : Nat) (vector : Word) : Core :=
  { k.setReg 2 (k.reg 2 - 32) with
    psw := ((k.psw &&& ~~~0x600) ||| 0x900) ||| BitVec.ofNat 32 (l * 512), depth := 0, pc := vector }

theorem Core.sameDuties_inHandler (k : Core) (l : Nat) (vector : Word) : k.SameDuties (k.inHandler l vector) :=
  (k.sameDuties_setReg 2 (k.reg 2 - 32)).trans ⟨rfl, rfl⟩

theorem enterLevel_of_local (hn : n < 2) (hl : l < 4) (hsp : ((c.core n).reg 2).toNat % 4 = 0)
    (hlo : 0x08000020 ≤ ((c.core n).reg 2).toNat) (hhi : ((c.core n).reg 2).toNat ≤ 0x08010000)
    (hv : (c.vectorWord n (4 + l)).getLsbD 0 = false) :
    enterLevel n l e c = (c.stacked n).setCore n ((c.core n).inHandler l (c.vectorWord n (4 + l))) := by
  have hopen : ¬(decide (((c.core n).reg 2).toNat % 4 ≠ 0) || (c.vectorWord n (4 + l)).getLsbD 0) = true := by
    rw [hv, Bool.or_false, decide_eq_true_eq]
    exact not_not_intro hsp
  rw [enterLevel]
  dsimp only
  rw [if_neg hopen, pushWords_frame_of_local hn hlo hhi]
  dsimp only
  rw [Chip.modCore, Chip.core_stacked, handlerPsw_of_interrupt _ hl]
  rfl

/-- A core that runs, with no STORE_BUS due and no single step under way, enters the highest level that its PSW admits. -/
theorem interruptEntry_of_admitted (hrun : (c.core n).run = .running) (herr : (c.core n).storeErr = [])
    (hstep : (c.core n).stepping = false) (hl : c.admitted n (c.core n).psw = some l) :
    interruptEntry n e c = stepDone n e (enterLevel n l e c) := by
  simp only [interruptEntry, hrun, if_true, herr, ne_eq, not_true, if_false, hstep, Bool.false_and, Bool.false_eq_true, hl]

theorem stepDone_of_not_stepping (h : (c.core n).stepping = false) : stepDone n e c = c := by
  simp only [stepDone, h, Bool.false_and, Bool.false_eq_true, if_false]

/-! ### STORE_BUS (R385) -/

theorem takeStoreBus_of_nil (h : (c.core n).storeErr = []) : takeStoreBus n e c = c := by
  simp only [takeStoreBus, h]

theorem takeStoreBus_of_cons {a : Word} {rest : List Word} (h : (c.core n).storeErr = a :: rest)
    (hrun : (c.core n).run = .running) :
    takeStoreBus n e c = takeExc n { cause := 9, addr := some a } e (c.setCore n { c.core n with storeErr := rest }) := by
  simp only [takeStoreBus, h, hrun, if_true, Chip.modCore]

/-- STORE_BUS comes ahead of every interrupt. -/
theorem interruptEntry_of_storeErr (h : (c.core n).storeErr ≠ []) (hrun : (c.core n).run = .running) :
    interruptEntry n e c = takeStoreBus n e c := by
  simp only [interruptEntry, hrun, if_true, h, ne_eq, not_false_eq_true]

/-- Settles O13: the accepted level's frame goes to memory and its core to the handler; with an error held both commands are the
taking of STORE_BUS. -/
theorem interruptEntryAndStoreBus : Obligations.InterruptEntryAndStoreBus := by
  refine ⟨?entry, ?storeBus⟩
  case entry =>
    intro core l s n k sp frame stacked vector hq hrun hstep herr hadm hsp hlo hhi hv
    obtain ⟨hl, hie, hlevel, hline⟩ := Chip.admitted_eq_some hadm
    refine ⟨hl, hie, hlevel, hline, ?_⟩
    have hvector : s.chip.vectorWord n (4 + l) = vector := Chip.vectorWord_eq ..
    have hstacked : s.chip.stacked n = stacked := Chip.stacked_eq ..
    have hduties : k.SameDuties (k.inHandler l vector) := k.sameDuties_inHandler l vector
    have henter : interruptEntry n s.env s.chip = stacked.setCore n (k.inHandler l vector) := by
      rw [interruptEntry_of_admitted hrun herr hstep hadm,
        enterLevel_of_local core.isLt hl hsp hlo hhi (hvector ▸ hv), hvector, hstacked]
      exact stepDone_of_not_stepping (by rw [Chip.core_setCore, hduties.stepping, hstep])
    exact run_of_quiet_setCore hq henter (Chip.duties_setMem ..)
      (hduties.expects.trans (congrArg Core.expects (Chip.core_setMem ..).symm))
  case storeBus =>
    intro core a rest s hq n k taken
    refine ⟨fun hnil => ?_, fun hcons hrun => ?_⟩
    · have hsame : takeStoreBus n s.env s.chip = s.chip := takeStoreBus_of_nil hnil
      exact (run_of_quiet hq (by rw [hsame, hq.2])).trans (by rw [hsame]; rfl)
    · have htake := takeStoreBus_of_cons (e := s.env) hcons hrun
      have hentry : interruptEntry n s.env s.chip = takeStoreBus n s.env s.chip :=
        interruptEntry_of_storeErr (by rw [hcons]; exact List.cons_ne_nil a rest) hrun
      exact ⟨(run_of_powered hq.1).trans (by rw [htake]; rfl), (run_of_powered hq.1).trans (by rw [hentry, htake]; rfl)⟩

/-! ### The return (R391) -/

theorem getBytes_eq_map (m : Mem) (x size : Nat) : getBytes m x size = (List.range size).map fun i => getB m (x + i) := by
  induction size generalizing x with
  | zero => rfl
  | succ size ih =>
    rw [getBytes, ih, List.range_succ_eq_map, List.map_cons, List.map_map]
    refine congrArg _ (List.map_congr_left fun i _ => ?_)
    simp only [Function.comp_apply, Nat.succ_eq_add_one, Nat.add_assoc, Nat.add_comm 1]

/-- With nothing in the write buffer a load returns memory's bytes. -/
theorem coreLoad_of_empty_buffer {a size : Nat} (hn : n < 2) (h : InLocal a size) (hwb : (c.core n).wb = []) :
    coreLoad n a size e c = (.ok (getBytes c.mem (carrelAt n a) size), c) := by
  rw [coreLoad_of_local hn h, hwb, getBytes_eq_map]
  rfl

theorem carrelAt_add (n k : Nat) {a : Nat} (h : 0x08000000 ≤ a) : carrelAt n (a + k) = carrelAt n a + k := by
  unfold carrelAt
  rw [Nat.sub_add_comm h, Nat.add_assoc]

theorem pullWords_of_local (hn : n < 2) (hwb : (c.core n).wb = []) {count a : Nat} (hlo : 0x08000000 ≤ a)
    (hhi : a + 4 * count ≤ 0x08010000) :
    pullWords n e count a c = (some ((List.range count).map fun i => c.memW (carrelAt n a + 4 * i)), c) := by
  induction count generalizing a with
  | zero => rfl
  | succ count ih =>
    have hlocal : InLocal a 4 := ⟨hlo, by omega, by decide⟩
    have hplace (i : Nat) : carrelAt n (a + 4) + 4 * i = carrelAt n a + 4 * (i + 1) := by
      rw [carrelAt_add n 4 hlo]
      omega
    have hfirst : c.memW (carrelAt n a + 4 * 0) = word (leNat (getBytes c.mem (carrelAt n a) 4)) := by
      rw [Nat.mul_zero, Nat.add_zero, Chip.memW]
    have hrest : (List.range count).map (fun i => c.memW (carrelAt n (a + 4) + 4 * i)) =
        (List.range count).map ((fun i => c.memW (carrelAt n a + 4 * i)) ∘ Nat.succ) :=
      List.map_congr_left fun i _ => congrArg c.memW (hplace i)
    rw [pullWords, coreLoad_of_empty_buffer hn hlocal hwb]
    dsimp only
    rw [ih (by omega) (by omega), List.range_succ_eq_map, List.map_cons, List.map_map, hfirst, hrest]

theorem Core.reg_setReg_of_ne (k : Core) {r i : Nat} (h : i ≠ r) (v : Word) : (k.setReg r v).reg i = k.reg i := by
  by_cases hr : r = 0
  · rw [Core.setReg, if_pos hr]
  · rw [Core.setReg, if_neg hr]
    simp only [Core.reg, getS_putS_of_ne h]

/-- The words of a frame go back to the registers they came from. -/
theorem Core.unstack_eq (k : Core) (ws : List Word) :
    k.unstack ws =
      { (((((k.setReg 3 (ws.getD 3 0)).setReg 4 (ws.getD 4 0)).setReg 5 (ws.getD 5 0)).setReg 6 (ws.getD 6 0)).setReg 7
          (ws.getD 7 0)).setReg 2 (k.reg 2 + 32) with
        pc := ws.getD 0 0 &&& ~~~1, psw := ws.getD 1 0 &&& 0xF1F, depth := min 4 ((ws.getD 2 0).toNat % 8) } := by
  have hdepth : bits (ws.getD 2 0) 2 0 = (ws.getD 2 0).toNat % 8 := bits_low _ 2
  simp only [Core.unstack, List.foldl_cons, List.foldl_nil, hdepth,
    Core.reg_setReg_of_ne _ (by decide : (2 : Nat) ≠ 3), Core.reg_setReg_of_ne _ (by decide : (2 : Nat) ≠ 4),
    Core.reg_setReg_of_ne _ (by decide : (2 : Nat) ≠ 5), Core.reg_setReg_of_ne _ (by decide : (2 : Nat) ≠ 6),
    Core.reg_setReg_of_ne _ (by decide : (2 : Nat) ≠ 7)]

theorem Core.sameDuties_unstack (k : Core) (ws : List Word) : k.SameDuties (k.unstack ws) := by
  rw [Core.unstack_eq]
  exact ⟨by simp, by simp [Core.expects]⟩

/-- The words of the frame at core `n`'s stack pointer. -/
def Chip.frameWords (c : Chip) (n : Nat) : List Word :=
  (List.range 8).map fun i => c.memW (carrelAt n ((c.core n).reg 2).toNat + 4 * i)

/-- RETI in a handler, where the frame's PSW admits no level. -/
theorem retiOp_of_local (hn : n < 2) (hhnd : (c.core n).psw.getLsbD 11 = true) (hsp : ((c.core n).reg 2).toNat % 4 = 0)
    (hlo : 0x08000000 ≤ ((c.core n).reg 2).toNat) (hhi : ((c.core n).reg 2).toNat + 32 ≤ 0x08010000)
    (hwb : (c.core n).wb = []) (hadm : c.admitted n ((c.frameWords n).getD 1 0 &&& 0xF1F) = none) :
    retiOp n e c = .done (c.modCore n fun k => k.unstack (c.frameWords n)) := by
  have hpull : pullWords n e 8 ((c.core n).reg 2).toNat c = (some (c.frameWords n), c) := pullWords_of_local hn hwb hlo hhi
  have hin : ¬(!(c.core n).psw.getLsbD pswHND) = true := by simp [pswHND, hhnd]
  rw [retiOp, if_neg hin, if_neg (not_not_intro hsp), hpull]
  dsimp only
  rw [hadm]

/-- Settles O14: RETI reads the eight words of the frame and changes its core alone. -/
theorem returnRestoresTheFrame : Obligations.ReturnRestoresTheFrame := by
  intro core s n k sp w hs hhnd hsp hlo hhi hwb hadm
  have hreti := retiOp_of_local (e := s.env) core.isLt hhnd hsp hlo hhi hwb hadm
  have hunstack := k.unstack_eq (s.chip.frameWords n)
  exact (quire_of_done_modCore hs hreti rfl rfl (Core.sameDuties_unstack ..)).trans
    (congrArg (fun k' => Host.Outcome.next (s.withCore n k')) hunstack)

end Sys2Proof.Machine
end

section
/-! PROOF. The interrupt controller's claims, their completion, and the software interrupt latches
(11_clerk_cores_and_interrupts.md, R400 to R404). -/

namespace Sys2Proof.Machine

variable {m : Master} {t n : Nat} {v : Word} {c : Chip}

/-! ### The registers that the commands write -/

theorem regWrite_intcClaim (ht : t < 3) (m : Master) (v : Word) (e : Env) (c : Chip) :
    regWrite m (A.INTC_CLAIM t) v e c = intcClaim m t v c := by
  have hwindows : t = 0 ∨ t = 1 ∨ t = 2 := by omega
  rcases hwindows with rfl | rfl | rfl <;> rfl

theorem regWrite_intcDone (ht : t < 3) (m : Master) (v : Word) (e : Env) (c : Chip) :
    regWrite m (A.INTC_DONE t) v e c = intcDone m t v c := by
  have hwindows : t = 0 ∨ t = 1 ∨ t = 2 := by omega
  rcases hwindows with rfl | rfl | rfl <;> rfl

theorem regWrite_intcSwiSet (m : Master) (v : Word) (e : Env) (c : Chip) :
    regWrite m A.INTC_SWI_SET v e c = intcSwi true v c := rfl

theorem regWrite_intcSwiClr (m : Master) (v : Word) (e : Env) (c : Chip) :
    regWrite m A.INTC_SWI_CLR v e c = intcSwi false v c := rfl

/-! ### Claims (R400) -/

theorem bits_7_0 (w : Word) : bits w 7 0 = w.toNat % 256 := bits_low w 7

section
variable (hm : claimant t m = true) (hn : v.toNat % 256 = n)

include hm hn

theorem intcClaim_of_private (hp : c.presented t n = true) (hpriv : n < 32) (hswi : ¬(2 ≤ n ∧ n < 10)) :
    intcClaim m t v c =
      { c.wr (A.INTC_CLAIM t) (word n) with intc := { c.intc with privService := (n, t) :: c.intc.privService } } := by
  have hlatch : (decide (2 ≤ n) && decide (n < 10)) = false := by rw [← Bool.decide_and, decide_eq_false hswi]
  simp only [intcClaim, hm, Bool.not_true, Bool.false_eq_true, if_false, bits_7_0, hn, hp, if_true, hpriv, hlatch, Chip.wr_intc]

theorem intcClaim_of_shared (hp : c.presented t n = true) (hshared : 32 ≤ n) (hrobin : c.bit (A.INTC_SRCn_CFG n) 4 = false) :
    intcClaim m t v c =
      { c.wr (A.INTC_CLAIM t) (word n) with intc := { c.intc with inService := (n, t) :: c.intc.inService } } := by
  have hregs : A.INTC_SRCn_CFG n ≠ A.INTC_CLAIM t := by
    rw [A.INTC_SRCn_CFG, A.INTC_CLAIM]
    omega
  have hkept : ((c.wr (A.INTC_CLAIM t) (word n)).rd (A.INTC_SRCn_CFG n)).getLsbD 4 = false := by
    rw [Chip.rd_wr_of_ne hregs]
    exact hrobin
  simp only [intcClaim, hm, Bool.not_true, Bool.false_eq_true, if_false, bits_7_0, hn, hp, if_true, Nat.not_lt.mpr hshared,
    Chip.wr_intc]
  exact if_neg (Bool.eq_false_iff.mp hkept)

theorem intcClaim_of_not_presented (hp : c.presented t n = false) :
    intcClaim m t v c = (c.wr (A.INTC_CLAIM t) 255).setBit (A.INTC_TSTAT t) 0 := by
  simp only [intcClaim, hm, Bool.not_true, Bool.false_eq_true, if_false, bits_7_0, hn, hp]

/-! ### DONE (R402) -/

theorem intcDone_of_shared (hshared : 32 ≤ n) (hserved : c.intc.inService.contains (n, t) = true) :
    intcDone m t v c = { c with intc := { c.intc with inService := c.intc.inService.filter (· ≠ (n, t)) } } := by
  simp only [intcDone, hm, Bool.not_true, Bool.false_eq_true, if_false, bits_7_0, hn, Nat.not_lt.mpr hshared, decide_false,
    Bool.false_and, hserved, if_true]

theorem intcDone_of_private (hpriv : n < 32) (hserved : c.intc.privService.contains (n, t) = true) :
    intcDone m t v c = { c with intc := { c.intc with privService := c.intc.privService.filter (· ≠ (n, t)) } } := by
  simp only [intcDone, hm, Bool.not_true, Bool.false_eq_true, if_false, bits_7_0, hn, hpriv, decide_true, Bool.true_and, hserved,
    if_true]

theorem intcDone_of_not_in_service (hshared : c.intc.inService.contains (n, t) = false)
    (hpriv : c.intc.privService.contains (n, t) = false) : intcDone m t v c = c.setBit (A.INTC_TSTAT t) 1 := by
  simp only [intcDone, hm, Bool.not_true, Bool.false_eq_true, if_false, bits_7_0, hn, hpriv, Bool.and_false, hshared]

end

/-! ### The software interrupt latches (R404) -/

theorem getLsbD_latch {i j : Nat} (hj : j < 8) : (BitVec.ofNat 8 (2 ^ i)).getLsbD j = decide (j = i) := by
  rw [BitVec.getLsbD_ofNat, decide_eq_true hj, Bool.true_and, Nat.testBit_two_pow]
  exact decide_eq_decide.mpr eq_comm

theorem intcSwi_eq (set : Bool) (v : Word) (c : Chip) :
    intcSwi set v c =
      let n := v.toNat / 256 % 2
      let latch := BitVec.ofNat 8 (2 ^ (v.toNat % 8))
      c.setCore n { c.core n with swi := if set then (c.core n).swi ||| latch else (c.core n).swi &&& ~~~latch } := by
  have hcore : bits v 8 8 = v.toNat / 256 % 2 := bits_eq v 8 8
  have hindex : bits v 2 0 = v.toNat % 8 := bits_low v 2
  rw [intcSwi, hcore, hindex, Chip.modCore]

/-- An admitted master's write on a quiet device, where it leaves nothing to do. -/
theorem store_of_quiet {a : Nat} {s : State} (hq : s.Quiet) (hm : admits 8 m.port = true)
    (hw : regWrite m a v s.env s.chip = c) (hd : c.duties = s.chip.duties) : store m a v s = .next (s.withChip c) := by
  rw [store_of_admits hq.1 hm, hw]
  exact congrArg _ (State.settle_of_quiet (s := s.withChip c) (hd.trans hq.2))

/-- Settles O20: each command is its register's write, and the lemmas above say what the write changes; none of it is a duty of
the device. -/
theorem claimDoneAndSoftwareInterrupts : Obligations.ClaimDoneAndSoftwareInterrupts := by
  refine ⟨?claims, ?latches⟩
  case claims =>
    intro m t v s hq ht hport hm n c goes
    have hclaim {d : Chip} (h : intcClaim m t.toNat v c = d) (hd : d.duties = c.duties) :
        exec (.intcClaim m t v) s = goes d :=
      store_of_quiet hq hport ((regWrite_intcClaim ht ..).trans h) hd
    have hdone {d : Chip} (h : intcDone m t.toNat v c = d) (hd : d.duties = c.duties) :
        exec (.intcDone m t v) s = goes d :=
      store_of_quiet hq hport ((regWrite_intcDone ht ..).trans h) hd
    exact ⟨fun hp hpriv hswi => hclaim (intcClaim_of_private hm rfl hp hpriv hswi) rfl,
      fun hp hshared hrobin => hclaim (intcClaim_of_shared hm rfl hp hshared hrobin) rfl,
      fun hp => hclaim (intcClaim_of_not_presented hm rfl hp) rfl,
      fun hshared hserved => hdone (intcDone_of_shared hm rfl hshared hserved) rfl,
      fun hpriv hserved => hdone (intcDone_of_private hm rfl hpriv hserved) rfl,
      fun hshared hpriv => hdone (intcDone_of_not_in_service hm rfl hshared hpriv) rfl⟩
  case latches =>
    intro m v s hq hport n i k
    have hkeeps (swi : BitVec 8) : (s.chip.setCore n { k with swi := swi }).duties = s.chip.duties :=
      Chip.duties_setCore _ _ _ rfl
    refine ⟨k.swi ||| BitVec.ofNat 8 (2 ^ i), k.swi &&& ~~~BitVec.ofNat 8 (2 ^ i), fun j hj => ?_, fun j hj => ?_,
      store_of_quiet hq hport ((regWrite_intcSwiSet ..).trans (intcSwi_eq true v s.chip)) (hkeeps _),
      store_of_quiet hq hport ((regWrite_intcSwiClr ..).trans (intcSwi_eq false v s.chip)) (hkeeps _)⟩
    · rw [BitVec.getLsbD_or, getLsbD_latch hj]
    · rw [BitVec.getLsbD_and, BitVec.getLsbD_not, getLsbD_latch hj, decide_eq_true hj, Bool.true_and, decide_not]

end Sys2Proof.Machine
end

section
/-! PROOF. A core's own timer and its watchdog (11_clerk_cores_and_interrupts.md, R407, R408). -/

namespace Sys2Proof.Machine

variable {n z : Nat} {e : Env} {c : Chip}

/-! ### Control registers and cores -/

theorem Core.crw_setCrw_of_ne (k : Core) {a b : Nat} (h : b ≠ a) (v : Word) : (k.setCrw a v).crw b = k.crw b :=
  getS_putS_of_ne h _ _ v k.cr

theorem Chip.modCore_setCore (c : Chip) (n : Nat) (k : Core) (f : Core → Core) :
    (c.setCore n k).modCore n f = c.setCore n (f k) :=
  Chip.modCore_modCore c n (fun _ => k) f

theorem word_toNat (w : Word) : word w.toNat = w := BitVec.ofNat_toNat 32 w |>.trans (BitVec.setWidth_eq w)

/-! ### The core's timer (R407) -/

/-- Core `k` as its timer reaches zero at count `z`. -/
def Core.expired (k : Core) (z : Nat) : Core :=
  if (k.crw 0x50).getLsbD 1 then
    { k.setCrw 0x53 1 with tmrZero := some (z + max 1 ((k.setCrw 0x53 1).crw 0x51).toNat) }
  else { ((k.setCrw 0x53 1).setCrw 0x50 ((k.setCrw 0x53 1).crw 0x50 &&& ~~~1)).setCrw 0x52 0 with tmrZero := none }

theorem Core.expired_expects (k : Core) (z : Nat) : (k.expired z).expects = k.expects := by
  unfold Core.expired
  split <;> rfl

theorem tmrExpire_of_due (hz : (c.core n).tmrZero = some z) (hdue : z ≤ e.now) :
    tmrExpire e n c = c.setCore n ((c.core n).expired z) := by
  have hrepeat : ((c.core n).setCrw 0x53 1).crw 0x50 = (c.core n).crw 0x50 := Core.crw_setCrw_of_ne _ (by decide) 1
  rw [tmrExpire, Chip.modCore, hz]
  dsimp only
  rw [if_pos hdue, Core.expired, hrepeat]

theorem State.advTo_core (s : State) (t n : Nat) : (s.advTo t).chip.core n = s.chip.core n := by
  obtain ⟨r, hr⟩ := s.advTo_chip_eq_regs t
  rw [hr]
  rfl

theorem State.advTo_duties (s : State) (t : Nat) : (s.advTo t).chip.duties = s.chip.duties := by
  obtain ⟨r, hr⟩ := s.advTo_chip_eq_regs t
  rw [hr]
  rfl

/-- The timer's zero moves the count on to it and changes the core alone. -/
theorem exec_tmrExpire_of_due {core : BitVec 1} {s : State} (hq : s.Quiet) (hs : s.chip.slow = false)
    (hz : (s.chip.core core.toNat).tmrZero = some z) :
    exec (.tmrExpire core) s = .next ((s.advTo z).withCore core.toNat ((s.chip.core core.toNat).expired z)) := by
  have hzero : ((s.advTo z).chip.core core.toNat).tmrZero = some z := by rw [s.advTo_core, hz]
  have hexpire : tmrExpire { now := z, fuses := s.fuses } core.toNat (s.advTo z).chip =
      (s.advTo z).chip.setCore core.toNat ((s.chip.core core.toNat).expired z) := by
    rw [tmrExpire_of_due hzero (Nat.le_refl z), s.advTo_core]
  have hduties : ((s.advTo z).chip.setCore core.toNat ((s.chip.core core.toNat).expired z)).duties = false := by
    rw [Chip.duties_setCore _ _ _ (by rw [s.advTo_core, Core.expired_expects]), s.advTo_duties, hq.2]
  change runDue (s.chip.core core.toNat).tmrZero (tmrExpire · core.toNat) s = _
  rw [hz, runDue, runAt_of_powered hq.1 hs, State.becomesAt, hexpire]
  exact congrArg _ (State.settle_of_quiet (s := (s.advTo z).withCore core.toNat _) hduties)

/-! ### The watchdog (R408) -/

theorem bits_15_0 (w : Word) : bits w 15 0 = w.toNat % 65536 := bits_low w 15

theorem Core.kick_of_key {v : Word} (h : v.toNat % 65536 = 0xC1E4) (k : Core) : k.kick v = k.setCrw 0x5B (k.crw 0x59) := by
  rw [Core.kick, bits_15_0, if_pos h]

theorem Core.kick_of_other {v : Word} (h : v.toNat % 65536 ≠ 0xC1E4) (k : Core) :
    k.kick v = k.setCrw 0x5D (k.crw 0x5D ||| 2) := by
  rw [Core.kick, bits_15_0, if_neg h]

/-- Core `k` as its watchdog's count comes to `w`: passing WARN sets the warning bit. -/
def Core.wdgCount (k : Core) (w : Word) : Core :=
  if w ≤ k.crw 0x5A ∧ k.crw 0x5A < k.crw 0x5B then (k.setCrw 0x5B w).setCrw 0x5D ((k.setCrw 0x5B w).crw 0x5D ||| 1)
  else k.setCrw 0x5B w

theorem Core.wdgCount_expects (k : Core) (w : Word) : (k.wdgCount w).expects = k.expects := by
  unfold Core.wdgCount
  split <;> rfl

/-- The watchdog of core `n` expires: it is reloaded, the core's reset is due, and the fault is reported. -/
def Chip.wdgExpired (c : Chip) (e : Env) (n : Nat) : Chip :=
  let d := (c.modCore n fun k => (k.setCrw 0x5D (k.crw 0x5D ||| 4)).setCrw 0x5B (k.crw 0x59)).setBit A.SYS_RST_CAUSE (8 + n)
  let due := d.pwr.due
  Chip.report e 0x12 clsSevere n 0 { d with pwr := { d.pwr with
    due := if n = 0 then { due with core0 := true, reload0 := true } else { due with core1 := true, reload1 := true } } }

theorem wdgReach_of_on (hn : n < 2) (hon : c.wdgOn n = true) (w : Word) :
    wdgReach e n w.toNat c =
      let d := c.setCore n ((c.core n).wdgCount w)
      if w.toNat = 0 then d.wdgExpired e n else d := by
  simp only [wdgReach, hon, if_true, word_toNat, Core.wdgCount, Bool.and_eq_true, decide_eq_true_eq, BitVec.le_def, BitVec.lt_def,
    Nat.mod_eq_of_lt hn]
  rfl

theorem wdgReach_of_ne_zero (hn : n < 2) (hon : c.wdgOn n = true) {w : Word} (hw : w ≠ 0) :
    wdgReach e n w.toNat c = c.setCore n ((c.core n).wdgCount w) :=
  (wdgReach_of_on hn hon w).trans (if_neg fun h => hw (BitVec.eq_of_toNat_eq h))

theorem wdgReach_zero (hn : n < 2) (hon : c.wdgOn n = true) :
    wdgReach e n 0 c = (c.setCore n ((c.core n).wdgCount 0)).wdgExpired e n :=
  wdgReach_of_on hn hon 0

/-- Settles O21: the timer's zero is `Core.expired`, a kick is `Core.kick`, and the watchdog's count comes to WARN or to 0 by
`Core.wdgCount`. -/
theorem privateTimerAndWatchdog : Obligations.PrivateTimerAndWatchdog := by
  intro core v z s hq n k k0
  have hctl : k0.crw 0x50 = k.crw 0x50 := Core.crw_setCrw_of_ne k (by decide) 1
  refine ⟨fun hs hz _ hrepeat => ?repeats, fun hs hz _ honce => ?once, fun hkey => ?kick, fun hother => ?badKick,
    fun hon hwarn hpos => ?warning, fun hon => ?expiry⟩
  case repeats =>
    rw [exec_tmrExpire_of_due hq hs hz, Core.expired, if_pos hrepeat]
  case once =>
    have hstop : ¬((s.chip.core core.toNat).crw 0x50).getLsbD 1 = true := Bool.eq_false_iff.mp (hctl ▸ honce)
    rw [exec_tmrExpire_of_due hq hs hz, Core.expired, if_neg hstop]
  case kick => exact run_of_quiet_withCore hq (congrArg (s.chip.setCore n) (k.kick_of_key hkey)) rfl
  case badKick => exact run_of_quiet_withCore hq (congrArg (s.chip.setCore n) (k.kick_of_other hother)) rfl
  case warning =>
    have hcount : k.wdgCount (k.crw 0x5A) =
        (k.setCrw 0x5B (k.crw 0x5A)).setCrw 0x5D ((k.setCrw 0x5B (k.crw 0x5A)).crw 0x5D ||| 1) :=
      if_pos ⟨BitVec.le_refl _, hwarn⟩
    rw [← hcount]
    exact run_of_quiet_withCore hq ((if_pos hwarn).trans (wdgReach_of_ne_zero core.isLt hon hpos)) (k.wdgCount_expects _)
  case expiry =>
    have hcount : k.wdgCount 0 = if k.crw 0x5A < k.crw 0x5B then
        (k.setCrw 0x5B 0).setCrw 0x5D ((k.setCrw 0x5B 0).crw 0x5D ||| 1) else k.setCrw 0x5B 0 :=
      ite_congr (propext (and_iff_right (BitVec.le_def.mpr (Nat.zero_le _)))) (fun _ => rfl) fun _ => rfl
    intro k1 k2 d due
    have hreach := wdgReach_zero (e := s.env) core.isLt hon
    rw [Chip.wdgExpired, Chip.modCore_setCore, hcount] at hreach
    exact (run_of_powered hq.1).trans (next_becomes_congr hreach)

end Sys2Proof.Machine
end

section
/-! PROOF. Debug halt and resume of a core (11_clerk_cores_and_interrupts.md, R410, R411), and its reset
(17_modes_power_reset.md, R584). -/

namespace Sys2Proof.Machine

variable {n r : Nat} {e : Env} {c : Chip}

/-! ### Cores and the general timers -/

theorem Chip.core_setCore_other (hn : n < 2) (c : Chip) (k : Core) : (c.setCore n k).core (1 - n) = c.core (1 - n) := by
  have hcores : n = 0 ∨ n = 1 := by omega
  rcases hcores with rfl | rfl <;> rfl

theorem Chip.regs_setCore (c : Chip) (n : Nat) (k : Core) : (c.setCore n k).regs = c.regs := by
  unfold Chip.setCore
  split <;> rfl

/-- No general timer runs, so that none is brought up to the present count (R545). -/
def Chip.TimersStopped (c : Chip) : Prop := ∀ i, i < 16 → c.timRunning i = false

theorem Chip.TimersStopped.of_regs {d : Chip} (h : c.TimersStopped) (hregs : d.regs = c.regs) : d.TimersStopped := by
  intro i hi
  rw [Chip.timRunning, Chip.bit, Chip.rd, hregs]
  exact h i hi

theorem Chip.timSync_of_not_running {i : Nat} (h : c.timRunning i = false) : c.timSync e i = c := by
  rw [Chip.timSync, h, Bool.not_false, if_pos rfl]

theorem Chip.foldl_timSync_of_not_running {l : List Nat} (h : ∀ i ∈ l, c.timRunning i = false) :
    l.foldl (fun c i => c.timSync e i) c = c := by
  induction l with
  | nil => rfl
  | cons i l ih =>
    rw [List.foldl_cons, Chip.timSync_of_not_running (h i List.mem_cons_self)]
    exact ih fun j hj => h j (List.mem_cons_of_mem i hj)

theorem Chip.TimersStopped.timSyncAll (h : c.TimersStopped) : c.timSyncAll e = c :=
  Chip.foldl_timSync_of_not_running fun i hi => h i (List.mem_range.mp hi)

/-! ### Debug halt (R410) -/

/-- The timer's control register and deadline are all that keeping it in step can change. -/
theorem Core.tmrSync_eq (now : Nat) (k : Core) : ∃ cr zero, k.tmrSync now = { k with cr := cr, tmrZero := zero } := by
  unfold Core.tmrSync
  split <;> split <;> exact ⟨_, _, rfl⟩

theorem Core.halt_eq (now r : Nat) (k : Core) : ∃ cr zero, k.halt now r =
    { k with run := .halted, cyc := k.cycles now, stepping := false, watchHit := false, cr := cr, tmrZero := zero } :=
  Core.tmrSync_eq now _

/-- A halted core keeps its registers and its program counter. -/
theorem Core.halt_keeps (now r : Nat) (k : Core) :
    (k.halt now r).run = .halted ∧ (k.halt now r).g = k.g ∧ (k.halt now r).pc = k.pc ∧ (k.halt now r).psw = k.psw ∧
    (k.halt now r).a0 = k.a0 ∧ (k.halt now r).a1 = k.a1 := by
  obtain ⟨cr, zero, hhalt⟩ := k.halt_eq now r
  rw [hhalt]
  exact ⟨rfl, rfl, rfl, rfl, rfl, rfl⟩

theorem haltCore_of_alone (hn : n < 2) (h : ((c.core (1 - n)).crw 0x60).getLsbD 1 = false) :
    haltCore e n r c = c.setCore n ((c.core n).halt e.now r) := by
  simp only [haltCore, Chip.modCore, Chip.core_setCore_other hn, h, Bool.false_and, Bool.false_eq_true, if_false]

/-- R410: a core with XHALT follows the other into debug halt. -/
theorem haltCore_of_follower (hn : n < 2) (h : ((c.core (1 - n)).crw 0x60).getLsbD 1 = true)
    (hrun : (c.core (1 - n)).run = .running) :
    haltCore e n r c = (c.setCore n ((c.core n).halt e.now r)).setCore (1 - n) ((c.core (1 - n)).halt e.now 5) := by
  simp only [haltCore, Chip.modCore, Chip.core_setCore_other hn, h, hrun, decide_true, Bool.true_or, Bool.and_self, if_true]

theorem debugHalt_of_due (hstop : c.TimersStopped) (hrun : (c.core n).run = .running ∨ (c.core n).run = .waiting)
    (hdue : (c.core n).haltDue = some r) : debugHalt n e c = haltCore e n r c := by
  have hmay : (decide ((c.core n).run = .running) || decide ((c.core n).run = .waiting)) = true := by
    rw [← Bool.decide_or, decide_eq_true hrun]
  simp only [debugHalt, hmay, if_true, hdue, haltNow, hstop.timSyncAll]

theorem debugHalt_of_not_due (hdue : (c.core n).haltDue = none) : debugHalt n e c = c := by
  simp only [debugHalt, hdue, ite_self]

/-! ### DBG_CTL (R410 to R412) -/

/-- Core `k` after a write of its DBG_CTL: four settings, and HALT_REQ, which a write can set alone. -/
def Core.writeDbgCtl (k : Core) (v : Word) : Core := k.setCrw 0x60 ((v &&& 0xF) ||| ((k.crw 0x60 ||| v) &&& 0x10))

theorem regWrite_dbgCtl (hn : n < 2) (m : Master) (v : Word) (e : Env) (c : Chip) :
    regWrite m (dbgCtlAddr n) v e c =
      let d := c.setCore n ((c.core n).writeDbgCtl v)
      if v.getLsbD 5 then resumeCore e n (d.timSyncAll e) else d := by
  have hcores : n = 0 ∨ n = 1 := by omega
  rcases hcores with rfl | rfl <;> rfl

theorem settings_mask : ∀ i < 32, (0xF : Word).getLsbD i = decide (i < 4) := by decide

theorem haltReq_mask : ∀ i < 32, (0x10 : Word).getLsbD i = decide (i = 4) := by decide

theorem resume_mask : ∀ i < 32, (0x20 : Word).getLsbD i = decide (i = 5) := by decide

/-- The write of HALT_REQ sets it. -/
theorem Core.writeDbgCtl_haltReq (k : Core) (v : Word) :
    k.writeDbgCtl (setBitTo v 4 true) = k.setCrw 0x60 ((v &&& 0xF) ||| 0x10) := by
  change k.setCrw 0x60 (((v ||| 0x10) &&& 0xF) ||| ((k.crw 0x60 ||| (v ||| 0x10)) &&& 0x10)) = _
  congr 1
  apply BitVec.eq_of_getLsbD_eq
  intro i hi
  simp only [BitVec.getLsbD_or, BitVec.getLsbD_and, settings_mask i hi, haltReq_mask i hi]
  by_cases hreq : i = 4
  · simp [hreq]
  · simp [hreq]

/-- RESUME is no bit that DBG_CTL stores. -/
theorem Core.writeDbgCtl_resume (k : Core) (v : Word) : k.writeDbgCtl (setBitTo v 5 true) = k.writeDbgCtl v := by
  change k.setCrw 0x60 (((v ||| 0x20) &&& 0xF) ||| ((k.crw 0x60 ||| (v ||| 0x20)) &&& 0x10)) = _
  rw [Core.writeDbgCtl]
  congr 1
  apply BitVec.eq_of_getLsbD_eq
  intro i hi
  simp only [BitVec.getLsbD_or, BitVec.getLsbD_and, settings_mask i hi, haltReq_mask i hi, resume_mask i hi]
  by_cases hresume : i = 5
  · simp [hresume]
  · simp [hresume]

/-- A write of RESUME to a halted core. -/
theorem regWrite_dbgCtl_of_resume (hn : n < 2) (hstop : c.TimersStopped) (hrun : (c.core n).run = .halted)
    (m : Master) (v : Word) :
    regWrite m (dbgCtlAddr n) (setBitTo v 5 true) e c =
      let k := (c.core n).writeDbgCtl v
      c.setCore n (Core.tmrSync e.now { k with run := .running, cycFrom := e.now, stepping := (k.crw 0x60).getLsbD 2 }) := by
  have hset : (setBitTo v 5 true).getLsbD 5 = true := by simp [setBitTo]
  have hhalted : ((c.core n).writeDbgCtl v).run = .halted := hrun
  have hstop' := hstop.of_regs (c.regs_setCore n ((c.core n).writeDbgCtl v))
  rw [regWrite_dbgCtl hn, Core.writeDbgCtl_resume]
  dsimp only
  rw [if_pos hset, hstop'.timSyncAll, resumeCore, Chip.modCore_setCore, if_pos hhalted]

/-! ### The core's reset (R584) -/

/-- A reset of core `n` is due. -/
def Chip.resetDue (c : Chip) (n : Nat) : Bool := if n = 0 then c.pwr.due.core0 else c.pwr.due.core1

/-- The chip as the reset of core `n` begins: it is due no more. -/
def Chip.resetTaken (c : Chip) (n : Nat) : Chip :=
  let d := c.pwr.due
  { c with pwr := { c.pwr with
    due := if n = 0 then { d with core0 := false, reload0 := false } else { d with core1 := false, reload1 := false } } }

/-- Both caches of core `n` cleaned and invalidated (R439). -/
def Chip.cachesEmptied (c : Chip) (e : Env) (n : Nat) : Chip := (c.wholeCacheOp e n 3).wholeCacheOp e n 4

theorem wbDrain_of_nil (h : (c.core n).wb = []) : wbDrain n e c = c := by
  rw [wbDrain, h, List.foldl_nil]

/-- The restart address where Core 0's entry bit is set, or it is not Core 0 that restarts. -/
theorem Chip.restartAt_eq (h : c.bit A.FLT_STAT 3 = true ∨ n = 1 ∨ c.bit A.SYS_CORE_CTL 0 = true) :
    c.restartAt n =
      if c.bit A.FLT_STAT 3 then none
      else if n = 0 then some (c.rd A.SYS_C0_ENTRY)
      else if c.bit A.SYS_CORE_CTL 1 then some (c.rd A.SYS_C1_ENTRY) else none := by
  rcases h with hheld | rfl | hentry
  · simp only [Chip.restartAt, hheld, if_true]
  · rfl
  · simp only [Chip.restartAt, hentry, if_true]

/-- The controller's part in a core's reset leaves SYS_CORE_CTL. -/
theorem intcCoreReset_rd_sysCoreCtl (hn : n < 2) (c : Chip) : (intcCoreReset n c).rd A.SYS_CORE_CTL = c.rd A.SYS_CORE_CTL := by
  have hen (k : Nat) : A.SYS_CORE_CTL ≠ A.INTC_ENk n k := by
    rw [A.SYS_CORE_CTL, A.INTC_ENk]
    omega
  have htstat : A.SYS_CORE_CTL ≠ A.INTC_TSTAT n := by
    rw [A.SYS_CORE_CTL, A.INTC_TSTAT]
    omega
  have hdisabled (l : List Nat) (d : Chip) :
      (l.foldl (fun c k => c.wr (A.INTC_ENk n k) 0) d).rd A.SYS_CORE_CTL = d.rd A.SYS_CORE_CTL := by
    induction l generalizing d with
    | nil => rfl
    | cons k l ih => rw [List.foldl_cons, ih, Chip.rd_wr_of_ne (hen k)]
  rw [intcCoreReset]
  dsimp only
  rw [Chip.modCore, Chip.rd, Chip.regs_setCore, ← Chip.rd, Chip.rd_wr_of_ne htstat, hdisabled]
  rfl

/-- The chip after the reset of core `n`, from the chip with its caches emptied. -/
def Chip.resetCore (c : Chip) (n now : Nat) (reload : Bool) : Chip :=
  intcCoreReset n (c.setCore n ((c.core n).resetRegs now (c.restartAt n) reload))

theorem Chip.resetCore_bit_entry (hn : n < 2) (c : Chip) (now : Nat) (reload : Bool) :
    (c.resetCore n now reload).bit A.SYS_CORE_CTL 0 = c.bit A.SYS_CORE_CTL 0 := by
  rw [Chip.resetCore, Chip.bit, intcCoreReset_rd_sysCoreCtl hn, Chip.rd, Chip.regs_setCore]
  rfl

/-- A core's reset once its caches are emptied: Core 0 without its entry bit goes on in the boot ROM. -/
def Chip.restarted (c : Chip) (n : Nat) (e : Env) (reload flash : Bool) : Chip :=
  let d := c.resetCore n e.now reload
  if n = 0 && (c.restartAt n).isSome && !d.bit A.SYS_CORE_CTL 0 then bootRom true flash e d else d

theorem Chip.restarted_of_entry (hn : n < 2)
    (hentry : c.bit A.FLT_STAT 3 = true ∨ n = 1 ∨ c.bit A.SYS_CORE_CTL 0 = true) (e : Env) (reload flash : Bool) :
    c.restarted n e reload flash = c.resetCore n e.now reload := by
  have hno : ¬(n = 0 && (c.restartAt n).isSome && !(c.resetCore n e.now reload).bit A.SYS_CORE_CTL 0) = true := by
    rw [Chip.resetCore_bit_entry hn]
    rcases hentry with hheld | rfl | hbit
    · simp [Chip.restartAt, hheld]
    · simp
    · simp [hbit]
  exact if_neg hno

theorem coreReset_eq (n : Nat) (flash : Bool) (e : Env) (c : Chip) :
    coreReset n flash e c =
      if !c.resetDue n then c
      else ((wbDrain n e ((c.resetTaken n).timSyncAll e)).cachesEmptied e n).restarted n e
        (if n = 0 then c.pwr.due.reload0 else c.pwr.due.reload1) flash := rfl

theorem coreReset_of_not_due (h : c.resetDue n = false) (flash : Bool) : coreReset n flash e c = c := by
  rw [coreReset_eq, h, Bool.not_false, if_pos rfl]

/-- A reset that is due, with no store in the write buffer. -/
theorem coreReset_of_due (hdue : c.resetDue n = true) (hstop : c.TimersStopped) (hwb : (c.core n).wb = []) (flash : Bool) :
    coreReset n flash e c = ((c.resetTaken n).cachesEmptied e n).restarted n e
      (if n = 0 then c.pwr.due.reload0 else c.pwr.due.reload1) flash := by
  have hstop' : (c.resetTaken n).TimersStopped := hstop.of_regs rfl
  have hwb' : ((c.resetTaken n).core n).wb = [] := hwb
  rw [coreReset_eq, hdue, Bool.not_true, if_neg Bool.false_ne_true, hstop'.timSyncAll, wbDrain_of_nil hwb']

/-- Settles O22: a halt request and a resume are writes of DBG_CTL, a halt that is due is `haltCore`, and a reset that is due
restarts or holds its core once its caches are emptied. -/
theorem debugUnitAndCoreReset : Obligations.DebugUnitAndCoreReset := by
  intro m core v flash r s hp n c now k o d noTimer
  refine ⟨fun hm hresume => ?haltReq, fun hstop hrun hdue halone => ?halt, fun hstop hrun hdue hfollow horun => ?follow,
    fun hdue => ?noHalt, k.halt_keeps now r, ?resume, fun hdue => ?noReset, ?reset⟩
  case haltReq =>
    have hset : (setBitTo v 4 true).getLsbD 5 = false := by
      rw [setBitTo, if_pos rfl, BitVec.getLsbD_or, hresume]
      rfl
    have hwrite : regWrite m (dbgCtlAddr n) (setBitTo v 4 true) s.env c =
        c.setCore n (k.setCrw 0x60 ((v &&& 0xF) ||| 0x10)) := by
      rw [regWrite_dbgCtl core.isLt, hset, Core.writeDbgCtl_haltReq]
      exact if_neg Bool.false_ne_true
    exact (store_of_admits hp hm).trans (next_becomes_congr hwrite)
  case halt =>
    have hhalt := (debugHalt_of_due (e := s.env) hstop hrun hdue).trans (haltCore_of_alone core.isLt halone)
    exact (run_of_powered hp).trans (next_becomes_congr hhalt)
  case follow =>
    have hhalt := (debugHalt_of_due (e := s.env) hstop hrun hdue).trans (haltCore_of_follower core.isLt hfollow horun)
    exact (run_of_powered hp).trans (next_becomes_congr hhalt)
  case noHalt => exact (run_of_powered hp).trans (next_becomes_congr (debugHalt_of_not_due hdue))
  case resume =>
    intro k1 hstop hm hrun
    exact (store_of_admits hp hm).trans (next_becomes_congr (regWrite_dbgCtl_of_resume core.isLt hstop hrun m v))
  case noReset => exact (run_of_powered hp).trans (next_becomes_congr (coreReset_of_not_due hdue flash))
  case reset =>
    intro hdue hstop hwb c0 c1 hentry
    have hreset := (coreReset_of_due (e := s.env) hdue hstop hwb flash).trans
      (Chip.restarted_of_entry core.isLt hentry s.env _ flash)
    rw [Chip.resetCore, Chip.restartAt_eq hentry] at hreset
    exact (run_of_powered hp).trans (next_becomes_congr hreset)

end Sys2Proof.Machine
end

section
/-! PROOF. Exclusive ownership at the Registry (12_caches_and_coherence.md, R426, R427): a grant of ownership takes the line
from every other member and then places it, which changes the grantee's own cache alone. -/

namespace Sys2Proof.Machine

variable {c d : Chip} {e : Env} {x y i k line : Nat}

/-! ### The caches of the members (R415, R426): what a write of one leaves of the others -/

theorem Chip.cache_setCache_self (hi : i < 3) (c : Chip) (m : SMap CLine) : (c.setCache i m).cache i = m := by
  match i, hi with
  | 0, _ | 1, _ | 2, _ => rfl

theorem Chip.cache_setCache_of_ne (hy : y < 3) (hi : i < 3) (hne : y ≠ i) (c : Chip) (m : SMap CLine) :
    (c.setCache i m).cache y = c.cache y := by
  match y, hy, i, hi with
  | 0, _, 0, _ | 1, _, 1, _ | 2, _, 2, _ => exact absurd rfl hne
  | 0, _, 1, _ | 0, _, 2, _ | 1, _, 0, _ | 1, _, 2, _ | 2, _, 0, _ | 2, _, 1, _ => rfl

theorem Chip.cache_of_caches_eq (h : d.caches = c.caches) (y : Nat) : d.cache y = c.cache y := by
  unfold Chip.cache
  rw [h]

theorem Chip.way_of_cache_eq (h : d.cache y = c.cache y) (k : Nat) : d.way y k = c.way y k := by
  rw [Chip.way, h, Chip.way]

theorem Chip.findLine_of_cache_eq (h : d.cache y = c.cache y) (line : Nat) : d.findLine y line = c.findLine y line := by
  simp only [Chip.findLine, Chip.way_of_cache_eq h]

theorem Chip.cache_setWay_of_ne (hy : y < 3) (hi : i < 3) (hne : y ≠ i) (c : Chip) (k : Nat) (l : CLine) :
    (c.setWay i k l).cache y = c.cache y :=
  Chip.cache_setCache_of_ne hy hi hne c _

theorem Chip.writeLine_caches (c : Chip) (line mask : Nat) (data : List Byte) : (c.writeLine line mask data).caches = c.caches := by
  refine List.foldlRecOn (motive := fun d : Chip => d.caches = c.caches) _ _ rfl fun d hd i _ => ?_
  split <;> exact hd

theorem Chip.cache_retire (c : Chip) (line y : Nat) : (c.retire line).cache y = c.cache y := by
  unfold Chip.retire
  split
  · rfl
  · exact Chip.cache_of_caches_eq (Chip.writeLine_caches ..) y

section
variable (hy : y < 3) (hi : i < 3) (hne : y ≠ i)
include hy hi hne

theorem Chip.cache_writeBack_of_ne (e : Env) (c : Chip) (k : Nat) (st : LineState) :
    (c.writeBack e i k st).cache y = c.cache y := by
  unfold Chip.writeBack
  dsimp only
  split
  · rw [Chip.cache_setWay_of_ne hy hi hne, Chip.cache_of_caches_eq (Chip.writeLine_caches ..)]
  · split
    · exact Chip.cache_setWay_of_ne hy hi hne ..
    · rfl

theorem Chip.cache_victim_of_ne (e : Env) (c : Chip) (line : Nat) (perm : List Nat) :
    (c.victim e i line perm).2.cache y = c.cache y := by
  unfold Chip.victim
  dsimp only
  split
  · rfl
  · have aged (a n : Nat) (keys : List Nat) : Chip.cache (if a = 3 then c
        else keys.foldl (fun c k => c.setWay i k { c.way i k with age := (c.way i k).age + n }) c) y = c.cache y := by
      split
      · rfl
      · exact List.foldlRecOn (motive := fun d : Chip => d.cache y = c.cache y) _ _ rfl fun d hd k _ =>
          (Chip.cache_setWay_of_ne hy hi hne d k _).trans hd
    split
    · exact aged ..
    · split <;> exact aged ..

theorem Chip.cache_install_of_ne (e : Env) (c : Chip) (perm : List Nat) (l : CLine) :
    (c.install e i perm l).cache y = c.cache y := by
  rw [Chip.install, Chip.cache_setWay_of_ne hy hi hne, Chip.cache_writeBack_of_ne hy hi hne,
    Chip.cache_victim_of_ne hy hi hne]

theorem Chip.cache_place_of_ne (e : Env) (c : Chip) (r : Nat) (streaming : Bool) (l : CLine) :
    (c.place e i r streaming l).cache y = c.cache y := by
  unfold Chip.place
  split
  · exact Chip.cache_setWay_of_ne hy hi hne ..
  · dsimp only
    split
    · rfl
    · exact Chip.cache_install_of_ne hy hi hne ..

end

/-! ### The ways of a cache in canonical form -/

/-- The members' caches are in canonical form. -/
def Chip.MembersWf (c : Chip) : Prop := ∀ y, y < 3 → wfFrom (fun _ => ({} : CLine)) 0 (c.cache y) = true

theorem Chip.way_setWay_of_ne_member (hy : y < 3) (hi : i < 3) (hne : y ≠ i) (c : Chip) (k : Nat) (l : CLine) (j : Nat) :
    (c.setWay i k l).way y j = c.way y j :=
  Chip.way_of_cache_eq (Chip.cache_setWay_of_ne hy hi hne c k l) j

theorem Chip.way_setWay (hi : i < 3) (h : wfFrom (fun _ => ({} : CLine)) 0 (c.cache i) = true) (k : Nat) (l : CLine) (j : Nat) :
    (c.setWay i k l).way i j = if j = k then (if l.st = .i then {} else l) else c.way i j := by
  rw [Chip.way, Chip.setWay, Chip.cache_setCache_self hi]
  exact getS_putS k j _ h

theorem Chip.MembersWf.setWay (h : c.MembersWf) (hi : i < 3) (k : Nat) (l : CLine) : (c.setWay i k l).MembersWf := by
  intro y hy
  by_cases hyi : y = i
  · subst hyi
    rw [Chip.setWay, Chip.cache_setCache_self hi]
    exact wfFrom_putS _ (h y hy) (Nat.zero_le k)
  · rw [Chip.cache_setWay_of_ne hy hi hyi]
    exact h y hy

/-- A way in which a member holds a line. -/
def Chip.HoldsAt (c : Chip) (y line k : Nat) : Prop := (c.way y k).st ≠ .i ∧ (c.way y k).line = line

theorem Chip.holdsAt_of_findLine (h : c.findLine y line = some k) : c.HoldsAt y line k := by
  simpa [Chip.HoldsAt] using List.find?_some h

/-- The ways of the line's set are searched. -/
theorem Chip.findLine_eq_none_iff :
    c.findLine y line = none ↔ ∀ w < cacheWays y, ¬c.HoldsAt y line (wayKey y line w) := by
  simp [Chip.findLine, Chip.HoldsAt]

/-! ### The other members give the line up (R427) -/

theorem Chip.mem_holders : (y, k) ∈ c.holders x line ↔ y < 3 ∧ y ≠ x ∧ c.findLine y line = some k := by
  have hmember : y ∈ [0, 1, 2] ↔ y < 3 := by
    simp only [List.mem_cons, List.not_mem_nil, or_false]
    omega
  rw [← and_assoc, ← hmember]
  simp [Chip.holders]

theorem Chip.downgrade_invalid_cons (e : Env) (c : Chip) (i k : Nat) (hs : List (Nat × Nat)) :
    c.downgrade e ((i, k) :: hs) .i = (c.setWay i k {}).downgrade e hs .i := rfl

/-- Each way of the list loses its line, and the others keep theirs. -/
theorem Chip.way_downgrade_invalid (h : c.MembersWf) {hs : List (Nat × Nat)} (hhs : ∀ p ∈ hs, p.1 < 3) (hy : y < 3) (e : Env)
    (j : Nat) : (c.downgrade e hs .i).way y j = if (y, j) ∈ hs then {} else c.way y j := by
  induction hs generalizing c with
  | nil => rfl
  | cons p hs ih =>
    obtain ⟨i, k⟩ := p
    have hi : i < 3 := hhs (i, k) (List.mem_cons_self ..)
    rw [Chip.downgrade_invalid_cons, ih (h.setWay hi k {}) fun p hp => hhs p (List.mem_cons_of_mem _ hp)]
    by_cases hyi : y = i
    · subst hyi
      rw [Chip.way_setWay hi (h y hi)]
      by_cases hj : j = k <;> simp [hj]
    · rw [Chip.way_setWay_of_ne_member hy hi hyi]
      simp [hyi]

/-- Where a member holds the line in one way alone, that way is the one that is given up. -/
theorem Chip.findLine_downgrade_holders (h : c.MembersWf)
    (hone : ∀ i j, c.HoldsAt y line i → c.HoldsAt y line j → i = j) (hy : y < 3) (hne : y ≠ x) (e : Env) :
    (c.downgrade e (c.holders x line) .i).findLine y line = none := by
  rw [Chip.findLine_eq_none_iff]
  intro w hw hheld
  rw [Chip.HoldsAt, Chip.way_downgrade_invalid h (fun p hp => (Chip.mem_holders.mp hp).1) hy] at hheld
  split at hheld
  · exact hheld.1 rfl
  · next hnot =>
    cases hfind : c.findLine y line with
    | none => exact Chip.findLine_eq_none_iff.mp hfind w hw hheld
    | some k =>
      have hk := hone _ _ hheld (Chip.holdsAt_of_findLine hfind)
      exact hnot (Chip.mem_holders.mpr ⟨hy, hne, hk ▸ hfind⟩)

/-! ### The grant -/

/-- Settles O47: the way in which another member holds the line is given up, and the line is then placed in the grantee's
cache alone. -/
theorem ownershipIsExclusive : Obligations.OwnershipIsExclusive := by
  intro c e x line r streaming rec hx hwf hone y hy hne
  have hretire : ∀ z, (c.retire line).cache z = c.cache z := c.cache_retire line
  have hwf' : (c.retire line).MembersWf := fun z hz => (hretire z).symm ▸ hwf z hz
  have hone' : ∀ i j, (c.retire line).HoldsAt y line i → (c.retire line).HoldsAt y line j → i = j := by
    intro i j hi hj
    rw [Chip.HoldsAt, Chip.way_of_cache_eq (hretire y)] at hi hj
    exact hone y i j hy hi.1 hj.1 hi.2 hj.2
  rw [Chip.grant, Chip.findLine_of_cache_eq (Chip.cache_place_of_ne hy hx hne ..)]
  exact Chip.findLine_downgrade_holders hwf' hone' hy hne e

end Sys2Proof.Machine
end

section
/-! PROOF. A write that clears DC_EN while a whole-cache operation of the core still runs (12_caches_and_coherence.md, R439,
R441): the operation is carried out first, which RegistryAndCacheCommands does not say. -/

namespace Sys2Proof.Machine

variable {c : Chip} {n : Nat}

theorem regWrite_regyCoreCfg (hn : n < 2) (m : Master) (v : Word) (e : Env) (c : Chip) :
    regWrite m (A.REGY_COREn_CFG n) v e c = regyConfigWrite n v e c := by
  have hcores : n = 0 ∨ n = 1 := by omega
  rcases hcores with rfl | rfl <;> rfl

/-- R441: DC_EN is cleared at the end of operation 3, which begins where the operation that still runs ends. -/
theorem regyConfigWrite_clear_dcEn (h : c.rd (A.REGY_COREn_CFG n) = 3) (e : Env) :
    regyConfigWrite n 1 e c = ((regyOpDone n e c).wr (A.REGY_COREn_CFG n) 3).setCacheOp n 259 := by
  rw [regyConfigWrite, h]
  rfl

theorem exec_regyCoreCfgWrite_clear_dcEn {s : State} {m : Master} {core : BitVec 1} (hp : s.chip.powered = true)
    (hm : admits 8 m.port = true) (h : s.chip.rd (A.REGY_COREn_CFG core.toNat) = 3) :
    exec (.regyCoreCfgWrite m core 1) s = .next (s.becomes
      (((regyOpDone core.toNat s.env s.chip).wr (A.REGY_COREn_CFG core.toNat) 3).setCacheOp core.toNat 259)) :=
  (store_of_admits hp hm).trans <| next_becomes_congr <|
    (regWrite_regyCoreCfg core.isLt ..).trans (regyConfigWrite_clear_dcEn h s.env)

theorem Chip.cache_setCacheOp (c : Chip) (n op y : Nat) : (c.setCacheOp n op).cache y = c.cache y := by
  unfold Chip.setCacheOp Chip.putBit
  split <;> split <;> rfl

/-- INVAL of every line leaves the data cache empty (R439). -/
theorem regyOpDone_cache_of_invalAll (hn : n < 3) (hop : c.cacheOp n = 2) (e : Env) : (regyOpDone n e c).cache n = [] := by
  have hdone : regyOpDone n e c = (c.setCache n []).setCacheOp n 0 := by
    rw [regyOpDone, hop]
    rfl
  rw [hdone, Chip.cache_setCacheOp, Chip.cache_setCache_self hn]

/-- Core 0 with both caches enabled, and a line in its data cache. -/
def dataCacheOn : State :=
  { State.reset with chip := {
      regs := [(A.REGY_COREn_CFG 0, 3)]
      caches := { d0 := [(0, { st := .e, line := 0x800000, data := List.replicate 32 0 })] } } }

/-- What REGY_INVAL_ALL leaves there: the operation runs, and the line waits for its end. -/
def invalRunning : State :=
  { State.reset with chip := {
      regs := [(A.REGY_COREn_CFG 0, 3), (A.REGY_COREn_OP 0, 0x80000000)]
      caches := { dataCacheOn.chip.caches with op0 := 2 } } }

theorem exec_regyInvalAll_dataCacheOn : exec (.regyInvalAll (.core 0) 0) dataCacheOn = .next invalRunning :=
  (store_of_admits (by decide) (by decide)).trans (congrArg _ (by decide))

/-- Refutes O46: by its clause on the write that clears DC_EN, which does not ask that no operation runs, every line would stay.
In `invalRunning` the write first carries INVAL_ALL out (`exec_regyCoreCfgWrite_clear_dcEn`), and the data cache is empty. -/
theorem not_registryAndCacheCommands : ¬ Obligations.RegistryAndCacheCommands := by
  intro h
  obtain ⟨-, -, -, -, -, -, -, -, -, hclear, -, -⟩ :=
    h (.core 0) 0 0 0 0 false false 0 0 invalRunning (by decide) (by decide)
  have hrd : invalRunning.chip.rd (A.REGY_COREn_CFG 0) = 3 := by decide
  have hexec := exec_regyCoreCfgWrite_clear_dcEn (s := invalRunning) (m := .core 0) (core := 0) (by decide) (by decide) hrd
  have heq := Host.Outcome.next.inj (hexec.symm.trans (hclear (by decide) hrd))
  rw [State.becomes, State.becomes, State.settle_of_quiet (by decide), State.settle_of_quiet (by decide)] at heq
  let d := (regyOpDone 0 invalRunning.env invalRunning.chip).wr (A.REGY_COREn_CFG 0) 3
  have hkept : [] = invalRunning.chip.cache 0 := calc
    [] = d.cache 0 := (regyOpDone_cache_of_invalAll (by decide) (by decide) _).symm
    _ = (d.setCacheOp 0 259).cache 0 := (Chip.cache_setCacheOp ..).symm
    _ = invalRunning.chip.cache 0 := congrArg (fun s : State => s.chip.cache 0) heq
  exact absurd hkept (by decide)

end Sys2Proof.Machine
end

section
/-! PROOF. The bus errors of an access (13_interconnect_and_memory.md, R448, R672): its CAUSE by what serves its address, and,
where a target serves it, by the rules in their order. -/

namespace Sys2Proof.Machine

variable {c : Chip} {m : Master} {write locked : Bool} {a size t : Nat}

theorem Chip.busCause_of_unmapped (h : regionOf a = .unmapped) : c.busCause m write locked a size = some (1, 15) := by
  simp [Chip.busCause, h, Region.target]

theorem Chip.busCause_of_not_core (h : regionOf a = .local) (hm : isCoreMaster m = false) :
    c.busCause m write locked a size = some (1, 15) := by
  simp [Chip.busCause, h, Region.target, hm]

theorem Chip.busCause_of_core (h : regionOf a = .local) (hm : isCoreMaster m = true) :
    c.busCause m write locked a size = none := by
  cases m with
  | core n => exact Chip.busCause_of_local h c n write locked size
  | _ => cases hm

/-- The last three rules of R672, which depend on how the device behind the target stands. -/
def Chip.deviceCause (c : Chip) (write : Bool) (size : Nat) (r : Region) : Option Nat :=
  if c.notReady write r then some 8 else if write && c.notWritable r then some 3 else if c.beyond size r then some 1 else none

/-- R672: the order of the rules at a target. -/
theorem Chip.cause_of_target (ht : (regionOf a).target = some t) :
    (c.busCause m write locked a size).map (·.1) =
      if admits t m.port = false then some 2
      else if badWidth (regionOf a) a size = true then some 4
      else if locked = true ∧ t ≠ 1 ∧ t ≠ 2 then some 5
      else c.deviceCause write size (regionOf a) := by
  simp [Chip.busCause, Chip.deviceCause, ht, apply_ite (Option.map _), and_assoc]

/-- Settles O25: each clause takes its branch of the order of the rules. -/
theorem busErrorsFollowTheFirstRuleBroken : Obligations.BusErrorsFollowTheFirstRuleBroken := by
  intro c m write locked a size
  refine ⟨fun h => ?unmapped, fun h => ?ownCore, fun t ht => ⟨fun hm => ?admission, fun hm hw => ?width,
    fun hm hw hl h1 h2 => ?lock, fun hm hw hl => ?device⟩⟩
  case unmapped => rw [Chip.busCause_of_unmapped h, Option.map_some]
  case ownCore =>
    by_cases hm : isCoreMaster m = true
    · rw [Chip.busCause_of_core h hm, if_pos hm, Option.map_none]
    · rw [Chip.busCause_of_not_core h (Bool.eq_false_iff.mpr hm), if_neg hm, Option.map_some]
  case admission => rw [Chip.cause_of_target ht, if_pos hm]
  case width => rw [Chip.cause_of_target ht, hm, if_neg Bool.noConfusion, if_pos hw]
  case lock => rw [Chip.cause_of_target ht, hm, hw, if_neg Bool.noConfusion, if_neg Bool.noConfusion, if_pos ⟨hl, h1, h2⟩]
  case device =>
    have hlock : ¬(locked = true ∧ t ≠ 1 ∧ t ≠ 2) := by
      rintro ⟨hl', h1, h2⟩
      rcases hl with hl | hl | hl
      · exact absurd hl' (Bool.eq_false_iff.mp hl)
      · exact h1 hl
      · exact h2 hl
    rw [Chip.cause_of_target ht, hm, hw, if_neg Bool.noConfusion, if_neg Bool.noConfusion, if_neg hlock]
    rfl

end Sys2Proof.Machine
end

section
/-! PROOF. The external memory controllers (13_interconnect_and_memory.md, R465 to R478): the configuration of an xSPI device, the
sequence engine and its polling, the initialisation of the SDRAM, a read without a strobe, and the end of the memory
initialisation. -/

namespace Sys2Proof.Machine

variable {c : Chip} {m : Master} {v : Word} {e : Env}

theorem Chip.writeCoded_of_regFind {a : Nat} {r : RegSpec} {ix : List Nat} (h : regFind a = some (r, ix)) (c : Chip) (v : Word) :
    c.writeCoded a v = c.wr a (codedWrite r (c.rd a) v) := by
  rw [Chip.writeCoded, h]

/-- A write under the access codes changes registers alone. -/
theorem Chip.writeCoded_eq_regs (c : Chip) (a : Nat) (v : Word) : ∃ r, c.writeCoded a v = { c with regs := r } := by
  unfold Chip.writeCoded
  split <;> exact ⟨_, rfl⟩

@[simp] theorem Chip.writeCoded_bus (c : Chip) (a : Nat) (v : Word) : (c.writeCoded a v).bus = c.bus := by
  obtain ⟨r, hr⟩ := c.writeCoded_eq_regs a v
  rw [hr]

@[simp] theorem Chip.wheelLive_writeCoded (c : Chip) (a : Nat) (v : Word) (t : Nat) :
    (c.writeCoded a v).wheelLive t = c.wheelLive t := by
  obtain ⟨r, hr⟩ := c.writeCoded_eq_regs a v
  rw [hr]
  rfl

/-! ### The configuration of an xSPI device (R470) -/

theorem regWrite_xspiTim {dev : Nat} (hdev : dev < 2) (m : Master) (v : Word) (e : Env) (c : Chip) :
    regWrite m (A.XMC_XSPI_DEVn_TIM dev) v e c = xspiConfigWrite (A.XMC_XSPI_DEVn_TIM dev) v c := by
  have hdevs : dev = 0 ∨ dev = 1 := by omega
  rcases hdevs with rfl | rfl <;> rfl

theorem xspiConfigWrite_of_wheelLive (h : c.wheelLive 5 = true) (a : Nat) (v : Word) :
    xspiConfigWrite a v c = c.setBit A.XMC_STAT 0 := by
  rw [xspiConfigWrite, if_pos h]
  rfl

/-- Only a CFG register has a TYPE field whose value 3 is stored as 0. -/
theorem xspiConfigWrite_of_not_cfg {a : Nat} (h : c.wheelLive 5 = false) (ha : ∀ i, a ≠ A.XMC_XSPI_DEVn_CFG i) (v : Word) :
    xspiConfigWrite a v c = c.writeCoded a v := by
  simp [xspiConfigWrite, h, ha]

theorem xspiTim_ne_cfg (dev i : Nat) : A.XMC_XSPI_DEVn_TIM dev ≠ A.XMC_XSPI_DEVn_CFG i := by
  unfold A.XMC_XSPI_DEVn_TIM A.XMC_XSPI_DEVn_CFG
  omega

/-! ### Sequences (R472, R473) -/

theorem regWrite_xspiSeq (m : Master) (v : Word) (e : Env) (c : Chip) : regWrite m A.XMC_XSPI_SEQ v e c = xspiSequence v c := rfl

/-- A bit that a command sets in the word it writes reads 1. -/
theorem getLsbD_setBitTo_true (v : Word) {i : Nat} (hi : i < 32) : (setBitTo v i true).getLsbD i = true := by
  rw [setBitTo, if_pos rfl, BitVec.getLsbD_or, BitVec.getLsbD_ofNat, Nat.testBit_two_pow_self, decide_eq_true hi, Bool.and_self,
    Bool.or_true]

theorem xspiSequence_of_go (hidle : c.bit A.XMC_XSPI_SEQ_STAT 0 = false) (hlive : c.wheelLive 5 = false)
    (hgo : v.getLsbD 15 = true) :
    xspiSequence v c =
      { (c.writeCoded A.XMC_XSPI_SEQ v).setBit A.XMC_XSPI_SEQ_STAT 0 with bus := { c.bus with seq := true } } := by
  simp [xspiSequence, hidle, hlive, hgo]

/-- A sequence that reads no data and does not poll ends with DONE. -/
theorem xspiSequenceDone_of_no_read (hseq : c.bus.seq = true) (hpoll : (c.rd A.XMC_XSPI_SEQ).getLsbD 14 = false)
    (hdir : c.fld A.XMC_XSPI_SEQ 10 9 ≠ 1) (data : List Byte) :
    xspiSequenceDone data c =
      (({ c with bus := { c.bus with seq := false } } : Chip).clrBit A.XMC_XSPI_SEQ_STAT 0).setBit A.XMC_XSPI_SEQ_STAT 1 := by
  have hread : ¬bits (c.rd A.XMC_XSPI_SEQ) 10 9 = 1 := hdir
  simp only [xspiSequenceDone, hseq, hpoll, if_true, if_neg hread, Bool.false_eq_true, if_false]

/-- R473: a status read whose bit differs from POL ends the polling. -/
theorem xspiPoll_of_ne {status : Byte} (hrun : c.bit A.XMC_XSPI_SEQ_STAT 0 = true) (hseq : c.bus.seq = false)
    (hbusy : c.xspiBusy (c.fld A.XMC_XSPI_SEQ 13 13) = true)
    (hne : status.getLsbD (bits (c.rd (A.XMC_XSPI_DEVn_POLL (c.fld A.XMC_XSPI_SEQ 13 13))) 26 24) ≠
      (c.rd (A.XMC_XSPI_DEVn_POLL (c.fld A.XMC_XSPI_SEQ 13 13))).getLsbD 28) :
    xspiPoll status c = ((c.clrBit (A.XMC_XSPI_DEVn_CFG (c.fld A.XMC_XSPI_SEQ 13 13)) 9).clrBit
      A.XMC_XSPI_SEQ_STAT 0).setBit A.XMC_XSPI_SEQ_STAT 1 := by
  simp only [xspiPoll, hrun, hseq, hbusy, Bool.not_false, Bool.and_self, if_true, if_neg hne]

/-! ### The SDRAM (R478) -/

theorem regWrite_sdrCtl (m : Master) (v : Word) (e : Env) (c : Chip) : regWrite m A.XMC_SDR_CTL v e c = sdrCtlWrite v c := rfl

theorem sdrCtlWrite_of_init (hready : c.sdrReady = false) (hinit : v.getLsbD 0 = true) :
    sdrCtlWrite v c = (c.writeCoded A.XMC_SDR_CTL v).clrBit A.XMC_SDR_CTL 1 := by
  simp [sdrCtlWrite, hinit, hready]

theorem runAfter_of_powered {s : State} {f : Env → Chip → Chip} {d : Nat} (hp : s.chip.powered = true)
    (hs : s.chip.slow = false) : runAfter d f s = .next (s.becomesAt (s.clock.abs + d) f) := by
  rw [runAfter, hs, if_neg Bool.false_ne_true, runAt_of_powered hp hs]

/-! ### A read without a strobe (R471) -/

theorem regionOf_xspi {a : Nat} (hlo : 0x30000000 ≤ a) (hhi : a < 0x60000000) :
    ∃ off, regionOf a = .xspi (if a < 0x50000000 then 0 else 1) off := by
  have hnot (n : Nat) (hn : n ≤ 0x30000000) : ¬a < n := by omega
  by_cases hdev : a < 0x50000000
  · exact ⟨a - 0x30000000, by simp [regionOf, hnot, hlo, hdev]⟩
  · have hsecond : 0x50000000 ≤ a := by omega
    exact ⟨a - 0x50000000, by simp [regionOf, hnot, hdev, hsecond, hhi]⟩

/-- The read of no core reports no error to a core. -/
theorem Chip.coreError_of_not_core {r : BusAccess} (h : isCoreMaster r.m = false) (c : Chip) : c.coreError r = c := by
  unfold Chip.coreError
  split
  case h_1 n hcore => exact absurd h (by simp [hcore, isCoreMaster])
  case h_2 => rfl

theorem dsTimeout_of_not_core {a dev off : Nat} (hregion : regionOf a = .xspi dev off)
    (hcause : c.busCause m false false a 1 = none) (hm : isCoreMaster m = false) (e : Env) :
    dsTimeout m a e c = ((c.busError m 5 7 a false).setBit A.XMC_STAT 1).report e 0x0A clsRecoverable dev a := by
  have hcore : ∀ d : Chip, d.coreError (dsTimeout.wordAccess m a) = d := Chip.coreError_of_not_core hm
  simp only [dsTimeout, hregion, hcause, Option.isSome_none, Bool.false_eq_true, if_false, hcore, strobeTimeout]

/-! ### The memory initialisation (R465) -/

/-- An initialisation that writes no memory takes no time. -/
theorem initComplete_of_not_wipe {s : State} (hboot : s.chip.pwr.boot = .inReset) (hinit : s.chip.bit A.SYS_BUS_INIT 0 = false)
    (hclk : s.chip.bit A.SYS_CLK_STAT 0 = true) (hwipe : s.chip.pwr.wipe = false) :
    initComplete s = s.on fun _ c => finishInit c := by
  simp [initComplete, hboot, hinit, hclk, hwipe]

/-! ### The commands -/

section
variable {s : State} (hp : s.chip.powered = true)
include hp

theorem exec_xmcConfigWrite_tim {dev : Nat} (hm : admits 8 m.port = true) (hdev : dev < 2) :
    exec (.xmcConfigWrite m (A.XMC_XSPI_DEVn_TIM dev) v) s =
      .next (s.becomes (xspiConfigWrite (A.XMC_XSPI_DEVn_TIM dev) v s.chip)) :=
  (store_of_admits hp hm).trans (next_becomes_congr (regWrite_xspiTim hdev m v _ _))

theorem exec_xspiSequence (hm : admits 8 m.port = true) :
    exec (.xspiSequence m v) s = .next (s.becomes (xspiSequence (setBitTo v 15 true) s.chip)) :=
  (store_of_admits hp hm).trans (next_becomes_congr (regWrite_xspiSeq m _ _ _))

theorem exec_sdrInit (hm : admits 8 m.port = true) :
    exec (.sdrInit m v) s = .next (s.becomes (sdrCtlWrite (setBitTo v 0 true) s.chip)) :=
  (store_of_admits hp hm).trans (next_becomes_congr (regWrite_sdrCtl m _ _ _))

theorem exec_sdrInitComplete (hs : s.chip.slow = false) (hinit : s.chip.bit A.XMC_SDR_CTL 0 = true) :
    exec .sdrInitComplete s = .next (s.becomesAt (s.clock.abs + s.chip.sdrInitCounts) fun _ c => sdrInitDone c) :=
  (if_pos hinit).trans (runAfter_of_powered hp hs)

theorem exec_memoryInitComplete_of_not_wipe (hboot : s.chip.pwr.boot = .inReset) (hinit : s.chip.bit A.SYS_BUS_INIT 0 = false)
    (hclk : s.chip.bit A.SYS_CLK_STAT 0 = true) (hwipe : s.chip.pwr.wipe = false) :
    exec .memoryInitComplete s = .next (s.becomes (finishInit s.chip)) := by
  have hinitState := initComplete_of_not_wipe hboot hinit hclk hwipe
  have hexec : exec .memoryInitComplete s = .next (s.cmd initComplete) := rfl
  rw [hexec, State.cmd, if_pos hp, hinitState]
  rfl

end

/-- Settles O27: each command is its operation on the chip, and the lemmas above say what the operation does. That a refresh
changes no state is the model's choice (log entry 130). -/
theorem externalMemoryCommands : Obligations.ExternalMemoryCommands := by
  intro m v status data dev a s hp
  refine ⟨?refused, ?stored, ?sequence, ?sequenceDone, ?poll, ?init, ?initDone, ?refresh, ?strobe, ?memory⟩
  case refused =>
    intro hm hdev hlive
    rw [exec_xmcConfigWrite_tim hp hm hdev, xspiConfigWrite_of_wheelLive hlive]
  case stored =>
    intro hm hdev hlive r ix hfind
    rw [exec_xmcConfigWrite_tim hp hm hdev, xspiConfigWrite_of_not_cfg hlive (xspiTim_ne_cfg dev),
      Chip.writeCoded_of_regFind hfind]
  case sequence =>
    intro hm hidle hlive
    rw [exec_xspiSequence hp hm, xspiSequence_of_go hidle hlive (getLsbD_setBitTo_true v (by decide))]
    rfl
  case sequenceDone =>
    intro hseq hpoll hdir
    exact (run_of_powered hp).trans (next_becomes_congr (xspiSequenceDone_of_no_read hseq hpoll hdir data))
  case poll =>
    intro d p hrun hseq hbusy hne
    rw [← Nat.shiftRight_eq_div_pow] at hne
    exact (run_of_powered hp).trans (next_becomes_congr (xspiPoll_of_ne hrun hseq hbusy hne))
  case init =>
    intro hm hready
    rw [exec_sdrInit hp hm, sdrCtlWrite_of_init hready (getLsbD_setBitTo_true v (by decide))]
    rfl
  case initDone => exact exec_sdrInitComplete hp
  case refresh => exact run_of_powered hp
  case strobe =>
    intro hcause hlo hhi hm
    obtain ⟨off, hregion⟩ := regionOf_xspi hlo hhi
    exact (run_of_powered hp).trans (next_becomes_congr (dsTimeout_of_not_core hregion hcause hm _))
  case memory => exact exec_memoryInitComplete_of_not_wipe hp

end Sys2Proof.Machine
end

section
/-! PROOF. What every command is (Machine/Settle.lean, Machine/Dispatch.lean): one of the core domain, which an unpowered device
ignores, or one of the twelve that reach the Vault domain or are resets. Each goes on, takes nothing from the queue behind it, and
changes the fuses only by programming (17_modes_power_reset.md, R566, R579, R593). -/

namespace Sys2Proof.Machine

variable {s t u : State}

/-! ### What no effect takes away (R593) -/

/-- The state `t` has kept of `s` the grade, the queue and every one-time-programmable bit that was programmed. -/
structure State.Keeps (s t : State) : Prop where
  otp : s.fuses.Kept t.fuses
  grade : t.fuses.grade = s.fuses.grade
  pending : t.pending = s.pending

theorem State.Keeps.of_eq (hfuses : t.fuses = s.fuses) (hpending : t.pending = s.pending) : s.Keeps t where
  otp := fun _ _ h => hfuses ▸ h
  grade := by rw [hfuses]
  pending := hpending

theorem State.Keeps.refl (s : State) : s.Keeps s := .of_eq rfl rfl

theorem State.Keeps.trans (h : s.Keeps t) (h' : t.Keeps u) : s.Keeps u where
  otp := fun i k hk => h'.otp i k (h.otp i k hk)
  grade := h'.grade.trans h.grade
  pending := h'.pending.trans h.pending

theorem State.keeps_withChip (s : State) (c : Chip) : s.Keeps { s with chip := c } := .of_eq rfl rfl

theorem State.keeps_on (s : State) (f : Env → Chip → Chip) : s.Keeps (s.on f) := .of_eq rfl rfl

theorem State.keeps_advTo (s : State) (n : Nat) : s.Keeps (s.advTo n) := .of_eq (by simp) (by simp)

theorem State.keeps_chipReset (s : State) (f : Env → Chip → Chip) : s.Keeps (s.chipReset f) := .of_eq rfl rfl

theorem keeps_dueReset (s : State) : s.Keeps (dueReset s) := by
  unfold dueReset
  split
  · exact s.keeps_chipReset _
  · exact .refl s

theorem State.keeps_settle (s : State) : s.Keeps s.settle := by
  unfold State.settle
  split
  · exact ((s.keeps_on _).trans (State.keeps_on _ _)).trans (keeps_dueReset _)
  · exact .refl s

theorem State.keeps_cmd {f : State → State} (h : s.Keeps (f s)) : s.Keeps (s.cmd f) := by
  unfold State.cmd
  split
  · exact h.trans (f s).keeps_settle
  · exact .refl s

/-! ### Effects that change the state beside the chip -/

theorem keeps_slowCountStep (s : State) : s.Keeps (slowCountStep s) := by
  unfold slowCountStep
  split
  · exact (s.keeps_on _).trans (State.keeps_advTo _ _)
  · exact .refl s

theorem keeps_initComplete (s : State) : s.Keeps (initComplete s) := by
  unfold initComplete
  split
  · split
    · exact (s.keeps_advTo _).trans (State.keeps_on _ _)
    · exact s.keeps_on _
  · exact .refl s

theorem keeps_resetSequence (boot : BitVec 2) (pads : BitVec 96) (lowB lowC edges flash : Bool) (s : State) :
    s.Keeps (resetSequence boot pads lowB lowC edges flash s) := by
  unfold resetSequence
  split
  · exact .refl s
  · split
    · exact s.keeps_on _
    · refine .trans ?_ (State.keeps_on _ _)
      split
      · exact ((s.keeps_on _).trans (State.keeps_on _ _)).trans (State.keeps_advTo _ _)
      · exact (s.keeps_on _).trans (State.keeps_on _ _)

theorem keeps_midiBytes (i : Nat) (l : List (Nat × Byte × Bool)) (t0 k : Nat) (s : State) : s.Keeps (midiBytes i t0 k l s) := by
  induction l generalizing t0 k s with
  | nil => exact .refl s
  | cons x l ih =>
    obtain ⟨idle, b, stop⟩ := x
    unfold midiBytes
    split
    · exact ih _ _ s
    · split
      · exact (s.keeps_withChip _).trans (ih _ _ _)
      · exact ((s.keeps_advTo _).trans (State.keeps_on _ _)).trans (ih _ _ _)

theorem keeps_outRecord (i : Nat) (wait : Bool) (s : State) : s.Keeps (outRecord i wait s) := by
  unfold outRecord
  dsimp only
  split
  · exact .refl s
  · split
    · exact .refl s
    · exact ((s.keeps_withChip _).trans (State.keeps_advTo _ _)).trans (State.keeps_on _ _)

theorem keeps_slotRun (i : Nat) (s : State) : s.Keeps (slotRun i s) := by
  unfold slotRun
  dsimp only
  split
  · exact .refl s
  · split
    · exact .refl s
    · exact (s.keeps_withChip _).trans (State.keeps_advTo _ _)

theorem keeps_senseSend (i : Nat) (s : State) : s.Keeps (senseSend i s) := by
  unfold senseSend
  dsimp only
  split
  · exact .refl s
  · exact (s.keeps_withChip _).trans (State.keeps_advTo _ _)

theorem keeps_hostRequest (ch op tag : Nat) (p : List Byte) (crc dur : Nat) (s : State) :
    s.Keeps (hostRequest ch op tag p crc dur s) := by
  unfold hostRequest
  refine .trans ?_ (State.keeps_on _ _)
  split
  · exact .refl s
  · exact s.keeps_advTo _

/-- A word that is programmed keeps its bits, whatever form the stored words have (R593). -/
theorem Fuses.kept_program (f : Fuses) (i : Nat) (w : Word) :
    f.Kept { f with otp := putS 0 f.otp i (f.otpWord i ||| w) } := by
  intro j k hk
  by_cases hj : j = i
  · subst hj
    have hbit : (f.otpWord j ||| w).getLsbD k = true := by rw [BitVec.getLsbD_or, hk, Bool.true_or]
    have hne : f.otpWord j ||| w ≠ 0 := fun hz => by
      rw [hz] at hbit
      exact absurd hbit (by simp)
    exact (congrArg (·.getLsbD k) (getS_putS_self_of_ne hne f.otp j)).trans hbit
  · exact (congrArg (·.getLsbD k) (getS_putS_of_ne hj 0 0 _ f.otp)).trans hk

theorem keeps_nvmProgDone (ok : Bool) (s : State) : s.Keeps (nvmProgDone ok s) := by
  unfold nvmProgDone
  split
  · exact .refl s
  · dsimp only
    split
    · exact s.keeps_withChip _
    · exact { otp := s.fuses.kept_program _ _, grade := rfl, pending := rfl }

theorem keeps_powerOn (b : Bool) (s : State) : s.Keeps (powerOn b s) := by
  unfold powerOn
  split
  · exact .refl s
  · split
    · exact (s.keeps_chipReset _).trans (State.keeps_on _ _)
    · exact s.keeps_chipReset _

theorem keeps_rstN (ns : Nat) (s : State) : s.Keeps (rstN ns s) := by
  unfold rstN
  dsimp only
  split
  · exact s.keeps_withChip _
  · exact (s.keeps_withChip _).trans (State.keeps_chipReset _ _)

theorem keeps_brownOut (s : State) : s.Keeps (brownOut s) := by
  unfold brownOut
  split
  · exact .refl s
  · exact s.keeps_chipReset _

theorem keeps_vaultSupplyLost (s : State) : s.Keeps (vaultSupplyLost s) :=
  (s.keeps_chipReset fun _ c => c.resetChip true false).trans (.of_eq rfl rfl)

theorem keeps_vaultPowerUp (s : State) : s.Keeps (vaultPowerUp s) := by
  unfold vaultPowerUp
  split
  · exact s.keeps_chipReset _
  · exact .refl s

/-! ### The forms of a meaning -/

/-- What `s` answers to a command of the core domain: an effect on a powered device, and nothing on another. -/
def State.Commanded (s : State) (o : Host.Outcome State Fault Refusal) : Prop :=
  ∃ f : State → State, s.Keeps (f s) ∧ o = .next (s.cmd f)

theorem commanded_runState {f : State → State} (h : s.Keeps (f s)) : s.Commanded (runState f s) := ⟨f, h, rfl⟩

theorem commanded_run (f : Env → Chip → Chip) : s.Commanded (run f s) := ⟨_, s.keeps_on f, rfl⟩

theorem commanded_runAt (n : Nat) (f : Env → Chip → Chip) : s.Commanded (runAt n f s) := by
  refine ⟨_, ?_, rfl⟩
  split
  · exact .refl s
  · exact (s.keeps_advTo n).trans (.of_eq rfl rfl)

theorem commanded_runDue (o : Option Nat) (f : Env → Chip → Chip) : s.Commanded (runDue o f s) := by
  cases o with
  | none => exact commanded_run _
  | some n => exact commanded_runAt n f

theorem commanded_runTick (n : Nat) (f : Env → Chip → Chip) : s.Commanded (runTick n f s) := by
  unfold runTick
  split
  · exact commanded_run _
  · exact commanded_runAt n f

theorem commanded_runTickDue (o : Option Nat) (f : Env → Chip → Chip) : s.Commanded (runTickDue o f s) := by
  unfold runTickDue
  split
  · exact commanded_run _
  · exact commanded_runDue o f

theorem commanded_runAfter (d : Nat) (f : Env → Chip → Chip) : s.Commanded (runAfter d f s) := by
  unfold runAfter
  split
  · exact commanded_run f
  · exact commanded_runAt _ f

/-- What `s` answers to a command that reaches the Vault domain. -/
def State.Reached (s : State) (o : Host.Outcome State Fault Refusal) : Prop :=
  ∃ f : State → State, s.Keeps (f s) ∧ o = .next (f s).settle

theorem reached_runVault {f : State → State} (h : s.Keeps (f s)) : s.Reached (runVault f s) := ⟨f, h, rfl⟩

theorem reached_on (f : Env → Chip → Chip) : s.Reached (runVault (·.on f) s) :=
  reached_runVault (s.keeps_on f)

theorem reached_edgeIf (due : Chip → Bool) (temp : BitVec 16) : s.Reached (edgeIf due temp s) := by
  refine ⟨_, ?_, rfl⟩
  split
  · exact s.keeps_on _
  · exact .refl s

/-- The commands that do not depend on the core supply: those of the Vault domain, and the resets of the supplies and of
RST_N. -/
def reachesVault : Instr → Bool
  | .rtcTick _ => true
  | .alarmFire _ _ => true
  | .rtcWriteTakesEffect _ => true
  | .rtcFreezeTimeout _ => true
  | .ringOscillatorMeasure _ _ => true
  | .dailySample _ _ => true
  | .vaultWake _ _ => true
  | .vaultPowerUp => true
  | .powerOnReset _ => true
  | .rstNReset _ => true
  | .brownOutReset => true
  | .vaultSupplyReset => true
  | _ => false

theorem exec_commanded {i : Instr} (h : reachesVault i = false) (s : State) : s.Commanded (exec i s) := by
  cases i
  case commitTakesEffect | hardChangeRamp | swapTakesEffect | xfadeEnd | pushComplete | activeSensingTimeout |
      sapFrameStartTimeout | spdifBlockStart | lockoutEnd | configureEntered | chimeDecayStep | chimeLengthExpire =>
    exact commanded_runTickDue _ _
  case dispLineStart | fatalMute | sampleTick | blockTick | frameTick | keyScan | adcConversion | allocatorIntakeClose |
      voiceWriteApply =>
    exact commanded_runTick _ _
  case fenceFire | dmaWaitComplete | dmaBackoffEnd | hostSwTimeout | pinMaskWindowEnd | lockTimeout | tmrExpire | usbReconnect |
      holdTimeout | timZero =>
    exact commanded_runDue _ _
  case hostGapTimeout => exact commanded_runAfter _ _
  case countWrap => exact commanded_runAt _ _
  case hostNop | fetch | read32 | write32 | readMem | writeMem | hostCharter | hostMode | hostRun | hostUnassignedOp |
      hostForwardedRequest =>
    exact commanded_runState (keeps_hostRequest _ _ _ _ _ _ s)
  case memoryInitComplete => exact commanded_runState (keeps_initComplete s)
  case slowCountStep => exact commanded_runState (keeps_slowCountStep s)
  case midiInMessage | midiRealtimeByte | sysexRecord => exact commanded_runState (keeps_midiBytes _ _ _ _ s)
  case midiOutRecord | midiOutSendAt => exact commanded_runState (keeps_outRecord _ _ s)
  case directSlotSend => exact commanded_runState (keeps_slotRun _ s)
  case activeSensingTx => exact commanded_runState (keeps_senseSend _ s)
  case resetSequence => exact commanded_runState (keeps_resetSequence _ _ _ _ _ _ s)
  case nvmProgComplete => exact commanded_runState (keeps_nvmProgDone _ s)
  case groupApply =>
    show s.Commanded (execGroupApply _ s)
    unfold execGroupApply
    split
    · exact commanded_runDue _ _
    · exact commanded_runTickDue _ _
  case sdrInitComplete =>
    show s.Commanded (execSdrInitComplete s)
    unfold execSdrInitComplete
    split
    · exact commanded_runAfter _ _
    · exact commanded_run _
  case tenureEnd =>
    show s.Commanded (execTenureEnd _ s)
    unfold execTenureEnd
    split
    · exact commanded_runAt _ _
    · exact commanded_run _
  case keyRecordPresent =>
    show s.Commanded (execKeyRecordPresent s)
    unfold execKeyRecordPresent
    dsimp only
    split
    · exact commanded_runAt _ _
    · exact commanded_run _
  case rtcTick | alarmFire | rtcWriteTakesEffect | rtcFreezeTimeout | ringOscillatorMeasure | dailySample | vaultWake | vaultPowerUp |
    powerOnReset | rstNReset | brownOutReset | vaultSupplyReset => exact Bool.noConfusion (show true = false from h)
  all_goals exact commanded_run _

theorem exec_reached {i : Instr} (h : reachesVault i = true) (s : State) : s.Reached (exec i s) := by
  cases i
  case rtcTick temp => exact reached_edgeIf (fun _ => true) temp
  case alarmFire n temp => exact reached_edgeIf (·.almDue n.toNat) temp
  case rtcWriteTakesEffect temp => exact reached_edgeIf Chip.rtcWriteDue temp
  case rtcFreezeTimeout temp => exact reached_edgeIf Chip.rtcFreezeDue temp
  case ringOscillatorMeasure | dailySample | vaultWake => exact reached_on _
  case vaultPowerUp => exact reached_runVault (keeps_vaultPowerUp s)
  case powerOnReset b => exact reached_runVault (keeps_powerOn b s)
  case rstNReset ns => exact reached_runVault (keeps_rstN ns s)
  case brownOutReset => exact reached_runVault (keeps_brownOut s)
  case vaultSupplyReset => exact reached_runVault (keeps_vaultSupplyLost s)
  all_goals exact Bool.noConfusion (show false = true from h)

/-- Every command goes on, and what it leaves has kept the fuses, the grade and the queue behind it. -/
theorem exec_goesOn_keeping (i : Instr) (s : State) : ∃ t, exec i s = .next t ∧ s.Keeps t := by
  cases h : reachesVault i with
  | false =>
    obtain ⟨f, hkeeps, hexec⟩ := exec_commanded h s
    exact ⟨_, hexec, State.keeps_cmd hkeeps⟩
  | true =>
    obtain ⟨f, hkeeps, hexec⟩ := exec_reached h s
    exact ⟨_, hexec, hkeeps.trans (f s).keeps_settle⟩

/-- A step goes on with the queue's rest, whatever stood in it. -/
theorem step_goesOn_keeping (s : State) : ∃ t, step s = .next t ∧ { s with pending := s.pending.tail }.Keeps t := by
  unfold step
  split
  next i rest hpending =>
    obtain ⟨t, hexec, hkeeps⟩ := exec_goesOn_keeping i { s with pending := rest }
    exact ⟨t, hexec, by rwa [hpending, List.tail_cons]⟩
  next hpending =>
    refine ⟨_, rfl, ?_⟩
    have hself : { s with pending := s.pending.tail } = s := by
      rw [hpending, List.tail_nil, ← hpending]
    rw [hself, State.idle]
    split
    · exact s.keeps_advTo _
    · exact .refl s

/-- A command of the core domain leaves a device without its core supply as it is (R566, R579; log entry 21). -/
theorem exec_of_unpowered {i : Instr} (hi : reachesVault i = false) (hs : s.chip.powered = false) : exec i s = .next s := by
  obtain ⟨f, -, hexec⟩ := exec_commanded hi s
  rw [hexec, State.cmd, if_neg (by simp [hs])]

/-- Settles O1: the queue is taken apart by the definition of a step. -/
theorem stepRunsTheFrontCommand : Obligations.StepRunsTheFrontCommand := by
  refine ⟨fun _ _ _ => rfl, fun s hempty => ?_⟩
  rw [step, hempty]
  simp [State.idle]

/-- Settles O58: a step runs a command, which goes on, or lets one count pass. -/
theorem everyStepGoesOn : Obligations.EveryStepGoesOn := fun s =>
  let ⟨t, hstep, _⟩ := step_goesOn_keeping s
  ⟨t, hstep⟩

/-- Settles O59: what a step leaves has kept the programmed bits, the grade and the queue's rest. -/
theorem stepsOnlyProgramFusesAndTakeTheFront : Obligations.StepsOnlyProgramFusesAndTakeTheFront := by
  intro s t hstep
  obtain ⟨u, hu, hkeeps⟩ := step_goesOn_keeping s
  obtain rfl : u = t := Host.Outcome.next.inj (hu.symm.trans hstep)
  exact ⟨hkeeps.otp, hkeeps.grade, hkeeps.pending⟩

/-- Settles O60: a command that is none of the twelve is one of the core domain. -/
theorem unpoweredDeviceIgnoresCommands : Obligations.UnpoweredDeviceIgnoresCommands := by
  intro i s hs htick halarm hwrite hfreeze hring hdaily hwake hup hon hrst hbrown hlost
  suffices hi : reachesVault i = false from exec_of_unpowered hi hs
  cases i
  case rtcTick => exact absurd rfl (htick _)
  case alarmFire => exact absurd rfl (halarm _ _)
  case rtcWriteTakesEffect => exact absurd rfl (hwrite _)
  case rtcFreezeTimeout => exact absurd rfl (hfreeze _)
  case ringOscillatorMeasure => exact absurd rfl (hring _ _)
  case dailySample => exact absurd rfl (hdaily _ _)
  case vaultWake => exact absurd rfl (hwake _ _)
  case vaultPowerUp => exact absurd rfl hup
  case powerOnReset => exact absurd rfl (hon _)
  case rstNReset => exact absurd rfl (hrst _)
  case brownOutReset => exact absurd rfl hbrown
  case vaultSupplyReset => exact absurd rfl hlost
  all_goals rfl

end Sys2Proof.Machine
end

section
/-! PROOF. A copy inside SRAM by a DMA channel (Machine/DmaRun.lean; 14_dma.md, R483, R485, R487, R489): what a burst's read and
write answer where nothing stops the channel, and the invariant that every burst of the copy keeps. -/

namespace Sys2Proof.Machine

variable {c d : Chip} {e : Env} {n a pos src dst width : Nat} {buf : List Byte} {x : Xfer}

/-! ### Bytes of memory -/

@[simp] theorem length_getBytes (m : Mem) (a k : Nat) : (getBytes m a k).length = k := by simp [getBytes_eq_map]

theorem getD_getBytes {i k : Nat} (hi : i < k) (m : Mem) (a : Nat) : (getBytes m a k).getD i 0 = getB m (a + i) := by
  simp [getBytes_eq_map, List.getD_eq_getElem?_getD, hi]

theorem isEmpty_getBytes {k : Nat} (m : Mem) (a : Nat) : (getBytes m a k).isEmpty = decide (k = 0) := by
  cases k <;> rfl

theorem take_getBytes {j k : Nat} (hj : j ≤ k) (m : Mem) (a : Nat) : (getBytes m a k).take j = getBytes m a j := by
  rw [getBytes_eq_map, getBytes_eq_map, ← List.map_take, List.take_range, Nat.min_eq_left hj]

theorem drop_getBytes (m : Mem) (a j k : Nat) : (getBytes m a k).drop j = getBytes m (a + j) (k - j) := by
  induction j generalizing a k with
  | zero => rfl
  | succ j ih =>
    cases k with
    | zero => simp [getBytes]
    | succ k => rw [getBytes, List.drop_succ_cons, ih, Nat.add_right_comm, Nat.add_assoc, Nat.succ_sub_succ]

theorem getBytes_congr {m m' : Mem} {a k : Nat} (h : ∀ i, i < k → getB m (a + i) = getB m' (a + i)) :
    getBytes m a k = getBytes m' a k := by
  rw [getBytes_eq_map, getBytes_eq_map]
  exact List.map_congr_left fun i hi => h i (List.mem_range.mp hi)

/-! ### SRAM on the bus (R445, R448) -/

/-- An address of the two targets of SRAM. -/
def InSram (a : Nat) : Prop := 0x10000000 ≤ a ∧ a < 0x10200000

theorem InSram.region (h : InSram a) : regionOf a = .sram 1 ∨ regionOf a = .sram 2 := by
  obtain ⟨hlo, hhi⟩ := h
  have hnot (k : Nat) (hk : k ≤ 0x10000000) : ¬a < k := by omega
  by_cases hfirst : a < 0x10100000
  · exact .inl (by simp [regionOf, hnot, hlo, hfirst])
  · have hsecond : 0x10100000 ≤ a := by omega
    exact .inr (by simp [regionOf, hnot, hfirst, hsecond, hhi])

theorem InSram.targetOf_ne (h : InSram a) : targetOf a ≠ 8 := by
  rcases h.region with hr | hr <;> simp [targetOf, hr, Region.target]

theorem InSram.busCause (h : InSram a) (hn : n < 16) (write : Bool) (size : Nat) :
    c.busCause (.dma n) write false a size = none := by
  have hport : n / 8 = 0 ∨ n / 8 = 1 := by omega
  rcases h.region with hr | hr <;> rcases hport with hp | hp <;>
    simp [Chip.busCause, hr, Region.target, Master.port, hp, admits, badWidth, Chip.notReady, Chip.notWritable, Chip.beyond]

theorem InSram.fetchByte (h : InSram a) : c.fetchByte e a = getB c.mem a := by
  have hotp : ¬(0x220DF000 ≤ a) := by have := h.2; omega
  rcases h.region with hr | hr <;> simp [Chip.fetchByte, hotp, Chip.memByte, hr]

theorem fetchBytes_of_sram {k : Nat} (hlo : 0x10000000 ≤ a) (hhi : a + k ≤ 0x10200000) :
    c.fetchBytes e a k = getBytes c.mem a k := by
  induction k generalizing a with
  | zero => rfl
  | succ k ih =>
    rw [Chip.fetchBytes, getBytes, InSram.fetchByte ⟨hlo, by omega⟩, ih (by omega) (by omega)]

theorem InSram.setMemBytes (h : InSram a) (bs : List Byte) : c.setMemBytes a bs = c.setMem a bs := by
  rcases h.region with hr | hr <;> simp [Chip.setMemBytes, hr]

/-! ### A channel's accesses where nothing stops it (R486, R502, R507) -/

/-- Channel `n` moves bytes past the caches, under no allowance, and has no access to retry. -/
structure Chip.Unhindered (c : Chip) (n : Nat) : Prop where
  coh : c.chCoh n = false
  target : c.chTarget n = none
  tries : (c.ch n).tries = 0

theorem Chip.Unhindered.overBudget (h : c.Unhindered n) (t : Nat) : c.overBudget n t = false := by
  simp [Chip.overBudget, h.target]

theorem Chip.Unhindered.chGood (h : c.Unhindered n) : c.chGood n = c := by rw [Chip.chGood, if_pos h.tries]

theorem Chip.Unhindered.chCount (h : c.Unhindered n) (t k : Nat) : c.chCount n t k = c := by
  simp [Chip.chCount, h.target]

theorem Chip.Unhindered.setMem (h : c.Unhindered n) (a : Nat) (bs : List Byte) : (c.setMem a bs).Unhindered n :=
  ⟨h.coh, h.target, h.tries⟩

theorem Chip.Unhindered.chRead_of_sram {k : Nat} (h : c.Unhindered n) (hn : n < 16) (hk : 0 < k)
    (hlo : 0x10000000 ≤ a)
    (hhi : a + k ≤ 0x10200000) :
    c.chRead e n a k false = (some (getBytes c.mem a k), c) := by
  have hsram : InSram a := ⟨hlo, by omega⟩
  have hbytes := fetchBytes_of_sram (c := c) (e := e) hlo hhi
  have hcoh : c.isCoherent (.dma n) = false := h.coh
  have haccess : busRead (.dma n) a k e c = (.ok (getBytes c.mem a k), c) := by
    rcases hsram.region with hr | hr <;>
      simp [busRead, access, hsram.busCause hn, lockBeat, eccCheck, perform, heldBy, hr, hcoh, hbytes]
  rw [Chip.chRead, if_neg (by simp [h.overBudget]), ← busRead, haccess]
  simp only [h.chGood, h.chCount]

theorem Chip.Unhindered.chWrite_of_sram (h : c.Unhindered n) (hn : n < 16) (hsram : InSram a) (bs : List Byte) :
    c.chWrite e n a bs = (true, c.setMem a bs) := by
  have hmem := hsram.setMemBytes (c := c) bs
  have hcoh : c.isCoherent (.dma n) = false := h.coh
  have haccess : busWrite (.dma n) a bs e c = (.ok [], c.setMem a bs) := by
    rcases hsram.region with hr | hr <;>
      simp [busWrite, access, hsram.busCause hn, lockBeat, eccCheck, perform, heldBy, hr, hcoh, hmem]
  rw [Chip.chWrite, if_neg (by simp [h.overBudget]), haccess]
  simp only [(h.setMem a bs).chGood, (h.setMem a bs).chCount]

/-! ### The copy and what its bursts keep (R483, R485, R487) -/

/-- Source and destination lie in SRAM and do not overlap. -/
structure CopyRanges (src dst width : Nat) : Prop where
  srcLo : 0x10000000 ≤ src
  srcHi : src + width ≤ 0x10200000
  dstLo : 0x10000000 ≤ dst
  dstHi : dst + width ≤ 0x10200000
  apart : src + width ≤ dst ∨ dst + width ≤ src

/-- Channel `n` runs in register mode without coherence, allowance or status record. -/
structure Chip.RunsPlainly (c : Chip) (n : Nat) : Prop where
  channel : n < 16
  state : c.chState n = 1
  program : c.chProgram n = false
  coh : c.chCoh n = false
  record : c.bit (A.CHn_CFG n) 29 = false
  stream : c.bit (A.CHn_STREAM n) 31 = false

/-- The registers that show a copy's progress. -/
def shownAt (n a : Nat) : Prop := a = A.CHn_COUNT n ∨ a = A.CHn_SRC n ∨ a = A.CHn_DST n

/-- A copy in INC modes with `pos` bytes written and `buf` read and not written; written whole, its row is over. -/
def copyXfer (src dst width pos : Nat) (buf : List Byte) : Xfer :=
  if pos = width then { src := src, dst := dst, smode := 0, dmode := 0, width := width, row := 1 }
  else { src := src, dst := dst, smode := 0, dmode := 0, width := width, pos := pos, buf := buf }

/-- The chip `c` stands where a copy that began in `c₀` has written its first `pos` bytes. -/
structure Copying (c₀ : Chip) (n src dst width pos : Nat) (c : Chip) : Prop where
  rd : ∀ a, ¬shownAt n a → c.rd a = c₀.rd a
  regs : c.regsWf = true
  bytes : memWf c.mem = true
  mem : ∀ a, getB c.mem a = if dst ≤ a ∧ a < dst + pos then getB c₀.mem (src + (a - dst)) else getB c₀.mem a

/-- The channels hold the state of channel `n` alone: a copy, without a retry. -/
def Chip.Moves (c : Chip) (n : Nat) (x : Xfer) : Prop := c.dma.chans = [(n, { x := some x })]

variable {c₀ : Chip}

theorem not_shownAt_cfg (n : Nat) : ¬shownAt n (A.CHn_CFG n) := by
  simp only [shownAt, A.CHn_CFG, A.CHn_COUNT, A.CHn_SRC, A.CHn_DST]
  omega

theorem not_shownAt_stat (n : Nat) : ¬shownAt n (A.CHn_STAT n) := by
  simp only [shownAt, A.CHn_STAT, A.CHn_COUNT, A.CHn_SRC, A.CHn_DST]
  omega

theorem not_shownAt_stream (n : Nat) : ¬shownAt n (A.CHn_STREAM n) := by
  simp only [shownAt, A.CHn_STREAM, A.CHn_COUNT, A.CHn_SRC, A.CHn_DST]
  omega

theorem Chip.Moves.ch (h : c.Moves n x) : c.ch n = { x := some x } := by
  rw [Chip.ch, h, getS, if_pos rfl]

theorem Chip.Moves.setCh (h : c.Moves n x) (y : Xfer) : (c.setCh n { x := some y }).Moves n y := by
  show putS {} c.dma.chans n _ = _
  rw [h, putS, if_neg (Nat.lt_irrefl n), if_pos rfl, if_neg (by simp)]

theorem Chip.Moves.setMem (h : c.Moves n x) (a : Nat) (bs : List Byte) : (c.setMem a bs).Moves n x := h

theorem Copying.start (hregs : c₀.regsWf = true) (hmem : memWf c₀.mem = true) : Copying c₀ n src dst width 0 c₀ where
  rd _ _ := rfl
  regs := hregs
  bytes := hmem
  mem a := by rw [if_neg (by omega)]

theorem Copying.wr (h : Copying c₀ n src dst width pos c) (ha : shownAt n a) (v : Word) :
    Copying c₀ n src dst width pos (c.wr a v) where
  rd b hb := (Chip.rd_wr_of_ne (fun heq : b = a => hb (heq ▸ ha)) c v).trans (h.rd b hb)
  regs := Chip.regsWf_wr a v h.regs
  bytes := h.bytes
  mem := h.mem

theorem Copying.setCh (h : Copying c₀ n src dst width pos c) (k : DmaChan) :
    Copying c₀ n src dst width pos (c.setCh n k) := ⟨h.rd, h.regs, h.bytes, h.mem⟩

theorem Copying.chProgram (h : Copying c₀ n src dst width pos c) : c.chProgram n = c₀.chProgram n := by
  rw [Chip.chProgram, Chip.bit, h.rd _ (not_shownAt_cfg n)]
  rfl

theorem Copying.chState (h : Copying c₀ n src dst width pos c) : c.chState n = c₀.chState n := by
  rw [Chip.chState, Chip.fld, h.rd _ (not_shownAt_stat n)]
  rfl

theorem Copying.unhindered (h : Copying c₀ n src dst width pos c) (hrun : c₀.RunsPlainly n) (hx : c.Moves n x) :
    c.Unhindered n where
  coh := by
    rw [Chip.chCoh, Chip.bit, h.rd _ (not_shownAt_cfg n)]
    exact hrun.coh
  target := by
    have hstream : (c₀.rd (A.CHn_STREAM n)).getLsbD 31 = false := hrun.stream
    rw [Chip.chTarget, h.rd _ (not_shownAt_stream n), hstream]
    rfl
  tries := by rw [hx.ch]

/-- The registers show the copy's addresses and its bytes to go; nothing else changes. -/
theorem Copying.chShow (h : Copying c₀ n src dst width pos c) (hx : c.Moves n x) :
    Copying c₀ n src dst width pos (c.chShow n) ∧ (c.chShow n).Moves n x := by
  have hxfer : (c.ch n).x = some x := by rw [hx.ch]
  unfold Chip.chShow
  split
  next hnone => exact absurd (hnone.symm.trans hxfer) (by simp)
  next y _ =>
    dsimp only
    split
    · exact ⟨h.wr (.inl rfl) _, hx⟩
    · exact ⟨((h.wr (.inl rfl) _).wr (.inr (.inl rfl)) _).wr (.inr (.inr rfl)) _, hx⟩

/-- Bytes of the source, written where they belong. -/
theorem Copying.setMem {k : Nat} (h : Copying c₀ n src dst width pos c) :
    Copying c₀ n src dst width (pos + k) (c.setMem (dst + pos) (getBytes c₀.mem (src + pos) k)) where
  rd := h.rd
  regs := h.regs
  bytes := Chip.memWf_setMem _ _ h.bytes
  mem a := by
    show getB (putBytes c.mem _ _) a = _
    rw [getB_putBytes _ _ _ h.bytes, length_getBytes]
    by_cases hnew : dst + pos ≤ a ∧ a < dst + pos + k
    · rw [if_pos hnew, if_pos (by omega), getD_getBytes (by omega)]
      exact congrArg _ (by omega)
    · rw [if_neg hnew, h.mem a]
      by_cases hold : dst ≤ a ∧ a < dst + pos
      · rw [if_pos hold, if_pos (by omega)]
      · rw [if_neg hold, if_neg (by omega)]

/-- The source reads as it did when the copy began. -/
theorem Copying.getBytes_src {k : Nat} (h : Copying c₀ n src dst width pos c) (hr : CopyRanges src dst width)
    (hk : pos + k ≤ width) : getBytes c.mem (src + pos) k = getBytes c₀.mem (src + pos) k := by
  have hapart := hr.apart
  exact getBytes_congr fun i hi => by rw [h.mem, if_neg (by omega)]

theorem copyXfer_of_lt (hpos : pos < width) (src dst : Nat) (buf : List Byte) : copyXfer src dst width pos buf =
    { src := src, dst := dst, smode := 0, dmode := 0, width := width, pos := pos, buf := buf } := by
  rw [copyXfer, if_neg (by omega)]

theorem copyXfer_residue (src dst width pos : Nat) (buf : List Byte) :
    (copyXfer src dst width pos buf).residue = width - pos := by
  unfold copyXfer
  split
  · simp only [Xfer.residue]
    omega
  · simp [Xfer.residue]

/-- The length of a burst at an address in SRAM: some bytes, and no more than are left. -/
theorem burstLen_of_sram {left : Nat} (h : InSram a) (hleft : 0 < left) : 0 < burstLen 0 a left ∧ burstLen 0 a left ≤ left := by
  rw [burstLen, if_neg (by simp [h.targetOf_ne])]
  omega

/-- A burst that reads: the buffer holds the next bytes of the source. -/
theorem Copying.burst_read (h : Copying c₀ n src dst width pos c) (hr : CopyRanges src dst width) (hrun : c₀.RunsPlainly n)
    (hpos : pos < width) (hx : c.Moves n (copyXfer src dst width pos [])) :
    ∃ k d, 0 < k ∧ pos + k ≤ width ∧ c.chBurst e n (copyXfer src dst width pos []) = (true, d) ∧
      Copying c₀ n src dst width pos d ∧ d.Moves n (copyXfer src dst width pos (getBytes c₀.mem (src + pos) k)) := by
  obtain ⟨srcLo, srcHi, -, -, -⟩ := id hr
  obtain ⟨hk, hkleft⟩ := burstLen_of_sram (a := src + pos) (left := width - pos) ⟨by omega, by omega⟩ (by omega)
  have haddr : modeAddr 0 ((((src : Int) + (0 : Nat) * 0) % 2 ^ 32).toNat) pos = src + pos := by
    simp only [modeAddr]
    omega
  have hread := (h.unhindered hrun hx).chRead_of_sram (e := e) (a := src + pos) (k := burstLen 0 (src + pos) (width - pos))
    hrun.channel hk (by omega) (by omega)
  have hmoves := hx.setCh (copyXfer src dst width pos (getBytes c₀.mem (src + pos) (burstLen 0 (src + pos) (width - pos))))
  obtain ⟨hcopying, hshown⟩ := (h.setCh _).chShow hmoves
  refine ⟨_, _, hk, by omega, ?_, hcopying, hshown⟩
  rw [h.getBytes_src hr (by omega)] at hread
  simp only [copyXfer_of_lt hpos, Chip.chBurst, Xfer.rowSrc, haddr, List.isEmpty_nil, if_true, hread, Chip.modCh, hx.ch]

/-- A burst that writes: the next bytes of the source stand in the destination. -/
theorem Copying.burst_write {k : Nat} (h : Copying c₀ n src dst width pos c) (hr : CopyRanges src dst width)
    (hrun : c₀.RunsPlainly n) (hk : 0 < k) (hpos : pos + k ≤ width)
    (hx : c.Moves n (copyXfer src dst width pos (getBytes c₀.mem (src + pos) k))) :
    ∃ j d, 0 < j ∧ j ≤ k ∧ c.chBurst e n (copyXfer src dst width pos (getBytes c₀.mem (src + pos) k)) = (true, d) ∧
      Copying c₀ n src dst width (pos + j) d ∧
      d.Moves n (copyXfer src dst width (pos + j) (getBytes c₀.mem (src + (pos + j)) (k - j))) := by
  obtain ⟨-, -, dstLo, dstHi, -⟩ := id hr
  have hsram : InSram (dst + pos) := ⟨by omega, by omega⟩
  obtain ⟨j, hlen⟩ : ∃ j, burstLen 0 (dst + pos) k = j := ⟨_, rfl⟩
  obtain ⟨hj, hjk⟩ := hlen ▸ burstLen_of_sram hsram hk
  have haddr : modeAddr 0 ((((dst : Int) + (0 : Nat) * 0) % 2 ^ 32).toNat) pos = dst + pos := by
    simp only [modeAddr]
    omega
  have hlast : (decide (pos + j = width) && decide (k - j = 0)) = decide (pos + j = width) := by
    by_cases hwhole : pos + j = width
    · rw [decide_eq_true hwhole, decide_eq_true (show k - j = 0 by omega)]
      rfl
    · rw [decide_eq_false hwhole, Bool.false_and]
  have hwrite := (h.unhindered hrun hx).chWrite_of_sram (e := e) hrun.channel hsram (getBytes c₀.mem (src + pos) j)
  have hmoves : (c.setMem (dst + pos) (getBytes c₀.mem (src + pos) j)).Moves n _ := hx
  obtain ⟨hcopying, hshown⟩ := (h.setMem.setCh _).chShow
    (hmoves.setCh (copyXfer src dst width (pos + j) (getBytes c₀.mem (src + (pos + j)) (k - j))))
  refine ⟨j, _, hj, hjk, ?_, hcopying, hshown⟩
  simp only [copyXfer_of_lt (show pos < width by omega), Chip.chBurst, Xfer.rowDst, haddr, isEmpty_getBytes,
    decide_eq_false (Nat.ne_of_gt hk), Bool.false_eq_true, if_false, length_getBytes, hlen, take_getBytes hjk, hwrite,
    drop_getBytes, Chip.modCh, hmoves.ch, Option.isSome_some, if_true, hlast, decide_eq_true_eq, Nat.add_assoc]
  rfl

/-- A copy under way runs until it has written all its bytes, and then ends: each write-out takes at most one read more. -/
theorem Copying.chCopy (hr : CopyRanges src dst width) (hrun : c₀.RunsPlainly n) {fuel k : Nat}
    (h : Copying c₀ n src dst width pos c) (hpos : pos + k ≤ width)
    (hx : c.Moves n (copyXfer src dst width pos (getBytes c₀.mem (src + pos) k)))
    (hfuel : 2 * (width - pos) + (if k = 0 then 1 else 0) ≤ fuel) (hpositive : 0 < fuel) :
    ∃ d, Copying c₀ n src dst width width d ∧ d.Moves n (copyXfer src dst width width []) ∧
      Machine.chCopy n 0 e fuel c = d.chCopied e n (copyXfer src dst width width []) 0 := by
  induction fuel generalizing pos k c with
  | zero => omega
  | succ fuel ih =>
    have hxfer : (c.ch n).x = some _ := congrArg DmaChan.x hx.ch
    have hstate : c.chState n = 1 := h.chState.trans hrun.state
    have hresidue := copyXfer_residue src dst width pos (getBytes c₀.mem (src + pos) k)
    by_cases hdone : pos = width
    · obtain rfl : k = 0 := by omega
      subst hdone
      refine ⟨c, h, hx, ?_⟩
      rw [Machine.chCopy, hxfer]
      simp only [hstate, ne_eq, not_true_eq_false, if_false, hresidue, Nat.sub_self, if_true]
      rfl
    · have hburst : ∀ d, c.chBurst e n (copyXfer src dst width pos (getBytes c₀.mem (src + pos) k)) = (true, d) →
          Machine.chCopy n 0 e (fuel + 1) c = Machine.chCopy n 0 e fuel d := by
        intro d hd
        rw [Machine.chCopy, hxfer]
        simp only [hstate, ne_eq, not_true_eq_false, if_false, hresidue, show ¬width - pos = 0 by omega, hd]
      by_cases hk : k = 0
      · subst hk
        obtain ⟨j, d, hj, hposj, hread, hcopying, hmoves⟩ := h.burst_read (e := e) hr hrun (by omega) hx
        rw [hburst d hread]
        exact ih hcopying hposj hmoves (by rw [if_pos rfl] at hfuel; rw [if_neg (by omega)]; omega) (by omega)
      · obtain ⟨j, d, hj, hjk, hwrite, hcopying, hmoves⟩ := h.burst_write (e := e) hr hrun (by omega) hpos hx
        rw [hburst d hwrite]
        exact ih hcopying (by omega) hmoves (by rw [if_neg hk] at hfuel; split <;> omega) (by omega)

/-! ### Fields of a register -/

/-- A field that is stored reads back, cut to its width. -/
theorem bits_putFld_self (w : Word) {hi lo : Nat} (v : Nat) (h : lo ≤ hi) (hhi : hi < 32) :
    bits (putFld w hi lo v) hi lo = v % 2 ^ (hi + 1 - lo) := by
  refine Nat.eq_of_testBit_eq fun i => ?_
  rw [Nat.testBit_mod_two_pow]
  by_cases hi' : i < hi + 1 - lo
  · rw [testBit_bits _ hi', getLsbD_putFld w v h (by omega), if_pos (by omega), Nat.add_sub_cancel_left, decide_eq_true hi',
      Bool.true_and]
  · rw [decide_eq_false hi', Bool.false_and, bits, Nat.testBit_mod_two_pow, decide_eq_false hi', Bool.false_and]

theorem Chip.chState_setChState (h : c.regsWf = true) (n s : Nat) : (c.setChState n s).chState n = s % 8 := by
  rw [Chip.chState, Chip.fld, Chip.setChState, Chip.setFld, Chip.rd_wr _ _ _ h, if_pos rfl,
    bits_putFld_self _ _ (by omega) (by omega)]
  rfl

theorem Chip.regsWf_setBit (a i : Nat) (h : c.regsWf = true) : (c.setBit a i).regsWf = true := Chip.regsWf_wr _ _ h

theorem Chip.bit_setBit_self {i : Nat} (h : c.regsWf = true) (hi : i < 32) : (c.setBit a i).bit a i = true := by
  rw [Chip.bit, Chip.setBit, Chip.rd_wr _ _ _ h, if_pos rfl, BitVec.getLsbD_or, getLsbD_word _ hi, Nat.testBit_two_pow_self,
    Bool.or_true]

/-- The bits of CHn_STAT below STATE stay as they are. -/
theorem Chip.bit_setChState {i : Nat} (h : c.regsWf = true) (hi : i < 29) (s : Nat) :
    (c.setChState n s).bit (A.CHn_STAT n) i = c.bit (A.CHn_STAT n) i := by
  rw [Chip.bit, Chip.setChState, Chip.setFld, Chip.rd_wr _ _ _ h, if_pos rfl, getLsbD_putFld _ _ (by omega) (by omega),
    if_neg (by omega)]
  rfl

theorem Chip.rd_setChState_of_ne (h : a ≠ A.CHn_STAT n) (s : Nat) : (c.setChState n s).rd a = c.rd a :=
  Chip.rd_wr_of_ne h c _

/-! ### The end of the copy (R489) -/

/-- The chip as a register-mode copy without a status record leaves it. -/
def Chip.copyEnded (c : Chip) (n src dst : Nat) : Chip :=
  let shown := ((c.wr (A.CHn_SRC n) (word src)).wr (A.CHn_DST n) (word dst)).wr (A.CHn_COUNT n) 0
  ((shown.setCh n {}).setBit (A.CHn_STAT n) 1).setChState n 0

theorem Copying.shown_end (h : Copying c₀ n src dst width pos c) (v v' v'' : Word) :
    Copying c₀ n src dst width pos (((c.wr (A.CHn_SRC n) v).wr (A.CHn_DST n) v').wr (A.CHn_COUNT n) v'') :=
  ((h.wr (.inr (.inl rfl)) v).wr (.inr (.inr rfl)) v').wr (.inl rfl) v''

theorem Copying.chCopied (h : Copying c₀ n src dst width width c) (hr : CopyRanges src dst width) (hrun : c₀.RunsPlainly n)
    (hx : c.Moves n x) : c.chCopied e n (copyXfer src dst width width []) 0 = c.copyEnded n (src + width) (dst + width) := by
  obtain ⟨-, srcHi, -, dstHi, -⟩ := hr
  have hprogram : c.chProgram n = false := h.chProgram.trans hrun.program
  have hrecord : ∀ v v' v'' k, Chip.bit (Chip.setCh (((c.wr (A.CHn_SRC n) v).wr (A.CHn_DST n) v').wr (A.CHn_COUNT n) v'') n k)
      (A.CHn_CFG n) 29 = false := fun v v' v'' _ =>
    (congrArg (·.getLsbD 29) ((h.shown_end v v' v'').rd _ (not_shownAt_cfg n))).trans hrun.record
  have hch : ∀ v v' v'', Chip.ch (((c.wr (A.CHn_SRC n) v).wr (A.CHn_DST n) v').wr (A.CHn_COUNT n) v'') n = { x := some x } :=
    fun _ _ _ => hx.ch
  simp only [Chip.chCopied, Chip.copyEnded, hprogram, copyXfer, if_true, modeAddr, Bool.false_eq_true, if_false, Chip.chDone,
    Chip.modCh, hrecord, hch, Nat.mod_eq_of_lt (show src + width < 2 ^ 32 by omega),
    Nat.mod_eq_of_lt (show dst + width < 2 ^ 32 by omega)]

/-- A copy that has not begun runs to its end. -/
theorem chRun_of_copy (hr : CopyRanges src dst width) (hrun : c.RunsPlainly n) (hwidth : 0 < width) (hregs : c.regsWf = true)
    (hmem : memWf c.mem = true) (hx : c.Moves n (copyXfer src dst width 0 [])) :
    ∃ d, Copying c n src dst width width d ∧ d.Moves n (copyXfer src dst width width []) ∧
      chRun n 0 e c = d.copyEnded n (src + width) (dst + width) := by
  obtain ⟨srcLo, srcHi, dstLo, dstHi, -⟩ := id hr
  obtain ⟨d, hd, hmoves, hcopy⟩ := (Copying.start (src := src) (dst := dst) (width := width) hregs hmem).chCopy (e := e) hr hrun
    (fuel := (copyXfer src dst width 0 []).bursts) (k := 0) (by omega) hx
    (by rw [Xfer.bursts, copyXfer_residue, if_pos rfl]; omega) (by rw [Xfer.bursts]; omega)
  refine ⟨d, hd, hmoves, ?_⟩
  rw [← hd.chCopied hr hrun hmoves, ← hcopy, chRun, hx.ch]
  have htouch {a : Nat} (hlo : 0x10000000 ≤ a) (hhi : a < 0x10200000) : ¬targetOf a = 8 := InSram.targetOf_ne ⟨hlo, hhi⟩
  have haligned : (copyXfer src dst width 0 []).misaligned = none := by
    have hsrc : ((src : Int) % 4294967296).toNat = src := by omega
    have hdst : ((dst : Int) % 4294967296).toNat = dst := by omega
    simp [copyXfer_of_lt hwidth, Xfer.misaligned, Xfer.rowSrc, Xfer.rowDst, hsrc, hdst,
      htouch srcLo (by omega), htouch dstLo (by omega), htouch (a := src + width - 1) (by omega) (by omega),
      htouch (a := dst + width - 1) (by omega) (by omega)]
  simp [haligned]

theorem Copying.rd_copyEnded (h : Copying c₀ n src dst width pos c) (s d : Nat) :
    (c.copyEnded n s d).rd (A.CHn_SRC n) = word s ∧ (c.copyEnded n s d).rd (A.CHn_DST n) = word d ∧
    (c.copyEnded n s d).rd (A.CHn_COUNT n) = 0 := by
  obtain ⟨hsrcDst, hsrcCount, hdstCount, hsrcStat, hdstStat, hcountStat⟩ : A.CHn_SRC n ≠ A.CHn_DST n ∧
      A.CHn_SRC n ≠ A.CHn_COUNT n ∧ A.CHn_DST n ≠ A.CHn_COUNT n ∧ A.CHn_SRC n ≠ A.CHn_STAT n ∧ A.CHn_DST n ≠ A.CHn_STAT n ∧
      A.CHn_COUNT n ≠ A.CHn_STAT n := by
    simp only [A.CHn_SRC, A.CHn_DST, A.CHn_COUNT, A.CHn_STAT]
    omega
  have hsrc := Chip.regsWf_wr (A.CHn_SRC n) (word s) h.regs
  have hdst := Chip.regsWf_wr (A.CHn_DST n) (word d) hsrc
  have hset {a : Nat} (ha : a ≠ A.CHn_STAT n) : (c.copyEnded n s d).rd a =
      (((c.wr (A.CHn_SRC n) (word s)).wr (A.CHn_DST n) (word d)).wr (A.CHn_COUNT n) 0).rd a :=
    (Chip.rd_setChState_of_ne ha 0).trans (Chip.rd_wr_of_ne ha _ _)
  refine ⟨?_, ?_, ?_⟩
  · rw [hset hsrcStat, Chip.rd_wr_of_ne hsrcCount, Chip.rd_wr_of_ne hsrcDst, Chip.rd_wr _ _ _ h.regs, if_pos rfl]
  · rw [hset hdstStat, Chip.rd_wr_of_ne hdstCount, Chip.rd_wr _ _ _ hsrc, if_pos rfl]
  · rw [hset hcountStat, Chip.rd_wr _ _ _ hdst, if_pos rfl]

theorem Copying.stat_copyEnded (h : Copying c₀ n src dst width pos c) (s d : Nat) :
    (c.copyEnded n s d).bit (A.CHn_STAT n) 1 = true ∧ (c.copyEnded n s d).chState n = 0 := by
  have hshown := ((h.shown_end (word s) (word d) 0).setCh {}).regs
  have hdone := Chip.regsWf_setBit (A.CHn_STAT n) 1 hshown
  exact ⟨(Chip.bit_setChState hdone (by decide) 0).trans (Chip.bit_setBit_self hshown (by decide)),
    Chip.chState_setChState hdone n 0⟩

theorem Chip.Moves.ch_copyEnded (h : c.Moves n x) (s d : Nat) : (c.copyEnded n s d).ch n = {} := by
  have hchans : (c.copyEnded n s d).dma.chans = putS {} c.dma.chans n {} := rfl
  rw [Chip.ch, hchans, h, putS, if_neg (Nat.lt_irrefl n), if_pos rfl, if_pos rfl, getS]

/-- Settles O45: the bursts keep `Copying` until every byte is written, and the copy's end leaves the registers as stated. -/
theorem dmaCopyMovesItsBytes : Obligations.DmaCopyMovesItsBytes := by
  intro n src dst width e c hn hmem hregs hstate hprogram hcoh hrecord hstream hchans hwidth hsrcLo hsrcHi hdstLo hdstHi hapart
  have hx : c.Moves n (copyXfer src dst width 0 []) := by rwa [copyXfer_of_lt hwidth]
  obtain ⟨d, hd, hmoves, hrun⟩ := chRun_of_copy (e := e) ⟨hsrcLo, hsrcHi, hdstLo, hdstHi, hapart⟩
    ⟨hn, hstate, hprogram, hcoh, hrecord, hstream⟩ hwidth hregs hmem hx
  show let r := chRun n 0 e c; _
  rw [hrun]
  obtain ⟨hsrc, hdst, hcount⟩ := hd.rd_copyEnded (src + width) (dst + width)
  obtain ⟨hdone, hidle⟩ := hd.stat_copyEnded (src + width) (dst + width)
  exact ⟨hd.mem, hd.bytes, hsrc, hdst, hcount, hdone, hidle, hmoves.ch_copyEnded _ _⟩

end Sys2Proof.Machine
end

section
/-! PROOF. The control of a DMA channel (14_dma.md, R487 to R507): what the writes of its control register and of the event flags
do, and what a tick, a bus error, a back-off and a reserved field make of a channel. -/

namespace Sys2Proof.Machine

variable {c d : Chip} {e : Env} {n a t : Nat} {s : State}

/-! ### The state of a channel -/

theorem Chip.ch_setCh_of_chans (h : c.dma.chans = []) (x : DmaChan) : (c.setCh n x).ch n = x := by
  show getS {} (putS {} c.dma.chans n x) n = x
  rw [h, putS]
  by_cases hx : x = {}
  · rw [if_pos hx, hx, getS]
  · rw [if_neg hx, getS, if_pos rfl]

theorem Chip.setCh_setCh_of_chans (h : c.dma.chans = []) (x y : DmaChan) : (c.setCh n x).setCh n y = c.setCh n y := by
  have hput : putS {} (putS {} c.dma.chans n x) n y = putS {} c.dma.chans n y := by
    rw [h, putS, putS]
    by_cases hx : x = {}
    · rw [if_pos hx, putS]
    · rw [if_neg hx, putS, if_neg (Nat.lt_irrefl n), if_pos rfl]
  show { c with dma := { c.dma with chans := putS {} (putS {} c.dma.chans n x) n y } } = _
  rw [hput]
  rfl

/-! ### Writes of the DMA window -/

theorem regWrite_dma (h : a / 65536 = 0x600D) (m : Master) (v : Word) (e : Env) (c : Chip) :
    regWrite m a v e c = dmaWrite a v e c := by
  rw [regWrite, h]
  rfl

theorem regWrite_chCtl (hn : n < 16) (m : Master) (v : Word) (e : Env) (c : Chip) :
    regWrite m (A.CHn_CTL n) v e c =
      if v.getLsbD 2 then dmaDisable n c
      else if v.getLsbD 0 then dmaStart n e (if v.getLsbD 1 then dmaAskAbort n c else c)
      else if v.getLsbD 1 then dmaAskAbort n c else c := by
  have hwindow : A.CHn_CTL n / 65536 = 0x600D := by rw [A.CHn_CTL]; omega
  have hset : ¬A.CHn_CTL n = A.DMA_EVT_SET := by rw [A.CHn_CTL, A.DMA_EVT_SET]; omega
  have hclr : ¬A.CHn_CTL n = A.DMA_EVT_CLR := by rw [A.CHn_CTL, A.DMA_EVT_CLR]; omega
  have hrange : ¬(A.CHn_CTL n < A.CHn_CFG 0 ∨ A.CHn_CFG 16 ≤ A.CHn_CTL n) := by simp only [A.CHn_CTL, A.CHn_CFG]; omega
  have hchannel : (A.CHn_CTL n - A.CHn_CFG 0) / 0x40 = n := by simp only [A.CHn_CTL, A.CHn_CFG]; omega
  have hoffset : (A.CHn_CTL n - A.CHn_CFG 0) % 0x40 = 4 := by simp only [A.CHn_CTL, A.CHn_CFG]; omega
  rw [regWrite_dma hwindow, dmaWrite, if_neg hset, if_neg hclr, if_neg hrange]
  simp only [hchannel, hoffset, if_true]

theorem exec_dmaStart {m : Master} (hp : s.chip.powered = true) (hm : admits 8 m.port = true) (ch : BitVec 4) :
    exec (.dmaStart m ch) s = .next (s.becomes (dmaStart ch.toNat s.env s.chip)) := by
  refine (store_of_admits hp hm).trans (next_becomes_congr ?_)
  rw [regWrite_chCtl ch.isLt]
  rfl

theorem exec_dmaAbort {m : Master} (hp : s.chip.powered = true) (hm : admits 8 m.port = true) (ch : BitVec 4) :
    exec (.dmaAbort m ch) s = .next (s.becomes (dmaAskAbort ch.toNat s.chip)) := by
  refine (store_of_admits hp hm).trans (next_becomes_congr ?_)
  rw [regWrite_chCtl ch.isLt]
  rfl

theorem exec_dmaDisable {m : Master} (hp : s.chip.powered = true) (hm : admits 8 m.port = true) (ch : BitVec 4) :
    exec (.dmaDisable m ch) s = .next (s.becomes (dmaDisable ch.toNat s.chip)) := by
  refine (store_of_admits hp hm).trans (next_becomes_congr ?_)
  rw [regWrite_chCtl ch.isLt]
  rfl

/-! ### START, DISABLE and ABORT (R487, R504, R505) -/

/-- A channel with nothing under way; its back-off and its allowance stay. -/
def DmaChan.fresh (k : DmaChan) : DmaChan :=
  { k with loops := [], wait := none, pre := none, x := none, tries := 0, post := none }

theorem dmaStart_of_active (h : c.chActive n = true) : dmaStart n e c = c.setBit (A.CHn_STAT n) 15 := by
  rw [dmaStart, if_pos h]

theorem dmaStart_of_program (h : c.chActive n = false) (hprogram : c.chProgram n = true) :
    dmaStart n e c = ((c.setCh n (c.ch n).fresh).wr (A.CHn_PC n) (c.rd (A.CHn_PROG n))).setChState n 1 := by
  rw [dmaStart, if_neg (by simp [h])]
  exact if_pos hprogram

/-- The copy that the registers of a channel in register mode describe. -/
def Chip.regCopy (c : Chip) (n : Nat) : Xfer :=
  { src := (c.rd (A.CHn_SRC n)).toNat, dst := (c.rd (A.CHn_DST n)).toNat, smode := bits (c.rd (A.CHn_CFG n)) 13 12
    dmode := bits (c.rd (A.CHn_CFG n)) 17 16, width := (c.rd (A.CHn_COUNT n)).toNat }

theorem dmaStart_of_register (h : c.chActive n = false) (hprogram : c.chProgram n = false) (hchans : c.dma.chans = [])
    (hsmode : (c.regCopy n).smode ≠ 3) (hdmode : (c.regCopy n).dmode ≠ 3) (hcount : (c.rd (A.CHn_COUNT n)).toNat ≠ 0) :
    dmaStart n e c = (c.setCh n { (c.ch n).fresh with x := some (c.regCopy n) }).setChState n 1 := by
  have hmodes : ¬((c.regCopy n).smode = 3 ∨ (c.regCopy n).dmode = 3) := fun hor => hor.elim hsmode hdmode
  have hstart : dmaStart n e c = ((c.setCh n (c.ch n).fresh).modCh n fun k => { k with x := some (c.regCopy n) }).setChState n 1 := by
    rw [dmaStart, if_neg (by simp [h])]
    refine (if_neg (show ¬(_ : Bool) = true from Bool.eq_false_iff.mp hprogram)).trans ?_
    exact (if_neg hmodes).trans (if_neg hcount)
  rw [hstart, Chip.modCh, Chip.ch_setCh_of_chans hchans, Chip.setCh_setCh_of_chans hchans]

theorem dmaDisable_frame (n : Nat) (c : Chip) :
    ∃ y : Chip, dmaDisable n c = (y.setCh n (c.ch n).fresh).setChState n 0 ∧ y.mem = c.mem ∧ y.dma = c.dma ∧
      y.caches = c.caches := by
  unfold dmaDisable Chip.modCh
  exact ⟨_, rfl, rfl, rfl, rfl⟩

theorem dmaAskAbort_of_active (h : c.chActive n = true) :
    dmaAskAbort n c = { c with dma := { c.dma with aborts := c.dma.aborts ++ [n] } } := if_pos h

theorem dmaAskAbort_of_inactive (h : c.chActive n = false) : dmaAskAbort n c = c := if_neg (by simp [h])

/-! ### The end of a wait (R496) -/

theorem State.advTo_slow (s : State) (t : Nat) : (s.advTo t).chip.slow = s.chip.slow := by
  simp only [Chip.slow, Chip.bit, State.advTo_chip_met, s.advTo_rd t (show A.SYS_CLK_STAT ≠ A.MET_STAT by decide)]

theorem State.advTo_chip_dma (s : State) (t : Nat) : (s.advTo t).chip.dma = s.chip.dma := by
  obtain ⟨r, hr⟩ := s.advTo_chip_eq_regs t
  rw [hr]

theorem State.advTo_ch (s : State) (t : Nat) (n : Nat) : (s.advTo t).chip.ch n = s.chip.ch n := by
  rw [Chip.ch, State.advTo_chip_dma]
  rfl

theorem State.advTo_chState (s : State) (t : Nat) (n : Nat) : (s.advTo t).chip.chState n = s.chip.chState n := by
  rw [Chip.chState, Chip.fld, s.advTo_rd t (by rw [A.CHn_STAT, A.MET_STAT]; omega)]
  rfl

theorem Chip.tickAt_of_gap_le (h : c.met.gap.2 ≤ t) (unit : Nat) : c.tickAt unit t = t := by
  rw [Chip.tickAt, if_neg (by simp; omega)]

theorem chWaitComplete_of_block (hslow : c.slow = false) (hstate : c.chState n = 2) (hwait : (c.ch n).wait = some (.block t))
    (hgap : c.met.gap.2 ≤ t) (hnow : t ≤ e.now) : chWaitComplete n e c =
      ((c.setCh n { c.ch n with wait := none }).wr (A.CHn_PC n) (word (c.chPc n + 4))).setChState n 1 := by
  have hdue : c.waitDue e n = some t := by
    simp only [Chip.waitDue, hwait, c.tickAt_of_gap_le hgap]
  rw [chWaitComplete, if_neg (by simp [hstate, hslow]), hdue]
  simp only [hnow, if_true, hwait, chWaitDone]
  rfl

/-! ### Bus errors and back-offs (R507) -/

theorem Chip.rd_busError_of_ne {m : Master} {target cause x b : Nat} {w : Bool} (hcount : b ≠ A.SYS_BUS_ERR_COUNT)
    (haddr : b ≠ A.SYS_BUS_ERR_ADDR) (hinfo : b ≠ A.SYS_BUS_ERR_INFO) :
    (c.busError m target cause x w).rd b = c.rd b := by
  have hinc : (c.inc A.SYS_BUS_ERR_COUNT).rd b = c.rd b := Chip.rd_wr_of_ne hcount _ _
  unfold Chip.busError
  dsimp only
  split
  · exact hinc
  · rw [Chip.rd_wr_of_ne hinfo, Chip.rd_wr_of_ne haddr, hinc]

theorem Chip.busError_dma {m : Master} {target cause x : Nat} {w : Bool} : (c.busError m target cause x w).dma = c.dma := by
  unfold Chip.busError
  dsimp only
  split <;> rfl

theorem Chip.chError_busError {m : Master} {target cause kind : Nat} {w : Bool} :
    (c.busError m target cause a w).chError e n a kind =
      if targetOf a < 8 ∧ (c.ch n).tries < c.fld (A.CHn_CFG n) 26 24 then
        ((c.busError m target cause a w).setCh n
          { c.ch n with tries := (c.ch n).tries + 1, backoff := e.now + backoffCounts (c.ch n).tries }).setChState n 3
      else (c.busError m target cause a w).chHalt e n 2 kind a := by
  have hch : (c.busError m target cause a w).ch n = c.ch n := by rw [Chip.ch, Chip.busError_dma]; rfl
  have hcfg : (c.busError m target cause a w).fld (A.CHn_CFG n) 26 24 = c.fld (A.CHn_CFG n) 26 24 := by
    rw [Chip.fld, Chip.rd_busError_of_ne (by rw [A.CHn_CFG, A.SYS_BUS_ERR_COUNT]; omega)
      (by rw [A.CHn_CFG, A.SYS_BUS_ERR_ADDR]; omega) (by rw [A.CHn_CFG, A.SYS_BUS_ERR_INFO]; omega)]
    rfl
  simp only [Chip.chError, hch, hcfg, Bool.and_eq_true, decide_eq_true_eq]

theorem chBackoffEnd_of_due (hstate : c.chState n = 3) (hdue : (c.ch n).backoff ≤ e.now) (hx : (c.ch n).x = none) :
    chBackoffEnd n e c = chExec n (fun _ => true) e (c.setChState n 1) := by
  have hch : ((c.setChState n 1).ch n).x = none := hx
  simp [chBackoffEnd, hstate, hdue, hch]

/-- Settles O43: each command is a write of the channel's control register or an operation on the channel, whose effect the
lemmas above give. -/
theorem dmaChannelControl : Obligations.DmaChannelControl := by
  intro m ch cause v t x d ws s hp
  refine ⟨fun hm => ⟨?active, ?inactive, ?disable, ?set, ?clr⟩, ?wait, ?error, ?backoff, ?bad, ?copy⟩
  case active =>
    intro h
    rw [exec_dmaStart hp hm, exec_dmaAbort hp hm, dmaStart_of_active h, dmaAskAbort_of_active h]
    exact ⟨rfl, rfl⟩
  case inactive =>
    intro h
    rw [exec_dmaStart hp hm, exec_dmaAbort hp hm, dmaAskAbort_of_inactive h]
    exact ⟨rfl, fun hprogram => next_becomes_congr (dmaStart_of_program h hprogram),
      fun hprogram hsmode hdmode hcount hchans =>
        next_becomes_congr (dmaStart_of_register h hprogram hchans hsmode hdmode hcount)⟩
  case disable =>
    obtain ⟨y, hy, hmem, hdma, hcaches⟩ := dmaDisable_frame ch.toNat s.chip
    exact ⟨y, hmem, hdma, hcaches, (exec_dmaDisable hp hm ch).trans (next_becomes_congr hy)⟩
  case set => exact store_of_admits hp hm
  case clr => exact store_of_admits hp hm
  case wait =>
    intro hslow hstate hwait hgap hnow
    have hdue : s.chip.waitDue s.env ch.toNat = some t := by
      simp only [Chip.waitDue, hwait, s.chip.tickAt_of_gap_le hgap]
    show runDue (s.chip.waitDue s.env ch.toNat) (chWaitComplete ch.toNat) s = _
    rw [hdue, runDue, runAt_of_powered hp hslow]
    refine congrArg _ (State.becomesAt_congr ?_)
    rw [chWaitComplete_of_block (t := t) ((s.advTo_slow t).trans hslow) ((s.advTo_chState t _).trans hstate)
      (by rw [State.advTo_ch]; exact hwait) (by rw [State.advTo_chip_met]; exact hgap) (Nat.le_refl t), State.advTo_ch]
  case error =>
    intro write a size kind target hnext hcause
    refine (run_of_powered hp).trans (next_becomes_congr ?_)
    rw [chBusError, hnext]
    simp only [hcause]
    exact Chip.chError_busError
  case backoff =>
    intro hslow hstate hback hnow hx
    show runDue (s.chip.backoffDue ch.toNat) (chBackoffEnd ch.toNat) s = _
    rw [Chip.backoffDue, if_pos hstate, hback, runDue, runAt_of_powered hp hslow]
    refine congrArg _ (State.becomesAt_congr ?_)
    exact chBackoffEnd_of_due ((s.advTo_chState t _).trans hstate) (by rw [State.advTo_ch, hback])
      (by rw [State.advTo_ch]; exact hx)
  case bad =>
    intro hready hfetch hinvalid
    refine (run_of_powered hp).trans (next_becomes_congr ?_)
    rw [chBadRow, if_neg (by simp [hready]), hfetch]
    exact if_neg (by simp only [hinvalid, Bool.false_eq_true, not_false_iff])
  case copy =>
    intro hprogram hstate hx
    refine (run_of_powered hp).trans (next_becomes_congr ?_)
    have hn : ch.toNat < 16 := ch.isLt
    simp [chCopyComplete, hn, hprogram, chResume, hx, hstate]

end Sys2Proof.Machine
end

section
/-! PROOF. Requests for a mode and the entry to CONFIGURE (17_modes_power_reset.md, R567 to R569, R578): what a write of
SYS_MODE_REQ does in each mode, and the tick that ends the ramp. -/

namespace Sys2Proof.Machine

variable {c : Chip} {e : Env} {s : State} {m : Master}

/-! ### The fields of a word with a key -/

theorem bits_31_16_keyed {low : Nat} (h : low < 65536) (key : BitVec 16) : bits (word (key.toNat * 65536 + low)) 31 16 = key.toNat := by
  have hkey := key.isLt
  rw [bits_31_16, word, BitVec.toNat_ofNat]
  omega

theorem bits_1_0_keyed {low : Nat} (h : low < 4) (key : BitVec 16) : bits (word (key.toNat * 65536 + low)) 1 0 = low := by
  have hkey := key.isLt
  rw [bits_low, word, BitVec.toNat_ofNat]
  omega

/-! ### Writes of SYS_MODE_REQ (R569) -/

theorem regWrite_sysModeReq (m : Master) (v : Word) (e : Env) (c : Chip) : regWrite m A.SYS_MODE_REQ v e c = modeReqWrite v e c := rfl

section
variable (hp : s.chip.powered = true) (hm : admits 8 m.port = true) (key : BitVec 16)
include hp hm

theorem exec_modeRequestConfigure :
    exec (.modeRequestConfigure m key) s = .next (s.becomes (requestConfigure s.env s.chip)) := by
  refine (store_of_admits hp hm).trans (next_becomes_congr ?_)
  rw [regWrite_sysModeReq, modeReqWrite, modeWord, bits_1_0_keyed (by decide)]
  rfl

theorem exec_modeRequestPerform : exec (.modeRequestPerform m key) s = .next (s.becomes (requestPerform s.chip)) := by
  refine (store_of_admits hp hm).trans (next_becomes_congr ?_)
  rw [regWrite_sysModeReq, modeReqWrite, modeWord, bits_1_0_keyed (by decide)]
  rfl

theorem exec_modeRequestHush : exec (.modeRequestHush m key) s = .next (s.becomes (requestHush s.chip)) := by
  refine (store_of_admits hp hm).trans (next_becomes_congr ?_)
  rw [regWrite_sysModeReq, modeReqWrite, modeWord, bits_1_0_keyed (by decide)]
  rfl

theorem exec_modeRequestVault :
    exec (.modeRequestVault m key) s = .next (s.becomes (requestVault key.toNat s.env s.chip)) := by
  refine (store_of_admits hp hm).trans (next_becomes_congr ?_)
  rw [regWrite_sysModeReq, modeReqWrite, modeWord, bits_1_0_keyed (by decide), bits_31_16_keyed (by decide)]
  rfl

end

/-! ### What a request does in each mode (R567, R568, R578) -/

theorem requestConfigure_of_perform (h : c.mode = .perform) : requestConfigure e c = (c.clrBit A.SYS_MODE 31).startRamp e := by
  rw [requestConfigure, h]

theorem requestConfigure_of_configure (h : c.mode = .configure) : requestConfigure e c = c := by rw [requestConfigure, h]

theorem requestConfigure_of_hush (h : c.mode = .hush) : requestConfigure e c = c.modeRefused := by rw [requestConfigure, h]

theorem requestHush_of_perform (h : c.mode = .perform) : requestHush c = c.setBit A.SYS_MODE 31 := by rw [requestHush, h]

theorem requestHush_of_hush (h : c.mode = .hush) : requestHush c = c := by rw [requestHush, h]

theorem requestHush_of_configure (h : c.mode = .configure) : requestHush c = c.modeRefused := by rw [requestHush, h]

theorem enterVault_of_perform (h : c.mode = .perform) :
    enterVault e c = (c.startRamp e).pwrDo fun p => { p with toVault := true } := by
  rw [enterVault, h]

theorem enterVault_of_configure (h : c.mode = .configure) :
    enterVault e c = c.pwrDo fun p => { p with toVault := true } := by
  rw [enterVault, h]

theorem enterVault_of_hush (h : c.mode = .hush) : enterVault e c = c.modeRefused := by rw [enterVault, h]

theorem Chip.startRamp_of_none (h : c.pwr.ramp = none) : c.startRamp e = Chip.cancelArmed
    { c with pwr := { c.pwr with ramp := some (multAfter c.met.ticks.cb e.now + c.met.ticks.cb) } } 4 1 := by
  rw [Chip.startRamp, h]
  rfl

/-! ### The end of the ramp (R568) -/

theorem configureTick_of_due {t t0 : Nat} (h : c.pwr.ramp = some t0) (ht : t0 + 2 * c.met.ticks.cb ≤ t) :
    configureTick t e c = Chip.pwrDo ((((c.endVoices e (fun _ => true) (BitVec.ofNat 48 t)).chimesOff).setMode .configure).setBit
      A.SYS_MODE_EVT 0) fun p => { p with ramp := none } := by
  rw [configureTick, h]
  exact if_pos ht

theorem State.advTo_chip_pwr (s : State) (t : Nat) : (s.advTo t).chip.pwr = s.chip.pwr := by
  obtain ⟨r, hr⟩ := s.advTo_chip_eq_regs t
  rw [hr]

theorem runTickDue_none {f : Env → Chip → Chip} (hp : s.chip.powered = true) :
    runTickDue none f s = .next (s.becomes s.chip) := by
  rw [runTickDue, runDue, ite_self, run_of_powered hp]

/-- Settles O50: each request is its operation in the device's mode, and CONFIGURE_ENTERED is the tick that is due after the
ramp. -/
theorem modeRequestsAndTheRampToConfigure : Obligations.ModeRequestsAndTheRampToConfigure := by
  intro m key t0 s hp hm
  have hvault {c : Chip} {e : Env} : requestVault (0x5641 : BitVec 16).toNat e c = enterVault e c := if_pos rfl
  refine ⟨?ramp, ?configure, ?perform, ?noPerform, ?hush, ?noHush, ?key, ?entered, ?noRamp⟩
  case ramp =>
    intro hmode hramp
    refine ⟨multAfter s.chip.met.ticks.cb s.clock.abs, multAfter_mod _ _, lt_multAfter (Ticks.cb_pos _) _,
      multAfter_le _ _, ?_, ?_⟩
    · rw [exec_modeRequestConfigure hp hm, requestConfigure_of_perform hmode,
        Chip.startRamp_of_none (c := s.chip.clrBit A.SYS_MODE 31) hramp]
      rfl
    · rw [exec_modeRequestVault hp hm, hvault, enterVault_of_perform hmode, Chip.startRamp_of_none hramp]
      rfl
  case configure =>
    intro hmode
    rw [exec_modeRequestConfigure hp hm, exec_modeRequestVault hp hm, hvault, requestConfigure_of_configure hmode,
      enterVault_of_configure hmode]
    exact ⟨rfl, rfl⟩
  case perform =>
    intro hmode
    rw [exec_modeRequestPerform hp hm, exec_modeRequestHush hp hm, requestPerform, if_pos hmode, requestHush_of_perform hmode]
    exact ⟨rfl, rfl⟩
  case noPerform =>
    intro hmode
    rw [exec_modeRequestPerform hp hm, requestPerform, if_neg hmode]
    rfl
  case hush =>
    intro hmode
    rw [exec_modeRequestConfigure hp hm, exec_modeRequestHush hp hm, exec_modeRequestVault hp hm, hvault,
      requestConfigure_of_hush hmode, requestHush_of_hush hmode, enterVault_of_hush hmode]
    exact ⟨rfl, rfl, rfl⟩
  case noHush =>
    intro hmode
    rw [exec_modeRequestHush hp hm, requestHush_of_configure hmode]
    rfl
  case key =>
    intro hkey
    have hne : key.toNat ≠ 0x5641 := fun h => hkey (BitVec.eq_of_toNat_eq h)
    rw [exec_modeRequestVault hp hm, requestVault, if_neg hne]
  case entered =>
    intro hslow hramp
    have hdue : s.chip.configureDue = some (t0 + 2 * s.chip.met.ticks.cb) := by rw [Chip.configureDue, hramp]; rfl
    refine (runTickDue_of_due hp hslow hdue).trans (congrArg _ (State.becomesAt_congr ?_))
    exact configureTick_of_due ((congrArg Power.ramp (s.advTo_chip_pwr _)).trans hramp) (by rw [State.advTo_chip_met])
  case noRamp =>
    intro hramp
    have hdue : s.chip.configureDue = none := by rw [Chip.configureDue, hramp]; rfl
    show runTickDue s.chip.configureDue _ s = _
    rw [hdue, runTickDue_none hp]

end Sys2Proof.Machine
end

section
/-! PROOF. What is done about a fault (18_ledger_and_faults.md, R610, R613 to R616): the mute at its block tick, and the writes of
the fault unit's registers. -/

namespace Sys2Proof.Machine

variable {c : Chip} {e : Env} {s : State} {m : Master} {v : Word}

/-! ### The tick of the mute (R614) -/

theorem fatalMute_of_due {t : Nat} (hmute : c.flt.mute = .due) (hat : c.flt.muteAt = none) (ht : e.now = t) :
    fatalMute e c = { c.setBit A.FLT_STAT 2 with flt := { c.flt with mute := .ramp, muteAt := some (t, .due) } } := by
  rw [fatalMute, if_pos (by simp [hmute]), muteTick, hat]
  simp only [muteTick.go, hmute, ht]
  rfl

theorem State.advTo_chip_flt (s : State) (t : Nat) : (s.advTo t).chip.flt = s.chip.flt := by
  obtain ⟨r, hr⟩ := s.advTo_chip_eq_regs t
  rw [hr]

/-! ### Writes of the fault unit (R610, R613, R615, R616) -/

theorem faultAck_of_key (h : v.toNat % 65536 = 0xA5C3) : faultAck v c =
    (((c.clrBit A.FLT_FIRST_SRC 31).wr A.FLT_MORE 0).wr A.FLT_STAT (c.rd A.FLT_STAT &&& ~~~3)).wr A.FLT_FATALS 0 :=
  if_pos ((bits_15_0 v).trans h)

theorem faultAck_of_ne (h : v.toNat % 65536 ≠ 0xA5C3) : faultAck v c = c := if_neg fun heq => h ((bits_15_0 v).symm.trans heq)

theorem faultInject_of_key (h : v.toNat / 65536 = 0x1E57) : faultInject v e c = c.report e 0x1F (v.toNat % 4) 0 0 := by
  rw [faultInject, bits_31_16, if_pos h, bits_low]
  rfl

theorem faultInject_of_ne (h : v.toNat / 65536 ≠ 0x1E57) : faultInject v e c = c := by
  rw [faultInject, bits_31_16, if_neg h]

theorem faultUnmute_of_held (h : c.bit A.FLT_STAT 1 = true) : faultUnmute c = c := if_pos h

theorem faultUnmute_of_on (h : c.bit A.FLT_STAT 1 = false) (hmute : c.flt.mute = .on) :
    faultUnmute c = { c.clrBit A.FLT_STAT 2 with flt := { c.flt with mute := .lifting } } := by
  rw [faultUnmute, if_neg (by simp [h]), hmute]

theorem faultUnmute_of_off (h : c.bit A.FLT_STAT 1 = false) (hmute : c.flt.mute = .off) :
    faultUnmute c = c.clrBit A.FLT_STAT 2 := by
  have hsame : { c.flt with mute := .off } = c.flt := by rw [← hmute]
  rw [faultUnmute, if_neg (by simp [h]), hmute]
  show { c.clrBit A.FLT_STAT 2 with flt := { c.flt with mute := .off } } = _
  rw [hsame]
  rfl

theorem releaseCores_of_held {dbg : Bool} (h : c.bit A.FLT_STAT 3 = true) (hm : dbg = true ∨ ∃ x, m = .host x) :
    releaseCores m dbg c = { c.clrBit A.FLT_STAT 3 with
      pwr := { c.pwr with due := { c.pwr.due with core0 := true, core1 := true } } } := by
  rcases hm with rfl | ⟨x, rfl⟩
  · exact if_pos h
  · unfold releaseCores
    exact if_pos (by simp [h])

theorem releaseCores_of_not_held {dbg : Bool} (h : c.bit A.FLT_STAT 3 = false) : releaseCores m dbg c = c :=
  if_neg (by simp [h])

theorem releaseCores_of_not_host (hm : ∀ x, m ≠ .host x) : releaseCores m false c = c := by
  unfold releaseCores
  split
  · exact absurd rfl (hm _)
  · rfl

theorem exec_release_debug (hp : s.chip.powered = true) (m : Master) :
    exec (.release m true) s = .next (s.becomes (releaseCores m true s.chip)) := run_of_powered hp

theorem exec_release (hp : s.chip.powered = true) (hm : admits 8 m.port = true) :
    exec (.release m false) s = .next (s.becomes (releaseCores m false s.chip)) :=
  (run_of_powered hp).trans (next_becomes_congr (if_pos hm))

/-- Settles O55: the mute's tick and the write of each register are the operations above, case by case. -/
theorem faultsAreAcknowledgedMutedAndInjected : Obligations.FaultsAreAcknowledgedMutedAndInjected := by
  intro m v debug s hp
  refine ⟨?mute, ?slow, ?release, ?free, ?other, fun hm => ⟨?ack, ?noAck, ?held, ?lift, ?off, ?inject, ?noInject⟩⟩
  case mute =>
    intro hslow hmute hat
    have htick : exec .fatalMute s = runAt (s.chip.nextBlock s.clock.abs) fatalMute s := if_neg (by simp [hslow])
    rw [htick, runAt_of_powered hp hslow]
    refine congrArg _ (State.becomesAt_congr ?_)
    exact fatalMute_of_due ((congrArg Faults.mute (s.advTo_chip_flt _)).trans hmute)
      ((congrArg Faults.muteAt (s.advTo_chip_flt _)).trans hat) rfl
  case slow =>
    intro hslow
    have htick : exec .fatalMute s = run (fun _ c => c) s := if_pos hslow
    rw [htick, run_of_powered hp]
  case release =>
    intro hm hheld
    cases debug
    case true => exact (exec_release_debug hp m).trans (next_becomes_congr (releaseCores_of_held hheld (.inl rfl)))
    case false =>
      obtain ⟨h, hhost, hadmits⟩ := hm.resolve_left Bool.false_ne_true
      exact (exec_release hp hadmits).trans (next_becomes_congr (releaseCores_of_held hheld (.inr ⟨h, hhost⟩)))
  case free =>
    intro hm hheld
    cases debug
    case true => exact (exec_release_debug hp m).trans (next_becomes_congr (releaseCores_of_not_held hheld))
    case false =>
      exact (exec_release hp (hm.resolve_right Bool.false_ne_true)).trans (next_becomes_congr (releaseCores_of_not_held hheld))
  case other => exact fun hm hhost => (exec_release hp hm).trans (next_becomes_congr (releaseCores_of_not_host hhost))
  case ack => exact fun h => (store_of_admits hp hm).trans (next_becomes_congr (faultAck_of_key h))
  case noAck => exact fun h => (store_of_admits hp hm).trans (next_becomes_congr (faultAck_of_ne h))
  case held => exact fun h => (store_of_admits hp hm).trans (next_becomes_congr (faultUnmute_of_held h))
  case lift => exact fun h hmute => (store_of_admits hp hm).trans (next_becomes_congr (faultUnmute_of_on h hmute))
  case off => exact fun h hmute => (store_of_admits hp hm).trans (next_becomes_congr (faultUnmute_of_off h hmute))
  case inject => exact fun h => (store_of_admits hp hm).trans (next_becomes_congr (faultInject_of_key h))
  case noInject => exact fun h => (store_of_admits hp hm).trans (next_becomes_congr (faultInject_of_ne h))

end Sys2Proof.Machine
end

section
/-! PROOF. What the Ledger, its log and the queues hold (Machine/Ledger.lean, Machine/Queue.lean; 18_ledger_and_faults.md): a change
there leaves the rest of the chip, and what follows a command on a device at rest changes nothing else. -/

namespace Sys2Proof.Machine

variable {c d x : Chip} {e : Env} {s : State} {a n : Nat}

/-! ### Changes to the Ledger and the queues alone -/

/-- The chip `d` differs from `c` at most in memory, in the Ledger and the queues, and in registers above the SYS, MET and CHT
windows. -/
structure Chip.Recorded (c d : Chip) : Prop where
  low : ∀ a, a < 0x60030000 → d.rd a = c.rd a
  wf : c.regsWf = true → d.regsWf = true
  rest : d = { c with regs := d.regs, mem := d.mem, ldg := d.ldg, que := d.que }

theorem Chip.Recorded.refl (c : Chip) : c.Recorded c := ⟨fun _ _ => rfl, id, rfl⟩

theorem Chip.Recorded.trans (h : c.Recorded d) (h' : d.Recorded x) : c.Recorded x where
  low a ha := (h'.low a ha).trans (h.low a ha)
  wf := h'.wf ∘ h.wf
  rest := by rw [h'.rest, h.rest]

theorem Chip.recorded_wr (h : 0x60030000 ≤ a) (c : Chip) (v : Word) : c.Recorded (c.wr a v) where
  low b hb := Chip.rd_wr_of_ne (by omega) c v
  wf := Chip.regsWf_wr a v
  rest := rfl

theorem Chip.recorded_setBit (h : 0x60030000 ≤ a) (c : Chip) (i : Nat) : c.Recorded (c.setBit a i) := Chip.recorded_wr h c _

theorem Chip.recorded_putBit (h : 0x60030000 ≤ a) (c : Chip) (i : Nat) (b : Bool) : c.Recorded (c.putBit a i b) := by
  cases b
  · exact Chip.recorded_wr h c _
  · exact Chip.recorded_wr h c _

theorem Chip.recorded_setMem (c : Chip) (a : Nat) (bs : List Byte) : c.Recorded (c.setMem a bs) := ⟨fun _ _ => rfl, id, rfl⟩

theorem Chip.recorded_ldg (c : Chip) (l : Ledger) : c.Recorded { c with ldg := l } := ⟨fun _ _ => rfl, id, rfl⟩

theorem Chip.recorded_que (c : Chip) (q : Queues) : c.Recorded { c with que := q } := ⟨fun _ _ => rfl, id, rfl⟩

theorem Chip.Recorded.mode (h : c.Recorded d) : d.mode = c.mode := by rw [h.rest]
theorem Chip.Recorded.pwr (h : c.Recorded d) : d.pwr = c.pwr := by rw [h.rest]
theorem Chip.Recorded.rtc (h : c.Recorded d) : d.rtc = c.rtc := by rw [h.rest]
theorem Chip.Recorded.core0 (h : c.Recorded d) : d.core0 = c.core0 := by rw [h.rest]
theorem Chip.Recorded.core1 (h : c.Recorded d) : d.core1 = c.core1 := by rw [h.rest]
theorem Chip.Recorded.met (h : c.Recorded d) : d.met = c.met := by rw [h.rest]

theorem Chip.Recorded.slow (h : c.Recorded d) : d.slow = c.slow := by
  simp only [Chip.slow, Chip.bit, h.met, h.low A.SYS_CLK_STAT (by decide)]

/-! ### Records and log entries (R99, R103, R604 to R608) -/

theorem Chip.recorded_drop1 (c : Chip) (n : Nat) : c.Recorded (c.drop1 n) :=
  (Chip.recorded_wr (by rw [A.QUEn_DROPS]; omega) c _).trans (Chip.recorded_setBit (by rw [A.QUEn_STAT]; omega) _ 3)

theorem Chip.recorded_post (c : Chip) (e : Env) (r : Rec) : c.Recorded (c.post e r) := by
  unfold Chip.post
  split
  · exact Chip.recorded_wr (by decide) c _
  · dsimp only
    split
    · exact c.recorded_que _
    · exact (c.recorded_drop1 _).trans (Chip.recorded_wr (by decide) _ _)

theorem Chip.recorded_ldgErase (c : Chip) (sector : Nat) : c.Recorded (c.ldgErase sector) where
  low b hb := Chip.rd_wr_of_ne (by rw [A.LDG_Ln_VALUE]; omega) _ _
  wf := Chip.regsWf_wr _ _
  rest := rfl

theorem Chip.recorded_logEntry (c : Chip) (e : Env) (kind : Nat) (w2 w3 w6 : Word) :
    c.Recorded (c.logEntry e kind w2 w3 w6) := by
  have herase (i : Nat) : c.Recorded (if i % 128 = 0 then c.ldgErase (7 + i / 128) else c) := by
    split
    · exact c.recorded_ldgErase _
    · exact .refl c
  have hlast (x : Chip) (i : Nat) : x.Recorded (if i = 1023 then x.setBit A.LDG_LOG_NEXT 31 else x) := by
    split
    · exact Chip.recorded_setBit (by decide) x _
    · exact .refl x
  refine .trans ?_ (hlast _ _)
  refine .trans ?_ (Chip.recorded_wr (by decide) _ _)
  refine .trans ?_ (Chip.recorded_ldg _ _)
  exact (herase _).trans (Chip.recorded_setMem _ _ _)

theorem Chip.recorded_judge (c : Chip) (e : Env) (n : Nat) : c.Recorded (c.judge e n) := by
  have hbit : c.Recorded (c.putBit A.LDG_STAT n (c.inWarning n)) := Chip.recorded_putBit (by decide) c _ _
  unfold Chip.judge
  dsimp only
  split
  · have hlog := hbit.trans (Chip.recorded_setBit (a := A.LDG_EVT) (by decide) _ 0) |>.trans (Chip.recorded_logEntry _ e 7 (word n)
      ((c.putBit A.LDG_STAT n (c.inWarning n)).rd (A.LDG_Ln_VALUE n)) 0)
    split
    · exact hlog
    · exact hlog.trans (Chip.recorded_post _ _ _)
  · exact hbit

theorem Chip.recorded_setValue (c : Chip) (e : Env) (n v : Nat) : c.Recorded (c.setValue e n v) := by
  unfold Chip.setValue
  split
  · exact .refl c
  · exact (Chip.recorded_wr (by rw [A.LDG_Ln_VALUE]; omega) c _).trans (Chip.recorded_judge _ e n)

theorem recorded_ledgerFollow (e : Env) (c : Chip) : c.Recorded (ledgerFollow e c) := by
  unfold ledgerFollow
  split
  · refine .trans ?_ (Chip.recorded_judge _ e 2)
    dsimp only
    split
    · exact c.recorded_ldg _
    · exact (c.recorded_ldg _).trans (Chip.recorded_setValue _ _ _ _)
  · exact .refl c

/-! ### A device at rest (log entry 20) -/

/-- Nothing waits for what follows a command but, at most, the Ledger's comparison and a chip reset. -/
structure Chip.Resting (c : Chip) : Prop where
  fatal : c.pwr.due.fatal = false
  reset0 : c.pwr.due.core0 = false
  reset1 : c.pwr.due.core1 = false
  sub : c.pwr.sub = .none
  aborts : c.dma.aborts = []
  words : c.dma.words = []
  post : ∀ n, (c.ch n).post = none
  expects0 : c.core0.expects = false
  expects1 : c.core1.expects = false
  held : c.host.held = []
  pending : ∀ n, (c.hc n).pending = none

theorem Chip.Resting.of_recorded (h : c.Resting) (hd : c.Recorded d) : d.Resting := by
  rw [hd.rest]
  exact ⟨h.fatal, h.reset0, h.reset1, h.sub, h.aborts, h.words, h.post, h.expects0, h.expects1, h.held, h.pending⟩

theorem Core.fault_of_expects {k : Core} (h : k.expects = false) : k.fault = none := by
  simp only [Core.expects, Bool.or_eq_false_iff] at h
  exact Option.isSome_eq_false_iff.mp h.1 |> Option.isNone_iff_eq_none.mp

theorem Core.run_ne_waiting_of_expects {k : Core} (h : k.expects = false) : k.run ≠ .waiting := by
  simp only [Core.expects, Bool.or_eq_false_iff, beq_eq_false_iff_ne] at h
  exact h.2

theorem Chip.Resting.core (h : c.Resting) (n : Nat) : (c.core n).expects = false := by
  unfold Chip.core
  split
  · exact h.expects0
  · exact h.expects1

theorem Chip.Resting.takeFault (h : c.Resting) (n : Nat) (e : Env) : Machine.takeFault n e c = c := by
  rw [Machine.takeFault, Core.fault_of_expects (h.core n)]

theorem Chip.Resting.wakeCore (h : c.Resting) (n : Nat) : Machine.wakeCore n c = c := by
  rw [Machine.wakeCore, if_neg (by simp [Core.run_ne_waiting_of_expects (h.core n)])]

theorem Chip.Resting.dmaSettle (h : c.Resting) (e : Env) : Machine.dmaSettle e c = c := by
  have hpost : chPosted c = c := List.foldl_fixed' (fun n => by rw [h.post]) _
  have hsame : { c with dma := { c.dma with aborts := [], words := [] } } = c := by
    have hdma : { c.dma with aborts := [], words := [] } = c.dma := by rw [← h.aborts, ← h.words]
    rw [hdma]
  unfold Machine.dmaSettle
  simp only [h.aborts, h.words, List.foldl_nil]
  exact (congrArg chPosted hsame).trans hpost

theorem Chip.Resting.hostSettle (h : c.Resting) (e : Env) : Machine.hostSettle e c = c := by
  have hdue : ∀ n, hostDue n e c = c := fun n => by rw [hostDue, h.pending]
  have hsame : { c with host := { c.host with held := [] } } = c := by
    have hhost : { c.host with held := [] } = c.host := by rw [← h.held]
    rw [hhost]
  unfold Machine.hostSettle
  simp only [h.sub, h.held, List.foldl_nil, if_true]
  rw [hsame]
  exact List.foldl_fixed' hdue _

/-- On a device at rest only the Ledger compares. -/
theorem Chip.Resting.follow_eq (h : c.Resting) (e : Env) : follow e c = ledgerFollow e c := by
  have hstop : ∀ n, stopForReset e n c = c := fun n => by
    rw [stopForReset, h.reset0, h.reset1, ite_self, if_neg Bool.false_ne_true]
  have hfatal : fatalStop e c = c := by rw [fatalStop, h.fatal, if_neg Bool.false_ne_true]
  have hwake : hushWake e c = c := by rw [hushWake, h.sub]; rfl
  have hledger := h.of_recorded (recorded_ledgerFollow e c)
  unfold follow
  simp only [hfatal, hstop, h.dmaSettle, h.takeFault, hwake, h.wakeCore, ite_self, hledger.hostSettle]

theorem Chip.Resting.recorded_follow (h : c.Resting) (e : Env) : c.Recorded (follow e c) := by
  rw [h.follow_eq]
  exact recorded_ledgerFollow e c

theorem State.on_on (s : State) (f g : Env → Chip → Chip) : (s.on f).on g = s.withChip (g s.env (f s.env s.chip)) := rfl

theorem dueReset_withChip (hd : s.chip.Recorded d) (h : s.chip.pwr.due.chip = none) :
    dueReset (s.withChip d) = s.withChip d := by
  have hnone : (s.withChip d).chip.pwr.due.chip = none := (congrArg (·.due.chip) hd.pwr).trans h
  rw [dueReset, hnone]

/-- What follows a command on a device at rest for which no reset is due. -/
theorem State.settle_of_resting (h : s.chip.Resting) (hreset : s.chip.pwr.due.chip = none) :
    ∃ d, s.settle = s.withChip d ∧ s.chip.Recorded d := by
  unfold State.settle
  split
  · have hfirst := h.recorded_follow s.env
    have hboth := hfirst.trans ((h.of_recorded hfirst).recorded_follow s.env)
    refine ⟨follow s.env (follow s.env s.chip), ?_, hboth⟩
    rw [State.on_on]
    exact dueReset_withChip hboth hreset
  · exact ⟨s.chip, rfl, .refl _⟩

end Sys2Proof.Machine
end

section
/-! PROOF. The resets (17_modes_power_reset.md, R549, R582, R583; 20_electrical_and_package.md, R648 to R652): what a chip reset
leaves, and what each of its causes does. -/

namespace Sys2Proof.Machine

variable {c d : Chip} {e : Env} {s : State} {a : Nat} {wipe warm : Bool}

/-! ### Registers that are kept and dropped -/

theorem getS_filter {α : Type} {p : Nat → Bool} {k : Nat} (h : p k = true) (v : α) (m : SMap α) :
    getS v (m.filter fun r => p r.1) k = getS v m k := by
  induction m with
  | nil => rfl
  | cons r m ih =>
    rw [List.filter_cons]
    by_cases hk : r.1 = k
    · rw [if_pos (hk ▸ h), getS, getS, if_pos hk, if_pos hk]
    · split
      · rw [getS, getS, if_neg hk, if_neg hk, ih]
      · rw [getS, if_neg hk, ih]

theorem wfFrom_filter {α : Type} [DecidableEq α] {f : Nat → α} {m : SMap α} {lo : Nat} (p : Nat → Bool)
    (h : wfFrom f lo m = true) : wfFrom f lo (m.filter fun r => p r.1) = true := by
  have hdrop := wfFrom_dropS (fun i => !p i) h
  simpa only [dropS, Bool.not_not] using hdrop

/-! ### What a chip reset leaves (R582, R583) -/

/-- The chip as a reset leaves it, before the Ledger shows L3 anew (R595). -/
def Chip.resetBase (c : Chip) (wipe warm : Bool) : Chip :=
  Chip.wr {
    regs := c.regs.filter (fun r => vaultReg r.1)
    mem := c.mem
    free := c.free
    rtc := c.rtc
    ldg := c.ldg
    pins := { c.pins with mask := [] }
    jtag := if wipe then {} else c.jtag
    met := { vaultEdges := c.met.vaultEdges }
    pwr := { wipe := wipe || (c.pwr.wipe && c.pwr.boot == .inReset), warm := warm } } A.SYS_RST_CAUSE (c.rd A.SYS_RST_CAUSE)

theorem Chip.recorded_resetChip (c : Chip) (wipe warm : Bool) :
    ((if wipe then c.powerLost else c).resetBase wipe warm).Recorded (c.resetChip wipe warm) :=
  (Chip.recorded_wr (a := A.LDG_Ln_VALUE 3) (by decide) _ _).trans (Chip.recorded_putBit (a := A.LDG_STAT) (by decide) _ _ _)

/-- What every chip reset leaves of the chip `c`. -/
structure Chip.Restarted (c : Chip) (wipe warm : Bool) (d : Chip) : Prop where
  mode : d.mode = .configure
  boot : d.pwr.boot = .inReset
  wipes : wipe = true → d.pwr.wipe = true
  warm : d.pwr.warm = warm
  rtc : d.rtc = c.rtc
  run0 : d.core0.run = .held
  run1 : d.core1.run = .held
  resting : d.Resting
  due : d.pwr.due.chip = none
  wf : c.regsWf = true → d.regsWf = true

theorem Chip.Restarted.of_recorded {x : Chip} (h : c.Restarted wipe warm d) (hx : d.Recorded x) : c.Restarted wipe warm x where
  mode := hx.mode.trans h.mode
  boot := (congrArg Power.boot hx.pwr).trans h.boot
  wipes hw := (congrArg Power.wipe hx.pwr).trans (h.wipes hw)
  warm := (congrArg Power.warm hx.pwr).trans h.warm
  rtc := hx.rtc.trans h.rtc
  run0 := (congrArg Core.run hx.core0).trans h.run0
  run1 := (congrArg Core.run hx.core1).trans h.run1
  resting := h.resting.of_recorded hx
  due := (congrArg (·.due.chip) hx.pwr).trans h.due
  wf := hx.wf ∘ h.wf

theorem Chip.Restarted.wr (h : c.Restarted wipe warm d) (a : Nat) (v : Word) : c.Restarted wipe warm (d.wr a v) where
  mode := h.mode
  boot := h.boot
  wipes := h.wipes
  warm := h.warm
  rtc := h.rtc
  run0 := h.run0
  run1 := h.run1
  resting := { h.resting with }
  due := h.due
  wf hc := Chip.regsWf_wr a v (h.wf hc)

theorem Chip.restarted_resetBase (c : Chip) (wipe warm : Bool) : c.Restarted wipe warm (c.resetBase wipe warm) where
  mode := rfl
  boot := rfl
  wipes hw := by
    show (wipe || _) = true
    rw [hw, Bool.true_or]
  warm := rfl
  rtc := rfl
  run0 := rfl
  run1 := rfl
  resting := ⟨rfl, rfl, rfl, rfl, rfl, rfl, fun _ => rfl, rfl, rfl, rfl, fun _ => rfl⟩
  due := rfl
  wf hc := Chip.regsWf_wr _ _ (wfFrom_filter vaultReg hc)

theorem Chip.restarted_resetChip (c : Chip) (wipe warm : Bool) : c.Restarted wipe warm (c.resetChip wipe warm) := by
  have hbase : c.Restarted wipe warm ((if wipe then c.powerLost else c).resetBase wipe warm) := by
    cases wipe
    · exact c.restarted_resetBase false warm
    · exact { c.powerLost.restarted_resetBase true warm with }
  exact hbase.of_recorded (c.recorded_resetChip wipe warm)

/-! ### The state after a reset -/

/-- The device has restarted from `s`: the count is 0, the fuses and the queue are as they were. -/
structure State.Restarts (s : State) (wipe warm : Bool) (t : State) : Prop where
  chip : s.chip.Restarted wipe warm t.chip
  abs : t.clock.abs = 0
  fuses : t.fuses = s.fuses
  pending : t.pending = s.pending

/-- A reset's own state settles in registers of the Ledger and the queues alone. -/
theorem State.Restarts.settle {t : State} (h : s.Restarts wipe warm t) :
    s.Restarts wipe warm t.settle ∧ t.chip.Recorded t.settle.chip := by
  obtain ⟨d, hd, hrec⟩ := State.settle_of_resting h.chip.resting h.chip.due
  rw [hd]
  exact ⟨⟨h.chip.of_recorded hrec, h.abs, h.fuses, h.pending⟩, hrec⟩

theorem State.restarts_chipReset {f : Env → Chip → Chip} (h : s.chip.Restarted wipe warm (f s.env s.chip)) :
    s.Restarts wipe warm (s.chipReset f) := ⟨h, by simp [State.chipReset, Clock.abs], rfl, rfl⟩

theorem Chip.restarted_chipResetBy (c : Chip) (cause : Nat) (wipe warm : Bool) (e : Env) :
    c.Restarted wipe warm (chipResetBy cause wipe warm e c) := (c.restarted_resetChip wipe warm).wr _ _

theorem Chip.bit_chipResetBy {cause : Nat} (h : c.regsWf = true) (hcause : cause < 32) (e : Env) :
    (chipResetBy cause wipe warm e c).bit A.SYS_RST_CAUSE cause = true :=
  Chip.bit_setBit_self ((c.restarted_resetChip wipe warm).wf h) hcause

theorem Chip.restarted_causePor (c : Chip) : c.Restarted true false (c.resetChip true false).causePor :=
  (c.restarted_resetChip true false).wr _ _

theorem Chip.rd_causePor (h : c.regsWf = true) : (c.resetChip true false).causePor.rd A.SYS_RST_CAUSE = 1 := by
  rw [Chip.causePor, Chip.rd_wr _ _ _ ((c.restarted_resetChip true false).wf h), if_pos rfl]

/-! ### What each reset does (R549, R582, R648, R649, R652) -/

theorem State.noSupply_eq_false (h : s.chip.pwr.boot ≠ .noSupply) : s.noSupply = false := beq_eq_false_iff_ne.mpr h

theorem powerOn_of_supply (h : s.chip.pwr.boot ≠ .noSupply) :
    powerOn false s = s.chipReset fun _ c => (c.resetChip true false).causePor := by
  rw [powerOn, s.noSupply_eq_false h]
  rfl

theorem brownOut_of_powered (h : s.chip.pwr.boot ≠ .noSupply) (hmode : s.chip.mode ≠ .vault) :
    brownOut s = s.chipReset (chipResetBy 2 false false) := by
  rw [brownOut, s.noSupply_eq_false h, if_neg (by simp [hmode])]

/-- The state in which RST_N has drawn the free value that decides between 200 and 1,000 ns. -/
def State.drawn (s : State) : State := s.withChip { s.chip with free := s.chip.free + 2 ^ 40 }

theorem rstN_eq (ns : Nat) (s : State) :
    rstN ns s = if s.noSupply || ns < 200 || (ns < 1000 && !Config.freeBool s.chip.free) then s.drawn
      else s.drawn.chipReset (chipResetBy 1 (s.chip.mode == .vault) false) := rfl

theorem rstN_of_short {ns : Nat} (h : ns < 200) : rstN ns s = s.drawn := by
  rw [rstN_eq, if_pos (by simp [h])]

theorem rstN_of_long {ns : Nat} (h : 1000 ≤ ns) (hboot : s.chip.pwr.boot ≠ .noSupply) :
    rstN ns s = s.drawn.chipReset (chipResetBy 1 (s.chip.mode == .vault) false) := by
  have hshort : ¬ns < 200 := by omega
  have hdrawn : ¬ns < 1000 := by omega
  rw [rstN_eq, if_neg (by simp [s.noSupply_eq_false hboot, hshort, hdrawn])]

theorem rstN_cases (ns : Nat) (s : State) : rstN ns s = s.drawn ∨ rstN ns s = rstN 1000 s := by
  by_cases hstays : (s.noSupply || ns < 200 || (ns < 1000 && !Config.freeBool s.chip.free)) = true
  · exact .inl ((rstN_eq ns s).trans (if_pos hstays))
  · have hsupply : s.noSupply = false := by
      simp only [Bool.or_eq_true, not_or, Bool.not_eq_true] at hstays
      exact hstays.1.1
    refine .inr ((rstN_eq ns s).trans ((if_neg hstays).trans ?_))
    rw [rstN_eq, hsupply]
    rfl

/-- The supply of the Vault domain goes: its registers too are at their reset values. -/
theorem Chip.resting_resetVault (h : c.Resting) : c.resetVault.Resting := { h with }

theorem Chip.resting_noSupply (h : c.Resting) : (c.pwrDo fun p => { p with boot := .noSupply }).Resting := { h with }

theorem Chip.rd_resetVault (h : vaultReg a = false) (c : Chip) (ha : (a / 65536 == 0x6010) = false) :
    c.resetVault.rd a = c.rd a := by
  have hclock : getS (regReset a) c.rtcReset.regs a = getS (regReset a) c.regs a :=
    getS_filter (p := fun i => !(i / 65536 == 0x6010)) (by rw [ha]; rfl) _ _
  exact (getS_filter (p := fun i => !vaultReg i) (by rw [h]; rfl) _ _).trans hclock

theorem Chip.putBit_ldg (c : Chip) (a i : Nat) (b : Bool) : (c.putBit a i b).ldg = c.ldg := by cases b <;> rfl

theorem Chip.resetChip_ldg (c : Chip) (wipe warm : Bool) : (c.resetChip wipe warm).ldg = c.ldg := by
  unfold Chip.resetChip
  simp only [Chip.putBit_ldg]
  cases wipe <;> rfl

/-- The chip without the Ledger's registers. -/
def Chip.ledgerDropped (c : Chip) : Chip := { c with regs := c.regs.filter (fun r => !isLedgerReg r.1) }

theorem Chip.resting_ledgerDropped (h : c.Resting) : c.ledgerDropped.Resting := { h with }

theorem Chip.rd_ledgerDropped (h : isLedgerReg a = false) (c : Chip) : c.ledgerDropped.rd a = c.rd a :=
  getS_filter (p := fun i => !isLedgerReg i) (by rw [h]; rfl) _ _

/-- The Ledger starts anew where no snapshot is kept (R607). -/
theorem recorded_ledgerRestore (h : c.ldg.snap = none) (e : Env) : c.ledgerDropped.Recorded (ledgerRestore e c) := by
  unfold ledgerRestore
  simp only [h]
  exact (Chip.recorded_ldg _ _).trans ((Chip.recorded_ldgErase _ _).trans (Chip.recorded_setMem _ _ _))

/-- A power-on with the Vault domain's supply: the Vault domain starts anew too. -/
theorem powerOn_vault (s : State) : ∃ e, powerOn true s = { s with
    chip := ledgerRestore e (s.chip.resetChip true false).causePor.resetVault
    clock := { count := 0, epoch := 0 } } := by
  refine ⟨(s.chipReset fun _ c => (c.resetChip true false).causePor).env, ?_⟩
  rw [powerOn, if_neg (by simp)]
  rfl

/-- The chip after such a power-on. -/
structure Chip.PoweredOn (d : Chip) : Prop where
  rtc : d.rtc = {}
  boot : d.pwr.boot = .inReset
  resting : d.Resting
  due : d.pwr.due.chip = none

theorem Chip.poweredOn (h : c.ldg.snap = none) (e : Env) :
    (ledgerRestore e (c.resetChip true false).causePor.resetVault).PoweredOn := by
  have hreset := c.restarted_causePor
  have hrec := recorded_ledgerRestore (c := (c.resetChip true false).causePor.resetVault)
    ((congrArg Ledger.snap (c.resetChip_ldg true false)).trans h) e
  have hkept := Chip.resting_ledgerDropped (Chip.resting_resetVault hreset.resting)
  exact ⟨hrec.rtc, (congrArg Power.boot hrec.pwr).trans hreset.boot, hkept.of_recorded hrec,
    (congrArg (·.due.chip) hrec.pwr).trans hreset.due⟩

theorem Chip.PoweredOn.of_recorded (h : c.PoweredOn) (hd : c.Recorded d) : d.PoweredOn :=
  ⟨hd.rtc.trans h.rtc, (congrArg Power.boot hd.pwr).trans h.boot, h.resting.of_recorded hd,
    (congrArg (·.due.chip) hd.pwr).trans h.due⟩

theorem Chip.rd_rstCause_poweredOn (h : c.ldg.snap = none) (hwf : c.regsWf = true) (e : Env) :
    (ledgerRestore e (c.resetChip true false).causePor.resetVault).rd A.SYS_RST_CAUSE = 1 := by
  have hrec := recorded_ledgerRestore (c := (c.resetChip true false).causePor.resetVault)
    ((congrArg Ledger.snap (c.resetChip_ldg true false)).trans h) e
  rw [hrec.low _ (by decide), Chip.rd_ledgerDropped (by decide), Chip.rd_resetVault (by decide) _ (by decide), Chip.rd_causePor hwf]

/-! ### Resets that a master requests (R582) -/

theorem regWrite_sysRstReq (m : Master) (v : Word) (e : Env) (c : Chip) : regWrite m A.SYS_RST_REQ v e c = rstReqWrite v c := rfl

theorem rstReqWrite_of_ne {key : BitVec 16} {which : Nat} (h : key ≠ 0x5EC7) (hwhich : which < 65536) (c : Chip) :
    rstReqWrite (resetWord which key) c = c := by
  have hne : key.toNat ≠ 0x5EC7 := fun heq => h (BitVec.eq_of_toNat_eq heq)
  rw [rstReqWrite, resetWord, bits_31_16_keyed hwhich, if_pos hne]

/-- A chip reset is asked for by a write of SYS_RST_REQ. -/
def Power.resetAsked (p : Power) : Power := { p with due := { p.due with chip := some 3 } }

theorem rstReqWrite_chip (c : Chip) :
    rstReqWrite (resetWord 4 0x5EC7) c = c.pwrDo Power.resetAsked := rfl

theorem rstReqWrite_core0 (c : Chip) : rstReqWrite (resetWord 1 0x5EC7) c =
    { c.setBit A.SYS_RST_CAUSE 11 with pwr := { c.pwr with due := { c.pwr.due with core0 := true } } } := rfl

theorem rstReqWrite_core1 (c : Chip) : rstReqWrite (resetWord 2 0x5EC7) c =
    { c.setBit A.SYS_RST_CAUSE 12 with pwr := { c.pwr with due := { c.pwr.due with core1 := true } } } := rfl

/-! ### A chip reset on a quiet device -/

theorem getS_of_all {α : Type} {P : α → Prop} {v : α} {m : SMap α} (hv : P v) (hm : ∀ r ∈ m, P r.2) (k : Nat) :
    P (getS v m k) := by
  induction m with
  | nil => exact hv
  | cons r m ih =>
    rw [getS]
    split
    · exact hm r (List.mem_cons_self ..)
    · exact ih fun q hq => hm q (List.mem_cons_of_mem r hq)

/-- A quiet device is at rest, and the Ledger has nothing to compare. -/
theorem Chip.resting_of_quiet (h : c.duties = false) : c.Resting ∧ c.ldg.recheck = false := by
  simp only [Chip.duties, Bool.or_eq_false_iff, bne_eq_false_iff_eq, Bool.not_eq_false', List.isEmpty_iff,
    List.any_eq_false, Bool.not_eq_true] at h
  obtain ⟨⟨⟨⟨⟨⟨⟨⟨⟨hdue, hsub⟩, hrecheck⟩, haborts⟩, hwords⟩, hpost⟩, h0⟩, h1⟩, hheld⟩, hpending⟩ := h
  refine ⟨⟨?_, ?_, ?_, hsub, haborts, hwords, fun n => ?_, h0, h1, hheld, fun n => ?_⟩, hrecheck⟩
  · rw [hdue]
  · rw [hdue]
  · rw [hdue]
  · refine getS_of_all (P := fun x : DmaChan => x.post = none) rfl (fun r hr => ?_) n
    exact Option.isNone_iff_eq_none.mp (Option.isSome_eq_false_iff.mp (hpost r hr))
  · refine getS_of_all (P := fun x : HostChan => x.pending = none) rfl (fun r hr => ?_) n
    have hsome : r.2.pending.isSome = false := hpending r hr
    exact Option.isNone_iff_eq_none.mp (Option.isSome_eq_false_iff.mp hsome)

theorem Chip.Resting.follow_eq_self (h : c.Resting) (hrecheck : c.ldg.recheck = false) (e : Env) : follow e c = c := by
  rw [h.follow_eq, ledgerFollow, hrecheck, if_neg Bool.false_ne_true]

/-- A chip reset that is due on a device at rest takes place at once. -/
theorem State.settle_of_chipReset {cause : Nat} (h : s.chip.Resting) (hrecheck : s.chip.ldg.recheck = false)
    (hdue : s.chip.pwr.due.chip = some cause) : s.settle = s.chipReset (chipResetBy cause false false) := by
  have hne : (s.chip.pwr.due != {}) = true := by
    rw [bne_iff_ne]
    intro heq
    rw [heq] at hdue
    exact absurd hdue (by simp)
  have hfollow := h.follow_eq_self hrecheck s.env
  have hsame : s.withChip s.chip = s := rfl
  rw [State.settle, if_pos (by simp [Chip.duties, hne]), State.on_on, hfollow, hfollow, hsame, dueReset, hdue]

theorem exec_chip_of_quiet {m : Master} (hq : s.Quiet) (hm : admits 8 m.port = true) :
    exec (.chip m 0x5EC7) s =
      .next ((s.withChip (s.chip.pwrDo Power.resetAsked)).chipReset (chipResetBy 3 false false)) := by
  obtain ⟨hp, hduties⟩ := hq
  obtain ⟨hrest, hrecheck⟩ := Chip.resting_of_quiet hduties
  refine (store_of_admits hp hm).trans (congrArg _ ?_)
  rw [regWrite_sysRstReq, rstReqWrite_chip]
  exact State.settle_of_chipReset { hrest with } hrecheck rfl

/-- What O52 says of each reset: the device has started anew, with the reset's bit in SYS_RST_CAUSE. -/
def State.StartsAnew (s : State) (cause : Nat) (t : State) : Prop :=
  t.clock.abs = 0 ∧ t.fuses = s.fuses ∧ t.pending = s.pending ∧ t.chip.mode = .configure ∧ t.chip.pwr.boot = .inReset ∧
    t.chip.rtc = s.chip.rtc ∧ t.chip.core0.run = .held ∧ t.chip.core1.run = .held ∧
    (s.chip.regsWf = true → t.chip.bit A.SYS_RST_CAUSE cause = true)

theorem State.Restarts.startsAnew {t : State} {cause : Nat} (h : s.Restarts wipe warm t)
    (hcause : s.chip.regsWf = true → t.chip.bit A.SYS_RST_CAUSE cause = true) : s.StartsAnew cause t :=
  ⟨h.abs, h.fuses, h.pending, h.chip.mode, h.chip.boot, h.chip.rtc, h.chip.run0, h.chip.run1, hcause⟩

/-- A state that starts anew still does when it has settled. -/
theorem State.Restarts.startsAnew_settle {t : State} {cause : Nat} (h : s.Restarts wipe warm t)
    (hcause : s.chip.regsWf = true → t.chip.bit A.SYS_RST_CAUSE cause = true) : s.StartsAnew cause t.settle := by
  obtain ⟨hsettle, hrec⟩ := h.settle
  refine hsettle.startsAnew fun hwf => ?_
  rw [Chip.bit, hrec.low _ (by decide)]
  exact hcause hwf

theorem runVault_of_eq {f : State → State} {t : State} (h : f s = t) : runVault f s = .next t.settle := by rw [runVault, h]

theorem powerOn_startsAnew (h : s.chip.pwr.boot ≠ .noSupply) :
    ∃ t, exec (.powerOnReset false) s = .next t ∧ s.StartsAnew 0 t ∧
      (s.chip.regsWf = true → t.chip.rd A.SYS_RST_CAUSE = 1) := by
  have hrestarts : s.Restarts true false (powerOn false s) := by
    rw [powerOn_of_supply h]
    exact State.restarts_chipReset s.chip.restarted_causePor
  have hcause (hwf : s.chip.regsWf = true) : (powerOn false s).chip.rd A.SYS_RST_CAUSE = 1 := by
    rw [powerOn_of_supply h]
    exact Chip.rd_causePor hwf
  refine ⟨_, rfl, hrestarts.startsAnew_settle fun hwf => ?_, fun hwf => ?_⟩
  · rw [Chip.bit, hcause hwf]
    rfl
  · rw [hrestarts.settle.2.low _ (by decide), hcause hwf]

theorem rstN_startsAnew (ns : Nat) (h : s.chip.pwr.boot ≠ .noSupply) :
    ∃ t, exec (.rstNReset (1000 + ns)) s = .next t ∧ s.StartsAnew 1 t := by
  have hreset := rstN_of_long (s := s) (ns := 1000 + ns) (by omega) h
  have hrestarts : s.drawn.Restarts (s.chip.mode == .vault) false (rstN (1000 + ns) s) := by
    rw [hreset]
    exact State.restarts_chipReset (Chip.restarted_chipResetBy _ _ _ _ _)
  refine ⟨_, rfl, hrestarts.startsAnew_settle fun hwf => ?_⟩
  rw [hreset]
  exact Chip.bit_chipResetBy (c := s.drawn.chip) hwf (by decide) s.drawn.env

theorem brownOut_startsAnew (h : s.chip.pwr.boot ≠ .noSupply) (hmode : s.chip.mode ≠ .vault) :
    ∃ t, exec .brownOutReset s = .next t ∧ s.StartsAnew 2 t := by
  have hrestarts : s.Restarts false false (brownOut s) := by
    rw [brownOut_of_powered h hmode]
    exact State.restarts_chipReset (Chip.restarted_chipResetBy _ _ _ _ _)
  refine ⟨_, rfl, hrestarts.startsAnew_settle fun hwf => ?_⟩
  rw [brownOut_of_powered h hmode]
  exact Chip.bit_chipResetBy hwf (by decide) s.env

theorem chip_startsAnew {m : Master} (hq : s.Quiet) (hm : admits 8 m.port = true) :
    ∃ t, exec (.chip m 0x5EC7) s = .next t ∧ s.StartsAnew 3 t := by
  refine ⟨_, exec_chip_of_quiet hq hm, ?_⟩
  have hrestarts := State.restarts_chipReset (s := s.withChip (s.chip.pwrDo Power.resetAsked))
    (Chip.restarted_chipResetBy (s.chip.pwrDo Power.resetAsked) 3 false false s.env)
  exact hrestarts.startsAnew fun hwf => Chip.bit_chipResetBy (c := s.chip.pwrDo Power.resetAsked) hwf (by decide) s.env

theorem powerOn_vault_settles (h : s.chip.ldg.snap = none) : ∃ t, exec (.powerOnReset true) s = .next t ∧ t.clock.abs = 0 ∧
    t.chip.rtc = {} ∧ t.chip.pwr.boot = .inReset ∧ (s.chip.regsWf = true → t.chip.rd A.SYS_RST_CAUSE = 1) := by
  obtain ⟨e, he⟩ := powerOn_vault s
  have hon := Chip.poweredOn h e
  have hchip : (powerOn true s).chip = ledgerRestore e (s.chip.resetChip true false).causePor.resetVault := by rw [he]
  rw [← hchip] at hon
  obtain ⟨d, hd, hrec⟩ := State.settle_of_resting hon.resting hon.due
  have hsettled := hon.of_recorded hrec
  refine ⟨(powerOn true s).withChip d, congrArg _ hd, ?_, hsettled.rtc, hsettled.boot, fun hwf => ?_⟩
  · rw [he]
    simp [State.withChip, Clock.abs]
  · show d.rd A.SYS_RST_CAUSE = 1
    rw [hrec.low _ (by decide), hchip, Chip.rd_rstCause_poweredOn h hwf]

theorem vaultSupplyLost_chip (s : State) : (vaultSupplyLost s).chip =
    (s.chip.resetChip true false).resetVault.pwrDo fun p => { p with boot := .noSupply } := rfl

theorem vaultSupplyLost_settles (s : State) : ∃ t, exec .vaultSupplyReset s = .next t ∧ t.chip.pwr.boot = .noSupply ∧
    t.chip.powered = false ∧ t.clock.abs = 0 := by
  have hreset := s.chip.restarted_resetChip true false
  have hrest := Chip.resting_noSupply (Chip.resting_resetVault hreset.resting)
  rw [← vaultSupplyLost_chip] at hrest
  have hdue : (vaultSupplyLost s).chip.pwr.due.chip = none := by
    rw [vaultSupplyLost_chip]
    exact hreset.due
  obtain ⟨d, hd, hrec⟩ := State.settle_of_resting hrest hdue
  have hboot : d.pwr.boot = .noSupply := by
    rw [hrec.pwr, vaultSupplyLost_chip]
    rfl
  refine ⟨(vaultSupplyLost s).withChip d, congrArg _ hd, hboot, ?_, ?_⟩
  · show (d.mode != .vault && d.pwr.boot != .noSupply) = false
    rw [hboot]
    simp
  · simp [State.withChip, vaultSupplyLost, State.chipReset, Clock.abs]

/-- Settles O52: each reset's own state settles in registers of the Ledger and the queues alone; what does not come changes
nothing. -/
theorem resetsStartTheDeviceAnew : Obligations.ResetsStartTheDeviceAnew := by
  intro m key ns s
  refine ⟨fun h => ⟨?on, rstN_startsAnew ns h, brownOut_startsAnew h⟩, ?cause, ?unsupplied, powerOn_vault_settles, ?short, ?either,
    ?vault, vaultSupplyLost_settles s, chip_startsAnew, ?cores⟩
  case on =>
    obtain ⟨t, ht, hanew, -⟩ := powerOn_startsAnew h
    exact ⟨t, ht, hanew⟩
  case cause =>
    intro h hwf
    obtain ⟨t, ht, -, hcause⟩ := powerOn_startsAnew h
    exact ⟨t, ht, hcause hwf⟩
  case unsupplied =>
    intro h
    have hsame : powerOn false s = s := by rw [powerOn, if_pos (by simp [State.noSupply, h])]
    exact runVault_of_eq hsame
  case short => exact fun h => runVault_of_eq (rstN_of_short h)
  case either =>
    exact (rstN_cases ns s).imp runVault_of_eq runVault_of_eq
  case vault =>
    intro h
    have hsame : brownOut s = s := by rw [brownOut, if_pos (by simp [h])]
    exact runVault_of_eq hsame
  case cores =>
    intro hp hm
    exact ⟨(store_of_admits hp hm).trans (next_becomes_congr (rstReqWrite_core0 _)),
      (store_of_admits hp hm).trans (next_becomes_congr (rstReqWrite_core1 _)), fun hkey =>
      ⟨(store_of_admits hp hm).trans (next_becomes_congr (rstReqWrite_of_ne hkey (by decide) _)),
        (store_of_admits hp hm).trans (next_becomes_congr (rstReqWrite_of_ne hkey (by decide) _)),
        (store_of_admits hp hm).trans (next_becomes_congr (rstReqWrite_of_ne hkey (by decide) _))⟩⟩

end Sys2Proof.Machine
end

section
/-! PROOF. Sleep and VAULT (17_modes_power_reset.md, R576 to R580): the end of a sub-state of HUSH, the entry to VAULT, and what
wakes the device from it. -/

namespace Sys2Proof.Machine

variable {c d x : Chip} {e : Env} {s : State}

/-! ### Wakes from HUSH (R576) -/

theorem hushWake_of_wake (hsub : c.pwr.sub ≠ .none) (hcause : c.wakeCause e = true) :
    hushWake e c = { c with pwr := { c.pwr with waking := true, wakeAt := none } } := by
  rw [hushWake, if_pos (by simp [hsub, hcause])]
  rfl

theorem hushWake_of_no_wake (h : c.pwr.sub = .none ∨ c.wakeCause e = false) : hushWake e c = c := by
  rw [hushWake, if_neg]
  rcases h with h | h <;> simp [h]

theorem hushResume_of_no_wake (h : c.pwr.sub = .none ∨ c.pwr.waking = false) : hushResume e c = c := by
  rw [hushResume, if_pos]
  rcases h with h | h <;> simp [h]

/-- The chip `d` differs from `c` at most in registers and in what the block ticks, the ports and the scanners hold. -/
structure Chip.Resumed (c d : Chip) : Prop where
  rest : d = { c with regs := d.regs, met := d.met, key := d.key, adc := d.adc, aud := d.aud, fx := d.fx }
  stopped : d.met.stopped = c.met.stopped

theorem Chip.Resumed.refl (c : Chip) : c.Resumed c := ⟨rfl, rfl⟩

theorem Chip.Resumed.trans (h : c.Resumed d) (h' : d.Resumed x) : c.Resumed x :=
  ⟨by rw [h'.rest, h.rest], h'.stopped.trans h.stopped⟩

theorem Chip.resumed_foldl {β : Type} {f : Chip → β → Chip} (hf : ∀ (y : Chip) b, y.Resumed (f y b)) (l : List β) (c : Chip) :
    c.Resumed (l.foldl f c) := by
  induction l generalizing c with
  | nil => exact .refl c
  | cons b l ih => exact (hf c b).trans (ih _)

theorem Chip.resumed_ticksFrom (c : Chip) (now : Nat) : c.Resumed (c.ticksFrom now) := ⟨rfl, rfl⟩

theorem Chip.resumed_adcWake (c : Chip) : c.Resumed c.adcWake := by
  refine Chip.resumed_foldl (fun y n => ?_) _ c
  split
  · exact ⟨rfl, rfl⟩
  · exact .refl y

theorem Chip.resumed_portsResume (c : Chip) (t : Nat) : c.Resumed (c.portsResume t) := by
  refine .trans (d := c.audDo fun a => { a with frameAt := t }) ⟨rfl, rfl⟩ (Chip.resumed_foldl (fun y i => ?_) _ _)
  dsimp only
  split
  · exact .refl y
  · exact ⟨rfl, rfl⟩

/-- The chip as the clocks begin to run again. -/
def Chip.awake (c : Chip) (e : Env) : Chip :=
  let c := ((c.setBit A.SYS_MODE_EVT 2).setBit A.SYS_MODE_EVT 1).setMode .perform
  { c with
    met := { c.met with stopped := false }
    pwr := { c.pwr with sub := .none, waking := false, wakeAt := none, resumeAt := multAfter c.met.ticks.cb e.now } }

/-- The key scanner begins anew after Doze or Drowse. -/
def Chip.scanAnew (c : Chip) : Chip := { c with key := { c.key with resume := true } }

/-- The effect fabric has lost its state in Drowse. -/
def Chip.fabricAnew (c : Chip) (sub : Sub) : Chip := if sub = .drowse then { c with fx := { c.fx with clearAll := true } } else c

/-- The clocks run again after Doze or Drowse. -/
def Chip.clocksOn (c : Chip) (e : Env) (sub : Sub) : Chip :=
  let d := (c.ticksFrom e.now).adcWake.scanAnew
  (d.portsResume (multAfter d.met.ticks.cb e.now)).fabricAnew sub

theorem Chip.resumed_scanAnew (c : Chip) : c.Resumed c.scanAnew := ⟨rfl, rfl⟩

theorem Chip.resumed_fabricAnew (c : Chip) (sub : Sub) : c.Resumed (c.fabricAnew sub) := by
  unfold Chip.fabricAnew
  split
  · exact ⟨rfl, rfl⟩
  · exact .refl c

theorem Chip.resumed_clocksOn (c : Chip) (e : Env) (sub : Sub) : c.Resumed (c.clocksOn e sub) := by
  have hticks := (c.resumed_ticksFrom e.now).trans (Chip.resumed_adcWake _)
  have hports := (hticks.trans (Chip.resumed_scanAnew _)).trans (Chip.resumed_portsResume _
    (multAfter (c.ticksFrom e.now).adcWake.scanAnew.met.ticks.cb e.now))
  exact hports.trans (Chip.resumed_fabricAnew _ sub)

theorem hushResume_of_wake (hsub : c.pwr.sub ≠ .none) (hwaking : c.pwr.waking = true) :
    hushResume e c = if !(c.pwr.sub = .doze || c.pwr.sub = .drowse) then c.awake e else (c.awake e).clocksOn e c.pwr.sub := by
  rw [hushResume, if_neg (by simp [hsub, hwaking])]
  rfl

theorem resumed_hushResume (hsub : c.pwr.sub ≠ .none) (hwaking : c.pwr.waking = true) :
    (c.awake e).Resumed (hushResume e c) := by
  rw [hushResume_of_wake hsub hwaking]
  split
  · exact .refl _
  · exact Chip.resumed_clocksOn _ e _

/-! ### Into VAULT and out of it (R578 to R580) -/

theorem vaultEntry_of_not_ready
    (h : c.pwr.toVault = false ∨ c.mode ≠ .configure ∨ c.ldr.nvm.isSome = true ∨ c.pwr.prog.isSome = true) :
    vaultEntry e c = c := by
  rw [vaultEntry, if_neg]
  rcases h with h | h | h | h
  · simp [h]
  · simp [h]
  · simp [Option.isSome_iff_ne_none.mp h]
  · simp [Option.isSome_iff_ne_none.mp h]

/-- The slot that SYS_VAULT_SLOT keeps of a structure that ran, or 0. -/
theorem word_vaultSlot (p : Bool) (live : Nat) :
    word (if p && (live == 1 || live == 2) then live else 0) = if p = true ∧ (live = 1 ∨ live = 2) then word live else 0 := by
  by_cases h : p = true ∧ (live = 1 ∨ live = 2)
  · rw [if_pos h, if_pos (by simpa using h)]
  · rw [if_neg h, if_neg (by simpa using h)]
    rfl

theorem vaultEntry_of_ready (hto : c.pwr.toVault = true) (hmode : c.mode = .configure) (hnvm : c.ldr.nvm = none)
    (hprog : c.pwr.prog = none) : vaultEntry e c =
      let e1 := Chip.snapshot (Chip.logEntry e 3 (c.rd A.FLT_FIRST_SRC) (c.rd A.FLT_FIRST_ADDR) 0 c)
      let live := e1.ldr.liveSrc
      let e2 := e1.wr A.SYS_VAULT_SLOT (if e1.ldr.live.isSome = true ∧ (live = 1 ∨ live = 2) then word live else 0)
      let e3 := if e2.pwr.wakeAtOnce then e2.setBit A.SYS_VAULT_STAT 2 else e2
      { e3.setMode .vault with pwr := { e3.pwr with toVault := false, pwrEn := e2.pwr.wakeAtOnce, wakeAtOnce := false } } := by
  rw [vaultEntry, if_pos (by simp [hto, hmode, hnvm, hprog])]
  simp only [word_vaultSlot]
  rfl

theorem vwakeEdge_of_named {i : Nat} {up : Bool} (hi : i < 2) (hmode : c.mode = .vault)
    (hen : c.bit A.SYS_VAULT_CFG (4 * i) = true) (hpol : c.bit A.SYS_VAULT_CFG (4 * i + 1) = up) :
    vwakeEdge i up c = { c.setBit A.SYS_VAULT_STAT i with pwr := { c.pwr with pwrEn := true } } := by
  rw [vwakeEdge, if_pos (by simp [hi, hmode, hen, hpol])]
  rfl

theorem vwakeEdge_of_other {i : Nat} {up : Bool}
    (h : c.mode ≠ .vault ∨ c.bit A.SYS_VAULT_CFG (4 * i) = false ∨ c.bit A.SYS_VAULT_CFG (4 * i + 1) ≠ up) :
    vwakeEdge i up c = c := by
  rw [vwakeEdge, if_neg]
  rcases h with h | h | h <;> simp [h]

theorem vaultPowerUp_of_off (h : s.chip.mode ≠ .vault ∨ s.chip.pwr.pwrEn = false) : vaultPowerUp s = s := by
  rw [vaultPowerUp, if_neg]
  rcases h with h | h <;> simp [h]

theorem vaultPowerUp_of_on (hmode : s.chip.mode = .vault) (hen : s.chip.pwr.pwrEn = true) :
    vaultPowerUp s = s.chipReset fun e c => chipResetBy 4 true true e (c.logEntry e 4 0 0 0) := by
  rw [vaultPowerUp, if_pos (by simp [hmode, hen])]

/-- The power-up after VAULT is a reset of the chip whose log has its entry. -/
theorem vaultPowerUp_settles (hmode : s.chip.mode = .vault) (hen : s.chip.pwr.pwrEn = true) :
    ∃ t, exec .vaultPowerUp s = .next t ∧ t.clock.abs = 0 ∧ t.fuses = s.fuses ∧ t.chip.mode = .configure ∧
      t.chip.pwr.warm = true ∧ t.chip.pwr.wipe = true ∧ t.chip.rtc = s.chip.rtc ∧
      (s.chip.regsWf = true → t.chip.bit A.SYS_RST_CAUSE 4 = true) := by
  have hlog := s.chip.recorded_logEntry s.env 4 0 0 0
  have hrestarts : (s.withChip (s.chip.logEntry s.env 4 0 0 0)).Restarts true true (vaultPowerUp s) := by
    rw [vaultPowerUp_of_on hmode hen]
    exact ⟨Chip.restarted_chipResetBy (s.chip.logEntry s.env 4 0 0 0) 4 true true s.env, by simp [State.chipReset, Clock.abs], rfl, rfl⟩
  obtain ⟨hsettle, hrec⟩ := hrestarts.settle
  refine ⟨(vaultPowerUp s).settle, rfl, hsettle.abs, hsettle.fuses, hsettle.chip.mode, hsettle.chip.warm,
    hsettle.chip.wipes rfl, hsettle.chip.rtc.trans hlog.rtc, fun hwf => ?_⟩
  rw [Chip.bit, hrec.low _ (by decide), vaultPowerUp_of_on hmode hen]
  exact Chip.bit_chipResetBy (hlog.wf hwf) (by decide) s.env

/-- Settles O51: a wake, the resumption of the clocks, the entry to VAULT and the edges of VWAKEn are the operations above; the
power-up is a chip reset. -/
theorem sleepEndsAndVaultBeginsAndEnds : Obligations.SleepEndsAndVaultBeginsAndEnds := by
  intro n up s
  refine ⟨?noWake, ?wake, ?noResume, ?resume, ?entry, ?noEntry, ?edge, ?noEdge, ?noPower, vaultPowerUp_settles⟩
  case noWake => exact fun hp h => (run_of_powered hp).trans (next_becomes_congr (hushWake_of_no_wake h))
  case wake => exact fun hp hsub hcause => (run_of_powered hp).trans (next_becomes_congr (hushWake_of_wake hsub hcause))
  case noResume => exact fun hp h => (run_of_powered hp).trans (next_becomes_congr (hushResume_of_no_wake h))
  case resume =>
    intro hp hsub hwaking
    obtain ⟨hrest, hstopped⟩ := resumed_hushResume (e := s.env) hsub hwaking
    refine ⟨hushResume s.env s.chip, run_of_powered hp, ?_, ?_, ?_, hstopped, ?_, ?_, ?_, ?_, ?_⟩ <;> rw [hrest] <;> rfl
  case entry =>
    exact fun hp hto hmode hnvm hprog => (run_of_powered hp).trans (next_becomes_congr (vaultEntry_of_ready hto hmode hnvm hprog))
  case noEntry => exact fun hp h => (run_of_powered hp).trans (next_becomes_congr (vaultEntry_of_not_ready h))
  case edge =>
    exact fun hmode hen hpol => congrArg (fun c => Host.Outcome.next (s.becomes c)) (vwakeEdge_of_named n.isLt hmode hen hpol)
  case noEdge => exact fun h => congrArg (fun c => Host.Outcome.next (s.becomes c)) (vwakeEdge_of_other h)
  case noPower => exact fun h => runVault_of_eq (vaultPowerUp_of_off h)

end Sys2Proof.Machine
end

section
/-! PROOF. The reset sequence and the NVM programmer (17_modes_power_reset.md, R585 to R588, R593): the straps that the boot ROM
reads, Core 1's release, and the words that SYS_NVM_PROG programs. -/

namespace Sys2Proof.Machine

variable {c d x : Chip} {e : Env} {s : State} {m : Master} {a : Nat} {boot : BitVec 2} {pads : BitVec 96} {lowB lowC flash : Bool}

/-! ### The straps (R585) -/

theorem bits_1_0_straps (boot : BitVec 2) (n : Nat) : bits (word (boot.toNat + 4 * n)) 1 0 = boot.toNat := by
  have hboot := boot.isLt
  rw [bits_low, word, BitVec.toNat_ofNat]
  omega

theorem Chip.fld_straps_sampleStraps (h : c.regsWf = true) :
    (sampleStraps boot pads lowB lowC c).fld A.SYS_STRAPS 1 0 = boot.toNat := by
  rw [Chip.fld, sampleStraps]
  dsimp only
  rw [Chip.rd_wr_of_ne (by decide), Chip.rd_wr_of_ne (by decide),
    Chip.rd_wr (c := { c with pins := { c.pins with level := pads } }) _ _ _ h, if_pos rfl, bits_1_0_straps]

/-! ### What happens between the straps and the boot ROM (R465, R585, R586) -/

/-- The chip `d` differs from `c` at most in registers other than SYS_STRAPS, in memory, and in where the ticks stand. -/
structure Chip.Primed (c d : Chip) : Prop where
  rest : d = { c with regs := d.regs, mem := d.mem, met := d.met, key := d.key, adc := d.adc }
  straps : d.rd A.SYS_STRAPS = c.rd A.SYS_STRAPS

theorem Chip.Primed.refl (c : Chip) : c.Primed c := ⟨rfl, rfl⟩

theorem Chip.Primed.trans (h : c.Primed d) (h' : d.Primed x) : c.Primed x :=
  ⟨by rw [h'.rest, h.rest], h'.straps.trans h.straps⟩

theorem Chip.primed_wr (h : A.SYS_STRAPS ≠ a) (c : Chip) (v : Word) : c.Primed (c.wr a v) := ⟨rfl, Chip.rd_wr_of_ne h c v⟩

theorem Chip.primed_lockPlls (c : Chip) : c.Primed c.lockPlls := by
  have hlock : c.Primed ((c.setBit A.SYS_CLK_STAT 0).setBit A.SYS_CLK_STAT 1) :=
    (Chip.primed_wr (by decide) c _).trans (Chip.primed_wr (by decide) _ _)
  unfold Chip.lockPlls
  dsimp only
  split
  · exact hlock.trans (Chip.primed_wr (by decide) _ _)
  · exact hlock

theorem State.primed_advTo (s : State) (t : Nat) : s.chip.Primed (s.advTo t).chip := by
  refine ⟨?_, s.advTo_rd t (by decide)⟩
  obtain ⟨r, hr⟩ := s.advTo_chip_eq_regs t
  rw [hr]

theorem primed_finishInit (c : Chip) : c.Primed (finishInit c) := by
  unfold finishInit
  split
  · exact (show c.Primed { c with mem := dropS initialised c.mem } from ⟨rfl, rfl⟩).trans
      (Chip.primed_wr (a := A.SYS_BUS_INIT) (by decide) _ _)
  · exact Chip.primed_wr (by decide) c _

theorem Chip.primed_ticksFrom (c : Chip) (now : Nat) : c.Primed (c.ticksFrom now) := ⟨rfl, rfl⟩

theorem primed_writeClkCfg (v : Word) (c : Chip) : c.Primed (writeClkCfg v c) := by
  unfold writeClkCfg
  split
  · have hmet (y : Chip) : y.Primed { y with met := { y.met with goodMeas := 0 } } := ⟨rfl, rfl⟩
    exact (((Chip.primed_wr (a := A.SYS_CLK_CFG) (by decide) c _).trans (Chip.primed_wr (a := A.MET_STAT) (by decide) _ _)).trans
      (Chip.primed_wr (a := A.SYS_CLK_STAT) (by decide) _ _)).trans (hmet _)
  · exact Chip.primed_wr (by decide) c _

/-- With edges from the clock source the reset sequence ends in the boot ROM. -/
theorem resetSequence_of_edges (h : s.chip.pwr.boot = .inReset) : ∃ e d,
    (resetSequence boot pads lowB lowC true flash s).chip = bootRom false flash e d ∧
      (sampleStraps boot pads lowB lowC s.chip).Primed d := by
  have hlock := (sampleStraps boot pads lowB lowC s.chip).primed_lockPlls
  have hfinish (y : Chip) (now : Nat) : y.Primed ((finishInit y).ticksFrom now) :=
    (primed_finishInit y).trans (Chip.primed_ticksFrom _ now)
  rw [resetSequence, if_neg (by simp [h])]
  dsimp only
  rw [if_neg (by simp)]
  split
  · exact ⟨_, _, rfl, hlock.trans ((State.primed_advTo ((s.on fun _ c => sampleStraps boot pads lowB lowC c).on
      fun _ c => c.lockPlls) _).trans (hfinish _ _))⟩
  · exact ⟨_, _, rfl, hlock.trans (hfinish _ _)⟩

/-- The boot ROM shows what it boots from and whether it has a boot configuration (R588, R589). -/
def Chip.bootShown (c : Chip) (source : Nat) : Chip :=
  let c := c.wr A.SYS_BOOT_STAT (word ((if c.pwr.warm then 2 ^ 30 else 0) + 65536 * source))
  c.bootCode (if c.bootCfg.isSome then 0 else 7)

/-- The boot ROM selects the clock source of the boot configuration (R670). -/
def Chip.bootClocked (c : Chip) : Chip :=
  let clk := c.bootField 5 1 0 % 4
  if c.fld A.SYS_CLK_CFG 1 0 = clk then c else writeClkCfg (word clk) c

theorem Chip.primed_bootShown (c : Chip) (source : Nat) : c.Primed (c.bootShown source) :=
  (Chip.primed_wr (a := A.SYS_BOOT_STAT) (by decide) c _).trans (Chip.primed_wr (a := A.SYS_BOOT_STAT) (by decide) _ _)

theorem Chip.primed_bootClocked (c : Chip) : c.Primed c.bootClocked := by
  unfold Chip.bootClocked
  dsimp only
  split
  · exact .refl c
  · exact primed_writeClkCfg _ c

theorem bootRom_of_host (h : c.fld A.SYS_STRAPS 1 0 = 1) :
    bootRom false flash e c = (c.bootShown 1).bootClocked.bootHost.pwrDo fun p => { p with boot := .waitHost } := by
  unfold bootRom
  simp only [h, Bool.false_or, decide_eq_true_eq]
  rfl

theorem bootRom_of_dfu (h : c.fld A.SYS_STRAPS 1 0 = 2) :
    bootRom false flash e c = (c.bootShown 2).bootClocked.bootDfu.pwrDo fun p => { p with boot := .waitDfu } := by
  unfold bootRom
  simp only [h, Bool.false_or, decide_eq_true_eq]
  rfl

theorem Chip.resting_of_primed (h : c.Resting) (hd : c.Primed d) : d.Resting := by
  rw [hd.rest]
  exact ⟨h.fatal, h.reset0, h.reset1, h.sub, h.aborts, h.words, h.post, h.expects0, h.expects1, h.held, h.pending⟩

theorem Chip.resting_boot (h : c.Resting) (b : Boot) : (c.pwrDo fun p => { p with boot := b }).Resting := { h with }

theorem Chip.resting_bootDfu (h : c.Resting) : c.bootDfu.Resting := { h with }

theorem resting_sampleStraps (h : c.Resting) : (sampleStraps boot pads lowB lowC c).Resting := { h with }

theorem Chip.primed_bootHost (c : Chip) : c.Primed c.bootHost := Chip.primed_wr (a := A.HOST_CFG) (by decide) c _

/-- What follows the boot ROM on a device at rest: the boot state stays, and nothing but the Ledger's comparison happens. -/
theorem settle_boot {t : State} {b : Boot} {y : Chip} (hy : y.Resting) (hdue : y.pwr.due.chip = none)
    (ht : t.chip = y.pwrDo fun p => { p with boot := b }) :
    t.settle.chip.pwr.boot = b ∧ t.settle.chip.core0 = y.core0 ∧ t.settle.chip.core1 = y.core1 ∧
      t.settle.chip.pins = y.pins ∧ t.settle.chip.usb = y.usb := by
  obtain ⟨x, hsettle, hrec⟩ := State.settle_of_resting (s := t) (ht ▸ Chip.resting_boot hy b) (by rw [ht]; exact hdue)
  rw [hsettle]
  show x.pwr.boot = b ∧ x.core0 = y.core0 ∧ x.core1 = y.core1 ∧ x.pins = y.pins ∧ x.usb = y.usb
  rw [hrec.rest, ht]
  exact ⟨rfl, rfl, rfl, rfl, rfl⟩

/-! ### The clock sequencer and Core 1 (R586, R587) -/

theorem trySource_of_locking (h : c.pwr.boot = .inReset) (hlock : c.bit A.SYS_CLK_STAT 0 = false) :
    trySource c = c.putBit A.SYS_CLK_CFG 0 (!c.bit A.SYS_CLK_CFG 0) := by
  rw [trySource, if_pos (by simp [h, hlock])]

theorem trySource_of_boot_ne (h : c.pwr.boot ≠ .inReset) : trySource c = c := by
  rw [trySource, if_neg (by simp [h])]

theorem coreCtlWrite_of_running {v : Word} (h : c.bit A.SYS_CORE_CTL 1 = true) :
    coreCtlWrite v e c = c.writeCoded A.SYS_CORE_CTL v := by
  rw [coreCtlWrite]
  exact if_neg (by simp [h])

theorem coreCtlWrite_of_start {v : Word} (h : c.bit A.SYS_CORE_CTL 1 = false) (hv : v.getLsbD 1 = true)
    (hrun : (c.writeCoded A.SYS_CORE_CTL v).core1.run = .held) (hheld : (c.writeCoded A.SYS_CORE_CTL v).bit A.FLT_STAT 3 = false) :
    coreCtlWrite v e c = (c.writeCoded A.SYS_CORE_CTL v).setCore 1 { (c.writeCoded A.SYS_CORE_CTL v).core1 with
      run := .running, pc := (c.writeCoded A.SYS_CORE_CTL v).rd A.SYS_C1_ENTRY, cycFrom := e.now } := by
  rw [coreCtlWrite]
  refine (if_pos (by simp [h, hv])).trans ?_
  rw [startCore1, if_pos (by simp [hrun, hheld])]
  rfl

/-! ### SYS_NVM_PROG (R593) -/

/-- The data of the programmer's buffer. -/
def Chip.progData (c : Chip) : List Word := (List.range 16).map fun i => c.rd (A.SYS_BOOTCFG_BUFw i)

theorem nvmProgWrite_of_busy {v : Word} (h : c.mode ≠ .configure ∨ c.pwr.prog.isSome = true ∨ c.ldr.nvm.isSome = true) :
    nvmProgWrite v e c = c.setFld A.SYS_NVM_PROG 23 16 0x60 := by
  rw [nvmProgWrite, if_pos]
  rcases h with h | h | h <;> simp [h]

theorem bits_1_0_otpWord (w : BitVec 8) : bits (word (16 * w.toNat + 2)) 1 0 = 2 := by
  rw [bits_low, word, BitVec.toNat_ofNat]
  omega

theorem bits_11_4_otpWord (w : BitVec 8) : bits (word (16 * w.toNat + 2)) 11 4 = w.toNat := by
  have hw := w.isLt
  rw [bits, word, BitVec.toNat_ofNat]
  omega

theorem nvmProgWrite_otp (w : BitVec 8) (hmode : c.mode = .configure) (hprog : c.pwr.prog = none) (hnvm : c.ldr.nvm = none) :
    nvmProgWrite (word (16 * w.toNat + 2)) e c =
      c.pwrDo fun p => { p with prog := some { op := 2, word := w.toNat, data := c.progData } } := by
  rw [nvmProgWrite, if_neg (by simp [hmode, hprog, hnvm])]
  simp only [bits_1_0_otpWord, bits_11_4_otpWord]
  rfl

theorem nvmProgWrite_bootCfg (hmode : c.mode = .configure) (hprog : c.pwr.prog = none) (hnvm : c.ldr.nvm = none) :
    nvmProgWrite 1 e c =
      (({ c with mem := dropS (fun a => decide (0x220D0000 ≤ a ∧ a < 0x220D0040)) c.mem }).countErase e 2).pwrDo
        fun p => { p with prog := some { op := 1, word := 0, data := c.progData } } := by
  rw [nvmProgWrite, if_neg (by simp [hmode, hprog, hnvm])]
  rfl

/-- The programmer has ended its operation with success. -/
def Chip.progDone (c : Chip) : Chip :=
  ({ c with free := c.free + 2 ^ 40, pwr := { c.pwr with prog := none } } : Chip).setFld A.SYS_NVM_PROG 23 16 0

theorem nvmProgDone_of_none (ok : Bool) (h : s.chip.pwr.prog = none) : nvmProgDone ok s = s := by
  rw [nvmProgDone, h]

theorem nvmProgDone_bootCfg {j : ProgJob} (h : s.chip.pwr.prog = some j) (hop : j.op = 1) : nvmProgDone true s =
    s.withChip (s.chip.progDone.setMem 0x220D0000 (j.data.flatMap fun w => leBytes 4 w.toNat)) := by
  rw [nvmProgDone, h]
  exact if_pos hop

theorem nvmProgDone_otp {j : ProgJob} (h : s.chip.pwr.prog = some j) (hop : j.op = 2) : nvmProgDone true s =
    { s with
      chip := s.chip.progDone
      fuses := { s.fuses with otp := putS 0 s.fuses.otp j.word (s.fuses.otpWord j.word ||| j.data.getD 0 0) } } := by
  rw [nvmProgDone, h]
  exact if_neg (by omega)

/-! ### The boot ROM after the reset sequence (R588) -/

/-- The outcome of an effect on the state. -/
def settled (s : State) : Host.Outcome State Fault Refusal := .next s.settle

theorem runState_of_powered (hp : s.chip.powered = true) (f : State → State) : runState f s = settled (f s) :=
  congrArg Host.Outcome.next (if_pos hp)

/-- With edges from the clock source the boot ROM reads the straps just sampled. -/
theorem resetSequence_reads_straps (hreset : s.chip.pwr.boot = .inReset) (hwf : s.chip.regsWf = true) : ∃ e d,
    (resetSequence boot pads lowB lowC true flash s).chip = bootRom false flash e d ∧
      (sampleStraps boot pads lowB lowC s.chip).Primed d ∧ d.fld A.SYS_STRAPS 1 0 = boot.toNat := by
  obtain ⟨e, d, hseq, hprimed⟩ := resetSequence_of_edges (boot := boot) (pads := pads) (lowB := lowB) (lowC := lowC)
    (flash := flash) hreset
  refine ⟨e, d, hseq, hprimed, ?_⟩
  rw [Chip.fld, hprimed.straps]
  exact Chip.fld_straps_sampleStraps hwf

/-- What a quiet device keeps up to the end of the boot ROM. -/
theorem Chip.kept_of_primed (hquiet : c.duties = false) (h : (sampleStraps boot pads lowB lowC c).Primed d) :
    d.Resting ∧ d.pwr.due.chip = none ∧ d.core0 = c.core0 ∧ d.core1 = c.core1 ∧ d.pins.level = pads := by
  have hdue : c.pwr.due.chip = none := by
    simp only [Chip.duties, Bool.or_eq_false_iff, bne_eq_false_iff_eq] at hquiet
    obtain ⟨⟨⟨⟨⟨⟨⟨⟨⟨hdue, -⟩, -⟩, -⟩, -⟩, -⟩, -⟩, -⟩, -⟩, -⟩ := hquiet
    rw [hdue]
  refine ⟨Chip.resting_of_primed (resting_sampleStraps (Chip.resting_of_quiet hquiet).1) h, ?_⟩
  rw [h.rest]
  exact ⟨hdue, rfl, rfl, rfl⟩

/-- The host strap makes the boot ROM of a quiet device wait for RUN. -/
theorem resetSequence_host (hquiet : s.chip.duties = false) (hwf : s.chip.regsWf = true) (hboot : s.chip.pwr.boot = .inReset)
    {t : State} (ht : resetSequence 1 pads lowB lowC true flash s = t) :
    t.settle.chip.pwr.boot = .waitHost ∧ t.settle.chip.core0 = s.chip.core0 ∧ t.settle.chip.core1 = s.chip.core1 ∧
      t.settle.chip.pins.level = pads := by
  obtain ⟨e, d, hseq, hprimed, hstrap⟩ := resetSequence_reads_straps (boot := 1) (pads := pads) (lowB := lowB) (lowC := lowC)
    (flash := flash) hboot hwf
  have hrom := ((hprimed.trans (d.primed_bootShown 1)).trans (Chip.primed_bootClocked _)).trans (Chip.primed_bootHost _)
  obtain ⟨hrest, hdue, h0, h1, hpads⟩ := Chip.kept_of_primed hquiet hrom
  rw [ht, bootRom_of_host hstrap] at hseq
  obtain ⟨hb, hb0, hb1, hpins, -⟩ := settle_boot hrest hdue hseq
  exact ⟨hb, hb0.trans h0, hb1.trans h1, (congrArg Pins.level hpins).trans hpads⟩

/-- The DFU strap makes the boot ROM of a quiet device present its pull-up and wait for a download. -/
theorem resetSequence_dfu (hquiet : s.chip.duties = false) (hwf : s.chip.regsWf = true) (hboot : s.chip.pwr.boot = .inReset)
    {t : State} (ht : resetSequence 2 pads lowB lowC true flash s = t) :
    t.settle.chip.pwr.boot = .waitDfu ∧ t.settle.chip.usb.pullup = true ∧ t.settle.chip.core0 = s.chip.core0 ∧
      t.settle.chip.core1 = s.chip.core1 := by
  obtain ⟨e, d, hseq, hprimed, hstrap⟩ := resetSequence_reads_straps (boot := 2) (pads := pads) (lowB := lowB) (lowC := lowC)
    (flash := flash) hboot hwf
  have hrom := (hprimed.trans (d.primed_bootShown 2)).trans (Chip.primed_bootClocked _)
  obtain ⟨hrest, hdue, h0, h1, -⟩ := Chip.kept_of_primed hquiet hrom
  rw [ht, bootRom_of_dfu hstrap] at hseq
  obtain ⟨hb, hb0, hb1, -, husb⟩ := settle_boot (Chip.resting_bootDfu hrest) hdue hseq
  exact ⟨hb, congrArg Usb.pullup husb, hb0.trans h0, hb1.trans h1⟩

/-- Settles O53: the reset sequence ends in the boot ROM, which reads the straps; the programmer's write and completion are the
operations above. -/
theorem resetSequenceAndNvmProgrammer : Obligations.ResetSequenceAndNvmProgrammer := by
  intro m boot pads lowB lowC edges flash w j s hp
  refine ⟨?same, ?straps, ?host, ?dfu, ?source, fun hm => ⟨?run, ?start, ?prog, ?busy⟩, ?noProg, ?otp, ?bootCfg⟩
  case same =>
    exact fun hboot => ⟨(runState_of_powered hp _).trans (congrArg settled (if_pos (by simp [hboot]))),
      (run_of_powered hp).trans (next_becomes_congr (trySource_of_boot_ne hboot))⟩
  case straps =>
    rintro hboot rfl
    exact (runState_of_powered hp _).trans (congrArg settled ((if_neg (by simp [hboot])).trans (if_pos rfl)))
  case host =>
    rintro ⟨-, hquiet⟩ hwf hboot rfl rfl
    exact ⟨_, runState_of_powered hp _, resetSequence_host hquiet hwf hboot rfl⟩
  case dfu =>
    rintro ⟨-, hquiet⟩ hwf hboot rfl rfl
    exact ⟨_, runState_of_powered hp _, resetSequence_dfu hquiet hwf hboot rfl⟩
  case source => exact fun hboot hlock => (run_of_powered hp).trans (next_becomes_congr (trySource_of_locking hboot hlock))
  case run =>
    exact fun h => (run_of_powered hp).trans (next_becomes_congr ((if_pos hm).trans (coreCtlWrite_of_running h)))
  case start =>
    exact fun h hrun hheld => (run_of_powered hp).trans (next_becomes_congr ((if_pos hm).trans
      (coreCtlWrite_of_start h (getLsbD_setBitTo_true _ (by decide)) hrun hheld)))
  case prog =>
    exact fun hmode hprog hnvm => ⟨(store_of_admits hp hm).trans (next_becomes_congr (nvmProgWrite_otp w hmode hprog hnvm)),
      (store_of_admits hp hm).trans (next_becomes_congr (nvmProgWrite_bootCfg hmode hprog hnvm))⟩
  case busy =>
    intro h
    have hbusy (v : Word) : regWrite m A.SYS_NVM_PROG v s.env s.chip = s.chip.setFld A.SYS_NVM_PROG 23 16 0x60 :=
      nvmProgWrite_of_busy h
    exact ⟨(store_of_admits hp hm).trans (next_becomes_congr (hbusy _)),
      (store_of_admits hp hm).trans (next_becomes_congr (hbusy _))⟩
  case noProg =>
    exact fun h => (runState_of_powered hp _).trans (congrArg settled (nvmProgDone_of_none edges h))
  case otp =>
    exact fun h hop => (runState_of_powered hp _).trans (congrArg settled (nvmProgDone_otp h hop))
  case bootCfg =>
    exact fun h hop => (runState_of_powered hp _).trans (congrArg settled (nvmProgDone_bootCfg h hop))

end Sys2Proof.Machine
end

section
/-! PROOF. Pins and JTAG (19_pins_and_gpio.md, R630 to R640, R664): the function of a pin behind its mask, its filter, its port,
and the scans at the TAP. -/

namespace Sys2Proof.Machine

variable {c d : Chip} {e : Env} {s : State} {m : Master} {p x age : Nat} {v : Word} {level : Option Bool} {b : Bool}

/-! ### Writes of the pin registers (R630 to R637) -/

theorem regWrite_pinpMux (hp : p < 96) (m : Master) (v : Word) (e : Env) (c : Chip) :
    regWrite m (A.PINp_MUX p) v e c = pinMuxWrite p v e c := by
  have hwindow : A.PINp_MUX p / 65536 = 0x6014 := by rw [A.PINp_MUX]; omega
  have hrange : (decide (A.PINp_MUX 0 ≤ A.PINp_MUX p) && decide (A.PINp_MUX p < A.PINp_MUX 96)) = true :=
    Bool.and_eq_true_iff.mpr ⟨decide_eq_true (by simp only [A.PINp_MUX]; omega), decide_eq_true (by simp only [A.PINp_MUX]; omega)⟩
  have hpin : (A.PINp_MUX p - A.PINp_MUX 0) / 4 = p := by simp only [A.PINp_MUX]; omega
  rw [regWrite, hwindow]
  refine (if_pos hrange).trans ?_
  rw [hpin]

theorem regWrite_pinSet (hx : x < 3) (m : Master) (v : Word) (e : Env) (c : Chip) :
    regWrite m (A.PIN_SETx x) v e c = pinSet x v c := by
  match x, hx with
  | 0, _ => rfl
  | 1, _ => rfl
  | 2, _ => rfl

theorem regWrite_pinClr (hx : x < 3) (m : Master) (v : Word) (e : Env) (c : Chip) :
    regWrite m (A.PIN_CLRx x) v e c = pinClr x v c := by
  match x, hx with
  | 0, _ => rfl
  | 1, _ => rfl
  | 2, _ => rfl

theorem pinMuxWrite_of_lacking (hp : p < 96) (h : pinAssigned p (v.toNat % 16) = false) :
    pinMuxWrite p v e c = c.setBit A.PIN_STAT 0 := by
  rw [pinMuxWrite, if_neg (by omega), bits_low]
  exact if_pos (by simp [h])

theorem pinMuxWrite_of_same (hp : p < 96) (h : pinAssigned p (v.toNat % 16) = true)
    (hfunc : (c.writeCoded (A.PINp_MUX p) v).pinFunc p = c.pinFunc p) :
    pinMuxWrite p v e c = c.writeCoded (A.PINp_MUX p) v := by
  rw [pinMuxWrite, if_neg (by omega), bits_low]
  exact (if_neg (by simp [h])).trans (if_pos hfunc)

theorem pinMuxWrite_of_other (hp : p < 96) (h : pinAssigned p (v.toNat % 16) = true)
    (hfunc : (c.writeCoded (A.PINp_MUX p) v).pinFunc p ≠ c.pinFunc p) :
    pinMuxWrite p v e c = ((c.writeCoded (A.PINp_MUX p) v).pinMaskFrom p e.now).setBit (A.PINp_MUX p) 31 := by
  rw [pinMuxWrite, if_neg (by omega), bits_low]
  exact (if_neg (by simp [h])).trans (if_neg hfunc)

/-- What a write of PINp_FILT leaves of the mask window and the latch, where the filter holds level `d` has taken. -/
def Chip.filterRestarted (d : Chip) (p now : Nat) : Chip :=
  let d := if d.pinBusy p then d.pinMaskFrom p (max (getS (0, 0) d.pins.mask p).1 (now - 2)) else d
  if 1 ≤ d.pinIrqMode p ∧ d.pinIrqMode p ≤ 3 then d.clrBit (A.PIN_IRQx (p / 32)) (p % 32) else d

theorem pinFiltWrite_of_level (hp : p < 96) (h : c.pinDriven p = some b ∨ (c.pinDriven p = none ∧ level = some b)) :
    pinFiltWrite p v level e c = ((({ c with free := c.free + 2 ^ 40 } : Chip).writeCoded (A.PINp_FILT p) v).setPinLevel
      p b).filterRestarted p e.now := by
  have hdriven : ({ c with free := c.free + 2 ^ 40 } : Chip).pinDriven p = c.pinDriven p := rfl
  rw [pinFiltWrite, if_neg (by omega)]
  rcases h with h | ⟨h, rfl⟩ <;> simp only [Chip.draw, hdriven, h, Chip.filterRestarted, Bool.and_eq_true, decide_eq_true_eq]

/-! ### The mask window (R631) -/

theorem State.advTo_chip_pins (s : State) (t : Nat) : (s.advTo t).chip.pins = s.chip.pins := by
  obtain ⟨r, hr⟩ := s.advTo_chip_eq_regs t
  rw [hr]

theorem State.advTo_pinBusy (s : State) (t p : Nat) : (s.advTo t).chip.pinBusy p = s.chip.pinBusy p :=
  congrArg (·.getLsbD 31) (s.advTo_rd t (by simp [A.PINp_MUX, A.MET_STAT]; omega))

theorem pinMaskEnd_of_passed (hp : p < 96) (hbusy : c.pinBusy p = true) (hedges : (getS (0, 0) c.pins.mask p).2 = 0) :
    pinMaskEnd p b c =
      let l := (c.setPinLevel p ((c.pinDriven p).getD b)).clrBit (A.PINp_MUX p) 31
      { l with pins := { l.pins with mask := putS (0, 0) l.pins.mask p (0, 0) } } := by
  rw [pinMaskEnd, if_pos (by simp [hp, hbusy, hedges])]

/-! ### The filter (R637 to R642) -/

/-- A pin has taken the level `up`: its edge is latched. -/
def Chip.pinLatched (c : Chip) (p : Nat) (up : Bool) : Chip :=
  if c.pinIrqMode p = 3 ∨ c.pinIrqMode p = (if up then 1 else 2) then (c.setPinLevel p up).setBit (A.PIN_IRQx (p / 32)) (p % 32)
  else c.setPinLevel p up

/-- The record of a pin's edge at `stamp`. -/
def Chip.pinRecorded (c : Chip) (e : Env) (p stamp : Nat) (up : Bool) : Chip :=
  if c.bit (A.PINp_FILT p) 20 then c.post e {
    source := 0x20, kind := 0x20, key := p, flags := 0, time := BitVec.ofNat 48 stamp
    valueA := (if up then 1 else 0), valueB := 0 } else c

/-- A record asks for a wake while the count runs slow. -/
def Chip.pinWakes (c : Chip) (p : Nat) : Chip := if c.slow && c.bit (A.PINp_FILT p) 20 then c.askWake else c

theorem Chip.recorded_pinLatched (c : Chip) (p : Nat) (up : Bool) : (c.setPinLevel p up).Recorded (c.pinLatched p up) := by
  by_cases h : c.pinIrqMode p = 3 ∨ c.pinIrqMode p = (if up then 1 else 2)
  · rw [Chip.pinLatched, if_pos h]
    exact Chip.recorded_setBit (by simp only [A.PIN_IRQx]; omega) _ _
  · rw [Chip.pinLatched, if_neg h]
    exact .refl _

theorem Chip.recorded_pinRecorded (c : Chip) (e : Env) (p stamp : Nat) (up : Bool) : c.Recorded (c.pinRecorded e p stamp up) := by
  unfold Chip.pinRecorded
  split
  · exact Chip.recorded_post c e _
  · exact .refl c

theorem Chip.bit_pinFilt_pinLatched (hp : p < 96) (c : Chip) (up : Bool) :
    (c.pinLatched p up).bit (A.PINp_FILT p) 20 = c.bit (A.PINp_FILT p) 20 := by
  have hne : A.PINp_FILT p ≠ A.PIN_IRQx (p / 32) := by
    simp only [A.PINp_FILT, A.PIN_IRQx]
    omega
  unfold Chip.pinLatched
  rw [apply_ite (Chip.bit · (A.PINp_FILT p) 20), Chip.bit, Chip.setBit, Chip.rd_wr_of_ne hne]
  exact ite_self _

theorem pinAccept_of_masked (h : c.pinBusy p = true) : pinAccept p age e c = c := by
  rw [pinAccept]
  exact if_pos (by simp [h])

theorem pinAccept_of_done (hp : p < 96) (hmode : c.mode ≠ .vault) (hbusy : c.pinBusy p = false)
    (hdriven : c.pinDriven p ≠ some (!!c.pinLevel p)) (hdone : c.pinRunDone p age = true) : pinAccept p age e c =
      (((c.pinLatched p (!c.pinLevel p)).pinRecorded e p (if c.slow then e.now else e.now - age) (!c.pinLevel p)).pinWakes
        p).countInsertion e p (!c.pinLevel p) := by
  rw [pinAccept]
  refine (if_neg (by simpa [hmode, hbusy, hdone, hp] using hdriven)).trans ?_
  simp only [Chip.pinLatched, Bool.or_eq_true, decide_eq_true_eq]
  rfl

/-- While the count does not run slow, the record is stamped at the pad's edge and asks for no wake. -/
theorem pinAccept_of_fast (hp : p < 96) (hmode : c.mode ≠ .vault) (hslow : c.slow = false) (hbusy : c.pinBusy p = false)
    (hdriven : c.pinDriven p ≠ some (!!c.pinLevel p)) (hdone : c.pinRunDone p age = true) : pinAccept p age e c =
      ((c.pinLatched p (!c.pinLevel p)).pinRecorded e p (e.now - age) (!c.pinLevel p)).countInsertion e p (!c.pinLevel p) := by
  have hfast (stamp : Nat) : ((c.pinLatched p (!c.pinLevel p)).pinRecorded e p stamp (!c.pinLevel p)).slow = false :=
    ((Chip.recorded_pinLatched c p _).trans (Chip.recorded_pinRecorded _ e p stamp _)).slow.trans hslow
  rw [pinAccept_of_done hp hmode hbusy hdriven hdone, hslow, if_neg Bool.false_ne_true, Chip.pinWakes, hfast, Bool.false_and,
    if_neg Bool.false_ne_true]

/-! ### The TAP (R664) -/

theorem jtagScan_bypass (cells : BitVec 96) (h : c.jtag.ins = .bypass ∨ c.jtag.ins = .clamp ∨ c.jtag.ins = .highz) :
    jtagScan cells c = c := by
  rcases h with h | h | h <;> rw [jtagScan, h]

theorem jtagScan_boundary (cells : BitVec 96) (h : c.jtag.ins = .sample ∨ c.jtag.ins = .extest) :
    jtagScan cells c = { c with jtag := { c.jtag with captured := c.pins.level, cells := cells } } := by
  rcases h with h | h <;> rw [jtagScan, h]

/-- Settles O56: each write, each end of a mask window or of a filter, and each scan is the operation above. -/
theorem pinsAndJtag : Obligations.PinsAndJtag := by
  intro m p x age v a level b i cells s hpow hp hx
  refine ⟨fun hm => ⟨?lacking, ?same, ?other, ?set, ?clr, ?filt⟩, ?noWindow, ?window, ?masked, ?accept, ?reset, ?load,
    ?idcode, ?boundary, ?bypass, ?write⟩
  case lacking =>
    exact fun h => (store_of_admits hpow hm).trans (next_becomes_congr
      ((regWrite_pinpMux hp m v _ _).trans (pinMuxWrite_of_lacking hp h)))
  case same =>
    exact fun h hfunc => (store_of_admits hpow hm).trans (next_becomes_congr
      ((regWrite_pinpMux hp m v _ _).trans (pinMuxWrite_of_same hp h hfunc)))
  case other =>
    exact fun h hfunc => (store_of_admits hpow hm).trans (next_becomes_congr
      ((regWrite_pinpMux hp m v _ _).trans (pinMuxWrite_of_other hp h hfunc)))
  case set => exact (store_of_admits hpow hm).trans (next_becomes_congr (regWrite_pinSet hx m v _ _))
  case clr => exact (store_of_admits hpow hm).trans (next_becomes_congr (regWrite_pinClr hx m v _ _))
  case filt =>
    exact fun h => (run_of_powered hpow).trans (next_becomes_congr ((if_pos hm).trans (pinFiltWrite_of_level hp h)))
  case noWindow =>
    intro h
    have hnone : (if s.chip.pinBusy p then some (s.chip.pinMaskDue p) else none) = none := if_neg (by simp [h])
    exact (congrArg (fun t => runDue t (fun _ c => pinMaskEnd p b c) s) hnone).trans (run_of_powered hpow)
  case window =>
    intro hslow hbusy hedges
    have hsome : (if s.chip.pinBusy p then some (s.chip.pinMaskDue p) else none) = some (s.chip.pinMaskDue p) := if_pos hbusy
    refine (congrArg (fun t => runDue t (fun _ c => pinMaskEnd p b c) s) hsome).trans ((runAt_of_powered hpow hslow).trans ?_)
    refine congrArg Host.Outcome.next (State.becomesAt_congr (pinMaskEnd_of_passed hp ((s.advTo_pinBusy _ p).trans hbusy) ?_))
    rw [State.advTo_chip_pins]
    exact hedges
  case masked => exact fun h => (run_of_powered hpow).trans (next_becomes_congr (pinAccept_of_masked h))
  case accept =>
    intro hslow hbusy hdriven hdone
    refine (run_of_powered hpow).trans (next_becomes_congr ?_)
    rw [← s.chip.bit_pinFilt_pinLatched hp (!s.chip.pinLevel p)]
    exact (pinAccept_of_fast hp ((by simpa [Chip.powered] using hpow : _ ∧ _).1) hslow hbusy hdriven hdone)
  case reset => exact run_of_powered hpow
  case load => exact run_of_powered hpow
  case idcode =>
    intro h
    refine (run_of_powered hpow).trans (next_becomes_congr ?_)
    rw [jtagOp, jtagScan, h]
  case boundary => exact fun h => (run_of_powered hpow).trans (next_becomes_congr (jtagScan_boundary cells h))
  case bypass => exact fun h => (run_of_powered hpow).trans (next_becomes_congr (jtagScan_bypass cells h))
  case write =>
    intro hlo hhi haligned
    exact (run_of_powered hpow).trans (next_becomes_congr (if_pos (by simp [inDbg, hlo, hhi, haligned])))

end Sys2Proof.Machine
end

section
/-! PROOF. Timers, the real-time clock and the random number generator (16_timers_clock_random.md, R542 to R563). -/

namespace Sys2Proof.Machine

variable {c d x : Chip} {e : Env} {s : State} {m : Master} {a i : Nat} {v w : Word} {b : Bool} {temp : Int}

/-! ### Timers (R542 to R544) -/

theorem groupOf_timCtl : ∀ {i : Nat}, i < 16 → groupOf (A.TIMn_CTL i) = none := by decide

theorem regWrite_timCtl (hi : i < 16) (m : Master) (v : Word) (e : Env) (c : Chip) :
    regWrite m (A.TIMn_CTL i) v e c = timCtl i v e c := by
  have hwindow : A.TIMn_CTL i / 65536 = 0x600F := by rw [A.TIMn_CTL]; omega
  have hgroup := groupOf_timCtl hi
  have hrange : ¬ (A.TIMn_CTL i < A.TIMn_CFG 0 ∨ A.TIMn_CFG 16 ≤ A.TIMn_CTL i) := by simp only [A.TIMn_CTL, A.TIMn_CFG]; omega
  have htimer : (A.TIMn_CTL i - A.TIMn_CFG 0) / 0x20 = i := by simp only [A.TIMn_CTL, A.TIMn_CFG]; omega
  rw [regWrite, hwindow]
  refine (if_neg (by simp [hgroup])).trans ?_
  rw [timWrite, if_neg hrange, htimer]
  exact if_pos rfl

theorem Chip.timApply_of_none {t : Nat} (h : c.pendingGroup (A.TIMn_RELOAD i) = none) : c.timApply i t = c := by
  rw [Chip.timApply, h]

theorem timStart_of_stopped (hrun : c.timRunning i = false) (hpending : c.pendingGroup (A.TIMn_RELOAD i) = none) :
    timStart i e c =
      ((c.wr (A.TIMn_COUNT i) (word (c.timReload i))).setTim i { pre := 0, asOf := e.now }).setBit (A.TIMn_STAT i) 1 := by
  rw [timStart, Chip.timSync_of_not_running hrun, Chip.timApply_of_none hpending]

/-- A timer that takes just the counts up to its zero instant, and does not repeat, stops there. -/
theorem Chip.timTake_to_zero {n t : Nat} (hpre : (c.tim i).pre = 0) (ht : (c.tim i).asOf ≤ t)
    (hn : n = (c.rd (A.TIMn_COUNT i)).toNat * 2 ^ c.timShift i) (hpending : c.pendingGroup (A.TIMn_RELOAD i) = none)
    (honce : c.bit (A.TIMn_CFG i) 0 = false) : c.timTake i n t false =
      (((c.setTim i { pre := 0, asOf := t }).setBit (A.TIMn_STAT i) 0).wr (A.TIMn_COUNT i) 0).clrBit (A.TIMn_STAT i) 1 := by
  have hcount : ((c.tim i).pre + n) / 2 ^ c.timShift i = (c.rd (A.TIMn_COUNT i)).toNat := by
    rw [hpre, hn, Nat.zero_add, Nat.mul_div_cancel _ (Nat.two_pow_pos _)]
  have hpre' : ((c.tim i).pre + n) % 2 ^ c.timShift i = 0 := by rw [hpre, hn, Nat.zero_add, Nat.mul_mod_left]
  have hstat : (((c.setTim i { pre := 0, asOf := t }).setBit (A.TIMn_STAT i) 0)).bit (A.TIMn_CFG i) 0 = false := by
    rw [Chip.bit, Chip.setBit, Chip.rd_wr_of_ne (by simp [A.TIMn_CFG, A.TIMn_STAT])]
    exact honce
  have happly (t' : Nat) : ((c.setTim i { pre := 0, asOf := t }).setBit (A.TIMn_STAT i) 0).timApply i t' =
      (c.setTim i { pre := 0, asOf := t }).setBit (A.TIMn_STAT i) 0 := Chip.timApply_of_none hpending
  unfold Chip.timTake
  simp only [hcount, hpre', Nat.max_eq_right ht, lt_irrefl, if_false, happly, Bool.and_false, Bool.false_eq_true, hstat]

theorem Chip.timSync_of_fast (hrun : c.timRunning i = true) (hfast : c.timRate i = .fast) (hnow : (c.tim i).asOf < e.now) :
    c.timSync e i = c.timTake i (e.now - (c.tim i).asOf) e.now false := by
  rw [Chip.timSync, if_neg (by simp [hrun])]
  exact (if_pos hfast).trans (if_pos hnow)

theorem Chip.slow_of_timRate (h : c.timRate i = .fast) : c.slow = false := by
  cases hslow : c.slow
  · rfl
  · rw [Chip.timRate, if_pos hslow] at h
    exact absurd h (by decide)

theorem State.advTo_tim (s : State) (t i : Nat) : (s.advTo t).chip.tim i = s.chip.tim i := by
  obtain ⟨r, hr⟩ := s.advTo_chip_eq_regs t
  rw [hr]
  rfl

theorem State.advTo_timRunning (s : State) (t i : Nat) : (s.advTo t).chip.timRunning i = s.chip.timRunning i :=
  congrArg (·.getLsbD 1) (s.advTo_rd t (by simp only [A.TIMn_STAT, A.MET_STAT]; omega))

theorem State.advTo_timRate (s : State) (t i : Nat) : (s.advTo t).chip.timRate i = s.chip.timRate i := by
  have hcfg : (s.advTo t).chip.rd (A.TIMn_CFG i) = s.chip.rd (A.TIMn_CFG i) :=
    s.advTo_rd t (by simp only [A.TIMn_CFG, A.MET_STAT]; omega)
  have hmode : (s.advTo t).chip.fld (A.TIMn_CFG i) 2 1 = s.chip.fld (A.TIMn_CFG i) 2 1 := congrArg (bits · 2 1) hcfg
  have h0 : (s.advTo t).chip.core0 = s.chip.core0 := s.advTo_core t 0
  have h1 : (s.advTo t).chip.core1 = s.chip.core1 := s.advTo_core t 1
  have hhalted : (s.advTo t).chip.timHalted i = s.chip.timHalted i := by
    simp only [Chip.timHalted, Chip.bit, hcfg, h0, h1]
  rw [Chip.timRate, Chip.timRate, State.advTo_slow, hhalted, hmode]

theorem State.advTo_pendingGroup (s : State) (t arm : Nat) : (s.advTo t).chip.pendingGroup arm = s.chip.pendingGroup arm := by
  obtain ⟨r, hr⟩ := s.advTo_chip_eq_regs t
  rw [hr]
  rfl

/-- A timer that counts MCLK reaches its zero instant and stops. -/
theorem exec_timZero_of_once {n : BitVec 4} {t : Nat} (hp : s.chip.powered = true) (hrun : s.chip.timRunning n.toNat = true)
    (hfast : s.chip.timRate n.toNat = .fast) (hpre : (s.chip.tim n.toNat).pre = 0)
    (ht : t = (s.chip.tim n.toNat).asOf + (s.chip.rd (A.TIMn_COUNT n.toNat)).toNat * 2 ^ s.chip.timShift n.toNat)
    (hasOf : (s.chip.tim n.toNat).asOf < t) (hpending : s.chip.pendingGroup (A.TIMn_RELOAD n.toNat) = none)
    (honce : s.chip.bit (A.TIMn_CFG n.toNat) 0 = false) : exec (.timZero n) s = .next (s.becomesAt t fun _ c =>
      (((c.setTim n.toNat { pre := 0, asOf := t }).setBit (A.TIMn_STAT n.toNat) 0).wr (A.TIMn_COUNT n.toNat) 0).clrBit
        (A.TIMn_STAT n.toNat) 1) := by
  have hdue : (if s.chip.timRate n.toNat = .fast then s.chip.timDue n.toNat else none) = some t := by
    rw [if_pos hfast, Chip.timDue, if_pos hrun]
    dsimp only
    rw [hpre, ht, Nat.sub_zero]
  refine (congrArg (fun d => runDue d (fun e c => c.timSync e n.toNat) s) hdue).trans
    ((runAt_of_powered hp (Chip.slow_of_timRate hfast)).trans (congrArg Host.Outcome.next (State.becomesAt_congr ?_)))
  have hcount : (s.advTo t).chip.rd (A.TIMn_COUNT n.toNat) = s.chip.rd (A.TIMn_COUNT n.toNat) :=
    s.advTo_rd t (by simp only [A.TIMn_COUNT, A.MET_STAT]; omega)
  have hshift : (s.advTo t).chip.timShift n.toNat = s.chip.timShift n.toNat :=
    congrArg (bits · 3 0) (s.advTo_rd t (by simp only [A.TIMn_PRESC, A.MET_STAT]; omega))
  have hcfg : (s.advTo t).chip.bit (A.TIMn_CFG n.toNat) 0 = false :=
    (congrArg (·.getLsbD 0) (s.advTo_rd t (by simp only [A.TIMn_CFG, A.MET_STAT]; omega))).trans honce
  have htim := s.advTo_tim t n.toNat
  rw [Chip.timSync_of_fast ((s.advTo_timRunning t _).trans hrun) ((s.advTo_timRate t _).trans hfast) (by rw [htim]; exact hasOf)]
  refine Chip.timTake_to_zero (by rw [htim, hpre]) (by rw [htim]; exact hasOf.le) ?_
    ((s.advTo_pendingGroup t _).trans hpending) hcfg
  rw [htim, hcount, hshift, ht, Nat.add_sub_cancel_left]

/-! ### The random number generator (R556 to R563) -/

theorem regRead_rngOut (m : Master) (e : Env) (c : Chip) : regRead m A.RNG_OUT e c = rngRead c := rfl

theorem rngRead_of_word {ws : List Word} (h : c.rng.out = w :: ws) : rngRead c = (w, { c with rng := { c.rng with out := ws } }) := by
  rw [rngRead, h]
  rfl

theorem rngRead_of_empty (h : c.rng.out = []) : rngRead c = (0, c.setBit A.RNG_STAT 3) := by
  rw [rngRead, h]

theorem getLsbD_0_setBitTo_1 (v : Word) : (setBitTo v 1 true).getLsbD 0 = v.getLsbD 0 := by simp [setBitTo]

/-- R559: RESTART of an enabled generator. -/
theorem rngCtlWrite_restart (h : c.bit A.RNG_CTL 0 = true) : rngCtlWrite (setBitTo (c.rd A.RNG_CTL) 1 true) c =
    { (((c.writeCoded A.RNG_CTL (setBitTo (c.rd A.RNG_CTL) 1 true)).clrBit A.RNG_STAT 0).clrBit A.RNG_STAT 1) with
      rng := { out := c.rng.out } } := by
  have hen : (setBitTo (c.rd A.RNG_CTL) 1 true).getLsbD 0 = true := (getLsbD_0_setBitTo_1 _).trans h
  obtain ⟨r, hr⟩ := c.writeCoded_eq_regs A.RNG_CTL (setBitTo (c.rd A.RNG_CTL) 1 true)
  rw [rngCtlWrite, if_pos hen, getLsbD_setBitTo_true _ (by decide), if_pos rfl, hr]
  rfl

theorem rngSample_of_stopped (h : c.bit A.RNG_CTL 0 = false) : rngSample b e c = c := if_pos (by simp [h])

theorem rngRct_of_no_run (h : c.rng.run = 0) : rngRct b c = (false, { c with rng := { c.rng with run := 1 } }) := by
  have hlim : ¬ 1 = max 2 (c.fld A.RNG_RCT_C 7 0) := by omega
  simp [rngRct, h, hlim, Chip.rngDo]

theorem rngApt_of_no_window (h : c.rng.aptN = 0) :
    rngApt b c = (false, { c with rng := { c.rng with aptN := 1, aptFirst := b, aptSame := 1 } }) := by
  have hlim : ¬ 1 = max 513 (c.fld A.RNG_APT_C 9 0) := by omega
  simp [rngApt, h, hlim, Chip.rngDo]

theorem rngWindow_of_partial (h : c.rng.winN + 1 < 4096) : rngWindow b c = (false, { c with rng := { c.rng with
    winN := c.rng.winN + 1
    ones := c.rng.ones + if b then 1 else 0
    same := c.rng.same + if b = c.rng.last then 1 else 0
    last := b } }) := if_pos h

/-- The first raw bit after a start fails no test, and is the first of those discarded. -/
theorem rngSample_first (hen : c.bit A.RNG_CTL 0 = true) (hsub : c.pwr.sub = .none) (hrng : c.rng = {}) :
    rngSample b e c = { c with rng := { ({} : Rng) with
      run := 1, aptN := 1, aptFirst := b, aptSame := 1, winN := 1, ones := if b then 1 else 0
      same := if b = false then 1 else 0
      skip := 1, last := b, discard := 4095 } } := by
  rw [rngSample, if_neg (by simp [hen, hsub]), rngRct_of_no_run (by rw [hrng])]
  dsimp only
  rw [rngApt_of_no_window (by dsimp only; rw [hrng])]
  dsimp only
  rw [rngWindow_of_partial (by dsimp only; rw [hrng]; decide)]
  simp [hrng, Chip.rngDo]

theorem Chip.rngSeed_of_none (h : c.rng.seed = none) : c.rngSeed = c := by rw [Chip.rngSeed, h]

/-- The generator has made a block. -/
def Chip.rngBlocked (c : Chip) : Chip :=
  let v1 := incBlock c.rng.v
  let new := drbgUpdate c.rng.key v1 (List.replicate 32 0)
  Chip.setFld { c with rng := { c.rng with
    out := c.rng.out ++ (chunks 4 4 (aes128 c.rng.key v1)).map (fun b => word (leNat b))
    key := new.1, v := new.2 } } A.RNG_SINCE 16 0 (c.rngSince + 1)

/-- Few blocks have been made since the last seeding, and no seed waits: nothing more is due. -/
theorem Chip.few_blocks {n : Nat} (hfew : n < 1024) (h : c.rng.seed = none) :
    Chip.rngSeed (let c := if 1024 ≤ n && n < 65536 && c.rng.seed.isNone then c.setBit A.RNG_STAT 5 else c
      if n = 65536 && c.rng.seed.isNone then c.setBit A.RNG_STAT 4 else c) = c := by
  have hdue : (decide (1024 ≤ n) && decide (n < 65536) && c.rng.seed.isNone) = false := by simp; omega
  have hfull : (decide (n = 65536) && c.rng.seed.isNone) = false := by simp; omega
  dsimp only
  simp only [hdue, hfull, Bool.false_eq_true, if_false]
  exact Chip.rngSeed_of_none h

theorem rngBlock_of_ready (hready : c.rngReady = true) (hseed : c.rng.seed = none) (hsince : c.rngSince < 1000) :
    rngBlock c = c.rngBlocked := by
  rw [rngBlock, Chip.rngSeed_of_none hseed]
  refine (if_pos hready).trans ?_
  unfold Chip.rngBlocked
  dsimp only
  generalize hnew : drbgUpdate c.rng.key (incBlock c.rng.v) (List.replicate 32 0) = new
  generalize (chunks 4 4 (aes128 c.rng.key (incBlock c.rng.v))).map (fun b => word (leNat b)) = ws
  obtain ⟨key, v⟩ := new
  exact Chip.few_blocks (c := Chip.setFld { c with rng := { c.rng with out := c.rng.out ++ ws, key := key, v := v } }
    A.RNG_SINCE 16 0 (c.rngSince + 1)) (n := c.rngSince + 1) (by omega) hseed

/-! ### The read window and the waiting writes (R550, R552) -/

theorem regWrite_rtcCtl (m : Master) (v : Word) (e : Env) (c : Chip) :
    regWrite m A.RTC_CTL v e c = { c with rtc := { c.rtc with writes := c.rtc.writes ++ [(A.RTC_CTL, v, 2)] } } := rfl

theorem regRead_rtcWindow (ha : a < 6) (m : Master) (e : Env) (c : Chip) :
    regRead m (A.RTC_FRAC + 4 * a) e c = rtcWindowRead (A.RTC_FRAC + 4 * a) c := by
  match a, ha with
  | 0, _ => rfl
  | 1, _ => rfl
  | 2, _ => rfl
  | 3, _ => rfl
  | 4, _ => rfl
  | 5, _ => rfl

theorem rtcWindowRead_of_free (ha : a < 6) (h : c.rtc.freeze = none) : rtcWindowRead (A.RTC_FRAC + 4 * a) c =
    (c.rtcWindow.getD a 0, { c with rtc := { c.rtc with freeze := if a = 5 then none else some (c.rtcWindow, 33) } }) := by
  have hindex : (A.RTC_FRAC + 4 * a - A.RTC_FRAC) / 4 = a := by omega
  have hlast : (A.RTC_FRAC + 4 * a = A.RTC_CAL_STATUS) ↔ a = 5 := by simp only [A.RTC_FRAC, A.RTC_CAL_STATUS]; omega
  rw [rtcWindowRead, h, hindex]
  simp only [hlast]
  split <;> rfl

theorem regRead_rtcCalStatus (m : Master) (e : Env) (c : Chip) :
    regRead m A.RTC_CAL_STATUS e c = rtcWindowRead A.RTC_CAL_STATUS c := rfl

theorem rtcWindowRead_calStatus {l : List Word} {k : Nat} (h : c.rtc.freeze = some (l, k)) :
    rtcWindowRead A.RTC_CAL_STATUS c = (l.getD 5 0, { c with rtc := { c.rtc with freeze := none } }) := by
  rw [rtcWindowRead, h]
  dsimp only
  rw [h]
  rfl

/-- The clock's waiting writes and its freeze are as they were. -/
def Chip.Waits (c d : Chip) : Prop := d.rtc.writes = c.rtc.writes ∧ d.rtc.freeze = c.rtc.freeze

theorem Chip.waits_of_rtc (h : d.rtc = c.rtc) : c.Waits d := ⟨congrArg Rtc.writes h, congrArg Rtc.freeze h⟩

theorem Chip.Waits.trans (h : c.Waits d) (h' : d.Waits x) : c.Waits x := ⟨h'.1.trans h.1, h'.2.trans h.2⟩

theorem Chip.waits_foldl {β : Type} {f : Chip → β → Chip} (hf : ∀ (y : Chip) k, y.Waits (f y k)) (l : List β) (c : Chip) :
    c.Waits (l.foldl f c) := by
  induction l generalizing c with
  | nil => exact ⟨rfl, rfl⟩
  | cons k l ih => exact (hf c k).trans (ih _)

theorem Chip.waits_writeCoded (c : Chip) (a : Nat) (v : Word) : c.Waits (c.writeCoded a v) := by
  obtain ⟨r, hr⟩ := c.writeCoded_eq_regs a v
  rw [hr]
  exact ⟨rfl, rfl⟩

theorem Chip.waits_putBit (c : Chip) (a i : Nat) (b : Bool) : c.Waits (c.putBit a i b) := by cases b <;> exact ⟨rfl, rfl⟩

/-- The clock has been set. -/
theorem Chip.waits_set (c : Chip) (frac secs : BitVec 40) (free : Nat) :
    c.Waits { c with rtc := { c.rtc with frac := frac, secs := secs }, free := free } := ⟨rfl, rfl⟩

theorem Chip.waits_setBit (c : Chip) (a i : Nat) : c.Waits (c.setBit a i) := ⟨rfl, rfl⟩

theorem Chip.waits_judge (c : Chip) (e : Env) (n : Nat) : c.Waits (c.judge e n) := Chip.waits_of_rtc (c.recorded_judge e n).rtc

theorem waits_ledgerReset (v : Word) (e : Env) (c : Chip) : c.Waits (ledgerReset v e c) := by
  unfold ledgerReset
  split
  · refine .trans ?_ (Chip.waits_foldl (fun y n => ?_) _ _)
    · split <;> exact ⟨rfl, rfl⟩
    · split
      · refine .trans (Chip.waits_of_rtc ?_) (Chip.waits_judge _ e n)
        refine (Chip.recorded_logEntry _ e 6 (word n) _ 0).rtc.trans ?_
        split <;> rfl
      · exact ⟨rfl, rfl⟩
  · exact ⟨rfl, rfl⟩

theorem waits_ledgerWrite (a : Nat) (v : Word) (e : Env) (c : Chip) : c.Waits (ledgerWrite a v e c) := by
  unfold ledgerWrite
  split
  · exact waits_ledgerReset v e c
  · refine (c.waits_writeCoded a v).trans ?_
    split
    · exact Chip.waits_foldl (fun y n => y.waits_judge e n) _ _
    · split
      · exact Chip.waits_judge _ e 2
      · refine Chip.waits_foldl (fun y n => ?_) _ _
        split
        · exact y.waits_judge e n
        · exact ⟨rfl, rfl⟩

/-- What a write does when it takes effect leaves the others waiting. -/
theorem waits_rtcEffect (a : Nat) (v : Word) (e : Env) (c : Chip) : c.Waits (rtcEffect a v e c) := by
  unfold rtcEffect
  split
  · exact waits_ledgerWrite a v e c
  · split
    · split
      · exact c.waits_setBit _ _
      · split
        · exact c.waits_set _ c.rtc.secs _
        · split
          · exact c.waits_set c.rtc.frac _ c.free
          · exact c.waits_set c.rtc.frac _ c.free
    · split
      · refine .trans ?_ (Chip.waits_putBit _ _ _ _)
        dsimp only
        split
        · split
          · exact c.waits_set _ _ c.free
          · exact c.waits_setBit _ _
        · exact ⟨rfl, rfl⟩
      · exact c.waits_writeCoded a v

/-! ### One edge of the Vault clock (R547 to R555) -/

theorem Chip.rtcAdvance_of_halt (h : c.rtcHalt = true) : c.rtcAdvance temp e = c := by
  rw [Chip.rtcAdvance, if_pos h]

/-- The first eight writes that wait have counted an edge. -/
def Chip.writesCounted (c : Chip) : Chip := c.rtcDo fun r => { r with
  writes := (r.writes.take 8).map (fun w => (w.1, w.2.1, w.2.2 - 1)) ++ r.writes.drop 8 }

/-- A freeze has counted an edge. -/
def Chip.freezeCounted (c : Chip) : Chip :=
  match c.rtc.freeze with
  | some (_, 1) => (c.rtcDo fun r => { r with freeze := none }).setBit A.RTC_STAT 5
  | some (l, k) => c.rtcDo fun r => { r with freeze := some (l, k - 1) }
  | none => c

theorem rtcEdge_eq (temp : Int) (e : Env) (c : Chip) : rtcEdge temp e c =
    (rtcWrites e ((c.rtcAdvance temp e).writesCounted.rtc.writes.length + 1)
      (c.rtcAdvance temp e).writesCounted).freezeCounted := rfl

theorem Chip.freezeCounted_of_none (h : c.rtc.freeze = none) : c.freezeCounted = c := by rw [Chip.freezeCounted, h]

theorem Chip.freezeCounted_of_last {l : List Word} (h : c.rtc.freeze = some (l, 1)) :
    c.freezeCounted = Chip.setBit { c with rtc := { c.rtc with freeze := none } } A.RTC_STAT 5 := by
  rw [Chip.freezeCounted, h]
  rfl

theorem Chip.writesCounted_of_none (h : c.rtc.writes = []) : c.writesCounted = c := by
  have hrtc : { c.rtc with writes := [] } = c.rtc := by rw [← h]
  rw [Chip.writesCounted, Chip.rtcDo, h]
  simp only [List.take_nil, List.map_nil, List.drop_nil, List.append_nil, hrtc]

theorem Chip.writesCounted_of_one {k : Nat} (h : c.rtc.writes = [(a, v, k)]) :
    c.writesCounted = { c with rtc := { c.rtc with writes := [(a, v, k - 1)] } } := by
  rw [Chip.writesCounted, Chip.rtcDo, h]
  rfl

theorem rtcWrites_of_none (h : c.rtc.writes = []) (fuel : Nat) : rtcWrites e fuel c = c := by
  cases fuel with
  | zero => rfl
  | succ n => rw [rtcWrites, h]

theorem rtcWrites_of_due {l : List (Nat × Word × Nat)} (h : c.rtc.writes = (a, v, 0) :: l) (fuel : Nat) :
    rtcWrites e (fuel + 1) c = rtcWrites e fuel (rtcEffect a v e { c with rtc := { c.rtc with writes := l } }) := by
  rw [rtcWrites, h]
  rfl

/-- At an edge that no write and no freeze waits for, the count alone advances. -/
theorem rtcEdge_of_idle (hwrites : (c.rtcAdvance temp e).rtc.writes = []) (hfreeze : (c.rtcAdvance temp e).rtc.freeze = none) :
    rtcEdge temp e c = c.rtcAdvance temp e := by
  rw [rtcEdge_eq, Chip.writesCounted_of_none hwrites, rtcWrites_of_none hwrites, Chip.freezeCounted_of_none hfreeze]

/-- While the count stands, the one write that waits for this edge takes effect. -/
theorem rtcEdge_of_write (hhalt : c.rtcHalt = true) (hfreeze : c.rtc.freeze = none) (hwrites : c.rtc.writes = [(a, v, 1)]) :
    rtcEdge temp e c = rtcEffect a v e { c with rtc := { c.rtc with writes := [] } } := by
  obtain ⟨hw, hf⟩ := waits_rtcEffect a v e { c with rtc := { c.rtc with writes := [] } }
  rw [rtcEdge_eq, Chip.rtcAdvance_of_halt hhalt, Chip.writesCounted_of_one hwrites, rtcWrites_of_due rfl, rtcWrites_of_none hw,
    Chip.freezeCounted_of_none (hf.trans hfreeze)]

/-- While the count stands, the freeze runs out. -/
theorem rtcEdge_of_freeze {l : List Word} (hhalt : c.rtcHalt = true) (hfreeze : c.rtc.freeze = some (l, 1))
    (hwrites : c.rtc.writes = []) :
    rtcEdge temp e c = Chip.setBit { c with rtc := { c.rtc with freeze := none } } A.RTC_STAT 5 := by
  rw [rtcEdge_eq, Chip.rtcAdvance_of_halt hhalt, Chip.writesCounted_of_none hwrites, rtcWrites_of_none hwrites,
    Chip.freezeCounted_of_last hfreeze]

/-! ### The count advances in VAULT (R547, R548, R555) -/

/-- The count has advanced by one edge: fraction, seconds and carries. -/
def Chip.rtcCounted (c : Chip) : Chip := c.rtcDo fun r => { r with
  frac := BitVec.ofNat 40 (c.rtc.frac.toNat + c.rtcStep)
  secs := if c.rtcCarries then r.secs + 1 else r.secs
  carries := if c.rtcCarries then (r.carries + 1) % 64 else r.carries }

/-- The temperature is sensed (R548). -/
def Chip.tempSensed (c : Chip) (temp : Int) : Chip :=
  (c.wr A.RTC_TEMP (word ((temp % 65536).toNat))).rtcDo fun r => { r with tc := c.rtcTc temp }

/-- What a carry into the seconds does in VAULT before the alarms. -/
def Chip.vaultCarried (c : Chip) (temp : Int) : Chip :=
  (if c.rtc.carries = 0 then c.tempSensed temp else c).ledgerCarry

theorem Chip.vaultCarried_eq (hmode : c.mode = .vault) : c.vaultCarried temp =
    Chip.ledgerCarry (if c.mode ≠ .vault || c.rtc.carries = 0 then
      if (c.tempSensed temp).mode = .vault then c.tempSensed temp else (c.tempSensed temp).countStress e temp
    else c) := by
  have hsensed : (c.tempSensed temp).mode = .vault := hmode
  simp [Chip.vaultCarried, hmode, hsensed]

theorem Chip.rtcAdvance_of_no_carry (hhalt : c.rtcHalt = false) (hcarry : c.rtcCarries = false) :
    c.rtcAdvance temp e = c.rtcCounted := by
  unfold Chip.rtcAdvance Chip.rtcCounted
  simp only [hhalt, hcarry]
  rfl

theorem Chip.rtcAdvance_of_carry (hmode : c.mode = .vault) (hhalt : c.rtcHalt = false) (hcarry : c.rtcCarries = true) :
    c.rtcAdvance temp e =
      ((List.range 2).filter (c.almDue ·)).foldl (fun c n => c.almFires e n) (c.rtcCounted.vaultCarried temp) := by
  rw [Chip.vaultCarried_eq (c := c.rtcCounted) (e := e) hmode, Chip.rtcAdvance, if_neg (by simp [hhalt])]
  exact if_neg (by simp [hcarry])

theorem Chip.ledgerCarry_eq (c : Chip) : ∃ measure sample, c.ledgerCarry = { c with ldg := { c.ldg with
    measure := measure, sample := sample } } := by
  unfold Chip.ledgerCarry
  dsimp only
  split
  · exact ⟨_, _, rfl⟩
  · exact ⟨_, _, rfl⟩

/-- What an edge in VAULT at which no alarm fires leaves. -/
theorem Chip.rtcAdvance_in_vault (hmode : c.mode = .vault) (hhalt : c.rtcHalt = false) (h0 : c.almDue 0 = false)
    (h1 : c.almDue 1 = false) : c.rtcAdvance temp e = if c.rtcCarries then c.rtcCounted.vaultCarried temp else c.rtcCounted := by
  have hfire : (List.range 2).filter (c.almDue ·) = [] := by simp [List.range, List.range.loop, h0, h1]
  by_cases hcarry : c.rtcCarries = true
  · rw [if_pos hcarry, Chip.rtcAdvance_of_carry hmode hhalt hcarry, hfire]
    rfl
  · rw [if_neg hcarry, Chip.rtcAdvance_of_no_carry hhalt (Bool.not_eq_true _ ▸ hcarry)]

/-- The registers after an edge in VAULT: the temperature is sensed with each 64th second. -/
def Chip.edgeRegs (c : Chip) (temp : Int) : SMap Word :=
  if c.rtcCarries = true ∧ (c.rtc.carries + 1) % 64 = 0 then (c.wr A.RTC_TEMP (word (temp % 65536).toNat)).regs else c.regs

/-- An edge in VAULT changes only the count, those registers and what the Ledger is asked for. -/
theorem Chip.rtcAdvance_in_vault_eq (hmode : c.mode = .vault) (hhalt : c.rtcHalt = false) (h0 : c.almDue 0 = false)
    (h1 : c.almDue 1 = false) : ∃ tc measure sample, c.rtcAdvance temp e = { c with
      regs := c.edgeRegs temp
      rtc := { c.rtcCounted.rtc with tc := tc }
      ldg := { c.ldg with measure := measure, sample := sample } } := by
  rw [Chip.rtcAdvance_in_vault hmode hhalt h0 h1, Chip.edgeRegs]
  by_cases hcarry : c.rtcCarries = true
  · have hcarries : c.rtcCounted.rtc.carries = (c.rtc.carries + 1) % 64 := if_pos hcarry
    obtain ⟨measure, sample, hledger⟩ :=
      Chip.ledgerCarry_eq (if c.rtcCounted.rtc.carries = 0 then c.rtcCounted.tempSensed temp else c.rtcCounted)
    rw [if_pos hcarry, Chip.vaultCarried, hledger, hcarries]
    by_cases hsense : (c.rtc.carries + 1) % 64 = 0
    · rw [if_pos hsense, if_pos ⟨hcarry, hsense⟩]
      exact ⟨_, _, _, rfl⟩
    · rw [if_neg hsense, if_neg fun h => hsense h.2]
      exact ⟨_, _, _, rfl⟩
  · rw [if_neg hcarry, if_neg fun h => hcarry h.1]
    exact ⟨_, _, _, rfl⟩

/-- An edge of the Vault clock in VAULT for which no write, freeze or alarm waits. -/
theorem vaultEdge_in_vault (hmode : c.mode = .vault) (hboot : c.pwr.boot ≠ .noSupply) (hwrites : c.rtc.writes = [])
    (hfreeze : c.rtc.freeze = none) (hhalt : c.rtcHalt = false) (h0 : c.almDue 0 = false) (h1 : c.almDue 1 = false) :
    ∃ tc measure sample, vaultEdge temp e c = { c with
      regs := c.edgeRegs temp
      rtc := { c.rtcCounted.rtc with tc := tc }
      ldg := { c.ldg with measure := measure, sample := sample }
      met := { c.met with vaultEdges := c.met.vaultEdges + 1 } } := by
  obtain ⟨tc, measure, sample, hadvance⟩ := Chip.rtcAdvance_in_vault_eq (temp := temp) (e := e) hmode hhalt h0 h1
  have hedge : rtcEdge temp e c = c.rtcAdvance temp e :=
    rtcEdge_of_idle (by rw [hadvance]; exact hwrites) (by rw [hadvance]; exact hfreeze)
  refine ⟨tc, measure, sample, ?_⟩
  rw [vaultEdge, if_neg (by simp [hboot]), h0, h1]
  simp only [hedge, hadvance, Bool.or_false, Bool.false_eq_true, if_false, hmode, if_true]

/-- The same, as the outcome of the command. -/
theorem exec_rtcTick_in_vault {temp : BitVec 16} (hmode : s.chip.mode = .vault) (hboot : s.chip.pwr.boot ≠ .noSupply)
    (hduties : s.chip.duties = false) (hwrites : s.chip.rtc.writes = []) (hfreeze : s.chip.rtc.freeze = none)
    (hhalt : s.chip.rtcHalt = false) (h0 : s.chip.almDue 0 = false) (h1 : s.chip.almDue 1 = false) :
    ∃ t, exec (.rtcTick temp) s = .next t ∧ t.clock = s.clock ∧ t.chip.regs = s.chip.edgeRegs temp.toInt ∧
      t.chip.rtc.frac.toNat = (s.chip.rtc.frac.toNat + s.chip.rtcStep) % 2 ^ 40 ∧
      t.chip.rtc.secs = (if s.chip.rtcCarries then s.chip.rtc.secs + 1 else s.chip.rtc.secs) := by
  obtain ⟨tc, measure, sample, hedge⟩ := vaultEdge_in_vault (temp := temp.toInt) (e := s.env) hmode hboot hwrites hfreeze hhalt h0 h1
  have hquiet : (vaultEdge temp.toInt s.env s.chip).duties = false := by
    rw [hedge]
    exact hduties
  have hsettle : (s.withChip (vaultEdge temp.toInt s.env s.chip)).settle = s.withChip (vaultEdge temp.toInt s.env s.chip) :=
    if_neg (by rw [State.withChip, hquiet]; exact Bool.false_ne_true)
  refine ⟨s.withChip (vaultEdge temp.toInt s.env s.chip), congrArg Host.Outcome.next hsettle, rfl, ?_⟩
  rw [State.withChip, hedge]
  exact ⟨rfl, BitVec.toNat_ofNat _ _, rfl⟩

/-! ### Alarms (R555) -/

theorem Chip.almFires_in_vault (h : c.mode = .vault) (n : Nat) : c.almFires e n = c.setBit A.RTC_STAT n := by
  rw [Chip.almFires]
  exact if_pos h

theorem Chip.bit_setBit_of_bit {k : Nat} (hwf : c.regsWf = true) (h : c.bit a i = true) : (c.setBit a k).bit a i = true := by
  rw [Chip.bit, Chip.setBit, Chip.rd_wr _ _ _ hwf, if_pos rfl, BitVec.getLsbD_or]
  exact Bool.or_eq_true_iff.mpr (.inl h)

/-- Every alarm that fires sets its bit. -/
theorem Chip.bit_foldl_almFires {l : List Nat} (hi : i < 32) (hmode : c.mode = .vault) (hwf : c.regsWf = true)
    (h : i ∈ l ∨ c.bit A.RTC_STAT i = true) :
    (l.foldl (fun c n => c.almFires e n) c).bit A.RTC_STAT i = true := by
  induction l generalizing c with
  | nil => exact h.resolve_left List.not_mem_nil
  | cons n l ih =>
    rw [List.foldl_cons, Chip.almFires_in_vault hmode]
    refine ih hmode (Chip.regsWf_setBit _ _ hwf) ?_
    rcases h with h | h
    · rcases List.mem_cons.mp h with rfl | h
      · exact .inr (Chip.bit_setBit_self hwf hi)
      · exact .inl h
    · exact .inr (Chip.bit_setBit_of_bit hwf h)

theorem Chip.vaultCarried_mode (c : Chip) : (c.vaultCarried temp).mode = c.mode := by
  obtain ⟨measure, sample, hledger⟩ := Chip.ledgerCarry_eq (if c.rtc.carries = 0 then c.tempSensed temp else c)
  rw [Chip.vaultCarried, hledger]
  dsimp only
  split <;> rfl

theorem Chip.regsWf_vaultCarried (h : c.regsWf = true) : (c.vaultCarried temp).regsWf = true := by
  have hsensed : Chip.regsWf (if c.rtc.carries = 0 then c.tempSensed temp else c) = true := by
    split
    · exact Chip.regsWf_wr _ _ h
    · exact h
  obtain ⟨measure, sample, hledger⟩ := Chip.ledgerCarry_eq (if c.rtc.carries = 0 then c.tempSensed temp else c)
  rw [Chip.vaultCarried, hledger]
  exact hsensed

theorem Chip.rtcAdvance_fires (hi : i < 2) (hmode : c.mode = .vault) (hwf : c.regsWf = true) (hdue : c.almDue i = true) :
    (c.rtcAdvance temp e).bit A.RTC_STAT i = true := by
  have hcarry : c.rtcCarries = true := by
    simp only [Chip.almDue, Bool.and_eq_true] at hdue
    exact hdue.1.1
  have hhalt : c.rtcHalt = false := by
    simp only [Chip.rtcCarries, Bool.and_eq_true, Bool.not_eq_true'] at hcarry
    exact hcarry.1
  have hmem : i ∈ (List.range 2).filter (c.almDue ·) := List.mem_filter.mpr ⟨List.mem_range.mpr hi, hdue⟩
  rw [Chip.rtcAdvance_of_carry hmode hhalt hcarry]
  exact Chip.bit_foldl_almFires (by omega) (c.rtcCounted.vaultCarried_mode.trans hmode) (Chip.regsWf_vaultCarried hwf) (.inl hmem)

/-! ### The commands that are an edge where one is due -/

theorem exec_rtcTick_eq (temp : BitVec 16) (s : State) :
    exec (.rtcTick temp) s = .next (s.becomes (vaultEdge temp.toInt s.env s.chip)) := rfl

theorem edgeIf_eq (due : Chip → Bool) (temp : BitVec 16) (s : State) :
    edgeIf due temp s = if due s.chip then exec (.rtcTick temp) s else .next s.settle := by
  cases hdue : due s.chip
  · exact congrArg (fun t => Host.Outcome.next (State.settle t)) (if_neg (by simp [hdue]))
  · exact congrArg (fun t => Host.Outcome.next (State.settle t)) (if_pos hdue)

/-- Settles O49: each command is its register's write or read, its edge, or its step of the generator. -/
theorem timersClockAndRandomNumbers : Obligations.TimersClockAndRandomNumbers := by
  intro m n al temp a v w ws b s
  refine ⟨fun hp hm => ⟨?start, ?stop, ?commit, ?window, ?calStatus, ?out, ?empty, ?restart⟩, ?zero, ?stopped, ?first, ?block,
    ?edge, ?alarm, ?takes, ?timeout, ?vault, ?write, ?freeze, ?fires⟩
  case start =>
    exact fun hrun hpending => (store_of_admits hp hm).trans (next_becomes_congr
      ((regWrite_timCtl n.isLt m 1 _ _).trans (timStart_of_stopped hrun hpending)))
  case stop => exact (store_of_admits hp hm).trans (next_becomes_congr (regWrite_timCtl n.isLt m 2 _ _))
  case commit => exact (store_of_admits hp hm).trans (next_becomes_congr (regWrite_rtcCtl m _ _ _))
  case window =>
    intro ha hfreeze
    have hread := (regRead_rtcWindow ha m s.env s.chip).trans (rtcWindowRead_of_free ha hfreeze)
    exact (load_of_admits hp hm).trans (by rw [hread])
  case calStatus =>
    intro l k hfreeze
    have hread := (regRead_rtcCalStatus m s.env s.chip).trans (rtcWindowRead_calStatus hfreeze)
    exact (load_of_admits hp hm).trans (by rw [hread])
  case out =>
    intro hout
    have hread := (regRead_rngOut m s.env s.chip).trans (rngRead_of_word hout)
    exact (load_of_admits hp hm).trans (by rw [hread])
  case empty =>
    intro hout
    have hread := (regRead_rngOut m s.env s.chip).trans (rngRead_of_empty hout)
    exact (load_of_admits hp hm).trans (by rw [hread])
  case restart =>
    exact fun hen => (run_of_powered hp).trans (next_becomes_congr ((if_pos hm).trans (rngCtlWrite_restart hen)))
  case zero =>
    exact fun hp hrun hfast hpre _ hasOf hpending honce => exec_timZero_of_once hp hrun hfast hpre rfl hasOf hpending honce
  case stopped => exact fun hp hen => (run_of_powered hp).trans (next_becomes_congr (rngSample_of_stopped hen))
  case first =>
    intro hp hen hsub hrng
    refine (run_of_powered hp).trans (next_becomes_congr ((rngSample_first hen hsub hrng).trans ?_))
    rw [hrng]
    rfl
  case block =>
    exact fun hp hready hseed hsince => (run_of_powered hp).trans (next_becomes_congr (rngBlock_of_ready hready hseed hsince))
  case edge => exact exec_rtcTick_eq temp s
  case alarm => exact edgeIf_eq (·.almDue al.toNat) temp s
  case takes => exact edgeIf_eq Chip.rtcWriteDue temp s
  case timeout => exact edgeIf_eq Chip.rtcFreezeDue temp s
  case vault => exact exec_rtcTick_in_vault
  case write => exact rtcEdge_of_write
  case freeze => exact fun _ => rtcEdge_of_freeze
  case fires => exact Chip.rtcAdvance_fires al.isLt

end Sys2Proof.Machine
end

section
/-! PROOF. The host port (15_host_port.md, R514 to R535): a complete frame in the order of R516, and what ends one early. -/

namespace Sys2Proof.Machine

variable {c d b : Chip} {e : Env} {s : State} {m : Master} {f : HostFrame} {n ch dur : Nat}

/-! ### The end of a frame (R513) -/

/-- The state at the last bit of a frame of `dur` counts. -/
def State.frameEnd (s : State) (dur : Nat) : State := if s.chip.slow then s else s.advTo (s.clock.abs + dur)

/-- What happens at the last bit of a frame of channel `ch`. -/
def State.atFrameEnd (s : State) (ch dur : Nat) (g : Env → Chip → Chip) : Host.Outcome State Fault Refusal :=
  .next ((s.frameEnd dur).on fun e c => g e (c.hostBegin ch)).settle

theorem Chip.askWake_of_awake (h : c.pwr.sub = .none) : c.askWake = c := if_pos h

theorem Chip.hostListens_lt (h : c.hostListens n = true) : n < 3 := by
  simp only [Chip.hostListens, Bool.and_eq_true, decide_eq_true_eq] at h
  obtain ⟨⟨⟨⟨⟨hn, -⟩, -⟩, -⟩, -⟩, -⟩ := h
  exact hn

/-- The chip `b` is `c` with a new frame of channel `ch` begun: the channel's current reply is discarded. -/
structure Chip.Begun (c b : Chip) (ch : Nat) : Prop where
  rest : b = { c with regs := b.regs, host := b.host }
  straps : b.rd A.SYS_STRAPS = c.rd A.SYS_STRAPS
  chan : b.hc ch = { c.hc ch with current := .none }

theorem Chip.hc_setHc (hwf : wfFrom (fun _ => ({} : HostChan)) 0 c.host.chans = true) (n : Nat) (h : HostChan) :
    (c.setHc n h).hc n = h := by
  rw [Chip.hc, Chip.setHc]
  exact (getS_putS (d := fun _ => ({} : HostChan)) n n h hwf).trans (if_pos rfl)

theorem State.frameEnd_eq_regs (s : State) (dur : Nat) : ∃ r, (s.frameEnd dur).chip = { s.chip with regs := r } := by
  unfold State.frameEnd
  split
  · exact ⟨_, rfl⟩
  · exact s.advTo_chip_eq_regs _

theorem State.frameEnd_rd (s : State) (dur : Nat) {a : Nat} (h : a ≠ A.MET_STAT) : (s.frameEnd dur).chip.rd a = s.chip.rd a := by
  unfold State.frameEnd
  split
  · rfl
  · exact s.advTo_rd _ h

theorem State.advTo_hostListens (s : State) (t n : Nat) : (s.advTo t).chip.hostListens n = s.chip.hostListens n := by
  have hpins : (s.advTo t).chip.pinFunc = s.chip.pinFunc := by
    funext p
    exact congrArg (bits · 3 0) (s.advTo_rd t (by simp only [A.PINp_MUX, A.MET_STAT]; omega))
  have hmode : (s.advTo t).chip.mode = s.chip.mode := by
    obtain ⟨r, hr⟩ := s.advTo_chip_eq_regs t
    rw [hr]
  simp only [Chip.hostListens, Chip.bit, hpins, hmode, State.advTo_chip_pwr, s.advTo_rd t (show A.HOST_CFG ≠ A.MET_STAT by decide)]

theorem State.frameEnd_hostListens (s : State) (dur n : Nat) : (s.frameEnd dur).chip.hostListens n = s.chip.hostListens n := by
  unfold State.frameEnd
  split
  · rfl
  · exact s.advTo_hostListens _ n

theorem State.begun_frameEnd (hwf : wfFrom (fun _ => ({} : HostChan)) 0 s.chip.host.chans = true) (ch dur : Nat) :
    s.chip.Begun ((s.frameEnd dur).chip.hostBegin ch) ch := by
  obtain ⟨r, hr⟩ := s.frameEnd_eq_regs dur
  have hstraps := s.frameEnd_rd dur (show A.SYS_STRAPS ≠ A.MET_STAT by decide)
  rw [hr] at hstraps ⊢
  exact ⟨rfl, hstraps, Chip.hc_setHc (c := { s.chip with regs := r }) hwf ch _⟩

/-- The frame whose SYNC byte begins now. -/
def State.frame (s : State) (ch op : Nat) (tag : BitVec 8) (p : List Byte) (crc : BitVec 16) : HostFrame where
  ch := ch
  op := op
  tag := tag.toNat
  payload := p
  crc := crc.toNat
  stamp := s.clock.abs

/-- A frame that a listening channel of an awake device takes is taken as R516 says at its last bit. -/
theorem request_eq {op : Nat} {tag : BitVec 8} {p : List Byte} {crc : BitVec 16} {g : Env → Chip → Chip}
    (hp : s.chip.powered = true) (hlistens : s.chip.hostListens ch = true) (hsub : s.chip.pwr.sub = .none)
    (hg : ∀ e, hostFrame (s.frame ch op tag p crc) e ((s.frameEnd dur).chip.hostBegin ch) =
      g e ((s.frameEnd dur).chip.hostBegin ch)) :
    request ch op tag p crc dur s = s.atFrameEnd ch dur g := by
  obtain ⟨r, hr⟩ := s.frameEnd_eq_regs dur
  have hawake : ((s.frameEnd dur).chip.hostBegin ch).pwr.sub = .none := by
    rw [hr]
    exact hsub
  have harrive (e : Env) : hostArrive (s.frame ch op tag p crc) e (s.frameEnd dur).chip =
      g e ((s.frameEnd dur).chip.hostBegin ch) := by
    have hheard : (s.frameEnd dur).chip.hostListens (s.frame ch op tag p crc).ch = true :=
      (s.frameEnd_hostListens dur ch).trans hlistens
    rw [hostArrive, hheard]
    exact (if_pos hawake).trans (hg e)
  refine (runState_of_powered hp _).trans (congrArg settled ?_)
  exact congrArg (fun d => { s.frameEnd dur with chip := d }) (harrive _)

/-! ### The order of R516 -/

/-- The frame is complete: its length and its CRC are right. -/
def HostFrame.Good (f : HostFrame) : Prop := f.payload.length ≤ 1024 ∧ requestCrc f.op f.tag f.payload = f.crc

/-- No cached request is this one, and no request of the channel is pending. -/
def Chip.hostFresh (c : Chip) (f : HostFrame) : Prop :=
  (c.hc f.ch).pending = none ∧ (c.hc f.ch).cache.find? (fun x => x.tag == f.tag && x.crc == f.crc) = none

theorem hostFrame_of_nop (hf : f.Good) (hop : f.op = 0) (hp : f.payload = []) :
    hostFrame f e c = c.hostCurrent f.ch (hostReply f.tag 0) := by
  rw [hostFrame, if_neg (Nat.not_lt.mpr hf.1), if_neg (not_not.mpr hf.2), if_pos hop, hp]
  rfl

theorem hostFrame_of_fetch (hf : f.Good) (hop : f.op = 1) : hostFrame f e c = c.hostFetch f.ch f.tag f.payload := by
  rw [hostFrame, if_neg (Nat.not_lt.mpr hf.1), if_neg (not_not.mpr hf.2), if_neg (by omega), if_pos hop]

/-- A complete new frame of another operation is executed, or forwarded where it has a route. -/
theorem hostFrame_of_fresh (hf : f.Good) (hop : 2 ≤ f.op) (hfresh : c.hostFresh f) :
    hostFrame f e c = if f.op < 0x80 then hostExecute f e c else
      match c.route (0x38 + f.ch) 0x38 with
      | none => (c.hostAccept f.ch f.tag f.crc).hostForm f.ch (hostReply f.tag 0x89)
      | some q => if c.noRoom q then c.hostCurrent f.ch (c.hostBusy f.tag 2) else hostExecute f e c := by
  have hidle : c.hostPending f.ch = false := by rw [Chip.hostPending, hfresh.1]; rfl
  rw [hostFrame, if_neg (Nat.not_lt.mpr hf.1), if_neg (not_not.mpr hf.2), if_neg (by omega), if_neg (by omega), hfresh.2]
  exact if_neg (by simp [hidle])

theorem hostFrame_of_own (hf : f.Good) (hop : 2 ≤ f.op) (h80 : f.op < 0x80) (hfresh : c.hostFresh f) :
    hostFrame f e c = hostExecute f e c := by
  rw [hostFrame_of_fresh hf hop hfresh, if_pos h80]

theorem hostFrame_of_no_route (hf : f.Good) (h80 : 0x80 ≤ f.op) (hfresh : c.hostFresh f)
    (hroute : c.route (0x38 + f.ch) 0x38 = none) :
    hostFrame f e c = (c.hostAccept f.ch f.tag f.crc).hostForm f.ch (hostReply f.tag 0x89) := by
  rw [hostFrame_of_fresh hf (by omega) hfresh, if_neg (by omega), hroute]

theorem hostFrame_of_route {q : Nat} (hf : f.Good) (h80 : 0x80 ≤ f.op) (hfresh : c.hostFresh f)
    (hroute : c.route (0x38 + f.ch) 0x38 = some q) (hroom : c.noRoom q = false) : hostFrame f e c = hostExecute f e c := by
  rw [hostFrame_of_fresh hf (by omega) hfresh, if_neg (by omega), hroute]
  exact if_neg (by simp [hroom])

/-! ### Step 7 of R516: the request is executed -/

/-- The reply is formed by what the request does. -/
def Chip.hostTaken (c : Chip) (f : HostFrame) (run : Chip → HostReply × Chip) : Chip :=
  let r := run (c.hostAccept f.ch f.tag f.crc)
  r.2.hostForm f.ch r.1

/-- The request waits for `what`. -/
def Chip.hostWaits (c : Chip) (f : HostFrame) (e : Env) (what : HostWait) (run : Chip → Chip) : Chip :=
  (run (c.hostAccept f.ch f.tag f.crc)).hostWait f.ch { op := f.op, tag := f.tag, what := what, since := e.now }

theorem hostExecute_read32 (h : f.op = 0x10) :
    hostExecute f e c = c.hostTaken f (hostRead32 f.ch f.tag f.payload e) := by
  simp only [hostExecute, h]
  rfl

theorem hostExecute_write32 (h : f.op = 0x11) :
    hostExecute f e c = c.hostTaken f (hostWrite32 f.ch f.tag f.payload e) := by
  simp only [hostExecute, h]
  rfl

theorem hostExecute_readMem (h : f.op = 0x12) :
    hostExecute f e c = c.hostTaken f (hostReadMemory f.ch f.tag f.payload e) := by
  simp only [hostExecute, h]
  rfl

theorem hostExecute_writeMem (h : f.op = 0x13) :
    hostExecute f e c = c.hostTaken f (hostWriteMemory f.ch f.tag f.payload e) := by
  simp only [hostExecute, h]
  rfl

theorem hostExecute_charter (h : f.op = 0x20) (hfields : charterFields f.payload = true) : hostExecute f e c =
    c.hostWaits f e (.charter (payNat f.payload 0 1) c.ldr.results) (hostCharter f.ch f.payload e) := by
  simp only [hostExecute, h, Chip.hostWaits]
  exact if_pos hfields

theorem hostExecute_charter_of_bad (h : f.op = 0x20) (hfields : charterFields f.payload = false) :
    hostExecute f e c = c.hostTaken f fun c => (hostReply f.tag 0x83, c) := by
  simp only [hostExecute, h]
  exact if_neg (by simp [hfields])

theorem hostExecute_mode_of_bad (h : f.op = 0x21) (hp : f.payload.length ≠ 1 ∨ 3 < payNat f.payload 0 1) :
    hostExecute f e c = c.hostTaken f fun c => (hostReply f.tag 0x83, c) := by
  simp only [hostExecute, h]
  exact if_pos hp

theorem hostExecute_mode_of_allowed (h : f.op = 0x21) (hp : f.payload.length = 1) (hmode : payNat f.payload 0 1 < 3)
    (hallowed : c.modeAllowed (payNat f.payload 0 1) = true) : hostExecute f e c =
      c.hostWaits f e (.mode (payNat f.payload 0 1)) (requestMode (payNat f.payload 0 1) e) := by
  have haccepted : (c.hostAccept f.ch f.tag f.crc).modeAllowed (payNat f.payload 0 1) = true := hallowed
  simp only [hostExecute, h, Chip.hostWaits]
  rw [if_neg (by omega), if_neg (by simp [haccepted]), if_neg (by omega)]

theorem hostExecute_mode_of_forbidden (h : f.op = 0x21) (hp : f.payload.length = 1) (hmode : payNat f.payload 0 1 < 3)
    (hallowed : c.modeAllowed (payNat f.payload 0 1) = false) : hostExecute f e c =
      c.hostTaken f fun c => (hostReply f.tag 0x85, requestMode (payNat f.payload 0 1) e c) := by
  have haccepted : (c.hostAccept f.ch f.tag f.crc).modeAllowed (payNat f.payload 0 1) = false := hallowed
  simp only [hostExecute, h, Chip.hostTaken]
  rw [if_neg (by omega), if_pos (by simp [haccepted])]

theorem hostExecute_run_of_bad (h : f.op = 0x22) (hp : f.payload.length ≠ 4) :
    hostExecute f e c = c.hostTaken f fun c => (hostReply f.tag 0x83, c) := by
  simp only [hostExecute, h]
  exact if_pos hp

theorem hostExecute_run (h : f.op = 0x22) (hp : f.payload.length = 4)
    (hcode : hostRunCode (c.hostAccept f.ch f.tag f.crc) (payNat f.payload 0 4) = 0) : hostExecute f e c =
      handOver (word (payNat f.payload 0 4)) e ((c.hostAccept f.ch f.tag f.crc).hostForm f.ch (hostReply f.tag 0)) := by
  simp only [hostExecute, h]
  rw [if_neg (by omega), hcode, if_pos rfl]

theorem hostExecute_of_unassigned (h80 : f.op < 0x80)
    (h : f.op ∉ [0, 1, 0x10, 0x11, 0x12, 0x13, 0x20, 0x21, 0x22]) :
    hostExecute f e c = c.hostTaken f fun c => (hostReply f.tag 0x80, c) := by
  simp only [List.mem_cons, List.not_mem_nil, or_false, not_or] at h
  unfold hostExecute
  dsimp only
  split
  case h_8 => exact if_neg (by omega)
  all_goals omega

theorem hostExecute_of_forward (h80 : 0x80 ≤ f.op) : hostExecute f e c = c.hostWaits f e .software fun c =>
    (c.hostPutReq f.ch f.payload).post e {
      source := 0x38 + f.ch, kind := 0x38, key := f.op, flags := 0, time := BitVec.ofNat 48 f.stamp
      valueA := BitVec.ofNat 16 f.payload.length, valueB := word f.tag } := by
  unfold hostExecute
  dsimp only
  split
  case h_8 => exact if_pos h80
  all_goals omega

/-! ### What a frame finds at its end -/

section
variable (h : c.Begun b ch)
include h

theorem Chip.Begun.fresh (hch : f.ch = ch) (hfresh : c.hostFresh f) : b.hostFresh f := by
  subst hch
  obtain ⟨hpending, hcache⟩ := hfresh
  refine ⟨?_, ?_⟩
  · rw [h.chan]
    exact hpending
  · rw [h.chan]
    exact hcache

theorem Chip.Begun.cache : (b.hc ch).cache = (c.hc ch).cache := by rw [h.chan]

theorem Chip.Begun.results : b.ldr.results = c.ldr.results := by rw [h.rest]

theorem Chip.Begun.modeAllowed (n : Nat) : b.modeAllowed n = c.modeAllowed n := by
  rw [h.rest]
  rfl

theorem Chip.Begun.route (src kind : Nat) : b.route src kind = c.route src kind := by
  rw [h.rest]
  rfl

theorem Chip.Begun.noRoom (q : Nat) : b.noRoom q = c.noRoom q := by
  rw [h.rest]
  rfl

/-- An accepted RUN is answered as it would have been at the frame's first bit. -/
theorem Chip.Begun.hostRunCode (tag crc entry : Nat) : hostRunCode (b.hostAccept ch tag crc) entry = Machine.hostRunCode c entry := by
  have hstraps : (b.hostAccept ch tag crc).rd A.SYS_STRAPS = c.rd A.SYS_STRAPS :=
    (Chip.rd_wr_of_ne (by simp only [A.SYS_STRAPS, A.HOST_CHc_REQS]; omega) b _).trans h.straps
  have hpwr : (b.hostAccept ch tag crc).pwr = c.pwr := (show (b.hostAccept ch tag crc).pwr = b.pwr from rfl).trans (by rw [h.rest])
  have hldr : (b.hostAccept ch tag crc).ldr = c.ldr := (show (b.hostAccept ch tag crc).ldr = b.ldr from rfl).trans (by rw [h.rest])
  have hwaits : (b.hostAccept ch tag crc).runWaits = c.runWaits := by
    rw [Chip.runWaits, Chip.fld, hstraps, hpwr, hldr]
    rfl
  rw [Machine.hostRunCode, hwaits]
  rfl

end

/-! ### Frames that end early (R515, R535) -/

theorem hostLenFault_of_listening {tag : Nat} (hlistens : c.hostListens ch = true) (hsub : c.pwr.sub = .none) :
    hostLenFault ch tag c = (((c.hostBegin ch).hostCurrent ch (hostReply tag 0x82)).setBit (A.HOST_CHc_STAT ch) 3).inc
      (A.HOST_CHc_ERRS ch) := by
  rw [hostLenFault, if_pos hlistens, Chip.askWake_of_awake (c := c.hostBegin ch) hsub]

theorem hostGap_of_listening (hlistens : c.hostListens ch = true) (hsub : c.pwr.sub = .none) :
    hostGap ch c = ((c.hostBegin ch).setBit (A.HOST_CHc_STAT ch) 1).inc (A.HOST_CHc_ERRS ch) := by
  rw [hostGap, if_pos hlistens, Chip.askWake_of_awake (c := c.hostBegin ch) hsub]

/-! ### Replies (R517, R520, R530, R533, R534) -/

theorem Chip.hostFetch_of_none {tag : Nat} {x : Byte} (h : (c.hc n).cache.find? (fun y => y.tag = x.toNat) = none) :
    c.hostFetch n tag [x] = c.hostCurrent n (hostReply tag 0x87) := by
  simp only [Chip.hostFetch, h]

theorem Chip.hostFetch_of_reply {tag : Nat} {x : Byte} {y : HostEntry} {r : HostReply}
    (h : (c.hc n).cache.find? (fun y => y.tag = x.toNat) = some y) (hr : y.reply = some r) :
    c.hostFetch n tag [x] = c.hostCurrent n { r with replay := true } := by
  obtain ⟨t, k, reply⟩ := y
  subst hr
  simp only [Chip.hostFetch, h]

theorem hostTakeReply_of_record {q o since : Nat} {it : QItem}
    (hq : (List.range 64).find? (fun q => (c.qe q).depth ≠ 0 && (c.qe q).consumer = 0xE2) = some q)
    (hpop : c.popRec q = some (it, d)) (hkind : it.r.kind = 0x38) (hch : it.r.valueB.toNat / 256 % 4 = ch) (hlt : ch < 3)
    (hlen : it.r.valueA.toNat ≤ 1024)
    (hpending : (d.hc ch).pending = some { op := o, tag := it.r.valueB.toNat % 256, what := .software, since := since }) :
    hostTakeReply c = d.hostAnswer ch {
      tag := it.r.valueB.toNat % 256
      code := it.r.key
      payload := (List.range it.r.valueA.toNat).map (d.hostBufByte ch)
      errf := it.r.valueB.getLsbD 16 } := by
  subst hch
  simp only [hostTakeReply, hq, hpop, hpending]
  exact if_pos (by simp [hkind, hlen, hlt])

theorem hostSwTimeout_of_due {o tag since : Nat} (hpending : (c.hc ch).pending = some {
      op := o, tag := tag, what := .software, since := since })
    (hblocks : c.fld A.HOST_CFG 31 16 ≠ 0) (hnow : since + c.fld A.HOST_CFG 31 16 * c.met.ticks.cb ≤ e.now) :
    hostSwTimeout ch e c = (c.hostAnswer ch (hostReply tag 0x88)).setBit (A.HOST_CHc_STAT ch) 7 := by
  rw [hostSwTimeout, hpending]
  exact if_pos (by simp [hblocks, hnow])

theorem Chip.hostTimeoutAt_of_pending {o tag since : Nat} (hpending : (c.hc ch).pending = some {
      op := o, tag := tag, what := .software, since := since }) (hblocks : c.fld A.HOST_CFG 31 16 ≠ 0) :
    c.hostTimeoutAt ch = some (since + c.fld A.HOST_CFG 31 16 * c.met.ticks.cb) := by
  rw [Chip.hostTimeoutAt, hpending]
  exact if_neg hblocks

theorem hostRead_of_none {attn : Bool} (hlistens : c.hostListens n = true) (h : (c.hc n).current = .none) :
    hostRead n attn c = { c with host := { c.host with byte := 0xFF } } := by
  rw [hostRead, if_neg (by simp [hlistens]), h]

theorem hostRead_of_ready {attn : Bool} {r : HostReply} {k st : Nat} (hlistens : c.hostListens n = true)
    (h : (c.hc n).current = .ready r (k + 1) st) (hk : k + 1 < (r.bytes st).length) : hostRead n attn c =
      let d := c.setHc n { c.hc n with current := .ready r (k + 2) st }
      { d with host := { d.host with byte := ((r.bytes st).getD (k + 1) 0).toNat } } := by
  rw [hostRead, if_neg (by simp [hlistens]), h]
  exact if_pos hk

theorem hostCacheClear_of_one (hn : n < 3) :
    hostCacheClear ((BitVec.ofNat 3 (2 ^ n)).setWidth 32) c = c.setHc n { c.hc n with cache := [] } := by
  match n, hn with
  | 0, _ => rfl
  | 1, _ => rfl
  | 2, _ => rfl

theorem State.advTo_hc (s : State) (t n : Nat) : (s.advTo t).chip.hc n = s.chip.hc n := by
  obtain ⟨r, hr⟩ := s.advTo_chip_eq_regs t
  rw [hr]
  rfl

/-! ### The commands of R516, at the frame's last bit -/

section
variable {tag : BitVec 8} {crc : BitVec 16} {p : List Byte} (hp : s.chip.powered = true)
  (hlistens : s.chip.hostListens ch = true) (hsub : s.chip.pwr.sub = .none)
  (hwf : wfFrom (fun _ => ({} : HostChan)) 0 s.chip.host.chans = true)
include hp hlistens hsub

theorem exec_hostNop_of_empty (hgood : (s.frame ch 0 tag p crc).Good) (hnone : p = []) : exec (.hostNop ch tag p crc dur) s =
    s.atFrameEnd ch dur fun _ c => c.hostCurrent ch (hostReply tag.toNat 0) :=
  request_eq (op := 0) hp hlistens hsub fun _ => hostFrame_of_nop hgood rfl hnone

include hwf

theorem exec_fetch_of_none {x : Byte} (hgood : (s.frame ch 1 tag [x] crc).Good)
    (hnone : (s.chip.hc ch).cache.find? (fun y => y.tag = x.toNat) = none) : exec (.fetch ch tag [x] crc dur) s =
      s.atFrameEnd ch dur fun _ c => c.hostCurrent ch (hostReply tag.toNat 0x87) := by
  have hbegun := s.begun_frameEnd hwf ch dur
  refine request_eq (op := 1) hp hlistens hsub fun _ => (hostFrame_of_fetch hgood rfl).trans (Chip.hostFetch_of_none ?_)
  exact (congrArg (List.find? _) hbegun.cache).trans hnone

theorem exec_fetch_of_reply {x : Byte} {y : HostEntry} {r : HostReply} (hgood : (s.frame ch 1 tag [x] crc).Good)
    (hfind : (s.chip.hc ch).cache.find? (fun y => y.tag = x.toNat) = some y) (hreply : y.reply = some r) :
    exec (.fetch ch tag [x] crc dur) s = s.atFrameEnd ch dur fun _ c => c.hostCurrent ch { r with replay := true } := by
  have hbegun := s.begun_frameEnd hwf ch dur
  refine request_eq (op := 1) hp hlistens hsub fun _ => (hostFrame_of_fetch hgood rfl).trans (Chip.hostFetch_of_reply ?_ hreply)
  exact (congrArg (List.find? _) hbegun.cache).trans hfind

/-- A fresh request of the port's own is executed at the frame's last bit. -/
theorem request_of_own {op : Nat} {g : Env → Chip → Chip} (hop : 2 ≤ op) (h80 : op < 0x80) (hgood : (s.frame ch op tag p crc).Good)
    (hfresh : s.chip.hostFresh (s.frame ch op tag p crc))
    (hg : ∀ e b, s.chip.Begun b ch → hostExecute (s.frame ch op tag p crc) e b = g e b) :
    request ch op tag p crc dur s = s.atFrameEnd ch dur g := by
  have hbegun := s.begun_frameEnd hwf ch dur
  exact request_eq hp hlistens hsub fun e =>
    (hostFrame_of_own hgood hop h80 (hbegun.fresh rfl hfresh)).trans (hg e _ hbegun)

theorem exec_read32_of_fresh (hgood : (s.frame ch 0x10 tag p crc).Good)
    (hfresh : s.chip.hostFresh (s.frame ch 0x10 tag p crc)) : exec (.read32 ch tag p crc dur) s =
      s.atFrameEnd ch dur fun e c => c.hostTaken (s.frame ch 0x10 tag p crc) (hostRead32 ch tag.toNat p e) :=
  request_of_own (op := 0x10) hp hlistens hsub hwf (by decide) (by decide) hgood hfresh fun _ _ _ => hostExecute_read32 rfl

theorem exec_write32_of_fresh (hgood : (s.frame ch 0x11 tag p crc).Good)
    (hfresh : s.chip.hostFresh (s.frame ch 0x11 tag p crc)) : exec (.write32 ch tag p crc dur) s =
      s.atFrameEnd ch dur fun e c => c.hostTaken (s.frame ch 0x11 tag p crc) (hostWrite32 ch tag.toNat p e) :=
  request_of_own (op := 0x11) hp hlistens hsub hwf (by decide) (by decide) hgood hfresh fun _ _ _ => hostExecute_write32 rfl

theorem exec_readMem_of_fresh (hgood : (s.frame ch 0x12 tag p crc).Good)
    (hfresh : s.chip.hostFresh (s.frame ch 0x12 tag p crc)) : exec (.readMem ch tag p crc dur) s =
      s.atFrameEnd ch dur fun e c => c.hostTaken (s.frame ch 0x12 tag p crc) (hostReadMemory ch tag.toNat p e) :=
  request_of_own (op := 0x12) hp hlistens hsub hwf (by decide) (by decide) hgood hfresh fun _ _ _ => hostExecute_readMem rfl

theorem exec_writeMem_of_fresh (hgood : (s.frame ch 0x13 tag p crc).Good)
    (hfresh : s.chip.hostFresh (s.frame ch 0x13 tag p crc)) : exec (.writeMem ch tag p crc dur) s =
      s.atFrameEnd ch dur fun e c => c.hostTaken (s.frame ch 0x13 tag p crc) (hostWriteMemory ch tag.toNat p e) :=
  request_of_own (op := 0x13) hp hlistens hsub hwf (by decide) (by decide) hgood hfresh fun _ _ _ => hostExecute_writeMem rfl

theorem exec_hostCharter_of_fields (hgood : (s.frame ch 0x20 tag p crc).Good)
    (hfresh : s.chip.hostFresh (s.frame ch 0x20 tag p crc))
    (hfields : charterFields p = true) : exec (.hostCharter ch tag p crc dur) s =
      s.atFrameEnd ch dur fun e c => c.hostWaits (s.frame ch 0x20 tag p crc) e
        (.charter (payNat p 0 1) s.chip.ldr.results) (hostCharter ch p e) :=
  request_of_own (op := 0x20) hp hlistens hsub hwf (by decide) (by decide) hgood hfresh fun _ _ hbegun =>
    hbegun.results ▸ hostExecute_charter rfl hfields

theorem exec_hostCharter_of_bad (hgood : (s.frame ch 0x20 tag p crc).Good)
    (hfresh : s.chip.hostFresh (s.frame ch 0x20 tag p crc))
    (hfields : charterFields p = false) : exec (.hostCharter ch tag p crc dur) s =
      s.atFrameEnd ch dur fun _ c => c.hostTaken (s.frame ch 0x20 tag p crc)
        fun c => (hostReply tag.toNat 0x83, c) :=
  request_of_own (op := 0x20) hp hlistens hsub hwf (by decide) (by decide) hgood hfresh fun _ _ _ =>
    hostExecute_charter_of_bad rfl hfields

theorem exec_hostMode_of_bad (hgood : (s.frame ch 0x21 tag p crc).Good)
    (hfresh : s.chip.hostFresh (s.frame ch 0x21 tag p crc))
    (hbad : p.length ≠ 1 ∨ 3 < payNat p 0 1) : exec (.hostMode ch tag p crc dur) s =
      s.atFrameEnd ch dur fun _ c => c.hostTaken (s.frame ch 0x21 tag p crc)
        fun c => (hostReply tag.toNat 0x83, c) :=
  request_of_own (op := 0x21) hp hlistens hsub hwf (by decide) (by decide) hgood hfresh fun _ _ _ =>
    hostExecute_mode_of_bad rfl hbad

theorem exec_hostMode_of_allowed (hgood : (s.frame ch 0x21 tag p crc).Good)
    (hfresh : s.chip.hostFresh (s.frame ch 0x21 tag p crc))
    (hlen : p.length = 1) (hmode : payNat p 0 1 < 3) (hallowed : s.chip.modeAllowed (payNat p 0 1) = true) : exec (.hostMode ch tag p crc dur) s =
      s.atFrameEnd ch dur fun e c => c.hostWaits (s.frame ch 0x21 tag p crc) e
        (.mode (payNat p 0 1)) (requestMode (payNat p 0 1) e) :=
  request_of_own (op := 0x21) hp hlistens hsub hwf (by decide) (by decide) hgood hfresh fun _ _ hbegun =>
    hostExecute_mode_of_allowed rfl hlen hmode ((hbegun.modeAllowed _).trans hallowed)

theorem exec_hostMode_of_forbidden (hgood : (s.frame ch 0x21 tag p crc).Good)
    (hfresh : s.chip.hostFresh (s.frame ch 0x21 tag p crc))
    (hlen : p.length = 1) (hmode : payNat p 0 1 < 3) (hallowed : s.chip.modeAllowed (payNat p 0 1) = false) : exec (.hostMode ch tag p crc dur) s =
      s.atFrameEnd ch dur fun e c => c.hostTaken (s.frame ch 0x21 tag p crc)
        fun c => (hostReply tag.toNat 0x85, requestMode (payNat p 0 1) e c) :=
  request_of_own (op := 0x21) hp hlistens hsub hwf (by decide) (by decide) hgood hfresh fun _ _ hbegun =>
    hostExecute_mode_of_forbidden rfl hlen hmode ((hbegun.modeAllowed _).trans hallowed)

theorem exec_hostRun_of_bad (hgood : (s.frame ch 0x22 tag p crc).Good)
    (hfresh : s.chip.hostFresh (s.frame ch 0x22 tag p crc))
    (hlen : p.length ≠ 4) : exec (.hostRun ch tag p crc dur) s =
      s.atFrameEnd ch dur fun _ c => c.hostTaken (s.frame ch 0x22 tag p crc)
        fun c => (hostReply tag.toNat 0x83, c) :=
  request_of_own (op := 0x22) hp hlistens hsub hwf (by decide) (by decide) hgood hfresh fun _ _ _ =>
    hostExecute_run_of_bad rfl hlen

theorem exec_hostRun_of_ready (hgood : (s.frame ch 0x22 tag p crc).Good)
    (hfresh : s.chip.hostFresh (s.frame ch 0x22 tag p crc))
    (hlen : p.length = 4) (hcode : hostRunCode s.chip (payNat p 0 4) = 0) : exec (.hostRun ch tag p crc dur) s =
      s.atFrameEnd ch dur fun e c => handOver (word (payNat p 0 4)) e
        ((c.hostAccept ch tag.toNat crc.toNat).hostForm ch (hostReply tag.toNat 0)) :=
  request_of_own (op := 0x22) hp hlistens hsub hwf (by decide) (by decide) hgood hfresh fun _ _ hbegun =>
    hostExecute_run rfl hlen ((hbegun.hostRunCode _ _ _).trans hcode)

theorem exec_hostUnassignedOp_of_fresh {op : BitVec 7} (hgood : (s.frame ch op.toNat tag p crc).Good)
    (hfresh : s.chip.hostFresh (s.frame ch op.toNat tag p crc))
    (hop : op.toNat ∉ [0, 1, 0x10, 0x11, 0x12, 0x13, 0x20, 0x21, 0x22]) : exec (.hostUnassignedOp ch op tag p crc dur) s =
      s.atFrameEnd ch dur fun _ c => c.hostTaken (s.frame ch op.toNat tag p crc) fun c => (hostReply tag.toNat 0x80, c) := by
  have hnot : op.toNat ≠ 0 ∧ op.toNat ≠ 1 := by
    simp only [List.mem_cons, not_or] at hop
    exact ⟨hop.1, hop.2.1⟩
  exact request_of_own hp hlistens hsub hwf (by omega) op.isLt hgood hfresh fun _ _ _ => hostExecute_of_unassigned op.isLt hop

theorem request_of_no_route {op : Nat} (h80 : 0x80 ≤ op) (hgood : (s.frame ch op tag p crc).Good)
    (hfresh : s.chip.hostFresh (s.frame ch op tag p crc)) (hroute : s.chip.route (0x38 + ch) 0x38 = none) :
    request ch op tag p crc dur s = s.atFrameEnd ch dur fun _ c =>
      (c.hostAccept ch tag.toNat crc.toNat).hostForm ch (hostReply tag.toNat 0x89) := by
  have hbegun := s.begun_frameEnd hwf ch dur
  exact request_eq hp hlistens hsub fun _ =>
    hostFrame_of_no_route hgood h80 (hbegun.fresh rfl hfresh) ((hbegun.route _ _).trans hroute)

theorem request_of_route {op q : Nat} (h80 : 0x80 ≤ op) (hgood : (s.frame ch op tag p crc).Good)
    (hfresh : s.chip.hostFresh (s.frame ch op tag p crc)) (hroute : s.chip.route (0x38 + ch) 0x38 = some q)
    (hroom : s.chip.noRoom q = false) : request ch op tag p crc dur s = s.atFrameEnd ch dur fun e c =>
      c.hostWaits (s.frame ch op tag p crc) e .software fun c => (c.hostPutReq ch p).post e {
        source := 0x38 + ch, kind := 0x38, key := op, flags := 0, time := BitVec.ofNat 48 s.clock.abs
        valueA := BitVec.ofNat 16 p.length, valueB := word tag.toNat } := by
  have hbegun := s.begun_frameEnd hwf ch dur
  exact request_eq hp hlistens hsub fun _ =>
    (hostFrame_of_route hgood h80 (hbegun.fresh rfl hfresh) ((hbegun.route _ _).trans hroute)
      ((hbegun.noRoom q).trans hroom)).trans (hostExecute_of_forward h80)

end

/-- Settles O48: a complete frame is taken in the order of R516 at its last bit; the rest is what ends a frame early, and what is
done with a reply. -/
theorem hostRequestsAndReplies : Obligations.HostRequestsAndReplies := by
  intro m ch dur op tag crc p s hp hlistens hsub hwf
  have hbegun := s.begun_frameEnd hwf ch dur
  have hlt := Chip.hostListens_lt hlistens
  have hgap (t : Nat) : (s.advTo t).chip.pwr.sub = .none := (congrArg Power.sub (s.advTo_chip_pwr t)).trans hsub
  refine ⟨?len, ?gap, ?abandon, ?nop, ?fetchNone, ?fetch, fun hfresh => ?requests, ?reply, ?timeout, ?read, ?readNone, ?clear⟩
  case len => exact (run_of_powered hp).trans (next_becomes_congr (hostLenFault_of_listening hlistens hsub))
  case gap =>
    intro hslow
    have hrun : exec (.hostGapTimeout ch) s = runAt (s.clock.abs + s.chip.gapCounts) (fun _ c => hostGap ch c) s :=
      if_neg (by simp [hslow])
    rw [hrun, runAt_of_powered hp hslow]
    exact congrArg Host.Outcome.next (State.becomesAt_congr (hostGap_of_listening ((s.advTo_hostListens _ ch).trans hlistens) (hgap _)))
  case abandon =>
    rintro rfl hpin
    exact (run_of_powered hp).trans (next_becomes_congr (if_pos (by simp [hlistens, hpin])))
  case nop => exact fun hgood hnone => exec_hostNop_of_empty hp hlistens hsub hgood hnone
  case fetchNone =>
    rintro hgood x rfl hnone
    exact exec_fetch_of_none hp hlistens hsub hwf hgood hnone
  case fetch =>
    rintro hgood x y r rfl hfind hreply
    exact exec_fetch_of_reply hp hlistens hsub hwf hgood hfind hreply
  case requests =>
    refine ⟨?read32, ?write32, ?readMem, ?writeMem, ?charter, ?modeBad, ?mode, ?modeForbidden, ?runBad, ?run, ?unassigned, ?noRoute,
      ?forward⟩
    case read32 => exact fun hgood => exec_read32_of_fresh hp hlistens hsub hwf hgood hfresh
    case write32 => exact fun hgood => exec_write32_of_fresh hp hlistens hsub hwf hgood hfresh
    case readMem => exact fun hgood => exec_readMem_of_fresh hp hlistens hsub hwf hgood hfresh
    case writeMem => exact fun hgood => exec_writeMem_of_fresh hp hlistens hsub hwf hgood hfresh
    case charter =>
      intro hgood
      split
      case isTrue hfields => exact exec_hostCharter_of_fields hp hlistens hsub hwf hgood hfresh hfields
      case isFalse hfields =>
        exact exec_hostCharter_of_bad hp hlistens hsub hwf hgood hfresh (Bool.not_eq_true _ ▸ hfields)
    case modeBad => exact fun hgood hbad => exec_hostMode_of_bad hp hlistens hsub hwf hgood hfresh hbad
    case mode =>
      exact fun hgood hlen hmode hallowed => exec_hostMode_of_allowed hp hlistens hsub hwf hgood hfresh hlen hmode hallowed
    case modeForbidden =>
      exact fun hgood hlen hmode hallowed => exec_hostMode_of_forbidden hp hlistens hsub hwf hgood hfresh hlen hmode hallowed
    case runBad => exact fun hgood hlen => exec_hostRun_of_bad hp hlistens hsub hwf hgood hfresh hlen
    case run => exact fun hgood hlen hcode => exec_hostRun_of_ready hp hlistens hsub hwf hgood hfresh hlen hcode
    case unassigned => exact fun hgood hop => exec_hostUnassignedOp_of_fresh hp hlistens hsub hwf hgood hfresh hop
    case noRoute =>
      exact fun hgood hroute => request_of_no_route hp hlistens hsub hwf (Nat.le_add_right _ _) hgood hfresh hroute
    case forward =>
      exact fun hgood q hroute hroom => request_of_route hp hlistens hsub hwf (Nat.le_add_right _ _) hgood hfresh hroute hroom
  case reply =>
    intro q it d o since hq hpop hkind hch hlen hpending
    exact (run_of_powered hp).trans (next_becomes_congr (hostTakeReply_of_record hq hpop hkind hch hlt hlen hpending))
  case timeout =>
    intro o tg since hslow hpending hblocks _
    have hcfg (t : Nat) : (s.advTo t).chip.fld A.HOST_CFG 31 16 = s.chip.fld A.HOST_CFG 31 16 :=
      congrArg (bits · 31 16) (s.advTo_rd t (by decide))
    refine (congrArg (fun t => runDue t (hostSwTimeout ch) s) (Chip.hostTimeoutAt_of_pending hpending hblocks)).trans
      ((runAt_of_powered hp hslow).trans (congrArg Host.Outcome.next (State.becomesAt_congr ?_)))
    refine hostSwTimeout_of_due ((congrArg HostChan.pending (s.advTo_hc _ ch)).trans hpending) (by rw [hcfg]; exact hblocks) ?_
    rw [hcfg, State.advTo_chip_met]
  case read =>
    exact fun r k st hcurrent hk => (run_of_powered hp).trans (next_becomes_congr (hostRead_of_ready hlistens hcurrent hk))
  case readNone => exact fun hcurrent => (run_of_powered hp).trans (next_becomes_congr (hostRead_of_none hlistens hcurrent))
  case clear => exact fun hm hlt => (store_of_admits hp hm).trans (next_becomes_congr (hostCacheClear_of_one hlt))

end Sys2Proof.Machine
end

section
/-! PROOF. A veiled entry of a register file (R293). Where a file lists DISP_STAT more than once, the write that clears
PUSHING at the end of a push leaves it at 1, and the state that O40 asks for is another one that settles to the same. Its
file has one entry of DISP_STAT ahead of the others, which the first write of DISP_STAT takes away. Here is what such an
entry does to the reads and writes of a list. -/

namespace Sys2Proof.Machine

/-! ### A veiled entry of a list -/

/-- The list `l'` is the list `l` with one entry of key `a` and value `w` ahead of every entry of that key in `l`, where a write
of another key does not meet it: in the place of an entry of `a`, or just ahead of an entry of a greater key that a write of `a`
comes to. `ds` are entries of `a` under the new one. `lo` bounds the keys that a write can have which comes to this list. -/
inductive Veil (a : Nat) (w : Word) : Nat → SMap Word → SMap Word → Prop
  | head {lo x q ds} (hds : ∀ e ∈ ds, e.1 = a) : Veil a w lo ((a, x) :: q) ((a, w) :: (ds ++ q))
  | gap {lo q ds} (hlo : lo ≤ a) (hq : ∀ e ∈ q.head?, a < e.1) (hds : ∀ e ∈ ds, e.1 = a) : Veil a w lo q ((a, w) :: (ds ++ q))
  | cons {lo k v l l'} (hk : k ≠ a) (h : Veil a w (k + 1) l l') : Veil a w lo ((k, v) :: l) ((k, v) :: l')

namespace Veil

variable {a i lo : Nat} {w v d : Word} {l l' q ds : SMap Word}

theorem mono {lo' : Nat} (h : Veil a w lo' l l') (hlo : lo ≤ lo') : Veil a w lo l l' := by
  cases h with
  | head hds => exact .head hds
  | gap ha hq hds => exact .gap (hlo.trans ha) hq hds
  | cons hk h => exact .cons hk h

/-- It may lie behind one more entry, unless it is in a gap that this entry closes. -/
theorem raise (h : Veil a w lo l l') (n : Nat) :
    Veil a w n l l' ∨ a < n ∧ lo ≤ a ∧ ∃ ds, (∀ e ∈ ds, e.1 = a) ∧ l' = (a, w) :: (ds ++ l) := by
  cases h with
  | head hds => exact .inl (.head hds)
  | gap ha hq hds =>
    by_cases hn : n ≤ a
    · exact .inl (.gap hn hq hds)
    · exact .inr ⟨by omega, ha, _, hds, rfl⟩
  | cons hk h => exact .inl (.cons hk h)

theorem getS_append_ne (hi : i ≠ a) (hds : ∀ e ∈ ds, e.1 = a) : getS d (ds ++ q) i = getS d q i := by
  induction ds with
  | nil => rfl
  | cons e ds ih =>
    obtain ⟨he, hds⟩ := List.forall_mem_cons.mp hds
    rw [List.cons_append, getS, if_neg (by omega), ih hds]

/-- Reads of other keys do not see it. -/
theorem getS_ne (h : Veil a w lo l l') (hi : i ≠ a) : getS d l' i = getS d l i := by
  induction h with
  | head hds => rw [getS, getS, getS_append_ne hi hds, if_neg hi.symm, if_neg hi.symm]
  | gap _ _ hds => rw [getS, if_neg hi.symm, getS_append_ne hi hds]
  | cons _ _ ih => rw [getS, getS, ih]

/-- A read of its key gives its value. -/
theorem getS_self (h : Veil a w lo l l') : getS d l' a = w := by
  induction h with
  | head => exact if_pos rfl
  | gap => exact if_pos rfl
  | cons hk _ ih => rw [getS, if_neg hk, ih]

theorem filter {p : Nat → Bool} (h : Veil a w lo l l') (hp : p a = false) :
    l'.filter (fun e => p e.1) = l.filter (fun e => p e.1) := by
  have hnone {ds : SMap Word} (hds : ∀ e ∈ ds, e.1 = a) : ds.filter (fun e => p e.1) = [] :=
    List.filter_eq_nil_iff.mpr fun e he => by rw [hds e he, hp]; exact Bool.false_ne_true
  induction h with
  | head hds => simp only [List.filter_cons, hp, Bool.false_eq_true, if_false, List.filter_append, hnone hds, List.nil_append]
  | gap _ _ hds => simp only [List.filter_cons, hp, Bool.false_eq_true, if_false, List.filter_append, hnone hds,
                     List.nil_append]
  | cons _ _ ih => simp only [List.filter_cons, ih]

/-! ### Writes -/

theorem putS_append (hi : a < i) (hds : ∀ e ∈ ds, e.1 = a) : putS d (ds ++ q) i v = ds ++ putS d q i v := by
  induction ds with
  | nil => rfl
  | cons e ds ih =>
    obtain ⟨he, hds⟩ := List.forall_mem_cons.mp hds
    rw [List.cons_append, putS, if_neg (by omega), if_neg (by omega), ih hds, List.cons_append]

theorem putS_veil_of_lt (hi : a < i) (hds : ∀ e ∈ ds, e.1 = a) :
    putS d ((a, w) :: (ds ++ q)) i v = (a, w) :: (ds ++ putS d q i v) := by
  rw [putS, if_neg (by omega), if_neg (by omega), putS_append hi hds]

theorem putS_of_lt_head (hl : ∀ e ∈ l.head?, i < e.1) : putS d l i v = if v = d then l else (i, v) :: l := by
  cases l with
  | nil => rfl
  | cons e l => exact if_pos (hl _ rfl)

theorem putS_cons_eq {x : Word} : putS d ((i, x) :: q) i v = if v = d then q else (i, v) :: q := by
  rw [putS, if_neg (Nat.lt_irrefl _), if_pos rfl]

theorem putS_cons_gt {k : Nat} {x : Word} (h : k < i) : putS d ((k, x) :: q) i v = (k, x) :: putS d q i v := by
  rw [putS, if_neg (by omega), if_neg (by omega)]

theorem lt_head (h : Veil a w (i + 1) l l') (hl : ∀ e ∈ l.head?, i < e.1) : ∀ e ∈ l'.head?, i < e.1 := by
  rintro e he
  cases h with
  | head => exact Option.mem_some.mp he ▸ show i < a from hl (_, _) rfl
  | gap hlo => exact Option.mem_some.mp he ▸ hlo
  | cons => exact hl e he

/-- The entry that a write takes away stands in front, or behind the veiled one. -/
theorem of_delete (h : Veil a w lo l l') (hi : i ≠ a) (x : Word) :
    ∃ l0, Veil a w lo ((i, x) :: l) l0 ∧ putS d l0 i d = l' := by
  rcases h.raise (i + 1) with h | ⟨ha, hlo, ds, hds, rfl⟩
  · exact ⟨_, .cons hi h, putS_cons_eq.trans (if_pos rfl)⟩
  · have hai : a < i := by omega
    exact ⟨_, .gap hlo (fun e he => Option.mem_some.mp he ▸ hai) hds,
      (putS_veil_of_lt hai hds).trans (by rw [putS_cons_eq, if_pos rfl])⟩

/-- A write that finds no entry and has nothing to put. -/
theorem putS_default (h : Veil a w lo l l') (hi : i ≠ a) (hl : ∀ e ∈ l.head?, i < e.1) : putS d l' i d = l' := by
  by_cases ha : i < a
  · have hl' : ∀ e ∈ l'.head?, i < e.1 := by
      cases h with
      | head => exact fun e he => Option.mem_some.mp he ▸ ha
      | gap => exact fun e he => Option.mem_some.mp he ▸ ha
      | cons => exact hl
    rw [putS_of_lt_head hl', if_pos rfl]
  · cases h with
    | head => exact absurd (hl _ rfl) ha
    | gap _ _ hds => rw [putS_veil_of_lt (by omega) hds, putS_of_lt_head hl, if_pos rfl]
    | cons => exact (if_pos (hl (_, _) rfl)).trans (if_pos rfl)

/-- Where a list is veiled after a write of another key, the list before it can be veiled too. -/
theorem of_putS (h : Veil a w lo (putS d l i v) l') (hlo : lo ≤ i) (hi : i ≠ a) :
    ∃ l0, Veil a w lo l l0 ∧ putS d l0 i v = l' := by
  have hfront {lo l l'} (hlo : lo ≤ i) (h : Veil a w lo (putS d l i v) l') (hl : ∀ e ∈ l.head?, i < e.1) :
      ∃ l0, Veil a w lo l l0 ∧ putS d l0 i v = l' := by
    rw [putS_of_lt_head hl] at h
    split at h
    case isTrue hv => exact ⟨l', h, hv ▸ h.putS_default hi hl⟩
    case isFalse hv =>
      cases h with
      | head => exact absurd rfl hi
      | gap ha hq hds =>
        have hai := hq _ rfl
        exact ⟨_, .gap ha (fun e he => hai.trans (hl e he)) hds, by rw [putS_veil_of_lt hai hds, putS_of_lt_head hl, if_neg hv]⟩
      | cons _ h => exact ⟨_, h.mono (by omega), by rw [putS_of_lt_head (h.lt_head hl), if_neg hv]⟩
  induction l generalizing lo l' with
  | nil => exact hfront hlo h (fun _ he => nomatch he)
  | cons e l ih =>
    obtain ⟨k, x⟩ := e
    rcases Nat.lt_trichotomy i k with hk | rfl | hk
    · exact hfront hlo h (fun e he => Option.mem_some.mp he ▸ hk)
    · rw [putS_cons_eq] at h
      split at h
      case isTrue hv => exact hv ▸ h.of_delete hi x
      case isFalse hv =>
        cases h with
        | head => exact absurd rfl hi
        | gap ha hq hds =>
          have hai := hq _ rfl
          exact ⟨_, .gap ha (fun e he => Option.mem_some.mp he ▸ hai) hds, by rw [putS_veil_of_lt hai hds, putS_cons_eq,
              if_neg hv]⟩
        | cons _ h => exact ⟨_, .cons hi h, by rw [putS_cons_eq, if_neg hv]⟩
    · rw [putS_cons_gt hk] at h
      cases h with
      | head hds => exact ⟨_, .head hds, putS_veil_of_lt hk hds⟩
      | gap ha hq hds =>
        have hak := hq _ rfl
        exact ⟨_, .gap ha (fun e he => Option.mem_some.mp he ▸ hak) hds,
          (putS_veil_of_lt (hak.trans hk) hds).trans (by rw [putS_cons_gt hk])⟩
      | cons hka h =>
        obtain ⟨l0, hl0, hput⟩ := ih h hk
        exact ⟨_, .cons hka hl0, by rw [putS_cons_gt hk, hput]⟩

/-- A write of the key itself that leaves an entry in the list leaves one under the veiled one too. -/
theorem of_putS_self {u : Word} (h : Veil a u lo (putS 0 l a v) l') (hlo : lo ≤ a) (hv : v ≠ 0) :
    ∃ l0, Veil a w lo l l0 ∧ putS 0 l0 a u = l' := by
  have htop (ds q : SMap Word) (hds : ∀ e ∈ ds, e.1 = a) :
      ∃ ds', (∀ e ∈ ds', e.1 = a) ∧ putS 0 ((a, w) :: (ds' ++ q)) a u = (a, u) :: (ds ++ q) := by
    by_cases hu : u = 0
    · exact ⟨(a, 0) :: ds, List.forall_mem_cons.mpr ⟨rfl, hds⟩, by rw [putS_cons_eq, if_pos hu, hu]; rfl⟩
    · exact ⟨ds, hds, by rw [putS_cons_eq, if_neg hu]⟩
  induction l generalizing lo l' with
  | nil =>
    rw [putS_of_lt_head (l := []) (fun _ he => nomatch he), if_neg hv] at h
    cases h with
    | head hds =>
      obtain ⟨ds', hds', hput⟩ := htop _ [] hds
      exact ⟨_, .gap hlo (fun _ he => nomatch he) hds', hput⟩
    | gap _ hq => exact absurd (hq (_, _) rfl) (Nat.lt_irrefl _)
    | cons hka => exact absurd rfl hka
  | cons e l ih =>
    obtain ⟨k, x⟩ := e
    rcases Nat.lt_trichotomy a k with hk | rfl | hk
    · have hl : ∀ e ∈ ((k, x) :: l).head?, a < e.1 := fun e he => Option.mem_some.mp he ▸ hk
      rw [putS_of_lt_head hl, if_neg hv] at h
      cases h with
      | head hds =>
        obtain ⟨ds', hds', hput⟩ := htop _ ((k, x) :: l) hds
        exact ⟨_, .gap hlo hl hds', hput⟩
      | gap _ hq => exact absurd (hq (_, _) rfl) (Nat.lt_irrefl _)
      | cons hka => exact absurd rfl hka
    · rw [putS_cons_eq, if_neg hv] at h
      cases h with
      | head hds =>
        obtain ⟨ds', hds', hput⟩ := htop _ l hds
        exact ⟨_, .head hds', hput⟩
      | gap _ hq => exact absurd (hq (_, _) rfl) (Nat.lt_irrefl _)
      | cons hka => exact absurd rfl hka
    · rw [putS_cons_gt hk] at h
      cases h with
      | head => exact absurd hk (Nat.lt_irrefl _)
      | gap _ hq => exact absurd ((hq (_, _) rfl).trans hk) (Nat.lt_irrefl _)
      | cons hka h =>
        obtain ⟨l0, hl0, hput⟩ := ih h hk
        exact ⟨_, .cons hka hl0, by rw [putS_cons_gt hk, hput]⟩

/-- Every list can be veiled so that a write of 0 to the key gives the list itself. -/
theorem exists_putS_zero (hlo : lo ≤ a) (l : SMap Word) : ∃ l', Veil a w lo l l' ∧ putS 0 l' a 0 = l := by
  induction l generalizing lo with
  | nil => exact ⟨_, .gap (ds := []) hlo (fun _ he => nomatch he) (fun _ he => nomatch he), putS_cons_eq.trans (if_pos rfl)⟩
  | cons e l ih =>
    obtain ⟨k, x⟩ := e
    rcases Nat.lt_trichotomy a k with hk | rfl | hk
    · exact ⟨_, .gap (ds := []) hlo (fun e he => Option.mem_some.mp he ▸ hk) (fun _ he => nomatch he),
        putS_cons_eq.trans (if_pos rfl)⟩
    · exact ⟨_, .head (ds := [(a, x)]) (fun e he => List.mem_singleton.mp he ▸ rfl), putS_cons_eq.trans (if_pos rfl)⟩
    · obtain ⟨l', hl', hput⟩ := ih hk
      exact ⟨_, .cons (by omega) hl', by rw [putS_cons_gt hk, hput]⟩

/-- Every list can be veiled so that a write of the key leaves no trace of it. -/
theorem exists_putS_ne_zero (hlo : lo ≤ a) (l : SMap Word) :
    ∃ l', Veil a w lo l l' ∧ ∀ u ≠ 0, putS 0 l' a u = putS 0 l a u := by
  induction l generalizing lo with
  | nil =>
    exact ⟨_, .gap (ds := []) hlo (fun _ he => nomatch he) (fun _ he => nomatch he), fun u hu => by
      rw [putS_cons_eq, if_neg hu, putS, if_neg hu]; rfl⟩
  | cons e l ih =>
    obtain ⟨k, x⟩ := e
    rcases Nat.lt_trichotomy a k with hk | rfl | hk
    · have hl : ∀ e ∈ ((k, x) :: l).head?, a < e.1 := fun e he => Option.mem_some.mp he ▸ hk
      exact ⟨_, .gap (ds := []) hlo hl (fun _ he => nomatch he), fun u hu => by
        rw [putS_cons_eq, putS_of_lt_head hl, if_neg hu, if_neg hu]; rfl⟩
    · exact ⟨_, .head (ds := []) (fun _ he => nomatch he), fun u hu => by
        rw [putS_cons_eq, putS_cons_eq, if_neg hu, if_neg hu]; rfl⟩
    · obtain ⟨l', hl', hput⟩ := ih hk
      exact ⟨_, .cons (by omega) hl', fun u hu => by rw [putS_cons_gt hk, putS_cons_gt hk, hput u hu]⟩

end Veil
end Sys2Proof.Machine
end

section
/-! PROOF. Effects that do with a device and with its twin the same. The twin has the veiled entry and more words posted for
target 8; that an effect hides it says that every twin of its outcome has a twin before it. Here are the rules by which
effects compose. -/

namespace Sys2Proof.Machine

/-! ### A device with another register file -/

/-- The device with another register file and other words waiting for target 8. -/
@[simps] def Chip.put (c : Chip) (r : SMap Word) (ws : List (Nat × Nat × Word)) : Chip :=
  { c with regs := r, dma := { c.dma with words := ws } }

/-- Another register file that differs from the device's own in what it has for DISP_STAT alone. -/
structure Chip.Alike (c : Chip) (r : SMap Word) : Prop where
  get : ∀ a d, a ≠ A.DISP_STAT → getS d r a = getS d c.regs a
  ledger : r.filter (fun e => isLedgerReg e.1) = c.regs.filter (fun e => isLedgerReg e.1)

theorem Chip.Alike.refl (c : Chip) : c.Alike c.regs := ⟨fun _ _ _ => rfl, rfl⟩

/-- What a reader tells does not depend on DISP_STAT or on the words that wait. -/
def Blind {α : Type} (k : Chip → α) : Prop := ∀ c r ws, c.Alike r → k (c.put r ws) = k c

/-- The masks of the bits of DISP_STAT that a twin shows: UNDERRUN and CMD_OVF, which are set within the device, are among
them. -/
structure Mask (m : Word) : Prop where
  underrun : word 1 &&& m = word 1
  cmdOvf : word 32 &&& m = word 32

/-- A register file like the device's, with an entry of DISP_STAT ahead that shows the bits of the mask. -/
def Chip.Twin (c : Chip) (m : Word) (r : SMap Word) : Prop := Veil A.DISP_STAT (c.rd A.DISP_STAT &&& m) 0 c.regs r

theorem Chip.Twin.alike {c : Chip} {m : Word} {r : SMap Word} (h : c.Twin m r) : c.Alike r where
  get _ _ ha := h.getS_ne ha
  ledger := h.filter rfl

/-- PUSHING reads 1 with no push under way. -/
structure Chip.Stuck (c : Chip) : Prop where
  pushing : c.bit A.DISP_STAT 8 = true
  push : c.disp.push = none

/-- On this device, an effect does with a twin what it does with the device: for every twin of the outcome there is a twin that
leads to it. -/
def Chip.HidesAt (c : Chip) (f : Chip → Chip) : Prop :=
  (f c).Stuck ∧ ∀ m, Mask m → ∀ r', (f c).Twin m r' →
    ∃ r, c.Twin m r ∧ ∀ ws, f (c.put r (ws ++ c.dma.words)) = (f c).put r' (ws ++ (f c).dma.words)

/-- An effect that does so on every device with a stuck PUSHING. -/
def Hides (f : Chip → Chip) : Prop := ∀ c : Chip, c.Stuck → c.HidesAt f

variable {α β : Type} {f g : Chip → Chip} {a i : Nat} {v : Word}

/-! ### The rules -/

namespace Chip.HidesAt
variable {c : Chip}

theorem seq (hf : c.HidesAt f) (hg : (f c).HidesAt g) : c.HidesAt fun c => g (f c) := by
  obtain ⟨_, hf⟩ := hf
  obtain ⟨hgc, hg⟩ := hg
  refine ⟨hgc, fun m hm r' hr' => ?_⟩
  obtain ⟨r1, hr1, hg⟩ := hg m hm r' hr'
  obtain ⟨r, hr, hf⟩ := hf m hm r1 hr1
  exact ⟨r, hr, fun ws => (congrArg g (hf ws)).trans (hg ws)⟩

/-- The same on the device and its twins is enough. -/
theorem congr (hg : c.HidesAt g) (h : f c = g c) (hput : ∀ r ws, c.Alike r → f (c.put r ws) = g (c.put r ws)) :
    c.HidesAt f := by
  obtain ⟨hgc, hg⟩ := hg
  rw [HidesAt, h]
  refine ⟨hgc, fun m hm r' hr' => ?_⟩
  obtain ⟨r, hr, hg⟩ := hg m hm r' hr'
  exact ⟨r, hr, fun ws => (hput r _ hr.alike).trans (hg ws)⟩

end Chip.HidesAt

namespace Hides

theorem of (h : Hides g) (e : f = g) : Hides f := e ▸ h

theorem id : Hides fun c => c := fun _ hc => ⟨hc, fun _ _ r hr => ⟨r, hr, fun _ => rfl⟩⟩

theorem seq (hf : Hides f) (hg : Hides g) : Hides fun c => g (f c) := fun c hc => (hf c hc).seq (hg _ (hf c hc).1)

/-- An effect that is one of a family, chosen by what a reader tells. -/
theorem cases (k : Chip → β) (hk : Blind k) (F : β → Chip → Chip) (hF : ∀ x, Hides (F x)) (hf : ∀ c, f c = F (k c) c) :
    Hides f :=
  fun c hc => (hF (k c) c hc).congr (hf c) fun r ws h => by rw [hf, hk c r ws h]

theorem read {k : Chip → β} {F : β → Chip → Chip} (hk : Blind k) (hF : ∀ x, Hides (F x)) : Hides fun c => F (k c) c :=
  cases k hk F hF fun _ => rfl

theorem ite {p : Chip → Prop} {inst : ∀ c, Decidable (p c)} (hp : Blind p) (hf : Hides f) (hg : Hides g) :
    Hides fun c => if p c then f c else g c := by
  classical
  refine cases p hp (fun q => if q then f else g) (fun q => ?_) fun c => ?_
  · split
    · exact hf
    · exact hg
  · split <;> rfl

/-- A condition that is a reader's. -/
theorem iteBool {k : Chip → Bool} (hk : Blind k) (hf : Hides f) (hg : Hides g) : Hides fun c => if k c then f c else g c :=
  ite (p := fun c => k c = true) (fun c r ws h => congrArg (· = true) (hk c r ws h)) hf hg

/-- A condition that is not about the device. -/
theorem iteConst (q : Prop) [Decidable q] (hf : Hides f) (hg : Hides g) : Hides fun c => if q then f c else g c :=
  ite (p := fun _ => q) (fun _ _ _ _ => rfl) hf hg

/-- An effect that is, for each thing that a reader may tell, one that hides. -/
theorem on (k : Chip → β) (hk : Blind k) (h : ∀ x, ∃ g, (∀ c, k c = x → f c = g c) ∧ Hides g) : Hides f := by
  choose g hf hg using h
  exact cases k hk g hg fun c => hf _ c rfl

theorem foldl {F : β → Chip → Chip} (hF : ∀ x, Hides (F x)) (l : List β) : Hides fun c => l.foldl (fun c x => F x c) c := by
  induction l with
  | nil => exact id
  | cons x l ih => exact (hF x).seq ih

/-- An effect beside the registers and the words that wait. -/
theorem aside (h : ∀ c r ws, c.Alike r → f (c.put r ws) = (f c).put r ws) (hpush : ∀ c, (f c).disp.push = c.disp.push) :
    Hides f :=
  fun c hc => by
    have hself : f c = (f c).put c.regs c.dma.words := h c c.regs c.dma.words (.refl c)
    have hregs : (f c).regs = c.regs := (congrArg Chip.regs hself :)
    have hwords : (f c).dma.words = c.dma.words := (congrArg (·.dma.words) hself :)
    have hrd : (f c).rd A.DISP_STAT = c.rd A.DISP_STAT := congrArg (getS _ · _) hregs
    refine ⟨⟨(congrArg (·.getLsbD 8) hrd).trans hc.pushing, (hpush c).trans hc.push⟩, fun m _ r' hr' => ⟨r', ?_, fun ws => ?_⟩⟩
    · rwa [Chip.Twin, hregs, hrd] at hr'
    · have hr : c.Twin m r' := by rwa [Chip.Twin, hregs, hrd] at hr'
      rw [h c r' _ hr.alike, hwords]

/-- Such an effect, where both are plain. -/
theorem fields (h : (fun (c : Chip) r ws => (f (c.put r ws), (f c).disp.push)) = fun c r ws =>
    ((f c).put r ws, c.disp.push)) : Hides f :=
  have hc (c : Chip) (r : SMap Word) (ws : List (Nat × Nat × Word)) := congrFun (congrFun (congrFun h c) r) ws
  aside (fun c r ws _ => congrArg Prod.fst (hc c r ws)) fun c => congrArg Prod.snd (hc c [] [])

theorem wr (ha : a ≠ A.DISP_STAT) : Hides (·.wr a v) := fun c hc => by
  have hrd := Chip.rd_wr_of_ne ha.symm c v
  refine ⟨⟨(congrArg (·.getLsbD 8) hrd).trans hc.pushing, hc.push⟩, fun m _ r' hr' => ?_⟩
  rw [Chip.Twin, hrd] at hr'
  obtain ⟨r, hr, hput⟩ := Veil.of_putS hr' (Nat.zero_le _) ha
  exact ⟨r, hr, fun ws => by simp only [Chip.wr, Chip.put, hput]⟩

theorem word_ne_zero_of_bit {v : Word} (h : v.getLsbD i = true) : v ≠ 0 := fun h0 => by
  rw [h0] at h
  exact absurd h (by simp)

/-- DISP_STAT itself may change by what keeps PUSHING and does to the bits that are shown what it does to all. -/
theorem touch (φ : Word → Word) (h8 : ∀ x, x.getLsbD 8 = true → (φ x).getLsbD 8 = true)
    (hm : ∀ m, Mask m → ∀ x, φ x &&& m = φ (x &&& m)) : Hides fun c => c.wr A.DISP_STAT (φ (c.rd A.DISP_STAT)) := fun c hc => by
  have hbit := h8 _ hc.pushing
  have hne := word_ne_zero_of_bit hbit
  have hreset : regReset A.DISP_STAT = 0 := by decide
  have hrd : (c.wr A.DISP_STAT (φ (c.rd A.DISP_STAT))).rd A.DISP_STAT = φ (c.rd A.DISP_STAT) :=
    Chip.rd_wr_self_of_ne_reset (hreset ▸ hne) c
  refine ⟨⟨(congrArg (·.getLsbD 8) hrd).trans hbit, hc.push⟩, fun m hmask r' hr' => ?_⟩
  rw [Chip.Twin, hrd] at hr'
  simp only [Chip.wr, hreset] at hr'
  obtain ⟨r, hr, hput⟩ := Veil.of_putS_self hr' (Nat.zero_le _) hne
  refine ⟨r, hr, fun ws => ?_⟩
  have hself : (c.put r (ws ++ c.dma.words)).rd A.DISP_STAT = c.rd A.DISP_STAT &&& m := hr.getS_self
  dsimp only
  rw [hself, ← hm m hmask]
  simp only [Chip.wr, Chip.put, hreset, hput]

end Hides
end Sys2Proof.Machine
end

section
/-! PROOF. Reads and writes of one register hide the twin, where it is not DISP_STAT. -/

namespace Sys2Proof.Machine

/-! ### DISP_STAT is no register of a family -/

@[simp] theorem family_ne_dispStat :
    (∀ i, A.ADCn_CFG i ≠ A.DISP_STAT) ∧ (∀ i, A.CHn_CFG i ≠ A.DISP_STAT) ∧ (∀ i, A.CHn_COUNT i ≠ A.DISP_STAT) ∧
    (∀ i, A.CHn_DST i ≠ A.DISP_STAT) ∧ (∀ i, A.CHn_PC i ≠ A.DISP_STAT) ∧ (∀ i, A.CHn_PROG i ≠ A.DISP_STAT) ∧
    (∀ i, A.CHn_SRC i ≠ A.DISP_STAT) ∧ (∀ i, A.CHn_SREC_ADDR i ≠ A.DISP_STAT) ∧ (∀ i j, A.CHn_SRi i j ≠ A.DISP_STAT) ∧
    (∀ i, A.CHn_STAT i ≠ A.DISP_STAT) ∧ (∀ i, A.CHn_STREAM i ≠ A.DISP_STAT) ∧ (∀ i j, A.DISP_PALp_i i j ≠ A.DISP_STAT) ∧
    (∀ i, A.DISP_TEXTw i ≠ A.DISP_STAT) ∧ (∀ i, A.INTC_TSTAT i ≠ A.DISP_STAT) ∧ (∀ i, A.LDG_Ln_DAYS i ≠ A.DISP_STAT) ∧
    (∀ i, A.LDG_Ln_VALUE i ≠ A.DISP_STAT) ∧ (∀ i, A.LDG_Ln_WARN i ≠ A.DISP_STAT) ∧ (∀ i, A.MID_INn_CFG i ≠ A.DISP_STAT) ∧
    (∀ i, A.MID_INn_STAT i ≠ A.DISP_STAT) ∧ (∀ i, A.MID_OUTn_CFG i ≠ A.DISP_STAT) ∧ (∀ i, A.PIN_IRQx i ≠ A.DISP_STAT) ∧
    (∀ i, A.PIN_OEx i ≠ A.DISP_STAT) ∧ (∀ i, A.PIN_OUTx i ≠ A.DISP_STAT) ∧ (∀ i, A.PINp_FILT i ≠ A.DISP_STAT) ∧
    (∀ i, A.PINp_MUX i ≠ A.DISP_STAT) ∧ (∀ i, A.QUEn_DROPS i ≠ A.DISP_STAT) ∧ (∀ i, A.QUEn_STAT i ≠ A.DISP_STAT) ∧
    (∀ i, A.REGY_COREn_CFG i ≠ A.DISP_STAT) ∧ (∀ i, A.REGY_COREn_OP i ≠ A.DISP_STAT) ∧ (∀ i, A.SCR_CMDw i ≠ A.DISP_STAT) ∧
    (∀ i, A.SCR_CLIPi_MAX i ≠ A.DISP_STAT) ∧ (∀ i, A.SCR_CLIPi_MIN i ≠ A.DISP_STAT) ∧
    (∀ i, A.TIMn_CFG i ≠ A.DISP_STAT) ∧ (∀ i, A.TIMn_COUNT i ≠ A.DISP_STAT) ∧
    (∀ i, A.TIMn_PRESC i ≠ A.DISP_STAT) ∧ (∀ i, A.TIMn_RELOAD i ≠ A.DISP_STAT) ∧ (∀ i, A.TIMn_STAT i ≠ A.DISP_STAT) ∧
    (∀ i, A.XMC_XSPI_DEVn_CFG i ≠ A.DISP_STAT) ∧ (∀ i, A.XMC_XSPI_DEVn_TIM i ≠ A.DISP_STAT) := by
  unfold A.DISP_STAT A.ADCn_CFG A.CHn_CFG A.CHn_COUNT A.CHn_DST A.CHn_PC A.CHn_PROG A.CHn_SRC A.CHn_SREC_ADDR A.CHn_SRi
    A.CHn_STAT A.CHn_STREAM A.DISP_PALp_i A.DISP_TEXTw A.INTC_TSTAT A.LDG_Ln_DAYS A.LDG_Ln_VALUE A.LDG_Ln_WARN A.MID_INn_CFG
    A.MID_INn_STAT A.MID_OUTn_CFG A.PIN_IRQx A.PIN_OEx A.PIN_OUTx A.PINp_FILT A.PINp_MUX A.QUEn_DROPS A.QUEn_STAT
    A.REGY_COREn_CFG A.REGY_COREn_OP A.SCR_CLIPi_MAX A.SCR_CLIPi_MIN A.SCR_CMDw A.TIMn_CFG A.TIMn_COUNT A.TIMn_PRESC
        A.TIMn_RELOAD
    A.TIMn_STAT A.XMC_XSPI_DEVn_CFG A.XMC_XSPI_DEVn_TIM
  split_ands <;> intros <;> omega

namespace Chip

variable {c : Chip} {r : SMap Word} {ws : List (Nat × Nat × Word)} {a : Nat}

theorem rd_put (h : c.Alike r) (ha : a ≠ A.DISP_STAT) : (c.put r ws).rd a = c.rd a := h.get _ _ ha

theorem bit_put (h : c.Alike r) (ha : a ≠ A.DISP_STAT) (i : Nat) : (c.put r ws).bit a i = c.bit a i :=
  congrArg (·.getLsbD i) (rd_put h ha)

theorem fld_put (h : c.Alike r) (ha : a ≠ A.DISP_STAT) (hi lo : Nat) : (c.put r ws).fld a hi lo = c.fld a hi lo :=
  congrArg (bits · hi lo) (rd_put h ha)

end Chip

namespace Blind
variable {α β : Type} {a i hi lo : Nat}

theorem fields {k : Chip → α} (h : (fun c r ws => k (Chip.put c r ws)) = fun c _ _ => k c) : Blind k := fun c r ws _ =>
  congrFun (congrFun (congrFun h c) r) ws

theorem rd (ha : a ≠ A.DISP_STAT) : Blind (·.rd a) := fun _ _ _ h => Chip.rd_put h ha

theorem bit (ha : a ≠ A.DISP_STAT) : Blind fun c => c.bit a i := fun _ _ _ h => Chip.bit_put h ha i

theorem fld (ha : a ≠ A.DISP_STAT) : Blind fun c => c.fld a hi lo := fun _ _ _ h => Chip.fld_put h ha hi lo

theorem map {k : Chip → α} (hk : Blind k) (f : α → β) : Blind fun c => f (k c) := fun _ _ _ h => congrArg f (hk _ _ _ h)

theorem map2 {γ : Type} {k : Chip → α} {l : Chip → β} (hk : Blind k) (hl : Blind l) (f : α → β → γ) :
    Blind fun c => f (k c) (l c) :=
  fun _ _ _ h => congrArg₂ f (hk _ _ _ h) (hl _ _ _ h)

theorem pair {k : Chip → α} {l : Chip → β} (hk : Blind k) (hl : Blind l) : Blind fun c => (k c, l c) := hk.map2 hl _

theorem const (x : α) : Blind fun _ => x := fun _ _ _ _ => rfl

theorem or {k l : Chip → Bool} (hk : Blind k) (hl : Blind l) : Blind fun c => k c || l c := hk.map2 hl _

theorem and {k l : Chip → Bool} (hk : Blind k) (hl : Blind l) : Blind fun c => k c && l c := hk.map2 hl _

theorem not {k : Chip → Bool} (hk : Blind k) : Blind fun c => !k c := hk.map _
end Blind

namespace Hides
variable {a i hi lo n x : Nat} {v : Word} {b : Bool}

variable (ha : a ≠ A.DISP_STAT)
include ha

/-- A write of what a reader tells. -/
theorem wrOf {α : Type} {k : Chip → α} (φ : α → Word) (hk : Blind k) : Hides fun c => c.wr a (φ (k c)) :=
  read (F := fun x c => c.wr a (φ x)) hk fun _ => wr ha

theorem put : Hides (·.wr a v) := wr ha
theorem setBit : Hides (·.setBit a i) := wrOf ha (· ||| word (2 ^ i)) (.rd ha)
theorem clrBit : Hides (·.clrBit a i) := wrOf ha (· &&& ~~~ word (2 ^ i)) (.rd ha)
theorem setFld : Hides (·.setFld a hi lo x) := wrOf ha (putFld · hi lo x) (.rd ha)
theorem addCount : Hides (·.addCount a n) := wrOf ha (fun y : Word => word (min 0xFFFFFFFF (y.toNat + n))) (.rd ha)
theorem inc : Hides (·.inc a) := addCount ha
theorem putBit : Hides (·.putBit a i b) := by
  cases b
  · exact clrBit ha
  · exact setBit ha

end Hides
end Sys2Proof.Machine
end

section
/-! PROOF. The errors, posted records, faults and the Ledger's entries hide the twin. -/

namespace Sys2Proof.Machine.Hides
variable {e : Env} {n a x lo hi : Nat} {v : Word} {b : Bool}

/-! ### Fields -/

theorem modCore {g : Core → Core} : Hides (·.modCore n g) :=
  .aside (fun c r ws _ => by unfold Chip.modCore Chip.setCore; split <;> rfl) fun c => by
    unfold Chip.modCore Chip.setCore; split <;> rfl
theorem pwrDo {g : Power → Power} : Hides (·.pwrDo g) := .fields (by rfl)
theorem ldrDo {g : Loader → Loader} : Hides (·.ldrDo g) := .fields (by rfl)
theorem setMem {bs : List Byte} : Hides (·.setMem a bs) := .fields (by rfl)
theorem setItems {l : List QItem} : Hides (·.setItems n l) := .fields (by rfl)
theorem draw : Hides (·.draw.2) := .fields (by rfl)
theorem ldgCore {g : LedgerCore → LedgerCore} : Hides fun c => { c with ldg := { c.ldg with core := g c.ldg.core } } :=
  .fields (by rfl)

/-! ### Errors, records and faults -/

theorem busError {m : Master} {target cause : Nat} {write : Bool} : Hides fun c => c.busError m target cause a write :=
  .of (.seq (.inc (by decide)) (.iteBool (.bit (by decide)) .id (.seq (.put (by decide)) (.put (by decide))))) rfl

theorem latchFault {code cls detail addr} : Hides (Chip.latchFault e code cls detail addr) :=
  .of (.seq (.setBit (by decide)) (.iteBool (.bit (by decide)) (.seq (.inc (by decide)) (.setBit (by decide)))
      (.seq (.put (by decide)) (.seq (.put (by decide)) (.seq (.put (by decide)) (.put (by decide))))))) rfl

theorem post {r} : Hides fun c => Chip.post e c r := by
  refine .on (·.route r.source r.kind) (.fields (by rfl)) fun o => ?_
  cases o with
  | none => exact ⟨_, fun c h => by rw [Chip.post, h], .inc (by decide)⟩
  | some n =>
    refine ⟨_, fun c h => by rw [Chip.post, h], ?_⟩
    exact .ite (.fields (by rfl)) (.fields (by rfl))
        (.of (.seq (.seq (.inc (by simp)) (.setBit (by simp))) (.inc (by decide))) rfl)

theorem postFault {cls code detail addr} : Hides (Chip.postFault e cls code detail addr) :=
  .of (.iteBool (.bit (by decide)) .post .id) rfl

theorem ldgErase {sector : Nat} : Hides (·.ldgErase sector) :=
  .of (.seq (.fields (by rfl)) (.wrOf (k := Chip.l2) (by decide) word (.fields (by rfl)))) rfl

theorem logEntry {kind : Nat} {w2 w3 w6 : Word} : Hides (Chip.logEntry e kind w2 w3 w6) :=
  .of (.read (k := fun c => (c.fld A.LDG_LOG_NEXT 9 0, c.ldg.core.logSeq, c.rtc.secs.toNat,
      if c.mode = .vault then 0 else e.now))
    (.pair (.fld (by decide)) (.fields (by rfl))) fun p =>
      .seq (.iteConst (p.1 % 128 = 0) (ldgErase (sector := 7 + p.1 / 128)) .id)
      (.seq (setMem (a := ldgBase + 0x7000 + 32 * p.1) (bs := withCrc [
        word (kind * 2 ^ 24 + (p.2.2.1 / 2 ^ 32) * 2 ^ 16 + p.2.1 % 65536), word p.2.2.1, w2, w3, word p.2.2.2,
        word (p.2.2.2 / 2 ^ 32 % 65536), w6]))
      (.seq (ldgCore (g := fun k => { k with logSeq := p.2.1 + 1 }))
      (.seq (setFld (a := A.LDG_LOG_NEXT) (hi := 9) (lo := 0) (x := p.1 + 1) (by decide))
        (.iteConst (p.1 = 1023) (setBit (a := A.LDG_LOG_NEXT) (i := 31) (by decide)) .id))))) rfl

theorem snapshot : Hides Chip.snapshot :=
  .of (.read (k := fun c => (c.free, c.ldg.core.bank, c.regs.filter fun r => isLedgerReg r.1))
    (.pair (.fields (by rfl)) (.pair (.fields (by rfl)) fun _ _ _ h => h.ledger)) fun p =>
      .seq draw
      (.seq (fields (f := fun c => { c with ldg := { c.ldg with
          core := { c.ldg.core with snapSeq := c.ldg.core.snapSeq + 1 }
          snap := some (p.2.2, { c.ldg.core with snapSeq := c.ldg.core.snapSeq + 1 }) } }) (by rfl))
        (.iteConst (Config.freeBool p.1 = true)
          (.seq (.seq (ldgErase (sector := 1 + 2 * p.2.1)) (ldgErase (sector := 2 + 2 * p.2.1)))
            (ldgCore (g := fun k => { k with bank := 1 - p.2.1 }))) .id))) rfl

/-- A fault's muting, but where the output is muted. -/
theorem fltMute {g : Mute → Mute} :
    Hides fun c => { c with flt := { c.flt with mute := if c.bit A.FLT_STAT 2 then c.flt.mute else g c.flt.mute } } :=
  .read (F := fun (b : Bool) c => { c with flt := { c.flt with mute := if b then c.flt.mute else g c.flt.mute } })
      (.bit (by decide)) fun _ => .fields (by rfl)

theorem takeFatal {esc : Bool} {code detail : Nat} : Hides (Chip.takeFatal e esc code detail) :=
  .of (.seq (.seq (.setBit (by decide)) (.setBit (by decide))) <| .seq (.put (by decide)) <|
      .seq (.seq (.put (by decide)) (.put (by decide))) <|
    .read (k := fun c => min 255 (c.fld A.FLT_FATALS 7 0 + 1)) (.map (.fld (by decide)) fun x => min 255 (x + 1)) fun n =>
      .seq (setFld (a := A.FLT_FATALS) (hi := 7) (lo := 0) (x := n) (by decide)) <|
          .seq (setBit (a := A.SYS_RST_CAUSE) (i := 10) (by decide)) <|
      .seq (.read (k := fun c => (c.rd A.FLT_FIRST_SRC, c.rd A.FLT_FIRST_ADDR, c.rd A.FLT_FATAL_SRC))
          (.pair (.rd (by decide)) (.pair (.rd (by decide)) (.rd (by decide))))
        fun w => logEntry (kind := 1) (w2 := w.1) (w3 := w.2.1) (w6 := w.2.2)) <|
      .seq .snapshot <|
      .seq (.read (k := fun c => c.fld A.FLT_CFG 3 0) (.fld (by decide)) fun hold =>
        .iteConst ((decide (hold ≠ 0) && n = hold) = true) (setBit (a := A.FLT_STAT) (i := 3) (by decide)) .id) <|
      .seq (pwrDo (g := fun p => { p with due := { p.due with fatal := true, core0 := true, core1 := true } }))
        (fltMute (g := fun m => match m with
          | .off => .due
          | .lifting => .due
          | .rise => .riseDue
          | m => m))) rfl

theorem report {code cls detail addr : Nat} : Hides (Chip.report e code cls detail addr) :=
  .of (.iteConst (cls = 0) (.seq (.inc (by decide)) .postFault) <|
    .read (k := fun c => !c.bit A.FLT_FIRST_SRC 31) (.map (.bit (a := A.FLT_FIRST_SRC) (by decide)) _) fun first =>
      .seq (latchFault (code := code) (cls := cls) (detail := detail) (addr := addr)) <|
      .seq (postFault (cls := cls) (code := code) (detail := detail) (addr := addr)) <|
      .iteConst (cls = 1) .id <|
      .iteConst (cls = 3) (takeFatal (esc := false) (code := code) (detail := detail)) <|
      .iteBool (.bit (a := A.FLT_STAT) (i := 0) (by decide))
        (.seq (.iteConst (first = true) .id (setBit (a := A.FLT_MORE) (i := 3) (by decide))) <|
          .seq (takeFatal (esc := true) (code := code) (detail := detail))
            (postFault (cls := 3) (code := code) (detail := detail) (addr := addr)))
        (.read (k := fun c => (c.rd A.FLT_FIRST_SRC, c.rd A.FLT_FIRST_ADDR))
            (.pair (.rd (by decide)) (.rd (by decide))) fun w =>
          .seq (setBit (a := A.FLT_STAT) (i := 0) (by decide)) (logEntry (kind := 2) (w2 := w.1) (w3 := w.2) (w6 := 0)))) rfl

/-! ### Writes by the access codes -/

theorem writeCoded (ha : a ≠ A.DISP_STAT) : Hides (·.writeCoded a v) := by
  cases h : regFind a with
  | none => exact .of .id (funext fun c => by rw [Chip.writeCoded, h])
  | some r => exact .of (.wrOf ha (fun old => codedWrite r.1 old v) (.rd ha)) (funext fun c => by rw [Chip.writeCoded, h])

end Sys2Proof.Machine.Hides
end

section
/-! PROOF. The timers and a core's stop for a reset hide it (R584). -/

namespace Sys2Proof.Machine

/-! ### Timers -/

namespace Blind
variable {n : Nat}

theorem slow : Blind Chip.slow := fun c r ws h => by simp +decide [Chip.slow, Chip.bit_put h]
theorem timRunning : Blind (·.timRunning n) := bit (by simp)
theorem timReload : Blind (·.timReload n) := .map (.rd (by simp)) fun w => max 1 w.toNat
theorem timRate : Blind (·.timRate n) := fun c r ws h => by
  simp +decide [Chip.timRate, Chip.timHalted, slow c r ws h, Chip.bit_put h, Chip.fld_put h]
end Blind

namespace Hides
variable {e : Env} {n a t : Nat}

/-- A group that applies leaves DISP_STAT, which has no staged bits. -/
theorem applyWord (w : Nat × Word) :
    Hides fun c => c.wr w.1 ((c.rd w.1 &&& ~~~ rwaMask w.1) ||| (w.2 &&& rwaMask w.1)) := by
  by_cases h : w.1 = A.DISP_STAT
  · have hkeep (x : Word) : (x &&& ~~~ rwaMask A.DISP_STAT) ||| (w.2 &&& rwaMask A.DISP_STAT) = x := by
      rw [show rwaMask A.DISP_STAT = 0#32 by decide, BitVec.and_zero, BitVec.or_zero, BitVec.not_zero, BitVec.and_allOnes]
    rw [h]
    simp only [hkeep]
    exact .touch (fun x => x) (fun _ hx => hx) fun _ _ _ => rfl
  · exact .wrOf h (fun x => (x &&& ~~~ rwaMask w.1) ||| (w.2 &&& rwaMask w.1)) (.rd h)

theorem applyGroup : Hides (·.applyGroup a) := by
  refine .on (·.pendingGroup a) (.fields (by rfl)) fun o => ?_
  cases o with
  | none => exact ⟨_, fun c h => by rw [Chip.applyGroup, h], .id⟩
  | some g =>
    refine ⟨_, fun c h => by rw [Chip.applyGroup, h], ?_⟩
    exact .of (.seq (.fields (f := fun c => { c with armed := c.armed.filter (fun g => g.1 ≠ a) }) (by rfl))
        (.foldl applyWord g.2)) rfl

theorem timApply : Hides (·.timApply n t) := by
  refine .on (·.pendingGroup (A.TIMn_RELOAD n)) (.fields (by rfl)) fun o => ?_
  cases o with
  | none => exact ⟨_, fun c h => by rw [Chip.timApply, h], .id⟩
  | some g => exact ⟨_, fun c h => by rw [Chip.timApply, h], .iteConst (g.1 < t) applyGroup .id⟩

theorem askWake : Hides Chip.askWake :=
  .of (.ite (p := fun c => c.pwr.sub = .none) (.fields (by rfl)) .id (.fields (by rfl))) rfl

theorem setTim {x : Timer} : Hides (·.setTim n x) := .fields (by rfl)

theorem timTake {m : Nat} {slow : Bool} : Hides (·.timTake n m t slow) :=
  .of (.read (k := fun c => (c.tim n, c.timShift n, (c.rd (A.TIMn_COUNT n)).toNat))
    (.pair (.fields (by rfl)) (.pair (.fld (by simp)) (.map (.rd (by simp)) BitVec.toNat))) fun p =>
      .seq (setTim (n := n) (x := { pre := (p.1.pre + m) % 2 ^ p.2.1, asOf := max p.1.asOf t })) <|
      .iteConst ((p.1.pre + m) / 2 ^ p.2.1 < p.2.2)
        (put (a := A.TIMn_COUNT n) (v := word (p.2.2 - (p.1.pre + m) / 2 ^ p.2.1)) (by simp)) <|
      .seq (setBit (a := A.TIMn_STAT n) (i := 0) (by simp)) <|
      .seq (timApply (n := n) (t := if slow then t else p.1.asOf + (p.2.2 * 2 ^ p.2.1 - p.1.pre))) <|
      .seq (.iteBool (.and (.bit (a := A.TIMn_CFG n) (i := 8) (by simp)) (.const slow)) .askWake .id) <|
      .iteBool (.bit (a := A.TIMn_CFG n) (i := 0) (by simp))
        (.read (k := fun c => c.timReload n) .timReload fun r =>
          .iteConst (slow = true)
            (.seq (put (a := A.TIMn_COUNT n) (v := word (r - ((p.1.pre + m) / 2 ^ p.2.1 - p.2.2) % r)) (by simp)) <|
              .iteConst (r ≤ (p.1.pre + m) / 2 ^ p.2.1 - p.2.2) (setBit (a := A.TIMn_STAT n) (i := 2) (by simp)) .id)
            (.read (k := fun c => c.timShift n) (.fld (by simp)) fun sh =>
              .seq (setTim (n := n)
                  (x := { pre := (p.1.pre + m - p.2.2 * 2 ^ p.2.1) % 2 ^ sh, asOf := max p.1.asOf t }))
                (put (a := A.TIMn_COUNT n) (v := word (r - (p.1.pre + m - p.2.2 * 2 ^ p.2.1) / 2 ^ sh % r)) (by simp))))
        (.seq (put (a := A.TIMn_COUNT n) (v := 0) (by simp)) (clrBit (a := A.TIMn_STAT n) (i := 1) (by simp)))) rfl

theorem timSync : Hides (·.timSync e n) :=
  .of (.iteBool (.not .timRunning) .id <| .read (k := fun c => c.tim n) (.fields (by rfl)) fun x =>
    .ite (p := fun c => c.timRate n = .fast) (.map .timRate (· = .fast))
      (.iteConst (x.asOf < e.now) (timTake (n := n) (m := e.now - x.asOf) (t := e.now) (slow := false)) .id)
      (.iteConst (x.asOf < e.now) (setTim (n := n) (x := { x with asOf := e.now })) .id)) rfl

theorem timSyncAll : Hides (·.timSyncAll e) := .foldl (fun _ => timSync) _

theorem stopForReset : Hides (stopForReset e n) :=
  .of (.ite (p := fun c => (if n = 0 then c.pwr.due.core0 else c.pwr.due.core1) = true) (.fields (by rfl))
      (.seq .timSyncAll .modCore) .id) rfl

end Hides
end Sys2Proof.Machine
end

section
/-! PROOF. The drawing engine's abort before the first row of a command hides it (R322). -/

namespace Sys2Proof.Machine

/-! ### What an access breaks, and an abort of the drawing engine before its first row -/

namespace Chip
variable {c : Chip} {r : SMap Word} {ws : List (Nat × Nat × Word)}

theorem busCause_put (h : c.Alike r) (m : Master) (write locked : Bool) (a size : Nat) :
    (c.put r ws).busCause m write locked a size = c.busCause m write locked a size := by
  have hready : (c.put r ws).notReady write = c.notReady write := funext fun g => by
    cases g <;> simp +decide [notReady, xspiType, xspiOctal, xspiBusy, sdrReady, bit_put h, fld_put h]
  have hwritable : (c.put r ws).notWritable = c.notWritable := funext fun g => by
    cases g <;> simp +decide [notWritable, xspiType, fld_put h]
  have hxspi (d : Nat) : (c.put r ws).xspiSize d = c.xspiSize d := by simp +decide [xspiSize, fld_put h]
  have hsdr : (c.put r ws).sdrSize = c.sdrSize := by simp +decide [sdrSize, fld_put h]
  have hbeyond : (c.put r ws).beyond size = c.beyond size := funext fun g => by
    cases g <;> simp only [beyond, hxspi, hsdr]
  unfold busCause
  rw [hready, hwritable, hbeyond]

theorem scrCheck_put (h : c.Alike r) (write : Bool) (a : Int) (size : Nat) :
    (c.put r ws).scrCheck write a size = c.scrCheck write a size := by
  unfold scrCheck
  rw [busCause_put h]

theorem scrTarget_put (h : c.Alike r) : (c.put r ws).scrTarget = c.scrTarget := by
  simp +decide [scrTarget, rd_put h]

theorem scrBreach_put (h : c.Alike r) (k : ScrCmd) : (c.put r ws).scrBreach k = c.scrBreach k := by
  have hbad : (c.put r ws).scrBad k = c.scrBad k := funext fun code => by
    unfold scrBad
    rw [scrTarget_put h, rd_put h (by decide)]
  rw [scrBreach, scrBreach, hbad]

theorem scrFetch_put (h : c.Alike r) : (c.put r ws).scrFetch = c.scrFetch := by
  unfold scrFetch
  rw [scrCheck_put h]
  simp +decide only [rd_put h, family_ne_dispStat, ne_eq, not_false_eq_true]
  rfl

theorem scrAllows_put (h : c.Alike r) (clip : Bool) (x y : Int) : (c.put r ws).scrAllows clip x y = c.scrAllows clip x y := by
  simp +decide [scrAllows, rd_put h]

end Chip

/-- A byte string put into memory for the drawing engine does not see DISP_STAT. -/
theorem scrPut_put {c : Chip} {r : SMap Word} (h : c.Alike r) (a : Nat) (bs : List Byte) (ws : List (Nat × Nat × Word)) :
    scrPut a bs (c.put r ws) = ((scrPut a bs c).1.put r ws, (scrPut a bs c).2) := by
  unfold scrPut
  generalize (List.range bs.length).map _ = l
  induction l generalizing c with
  | nil => rfl
  | cons p l ih =>
    simp only [scrFold, Chip.scrCheck_put h]
    cases c.scrCheck true p.1 1 with
    | some e => rfl
    | none => exact ih (c := c.setMem p.1 [p.2]) ⟨h.get, h.ledger⟩

/-- The corners of the least rectangle with these points. -/
def boxOf (p : Nat × Nat) (l : List (Nat × Nat)) : Nat × Nat × Nat × Nat :=
  l.foldl (fun (b : Nat × Nat × Nat × Nat) q => (min b.1 q.1, min b.2.1 q.2, max b.2.2.1 q.1, max b.2.2.2 q.2))
      (p.1, p.2, p.1, p.2)

/-- The head of a packed sprite. -/
def packHead (k : ScrCmd) (code : Nat) : List Byte := leBytes 2 (k.wd 4) ++ leBytes 2 (k.ht 4) ++ [BitVec.ofNat 8 code, 0, 0, 0]

namespace Hides
variable {e : Env} {k : ScrCmd} {a : Nat} {bs : List Byte}

theorem scrPut : Hides fun c => (scrPut a bs c).1 :=
  .aside (fun c r ws h => congrArg Prod.fst (scrPut_put h a bs ws)) fun c => by
  unfold Machine.scrPut
  generalize (List.range bs.length).map _ = l
  induction l generalizing c with
  | nil => rfl
  | cons p l ih =>
    simp only [scrFold]
    cases c.scrCheck true p.1 1 with
    | some e => rfl
    | none => exact ih (c.setMem p.1 [p.2])

theorem markTiles {x0 y0 x1 y1 : Nat} : Hides (·.markTiles x0 y0 x1 y1) :=
  .of (.iteBool (.fields (by rfl)) .id (.fields (by rfl))) rfl

theorem autoMark : Hides (·.autoMark k) := by
  obtain ⟨x0, y0, w, h, harea⟩ : ∃ x0 y0 w h, k.area = (x0, y0, w, h) := ⟨_, _, _, _, rfl⟩
  refine .on (fun c =>
    if !k.draws || !c.dirtyMap || !c.bit A.DISP_DBI_CFG 3 || c.rd A.SCR_TGT_ADDR ≠ c.rd A.DISP_SURF_BASE then []
    else (List.range h).flatMap (fun (j : Nat) => ((cols x0 w).filter (fun x =>
      c.scrAllows k.clip x (y0 + (j : Int)) && k.covers x (y0 + (j : Int)))).map (fun x => (x.toNat, (y0 + (j : Int)).toNat))))
    (fun c r ws hr => ?_) fun l => ?_
  · simp only [Chip.scrAllows_put hr, Chip.bit_put hr (show A.DISP_DBI_CFG ≠ _ by decide),
      Chip.rd_put hr (show A.SCR_TGT_ADDR ≠ _ by decide), Chip.rd_put hr (show A.DISP_SURF_BASE ≠ _ by decide)]
    rfl
  cases l with
  | nil =>
    refine ⟨_, fun c hc => ?_, .id⟩
    unfold Chip.autoMark
    rw [harea]
    split at hc
    · rw [if_pos ‹_›]
    · rw [if_neg ‹_›]
      dsimp only
      rw [hc]
  | cons p l =>
    refine ⟨_, fun c hc => ?_, .markTiles (x0 := (boxOf p l).1 / 16) (y0 := (boxOf p l).2.1 / 16) (x1 := (boxOf p l).2.2.1 / 16)
      (y1 := (boxOf p l).2.2.2 / 16)⟩
    unfold Chip.autoMark
    rw [harea]
    split at hc
    · cases hc
    · rw [if_neg ‹_›]
      dsimp only
      rw [hc]
      rfl

/-- With no row drawn only the head of a PACK and its size are written. -/
theorem packRun : Hides fun c => (packRun k 0 c).1 := by
  have hrows (limit pos : Nat) (c : Chip) :
      packRows k limit (min (k.ht 4) 0) 0 pos [] c = (c.wr A.SCR_PACK_SIZE (word pos), none) := by
    rw [Nat.min_zero, packRows]
  by_cases hlimit : (k.word 2).toNat < 8 + 4 * k.ht 4
  · exact .of (put (a := A.SCR_PACK_SIZE) (v := 0) (by decide)) (funext fun c => by simp only [Machine.packRun, if_pos hlimit])
  refine .on (fun c => (c.scrTarget.code, (Machine.scrPut (k.word 1).toNat (packHead k c.scrTarget.code) c).2))
    (fun c r ws h => by simp only [Chip.scrTarget_put h, scrPut_put h]) fun ⟨code, err⟩ => ?_
  have hhead {c : Chip} (h : (c.scrTarget.code, (Machine.scrPut (k.word 1).toNat (packHead k c.scrTarget.code) c).2) =
      (code, err)) :
      Machine.scrPut (k.word 1).toNat (leBytes 2 (k.wd 4) ++ leBytes 2 (k.ht 4) ++ [BitVec.ofNat 8 c.scrTarget.code, 0, 0,
          0]) c =
        ((Machine.scrPut (k.word 1).toNat (packHead k code) c).1, err) := by
    obtain ⟨hcode, herr⟩ := Prod.mk.inj h
    exact Prod.ext (by rw [← hcode]; rfl) herr
  cases err with
  | some err => exact ⟨_, fun c h => by simp only [Machine.packRun, if_neg hlimit, hhead h], .scrPut (a := (k.word 1).toNat)
                  (bs := packHead k code)⟩
  | none =>
    refine ⟨_, fun c h => ?_, .seq (.scrPut (a := (k.word 1).toNat) (bs := packHead k code)) <|
      .read (k := fun c => c.rd A.SCR_PACK_SIZE) (.rd (by decide)) fun old => .seq
          (put (a := A.SCR_PACK_SIZE) (v := word (8 + 4 * k.ht 4)) (by decide)) <|
      .iteConst (0 < k.ht 4) (put (a := A.SCR_PACK_SIZE) (v := old) (by decide)) .id⟩
    simp only [Machine.packRun, if_neg hlimit, hhead h, hrows]
    split <;> rfl

/-- With no row drawn that is all that a command does. -/
theorem scrDraw : Hides fun c => (scrDraw k 0 c).1 := by
  refine .on (·.scrBreach k) (fun c r ws h => Chip.scrBreach_put h k) fun o => ?_
  cases o with
  | some err => exact ⟨_, fun c h => by rw [Machine.scrDraw, h], .id⟩
  | none =>
    by_cases hop : k.op = 9
    · exact ⟨_, fun c h => by simp only [Machine.scrDraw, h, hop], .packRun (k := k)⟩
    · refine ⟨_, fun c h => ?_, .id⟩
      simp only [Machine.scrDraw, h, Nat.min_zero, List.range_zero, List.take_zero, scrFold]
      split <;> simp_all

theorem scrShowPc : Hides Chip.scrShowPc :=
  .of (.iteBool (k := fun c => c.scr.list) (.fields (by rfl))
      (.wrOf (k := fun c => c.scr.pc) (by decide) word (.fields (by rfl))) .id) rfl

theorem scrStop {b : Nat} : Hides (·.scrStop b) :=
  .of (.seq (.seq (.clrBit (by decide)) (.clrBit (by decide))) (.setBit (by decide))) rfl

/-- An abort before the first row of a command. -/
theorem scrAbort : Hides (scrAbort 0 e) := by
  refine .of (.iteBool (.not (.bit (by decide))) .id <| .seq .scrShowPc <|
      .seq (?draw : Hides fun c => if c.scrWaiting then c else
      match c.scrFetch with
      | .ok k => if decide (1 ≤ k.op ∧ k.op ≤ 9) then ((Machine.scrDraw k 0 c).1).autoMark k else c
      | .error _ => c) <|
    .seq (.seq (.seq (.fields (f := fun c => c.scrDo fun s => { s with fence := none, own := false }) (by rfl))
        (.clrBit (by decide))) (.clrBit (by decide))) .scrStop) rfl
  refine .iteBool (.bit (by decide)) .id (.on Chip.scrFetch (fun c r ws h => Chip.scrFetch_put h) fun x => ?_)
  cases x with
  | error err => exact ⟨_, fun c h => by rw [h], .id⟩
  | ok k => exact ⟨_, fun c h => by rw [h], .iteConst _ (.seq .scrDraw .autoMark) .id⟩

end Hides

end Sys2Proof.Machine
end

section
/-! PROOF. Memory, the caches and a channel's status record hide it (R434, R435, R506). -/

namespace Sys2Proof.Machine

/-! ### Memory and the DMA channels -/

theorem fetchBytes_put (e : Env) (c : Chip) (r : SMap Word) (ws : List (Nat × Nat × Word)) (a n : Nat) :
    (c.put r ws).fetchBytes e a n = c.fetchBytes e a n := by
  induction n generalizing a with
  | zero => rfl
  | succ n ih => rw [Chip.fetchBytes, Chip.fetchBytes, ih]; rfl

theorem wholeLine_put (e : Env) (c : Chip) (r : SMap Word) (ws : List (Nat × Nat × Word)) (l : CLine) :
    (c.put r ws).wholeLine e l = c.wholeLine e l := by
  simp only [Chip.wholeLine, Chip.memLine, fetchBytes_put]

/-- More words wait for target 8. -/
def Chip.addWords (c : Chip) (l : List (Nat × Nat × Word)) : Chip := { c with dma := { c.dma with words := c.dma.words ++ l } }

/-- The words of a status record (R506). -/
def recordWords (n reason cause residue addr pc : Nat) : List Word :=
  [word (reason * 2 ^ 24 + cause % 256 * 65536 + n), word residue, word addr, word pc]

def recordBytes (ws : List Word) : List Byte := ws.flatMap (fun w => leBytes 4 w.toNat)

/-- The bytes of a status record, where no rule forbids their access. -/
def Chip.chPutChecked (c : Chip) (e : Env) (n a : Nat) (bs : List Byte) : Chip :=
  match c.busCause (.dma n) true false a 16 with
  | some (cause, t) => c.busError (.dma n) t cause a true
  | none => c.chPut e n a bs

namespace Hides
variable {e : Env} {n a i k line mask : Nat} {bs : List Byte}

theorem writeLine : Hides (·.writeLine line mask bs) :=
  .foldl (fun i => .iteConst (mask / 2 ^ i % 2 = 1) (.fields (by rfl)) .id) _

theorem retire : Hides (·.retire line) := by
  refine .on (fun c => c.caches.retiring.find? (fun r => r.line = line)) (.fields (by rfl)) fun o => ?_
  cases o with
  | none => exact ⟨_, fun c h => by rw [Chip.retire, h], .id⟩
  | some r =>
    refine ⟨_, fun c h => by rw [Chip.retire, h], ?_⟩
    exact .of (.seq .writeLine (fields (f := fun c =>
      { c with caches := { c.caches with retiring := c.caches.retiring.filter (fun q => q.line ≠ line) } }) (by rfl))) rfl

theorem setWay {l : CLine} : Hides (·.setWay i k l) := .fields (by rfl)

theorem writeBack {st : LineState} : Hides (·.writeBack e i k st) :=
  .of (.read (k := fun c => (c.way i k, c.wholeLine e (c.way i k)))
    (fun c r ws _ => congrArg (c.way i k, ·) (wholeLine_put e c r ws (c.way i k))) fun p =>
      .iteConst (p.1.st = .m) (.seq (writeLine (line := p.1.line) (mask := p.1.mask) (bs := p.1.data))
        (setWay (i := i) (k := k) (l := { p.1 with st := st, data := p.2, mask := 0 })))
      (.iteConst (st = .i) (setWay (i := i) (k := k) (l := {})) .id)) rfl

theorem dropCopies : Hides (·.dropCopies e line) := by
  refine .of (.seq .retire <| .foldl ?step _) rfl
  refine fun i => .on (·.findLine i line) (.fields (by rfl)) fun o => ?_
  cases o with
  | none => exact ⟨_, fun c h => by rw [h], .id⟩
  | some k => exact ⟨_, fun c h => by rw [h], .seq .writeBack .setWay⟩

theorem coherentWrite : Hides (coherentWrite a bs e) := .of (.seq (.foldl (fun _ => .dropCopies) _) .setMem) rfl

theorem setQueueRam {w : Nat} {v : Word} : Hides (·.setQueueRam w v) := by
  refine .on (fun c => (c.queueAt w).bind fun q => (c.recAt q.1 q.2).map fun it => (q, it, c.qItems q.1))
      (.fields (by rfl)) fun o => ?_
  cases o with
  | none =>
    refine ⟨fun c => c.setMemW (0x20000000 + 4 * w) v, fun c h => ?_, .fields (by rfl)⟩
    unfold Chip.setQueueRam
    cases hq : c.queueAt w with
    | none => rfl
    | some q =>
      simp only [hq, Option.bind_some, Option.map_eq_none_iff] at h
      simp only [h]
  | some x =>
    refine ⟨_, fun c h => ?_, .setItems (n := x.1.1)
      (l := x.2.2.map fun i => if i.slot = x.2.1.slot then { i with r := i.r.setWord (x.1.2 % 4) v } else i)⟩
    obtain ⟨q, hq, h⟩ := Option.bind_eq_some_iff.mp h
    obtain ⟨it, hit, rfl⟩ := Option.map_eq_some_iff.mp h
    simp only [Chip.setQueueRam, hq, hit]

theorem setQueueByte {y : Byte} : Hides (·.setQueueByte a y) :=
  .of (.read (k := fun c => putFld (c.queueRam ((a - 0x20000000) / 4)) (8 * (a % 4) + 7) (8 * (a % 4)) y.toNat)
      (.fields (by rfl)) fun v =>
    setQueueRam (w := (a - 0x20000000) / 4) (v := v)) rfl

theorem setMemBytes : Hides (·.setMemBytes a bs) := by
  have hram : ∀ a, Hides fun c => (bs.foldl (fun (p : Nat × Chip) b => (p.1 + 1, p.2.setQueueByte p.1 b)) (a, c)).2 := by
    induction bs with
    | nil => exact fun _ => .id
    | cons b bs ih => exact fun a => .seq .setQueueByte (ih (a + 1))
  exact .of (.iteConst (regionOf a = .queueRam) (hram a) .setMem) rfl

/-! ### The DMA channels (R487 to R505) -/

theorem modCh {g : DmaChan → DmaChan} : Hides (·.modCh n g) := .fields (by rfl)

theorem setChState {x : Nat} : Hides (·.setChState n x) := setFld (by simp)

theorem dropHeld : Hides (·.dropHeld n) := .fields (by rfl)

theorem chCount {target bytes : Nat} : Hides (·.chCount n target bytes) :=
  .of (.ite (p := fun c => c.chTarget n = some target)
    (.map (.rd (by simp)) fun s => (if s.getLsbD 31 then some (bits s 27 24) else none) = some target) .modCh .id) rfl

theorem chPut : Hides (·.chPut e n a bs) := by
  have hput : Hides fun c => if c.chCoh n &&
      (regionOf a).cacheable then Machine.coherentWrite a bs e c else c.setMemBytes a bs :=
    .iteBool (.and (.bit (by simp)) (.const _)) .coherentWrite .setMemBytes
  cases h : (regionOf a).target with
  | none => exact .of hput (funext fun c => by simp only [Chip.chPut, h])
  | some t => exact .of (.seq hput (.chCount (n := n) (target := t) (bytes := bs.length)))
                (funext fun c => by simp only [Chip.chPut, h])

theorem addWords {l : List (Nat × Nat × Word)} : Hides (·.addWords l) :=
  fun _ hc => ⟨⟨hc.pushing, hc.push⟩, fun _ _ r' hr' => ⟨r', hr', fun ws => by
    simp only [Chip.addWords, Chip.put, List.append_assoc]⟩⟩

theorem chPutChecked : Hides (·.chPutChecked e n a bs) := by
  refine .on (·.busCause (.dma n) true false a 16) (fun c r ws h => Chip.busCause_put h ..) fun o => ?_
  rcases o with _ | ⟨cause, t⟩
  · exact ⟨_, fun c h => by rw [Chip.chPutChecked, h], .chPut⟩
  · exact ⟨_, fun c h => by rw [Chip.chPutChecked, h], .busError⟩

theorem statusRecord {reason cause residue : Nat} : Hides (·.statusRecord e n reason cause residue a) := by
  refine .of (.read (k := fun c => if c.chProgram n then c.chPc n else 0)
    (.map2 (.bit (by simp)) (.rd (by simp)) fun (b : Bool) w => if b then w.toNat else 0) fun pc =>
      .seq (.foldl (F := fun i c => c.wr (A.CHn_SRi n i) ((recordWords n reason cause residue a pc).getD i 0))
        (fun i => put (a := A.CHn_SRi n i) (by simp)) (List.range 4)) <|
      .iteBool (.not (.bit (a := A.CHn_CFG n) (i := 29) (by simp))) .id <|
      .read (k := fun c => (c.rd (A.CHn_SREC_ADDR n)).toNat) (.map (.rd (by simp)) BitVec.toNat) fun dst =>
        .iteConst ((regionOf dst).target = some 8)
          (addWords (l := (List.range 4).map fun i => (n, dst + 4 * i, (recordWords n reason cause residue a pc).getD i 0)))
          (chPutChecked (e := e) (n := n) (a := dst)
            (bs := recordBytes (recordWords n reason cause residue a pc)))) (funext fun c => ?_)
  unfold Chip.statusRecord
  dsimp only [recordWords]
  split
  · rfl
  · split
    · rfl
    · split <;> rfl

end Hides
end Sys2Proof.Machine
end

section
/-! PROOF. Writes of the DMA engine's and the interrupt controller's registers hide it. -/

namespace Sys2Proof.Machine

/-! ### Writes to the registers, target by target -/

namespace Blind
variable {n : Nat}

theorem chActive : Blind (·.chActive n) :=
  .map (fld (a := A.CHn_STAT n) (hi := 31) (lo := 29) (by simp)) fun x => decide (1 ≤ x ∧ x ≤ 4)

end Blind

namespace Hides
variable {e : Env} {n a : Nat} {v : Word}

theorem chHalt {reason cause : Nat} : Hides (·.chHalt e n reason cause a) :=
  .of (.seq (.read (k := fun c => c.chResidue n) (.fields (by rfl)) fun res =>
      statusRecord (e := e) (n := n) (reason := reason) (cause := cause) (residue := res) (a := a)) <|
    .seq (.seq (.setBit (by simp)) .setChState) <| .seq .modCh <| .iteConst (reason = 2) .report .id) rfl

theorem chBadProg : Hides (·.chBadProg e n) :=
  .of (.read (k := fun c => (c.rd (A.CHn_SRC n)).toNat) (.map (.rd (by simp)) BitVec.toNat) fun a =>
    chHalt (e := e) (n := n) (reason := 3) (cause := 0) (a := a)) rfl

theorem chDone : Hides (·.chDone e n) :=
  .of (.seq .modCh <| .seq (.iteBool (.bit (by simp))
      (.read (k := fun c => (c.rd (A.CHn_SRC n)).toNat) (.map (.rd (by simp)) BitVec.toNat) fun a =>
      statusRecord (e := e) (n := n) (reason := 0) (cause := 0) (residue := 0) (a := a)) .id) <|
    .seq (.setBit (by simp)) .setChState) rfl

/-- The copy of a register-mode channel at its start. -/
def startXfer (cfg : Word) (count src dst : Nat) : Xfer :=
  { src := src, dst := dst, smode := bits cfg 13 12, dmode := bits cfg 17 16, width := count }

theorem dmaStart : Hides (dmaStart n e) :=
  .of (.iteBool .chActive (.setBit (by simp)) <| .seq .modCh <|
    .iteBool (.bit (by simp)) (.seq (.wrOf (k := fun c => c.rd (A.CHn_PROG n)) (by simp) (fun w => w) (.rd (by simp)))
        .setChState) <|
    .read (k := fun c => (c.rd (A.CHn_CFG n), (c.rd (A.CHn_COUNT n)).toNat, (c.rd (A.CHn_SRC n)).toNat,
        (c.rd (A.CHn_DST n)).toNat))
      (.pair (.rd (by simp)) <| .pair (.map (.rd (by simp)) _) <|
          .pair (.map (.rd (by simp)) _) (.map (.rd (by simp)) _)) fun p =>
      .seq (modCh (n := n) (g := fun k => { k with x := some (startXfer p.1 p.2.1 p.2.2.1 p.2.2.2) })) <|
      .iteConst (bits p.1 13 12 = 3 ∨ bits p.1 17 16 = 3) (chBadProg (e := e) (n := n)) <|
      .iteConst (p.2.1 = 0) (chDone (e := e) (n := n)) (setChState (n := n) (x := 1))) rfl

theorem dmaDisable : Hides (dmaDisable n) :=
  .of (.read (k := fun c => c.free) (.fields (by rfl)) fun k =>
    .seq draw <| .seq (dropHeld (n := n)) <|
    .seq (.seq (.seq (.seq (put (a := A.CHn_SRC n) (v := Config.freeWord (k + 0)) (by simp))
        (put (a := A.CHn_DST n) (v := Config.freeWord (k + 1)) (by simp)))
      (put (a := A.CHn_COUNT n) (v := Config.freeWord (k + 2) &&& 0xFFFFF) (by simp)))
      (put (a := A.CHn_PC n) (v := Config.freeWord (k + 3) &&& 0xFFFFFFFC) (by simp))) <|
    .seq (modCh (n := n) (g := fun x => { x with loops := [], wait := none, pre := none, x := none, tries := 0, post := none }))
      (setChState (n := n) (x := 0))) rfl

theorem dmaAskAbort : Hides (dmaAskAbort n) := .of (.iteBool .chActive (.fields (by rfl)) .id) rfl

theorem dmaWrite (ha : a ≠ A.DISP_STAT) : Hides (dmaWrite a v e) := by
  have hevt (φ : Word → Word) : Hides fun c => c.wr A.DMA_EVT (φ (c.rd A.DMA_EVT)) := .wrOf (by decide) φ (.rd (by decide))
  exact .of (.iteConst (a = A.DMA_EVT_SET) (hevt (· ||| (v &&& 0xFFFF))) <|
    .iteConst (a = A.DMA_EVT_CLR) (hevt (· &&& ~~~ v)) <|
    .iteConst (a < A.CHn_CFG 0 ∨ A.CHn_CFG 16 ≤ a) .id <|
    .iteConst ((a - A.CHn_CFG 0) % 0x40 = 4)
      (.iteConst (v.getLsbD 2 = true) .dmaDisable <| .seq (.iteConst (v.getLsbD 1 = true) .dmaAskAbort .id) <|
        .iteConst (v.getLsbD 0 = true) .dmaStart .id) <|
    .iteBool (.and (.const (chGuarded ((a - A.CHn_CFG 0) % 0x40))) .chActive) (.setBit (by simp)) (.writeCoded ha)) rfl

theorem intcSwi {set : Bool} : Hides (intcSwi set v) :=
  .of (modCore (n := bits v 8 8) (g := fun k => { k with
    swi := if set then k.swi ||| BitVec.ofNat 8 (2 ^ bits v 2 0) else k.swi &&& ~~~ BitVec.ofNat 8 (2 ^ bits v 2 0) })) rfl

theorem intcWrite (ha : a ≠ A.DISP_STAT) : Hides (intcWrite (.dma n) a v) := by
  have hwindow (t : Nat) : Hides fun c => if a = A.INTC_CLAIM t then intcClaim (.dma n) t v c
      else if a = A.INTC_DONE t then intcDone (.dma n) t v c else c.writeCoded a v :=
    .iteConst _ .id <| .iteConst _ .id <| .writeCoded ha
  by_cases hr : 0x600E1300 ≤ a && a < 0x600E1400
  · exact .of .id (funext fun c => by simp only [Machine.intcWrite, intcAlias, hr, if_true])
  · refine .of (.iteConst (a = A.INTC_SWI_SET) (.intcSwi (v := v) (set := true)) <|
      .iteConst (a = A.INTC_SWI_CLR) (.intcSwi (v := v) (set := false)) <|
      .iteConst ((A.INTC_SRCn_CFG 0 ≤ a && a < A.INTC_SRCn_CFG 32) = true) .id <| .iteConst (a = A.INTC_ENk 2 0) .id <|
      .iteConst ((0x600E1000 ≤ a && a < 0x600E1300) = true) (hwindow ((a - 0x600E1000) / 0x100)) <|
      .writeCoded (v := v) ha) (funext fun c => ?_)
    simp only [Machine.intcWrite, intcAlias, hr]
    rfl

end Hides
end Sys2Proof.Machine
end

section
/-! PROOF. Writes of the groups, the timers, the clock, the random generator and the fault unit hide it. -/

namespace Sys2Proof.Machine

/-- What UNMUTE makes of the muting. -/
def Mute.lifted : Mute → Mute
  | .off => .off
  | .due => .off
  | .lifting => .lifting
  | .rise => .rise
  | .riseDue => .rise
  | .ramp => .lifting
  | .on => .lifting

/-- The level that a pin has after a write of its filter. -/
def Chip.pinSeen (c : Chip) (p : Nat) : Bool :=
  (c.pinDriven p).getD (if c.pinFmode p ≠ 0 then Config.freeBool c.free else c.pinLevel p)

namespace Blind
variable {p : Nat}

theorem pinDriven : Blind (·.pinDriven p) := fun c r ws h => by
  unfold Chip.pinDriven Chip.pinFunc
  simp +decide only [Chip.bit_put h, Chip.fld_put h, family_ne_dispStat, ne_eq, not_false_eq_true]
  rfl

theorem pinFmode : Blind (·.pinFmode p) := .map (fld (by simp)) (· % 3)

theorem pinSeen : Blind (·.pinSeen p) :=
  .map2 .pinDriven (.pair .pinFmode (.fields (k := fun c => (c.free, c.pinLevel p)) (by rfl)))
    fun d x => d.getD (if x.1 ≠ 0 then Config.freeBool x.2.1 else x.2.2)

theorem pinCount : Blind (·.pinCount p) :=
  .map2 .pinFmode (fld (a := A.PINp_FILT p) (hi := 11) (lo := 4) (by simp)) fun m n => if m = 1 then min 15
      (max 1 n) else max 1 n

theorem pinIrqMode : Blind (·.pinIrqMode p) :=
  .map (fld (a := A.PINp_FILT p) (hi := 18) (lo := 16) (by simp)) fun m => if m < 6 then m else 0

end Blind

namespace Hides
variable {e : Env} {n a p : Nat} {v : Word}

theorem groupWrite : Hides (groupWrite a v e) := by
  cases h : groupOf a with
  | none => exact .of .id (funext fun c => by simp only [Machine.groupWrite, h])
  | some ms =>
    refine .aside (fun c r ws _ => ?_) fun c => ?_ <;> simp only [Machine.groupWrite, h] <;> split <;> rfl

theorem timWrite (ha : a ≠ A.DISP_STAT) : Hides (timWrite a v e) := by
  have hstart (n : Nat) : Hides (timStart n e) :=
    .of (.seq .timSync <| .seq .timApply <|
        .seq (.seq (.wrOf (k := fun c => c.timReload n) (by simp) word .timReload) .setTim) (.setBit (by simp))) rfl
  exact .of (.iteConst (a < A.TIMn_CFG 0 ∨ A.TIMn_CFG 16 ≤ a) .id <|
    .iteConst (a = A.TIMn_CTL ((a - A.TIMn_CFG 0) / 0x20))
      (.iteConst (v.getLsbD 1 = true) (.seq .timSync (.clrBit (by simp))) <| .iteConst (v.getLsbD 0 = true) (hstart _) .id)
      (.seq .timSync (.writeCoded ha))) rfl

theorem rtcWrite : Hides (rtcWrite a v) := .of (.iteConst ((regFind a).isNone = true) .id (.fields (by rfl))) rfl

theorem rngCtlWrite : Hides (rngCtlWrite v) :=
  .of (.seq (.iteConst (v.getLsbD 0 = true) .id (.fields (by rfl))) <| .seq (.writeCoded (by decide)) <|
    .iteConst (v.getLsbD 1 = true) (.seq
        (.seq (.fields (f := fun c => c.rngDo fun r => { ({} : Rng) with out := r.out }) (by rfl)) (.clrBit (by decide)))
            (.clrBit (by decide))) .id) rfl

theorem faultUnmute : Hides faultUnmute :=
  .of (.iteBool (.bit (by decide)) .id <| .seq (.clrBit (by decide)) <|
      fields (f := fun c => { c with flt := { c.flt with mute := c.flt.mute.lifted } }) (by rfl)) rfl

theorem fltWrite (ha : a ≠ A.DISP_STAT) : Hides (fltWrite (.dma n) a v e) :=
  .of (.iteConst (a = A.FLT_ACK) (.iteConst (bits v 15 0 = 0xA5C3)
      (.read (k := fun c => c.rd A.FLT_STAT) (.rd (by decide)) fun s => .seq
          (clrBit (a := A.FLT_FIRST_SRC) (i := 31) (by decide)) <|
        .seq (put (a := A.FLT_MORE) (v := 0) (by decide)) <|
            .seq (put (a := A.FLT_STAT) (v := s &&& ~~~ 3) (by decide)) (put (a := A.FLT_FATALS) (v := 0) (by decide))) .id) <|
    .iteConst (a = A.FLT_CTL) (.seq (.iteConst (v.getLsbD 0 = true) .faultUnmute .id) <|
        .iteConst (v.getLsbD 1 = true) .id .id) <|
    .iteConst (a = A.FLT_INJECT) (.iteConst (bits v 31 16 = 0x1E57) .report .id) <| .writeCoded ha) rfl

end Hides
end Sys2Proof.Machine
end

section
/-! PROOF. Writes of the pins, the host port and the external memory controller hide it. -/

namespace Sys2Proof.Machine.Hides
variable {e : Env} {n a p : Nat} {v : Word}

/-! ### Pins, host port, memory controllers, caches, debug window -/

theorem pinMaskFrom {start : Nat} : Hides (·.pinMaskFrom p start) :=
  .of (.read (k := fun c => if c.pinFmode p = 2 then c.pinCount p else 0)
    (.map2 .pinFmode .pinCount fun m n => if m = 2 then n else 0)
    (F := fun len c => { c with pins := { c.pins with mask := putS (0, 0) c.pins.mask p (start, len) } }) fun _ => .fields
        (by rfl)) rfl

theorem pinMuxWrite : Hides (pinMuxWrite p v e) :=
  .of (.iteConst (96 ≤ p) .id <| .iteConst ((!pinAssigned p (bits v 3 0)) = true) (.setBit (by decide)) <|
    .read (k := fun c => c.pinFunc p) (.fld (by simp)) fun old => .seq (writeCoded (a := A.PINp_MUX p) (v := v) (by simp)) <|
      .ite (p := fun c => c.pinFunc p = old) (.map (.fld (a := A.PINp_MUX p) (hi := 3) (lo := 0) (by simp)) (· = old)) .id
        (.seq (pinMaskFrom (p := p) (start := e.now)) (setBit (a := A.PINp_MUX p) (i := 31) (by simp)))) rfl

theorem setPinLevel {b : Bool} : Hides (·.setPinLevel p b) := .fields (by rfl)

theorem pinFiltWrite : Hides (pinFiltWrite p v none e) := by
  refine .of (.iteConst (96 ≤ p) .id <| .read (k := fun c => c.pinSeen p) .pinSeen fun now =>
    .seq draw <| .seq (writeCoded (a := A.PINp_FILT p) (v := v) (by simp)) <| .seq (setPinLevel (p := p) (b := now)) <|
    .seq (.iteBool (.bit (a := A.PINp_MUX p) (i := 31) (by simp))
        (.read (k := fun c => max (getS (0, 0) c.pins.mask p).1 (e.now - 2)) (.fields (by rfl))
      fun start => pinMaskFrom (p := p) (start := start)) .id) <|
    .iteBool (k := fun c => decide (1 ≤ c.pinIrqMode p) && decide (c.pinIrqMode p ≤ 3))
        (.map .pinIrqMode fun m => decide (1 ≤ m) && decide (m ≤ 3))
      (clrBit (a := A.PIN_IRQx (p / 32)) (i := p % 32) (by simp)) .id) (funext fun c => ?_)
  unfold Machine.pinFiltWrite Chip.pinSeen
  refine if_congr Iff.rfl rfl ?_
  have hdraw : c.draw.2.pinDriven p = c.pinDriven p := rfl
  have hlevel : c.draw.2.pinLevel p = c.pinLevel p := rfl
  have hpair : c.draw = (c.free, c.draw.2) := rfl
  rw [hpair]
  generalize c.draw.2 = d at hdraw hlevel ⊢
  dsimp only
  rw [hdraw, hlevel]
  cases c.pinDriven p <;> rfl

theorem pinWrite (ha : a ≠ A.DISP_STAT) : Hides (pinWrite a v e) := by
  have hset (x : Nat) : Hides (pinSet x v) := .wrOf (by simp) (fun w => w ||| v) (.rd (a := A.PIN_OUTx x) (by simp))
  have hclr (x : Nat) : Hides (pinClr x v) := .wrOf (by simp) (fun w => w &&& ~~~ v) (.rd (a := A.PIN_OUTx x) (by simp))
  have hirq (x : Nat) : Hides fun c => c.wr a
      (c.rd a &&& ~~~ (v &&& word (bitsOf 32 (fun i => decide (c.pinIrqMode (32 * x + i) ≤ 3))))) :=
    .wrOf (k := fun c => (c.rd a, fun i => decide (c.pinIrqMode (32 * x + i) ≤ 3))) ha
        (fun q => q.1 &&& ~~~ (v &&& word (bitsOf 32 q.2)))
      (.pair (.rd ha) fun c r ws h => funext fun i => congrArg (fun m => decide (m ≤ 3)) (Blind.pinIrqMode c r ws h))
  have hother : Hides fun c => match (List.range 3).find? (fun x => decide (A.PIN_INx x ≤ a ∧ a < A.PIN_INx (x + 1))) with
      | none => c.writeCoded a v
      | some x =>
        if a = A.PIN_SETx x then pinSet x v c
        else if a = A.PIN_CLRx x then pinClr x v c
        else if a = A.PIN_IRQx x then
          c.wr a (c.rd a &&& ~~~ (v &&& word (bitsOf 32 (fun i => decide (c.pinIrqMode (32 * x + i) ≤ 3)))))
        else c.writeCoded a v := by
    split
    · exact .writeCoded ha
    · exact .iteConst _ (hset _) <| .iteConst _ (hclr _) <| .iteConst _ (hirq _) <| .writeCoded ha
  exact .of (.iteConst ((A.PINp_MUX 0 ≤ a && a < A.PINp_MUX 96) = true) .pinMuxWrite <|
    .iteConst ((A.PINp_FILT 0 ≤ a && a < A.PINp_FILT 96) = true) .pinFiltWrite hother) rfl

theorem hostWrite (ha : a ≠ A.DISP_STAT) : Hides (hostWrite a v) := by
  have hclear : Hides (hostCacheClear v) := .foldl (fun n => .iteConst (v.getLsbD n = true) (.fields (by rfl)) .id) _
  exact .of (.iteConst (a = A.HOST_CTL) hclear <| .writeCoded ha) rfl

theorem sdramLost : Hides Chip.sdramLost := .fields (by rfl)

theorem xmcRefused : Hides Chip.xmcRefused := setBit (by decide)

theorem xmcWrite (ha : a ≠ A.DISP_STAT) : Hides (xmcWrite a v) := by
  have hcode {v : Word} : Hides (·.writeCoded a v) := .writeCoded ha
  have hsdr : Hides (sdrCtlWrite v) :=
    .of (.iteConst (v.getLsbD 0 = true) (.iteBool (.and (.bit (by decide)) (.fields (k := fun c => c.wheelLive 6) (by rfl)))
        (.seq .xmcRefused (.writeCoded (by decide))) <|
      .seq (.iteBool (.bit (by decide)) .sdramLost .id) <| .seq (.writeCoded (by decide)) (.clrBit (by decide)))
          (.writeCoded (by decide))) rfl
  have hclocks : Blind (·.seqClocks v) := fun c r ws h => by simp +decide [Chip.seqClocks, Chip.fld_put h]
  have hseq : Hides (xspiSequence v) :=
    .of (.iteBool (.bit (by decide)) .id <| .seq (.writeCoded (by decide)) <| .iteConst (v.getLsbD 15 = true)
      (.iteBool (.and (.fields (k := fun c => c.wheelLive 5) (by rfl))
          (.or (.const (!v.getLsbD 12)) (.map hclocks fun n => decide (60 < n)))) (.setBit (by decide))
        (.seq (.setBit (by decide)) (.fields (f := fun c => { c with bus := { c.bus with seq := true } }) (by rfl)))) .id) rfl
  exact .of (.iteConst (a = A.XMC_SDR_CTL) hsdr <| .iteConst (a = A.XMC_XSPI_SEQ) hseq <|
    .iteConst ((decide (a = A.XMC_SDR_CFG) || a = A.XMC_SDR_TIM) = true)
      (.iteBool (.bit (by decide)) .xmcRefused <|
          .iteConst ((decide (a = A.XMC_SDR_CFG) && (decide (2 ≤ bits v 5 4) || bits v 1 0 = 3)) = true) .xmcRefused <|
        .iteBool (.and (.const (decide (a = A.XMC_SDR_TIM))) (.fields (k := fun c => c.wheelLive 6) (by rfl)))
            .xmcRefused hcode) <|
    .iteConst ((decide (a = A.XMC_XSPI_DEVn_CFG 0) || a = A.XMC_XSPI_DEVn_CFG 1 || a = A.XMC_XSPI_DEVn_TIM 0
      || a = A.XMC_XSPI_DEVn_TIM 1) = true)
          (.iteBool (.fields (k := fun c => c.wheelLive 5) (by rfl)) .xmcRefused hcode) hcode) rfl

end Sys2Proof.Machine.Hides
end

section
/-! PROOF. Writes of the caches' registers, of the debug window and of the modes hide it. -/

namespace Sys2Proof.Machine

namespace Blind
variable {n : Nat}

theorem inWarning : Blind (·.inWarning n) := fun c r ws h => by simp +decide [Chip.inWarning, Chip.rd_put h, Chip.fld_put h]

end Blind

namespace Hides
variable {e : Env} {n a i p op : Nat} {v : Word}

theorem cleanAll : Hides (·.cleanAll e i) :=
  .of (.read (k := fun c => (c.cache i).map (·.1)) (.fields (by rfl)) fun ks =>
    .foldl (F := fun k c => if (c.way i k).st = .m then c.writeBack e i k .e else c)
        (fun _ => .ite (.fields (by rfl)) .writeBack .id) ks) rfl

theorem invalAll : Hides (·.invalAll i) := .fields (by rfl)

theorem wholeCacheOp : Hides (·.wholeCacheOp e n op) := by
  unfold Chip.wholeCacheOp
  split
  · exact .cleanAll
  · exact .invalAll
  · exact .seq .cleanAll .invalAll
  · exact .invalAll
  · exact .id

theorem setCacheOp : Hides (·.setCacheOp n op) :=
  .of (.seq (putBit (a := A.REGY_COREn_OP n) (i := 31) (b := op ≠ 0) (by simp)) <| fields (f := fun c => { c with
    caches := if n = 0 then { c.caches with op0 := op } else { c.caches with op1 := op } }) (by rfl)) rfl

theorem regyOpDone : Hides (regyOpDone n e) :=
  .of (.read (k := fun c => c.cacheOp n) (.fields (by rfl)) fun op =>
    .seq (wholeCacheOp (e := e) (n := n) (op := op % 8)) <|
    .seq (.iteConst (op / 8 % 2 = 1) (wholeCacheOp (e := e) (n := n) (op := 4)) .id) <|
    .seq (.iteConst (op / 256 % 2 = 1) (clrBit (a := A.REGY_COREn_CFG n) (i := 1) (by simp)) .id) <|
    .seq (.iteConst (op / 512 % 2 = 1) (clrBit (a := A.REGY_COREn_CFG n) (i := 0) (by simp)) .id)
        (setCacheOp (n := n) (op := 0))) rfl

/-- What a write of a core's cache configuration makes due. -/
def cacheOpOf (old v : Word) : Nat :=
  (if old.getLsbD 1 && !v.getLsbD 1 then 3 + 256 else 0)
    + (if old.getLsbD 0 && !v.getLsbD 0 then 512 + (if old.getLsbD 1 && !v.getLsbD 1 then 8 else 4) else 0)

theorem regyConfigWrite : Hides (regyConfigWrite n v e) :=
  .of (.read (k := fun c => c.rd (A.REGY_COREn_CFG n)) (.rd (by simp)) fun old =>
    .seq (.iteConst (cacheOpOf old v = 0) .id (regyOpDone (n := n) (e := e))) <|
    .seq (put (a := A.REGY_COREn_CFG n) (v := (old ||| v) &&& 3) (by simp)) <|
    .iteConst (cacheOpOf old v = 0) .id (setCacheOp (n := n) (op := cacheOpOf old v))) rfl

theorem regyWrite (ha : a ≠ A.DISP_STAT) : Hides (regyWrite a v e) := by
  have hop (n op : Nat) : Hides (regyOpWrite n op) :=
    .of (.iteBool (.or (.or (.bit (by simp)) (.const (decide (op = 0)))) (.const (decide (4 < op)))) .id .setCacheOp) rfl
  have hwcc (op : Nat) : Hides (wccOpWrite op) :=
    .of (.iteBool (.bit (by decide)) (.setBit (by decide)) <| .iteConst (op % 4 = 0) .id <|
        .seq (.setBit (by decide)) (.fields (f := fun c =>
      { c with caches := { c.caches with wop := op % 4 } }) (by rfl))) rfl
  exact .of (.iteConst (a = A.REGY_COREn_CFG 0) .regyConfigWrite <| .iteConst (a = A.REGY_COREn_CFG 1) .regyConfigWrite <|
    .iteConst (a = A.REGY_COREn_OP 0) (hop _ _) <| .iteConst (a = A.REGY_COREn_OP 1) (hop _ _) <|
    .iteConst (a = A.WCC_OP) (hwcc _) <|
    .iteConst ((decide (a = A.WCC_RANGE_ADDR) || a = A.WCC_RANGE_LEN) = true)
        (.iteBool (.bit (by decide)) (.setBit (by decide)) (.writeCoded ha)) <|
    .writeCoded ha) rfl

theorem crWrite {ctl : Nat} {dbg : Bool} : Hides (crWrite e n ctl dbg v) := .of .modCore rfl

theorem resumeCore : Hides (resumeCore e n) := .of .modCore rfl

theorem dbgWindow : Hides (dbgWindow a v e) := by
  have hcore (n off : Nat) : Hides (dbgWrite e n off v) :=
    .of (.iteConst (off < 0x80) (.ite (p := fun c => (c.core n).run = .halted) (.fields (by rfl)) .modCore .id) <|
      .iteConst (off = 0x80) (.ite (p := fun c => (c.core n).run = .halted) (.fields (by rfl)) .modCore .id) <|
      .iteConst ((0x800 ≤ off && off < 0x1000) = true)
          (.iteBool (k := fun c => anyTimeCr ((off - 0x800) / 4) || (c.core n).run = .halted) (.fields (by rfl)) .crWrite .id)
              .id) rfl
  exact .of (.iteConst (a < 0x60182000) (.seq (hcore ((a - 0x60180000) / 0x1000) (a % 0x1000)) <|
    .iteConst ((a % 0x1000 = 0x980 && v.getLsbD 5) = true) (.seq .timSyncAll .resumeCore) .id) .id) rfl

theorem voiceSpaceWrite : Hides (voiceSpaceWrite a v e) :=
  .of (.iteConst ((absentVoice e.fuses a || (regFind a).isNone) = true) .id <|
      .iteConst ((groupOf a).isSome = true) .groupWrite (.fields (by rfl))) rfl

/-! ### Ledger values and the modes -/

theorem judge : Hides (Chip.judge e n) :=
  .of (.read (k := fun c => (c.bit A.LDG_STAT n, c.inWarning n)) (.pair (.bit (by decide)) .inWarning) fun q =>
    .seq (putBit (a := A.LDG_STAT) (i := n) (b := q.2) (by decide)) <| .iteConst ((q.2 && !q.1) = true)
      (.read (k := fun c => c.rd (A.LDG_Ln_VALUE n)) (.rd (by simp)) fun w => .seq
          (setBit (a := A.LDG_EVT) (i := 0) (by decide)) <|
        .seq (logEntry (e := e) (kind := 7) (w2 := word n) (w3 := w) (w6 := 0)) <|
        .ite (p := fun c => c.mode = .vault) (.fields (by rfl)) .id <|
        .read (k := fun c => c.fld (A.LDG_Ln_DAYS n) 15 0) (.fld (by simp)) fun d => post (e := e) (r :=
          { source := 0x61, kind := 0x61, key := n, flags := 0, time := e.stamp, valueA := BitVec.ofNat 16 d, valueB := w }))
              .id) rfl

theorem setValue {x : Nat} : Hides (Chip.setValue e n x) :=
  .of (.ite (p := fun c => (c.rd (A.LDG_Ln_VALUE n)).toNat = x) (.map (.rd (by simp)) fun w => w.toNat = x) .id <|
      .seq (.put (by simp)) .judge) rfl

theorem countErase {which : Nat} : Hides (Chip.countErase e which) :=
  .of (.seq (.fields (f := fun c => { c with ldg := { c.ldg with core :=
      if which = 0 then { c.ldg.core with eraseA := c.ldg.core.eraseA + 1 }
      else if which = 1 then { c.ldg.core with eraseB := c.ldg.core.eraseB + 1 }
      else { c.ldg.core with eraseBoot := c.ldg.core.eraseBoot + 1 } } }) (by rfl)) <|
    .read (k := Chip.l2) (.fields (by rfl)) fun x => setValue (e := e) (n := 2) (x := x)) rfl

theorem result {code detail : Nat} : Hides (·.result op code detail) := .of (.seq .ldrDo (.put (by decide))) rfl

theorem cancelArmed {cause : Nat} : Hides (·.cancelArmed op cause) :=
  .of (.ite (p := fun c => c.ldr.state = .armed) (.fields (by rfl)) (.seq (.seq .ldrDo .result) (.setBit (by decide))) .id) rfl

theorem startRamp : Hides (Chip.startRamp e) :=
  .of (.iteBool (k := fun c => c.pwr.ramp.isSome) (.fields (by rfl)) .id <| .seq (.fields (f := fun c =>
    c.pwrDo fun p => { p with ramp := some (multAfter c.met.ticks.cb e.now + c.met.ticks.cb) }) (by rfl)) .cancelArmed) rfl

theorem modeRefused : Hides Chip.modeRefused := setBit (by decide)

theorem modeReqWrite : Hides (modeReqWrite v e) := by
  have hconfigure : Hides (requestConfigure e) := by
    refine .on Chip.mode (.fields (by rfl)) fun md => ?_
    cases md
    case configure => exact ⟨_, fun c h => by rw [requestConfigure, h], .id⟩
    case perform => exact ⟨_, fun c h => by rw [requestConfigure, h], .seq (.clrBit (by decide)) .startRamp⟩
    all_goals exact ⟨_, fun c h => by rw [requestConfigure, h], .modeRefused⟩
  have hperform : Hides requestPerform :=
      .of (.ite (p := fun c => c.mode = .perform) (.fields (by rfl)) (.clrBit (by decide)) .modeRefused) rfl
  have hhush : Hides requestHush := by
    refine .on Chip.mode (.fields (by rfl)) fun md => ?_
    cases md
    case perform => exact ⟨_, fun c h => by rw [requestHush, h], .setBit (by decide)⟩
    case hush => exact ⟨_, fun c h => by rw [requestHush, h], .id⟩
    all_goals exact ⟨_, fun c h => by rw [requestHush, h], .modeRefused⟩
  have hvault : Hides (enterVault e) := by
    refine .on Chip.mode (.fields (by rfl)) fun md => ?_
    cases md
    case configure => exact ⟨_, fun c h => by rw [enterVault, h], .pwrDo⟩
    case perform => exact ⟨_, fun c h => by rw [enterVault, h], .seq .startRamp .pwrDo⟩
    all_goals exact ⟨_, fun c h => by rw [enterVault, h], .modeRefused⟩
  unfold Machine.modeReqWrite
  split
  · exact hconfigure
  · exact hperform
  · exact hhush
  · exact .iteConst _ hvault .id

end Hides
end Sys2Proof.Machine
end

section
/-! PROOF. Writes of the system registers and the loader's commands hide it (R72 to R77, R80). -/

namespace Sys2Proof.Machine

namespace Blind
variable {e : Env}

theorem bootcfg : Blind fun c => (List.range 16).map (fun i => c.rd (A.SYS_BOOTCFG_BUFw i)) := fun c r ws h =>
  List.map_congr_left fun i hi => Chip.rd_put h (by
    have := List.mem_range.mp hi
    unfold A.SYS_BOOTCFG_BUFw A.DISP_STAT
    omega)

theorem loadCtx : Blind (·.loadCtx e) := fun c r ws h => by
  simp +decide [Chip.loadCtx, Chip.family441, Chip.rd_put h, Chip.bit_put h]

theorem timingCode {ch : Charter} : Blind (·.timingCode e ch) := .map loadCtx fun x =>
  match memTiming x ch.xspiDiv ch.wheels with
  | .ok _ => none
  | .error x => some x

end Blind

namespace Hides
variable {e : Env} {n a i op : Nat} {v : Word}

theorem writeClkCfg : Hides (writeClkCfg v) :=
  .of (.ite (p := fun c => c.mode = .configure) (.fields (by rfl))
    (.seq (.seq (.put (by decide)) (setBit (a := A.MET_STAT) (by decide))) <|
        .seq (.wrOf (k := fun c => c.rd A.SYS_CLK_STAT) (by decide) (fun w => w &&& ~~~ 7) (.rd (by decide)))
      (.fields (f := fun c => { c with met := { c.met with goodMeas := 0 } }) (by rfl))) (.setBit (by decide))) rfl

theorem rstReqWrite : Hides (rstReqWrite v) :=
  .of (.iteConst (bits v 31 16 ≠ 0x5EC7) .id <|
    .seq (.iteConst (v.getLsbD 0 = true)
        (.seq (.setBit (by decide)) (pwrDo (g := fun p => { p with due := { p.due with core0 := true } }))) .id) <|
    .seq (.iteConst (v.getLsbD 1 = true)
        (.seq (.setBit (by decide)) (pwrDo (g := fun p => { p with due := { p.due with core1 := true } }))) .id) <|
    .iteConst (v.getLsbD 2 = true) (pwrDo (g := fun p => { p with due := { p.due with chip := some 3 } })) .id) rfl

theorem startCore1 : Hides (startCore1 e) :=
  .of (.iteBool (.and (.fields (k := fun c => decide (c.core1.run = .held)) (by rfl))
      (.not (.bit (a := A.FLT_STAT) (i := 3) (by decide))))
    (.read (k := fun c => c.rd A.SYS_C1_ENTRY) (.rd (by decide)) fun w => modCore (n := 1)
        (g := fun k => { k with run := .running, pc := w, cycFrom := e.now })) .id) rfl

theorem coreCtlWrite : Hides (coreCtlWrite v e) :=
  .of (.read (k := fun c => c.bit A.SYS_CORE_CTL 1) (.bit (by decide)) fun was => .seq
      (writeCoded (a := A.SYS_CORE_CTL) (v := v) (by decide)) <|
    .iteConst ((!was && v.getLsbD 1) = true) (startCore1 (e := e)) .id) rfl

theorem nvmProgWrite : Hides (nvmProgWrite v e) := by
  have hrun : Hides fun c => match bits v 1 0 with
      | 1 => (({ c with mem := dropS (fun a => decide (0x220D0000 ≤ a ∧ a < 0x220D0040)) c.mem }).countErase e 2).pwrDo fun p =>
        { p with prog := some { op := 1, word := 0, data := (List.range 16).map (fun i => c.rd (A.SYS_BOOTCFG_BUFw i)) } }
      | 2 => c.pwrDo fun p =>
        { p with
          prog := some { op := 2, word := bits v 11 4, data := (List.range 16).map (fun i => c.rd (A.SYS_BOOTCFG_BUFw i)) } }
      | _ => c := by
    split
    · exact .of (.read .bootcfg fun data => .seq (fields (f := fun c =>
        { c with mem := dropS (fun a => decide (0x220D0000 ≤ a ∧ a < 0x220D0040)) c.mem }) (by rfl)) <|
            .seq (countErase (e := e) (which := 2)) <|
        pwrDo (g := fun p => { p with prog := some { op := 1, word := 0, data := data } })) rfl
    · exact .of (.read .bootcfg fun data => pwrDo
        (g := fun p => { p with prog := some { op := 2, word := bits v 11 4, data := data } })) rfl
    · exact .id
  exact .of (.iteBool (k := fun c => c.mode != .configure || c.pwr.prog.isSome || c.ldr.nvm.isSome) (.fields (by rfl))
      (.setFld (by decide)) hrun) rfl

theorem sysWrite (ha : a ≠ A.DISP_STAT) : Hides (sysWrite a v e) :=
  .of (.iteConst (a = A.SYS_PROFILE_LOCK) .id <| .iteConst (a = A.SYS_CLK_CFG) .writeClkCfg <|
    .iteConst (a = A.SYS_MODE_REQ) .modeReqWrite <| .iteConst (a = A.SYS_RST_REQ) .rstReqWrite <|
    .iteConst (a = A.SYS_CORE_CTL) .coreCtlWrite <| .iteConst (a = A.SYS_NVM_PROG) .nvmProgWrite <|
    .iteConst ((0x60000100 ≤ a && a < 0x60000140) = true) .rtcWrite <| .writeCoded ha) rfl

/-! ### The loader (R72 to R77) -/

theorem refuseOp : Hides (·.refuseOp op) := result

theorem verifyStart : Hides (verifyStart n) :=
  .of (.iteBool (k := fun c => c.opMode && decide (n ≤ 2) && (decide (c.ldr.state = .empty) || c.ldr.state = .admitted ||
      c.ldr.state = .refused)) (.fields (by rfl))
    (.read (k := fun c => if n = 2 then (c.rd A.CHT_SRC_ADDR).toNat else slotBase n)
        (.map (.rd (by decide)) fun w => if n = 2 then w.toNat else slotBase n) fun addr =>
      .seq (ldrDo (g := fun l => { l with
        state := .verifying, cand := none, candSrc := 0, job := some (n, addr), plan := none }))
        (put (a := A.CHT_CAND_SERIAL) (v := 0) (by decide))) .refuseOp) rfl

theorem commitOp : Hides (commitOp e) := by
  refine .on (·.ldr.cand) (.fields (by rfl)) fun o => ?_
  cases o with
  | none => exact ⟨_, fun c h => by rw [Machine.commitOp, h], .refuseOp⟩
  | some ch =>
    refine ⟨_, fun c h => by rw [Machine.commitOp, h],
        .iteBool (.fields (by rfl)) (.on (·.timingCode e ch) .timingCode fun o => ?_) .refuseOp⟩
    cases o with
    | none => exact ⟨_, fun c h => by rw [h], .of (.seq (.fields (by rfl)) (.put (by decide))) rfl⟩
    | some q => exact ⟨_, fun c h => by rw [h], .result⟩

theorem planSwap : Hides (planSwap e) := by
  refine .on (fun c => (c.ldr.cand, c.ldr.live)) (.fields (by rfl)) fun o => ?_
  obtain ⟨_ | ch, _ | live⟩ := o
  case none.none => exact ⟨_, fun c h => by rw [Machine.planSwap, (Prod.mk.inj h).1], .refuseOp⟩
  case none.some => exact ⟨_, fun c h => by rw [Machine.planSwap, (Prod.mk.inj h).1], .refuseOp⟩
  case some.none => exact ⟨_, fun c h => by rw [Machine.planSwap, (Prod.mk.inj h).1, (Prod.mk.inj h).2], .refuseOp⟩
  case some.some =>
    refine ⟨_, fun c h => by rw [Machine.planSwap, (Prod.mk.inj h).1, (Prod.mk.inj h).2],
      .iteBool (k := fun c => c.mode = .perform && c.ldr.state = .admitted) (.fields (by rfl))
          (.on (·.timingCode e ch) .timingCode fun o => ?_)
        (refuseOp (op := 3))⟩
    cases o with
    | some q => exact ⟨_, fun c h => by rw [h], .seq (result (op := 3) (code := q.1) (detail := q.2))
                  (setBit (a := A.CHT_INT) (i := 0) (by decide))⟩
    | none =>
      refine ⟨_, fun c h => by rw [h], .iteConst _
          (.seq (result (op := 3) (code := 0x12) (detail := 0)) (setBit (a := A.CHT_INT) (i := 0) (by decide))) ?_⟩
      exact .of (.seq (put (a := A.CHT_CALC_STK) (v := word (planKind live ch).2.1) (by decide)) <|
        .seq (put (a := A.CHT_CALC_FX) (v := word (planKind live ch).2.2.1) (by decide)) <|
        .seq (put (a := A.CHT_CALC_INTAKE) (v := word (planKind live ch).2.2.2) (by decide)) <|
        .read (k := fun c => (c.rd A.CHT_SWAP_BLOCK, c.fld A.CHT_XFADE 6 0))
            (.pair (.rd (by decide)) (.fld (by decide))) fun p =>
          .seq (ldrDo (g := fun l => { l with
            state := .planned
            plan := some { s := p.1, x := p.2, hard := (planKind live ch).1, atAbs := 0, begun := false } })) <|
          .seq (putBit (a := A.CHT_STATE) (i := 8) (b := (planKind live ch).1) (by decide)) <|
              .seq (result (op := 3) (code := 0) (detail := 0))
            (setBit (a := A.CHT_INT) (i := 0) (by decide))) rfl

theorem armSwap : Hides (armSwap e) := by
  refine .on (·.ldr.plan) (.fields (by rfl)) fun o => ?_
  cases o with
  | none => exact ⟨_, fun c h => by rw [Machine.armSwap, h], .refuseOp⟩
  | some p =>
    exact ⟨_, fun c h => by rw [Machine.armSwap, h],
        .iteBool (.fields (by rfl)) (.read (k := fun c => (c.met.ticks.cb, ahead p.s.toNat (c.block e))) (.fields (by rfl))
      (F := fun q c => if decide (4 ≤ q.2 ∧ q.2 < 2 ^ 31) then
        (c.ldrDo fun l => { l with state := .armed, plan := some { p with atAbs := (e.now / q.1 + q.2) * q.1 } }).result 4 0
            0 else c.result 4 0x62 0)
      fun q => .iteConst _ (.seq .ldrDo .result) .result) .refuseOp⟩

theorem cancelOp : Hides cancelOp := by
  have hdrop : Hides fun c => ((c.ldrDo fun l => { l with state := .empty, cand := none, candSrc := 0 }).wr A.CHT_CAND_SERIAL
      0).result 5 0 0 :=
    .seq (.seq .ldrDo (.put (by decide))) .result
  refine .of (.iteBool (k := Chip.opMode) (.fields (by rfl)) (.on (·.ldr.state) (.fields (by rfl)) fun s => ?_)
      (refuseOp (op := 5))) rfl
  cases s
  case armed => exact ⟨_, fun c h => by rw [h], .cancelArmed⟩
  case planned => exact ⟨_, fun c h => by rw [h], .seq .ldrDo .result⟩
  case admitted => exact ⟨_, fun c h => by rw [h], hdrop⟩
  case refused => exact ⟨_, fun c h => by rw [h], hdrop⟩
  all_goals exact ⟨_, fun c h => by rw [h], .refuseOp⟩

end Hides
end Sys2Proof.Machine
end

section
/-! PROOF. The loader's programming of a slot hides it: what its source tells, too, is the same for the twin (R77). -/

namespace Sys2Proof.Machine

/-! ### The bytes of a loader's source (R77) -/

theorem coherentBytes_put (e : Env) (c : Chip) (r : SMap Word) (ws : List (Nat × Nat × Word)) (k a n : Nat) :
    (c.put r ws).coherentBytes e k a n = c.coherentBytes e k a n := by
  induction n generalizing a with
  | zero => rfl
  | succ n ih =>
    have hbyte : (c.put r ws).coherentByte e a = c.coherentByte e a := by
      unfold Chip.coherentByte
      simp only [wholeLine_put]
      rfl
    rw [Chip.coherentBytes, Chip.coherentBytes, ih, hbyte]
    rfl

/-- The rest of a source's bytes, its head read. -/
def sourceTail (e : Env) (src a limit : Nat) : Option (List Byte) → Chip → Chk (Nat × List Byte) × Chip
  | none, c => (.error (0x02, 0), c)
  | some head, c =>
    if slotSize < wordAt head 16 || limit < wordAt head 16 then (.ok (limit, head), c)
    else match c.readSource e src a (max 36 (wordAt head 16)) with
      | (none, c) => (.error (0x02, 0), c)
      | (some bs, c) => (.ok (limit, bs), c)

theorem sourceBytes_of_region {e : Env} {c : Chip} {src addr a limit : Nat} (h : c.sourceRegion src addr = some (a, limit))
    (hlimit : ¬ limit < 36) :
    c.sourceBytes e src addr = sourceTail e src a limit (c.readSource e src a 36).1 (c.readSource e src a 36).2 := by
  rw [Chip.sourceBytes, h]
  refine (if_neg hlimit).trans ?_
  obtain ⟨_ | head, c⟩ := c.readSource e src a 36 <;> rfl

/-- The sections and the bytes of a source that passes steps 1 and 2 of the check (R77). -/
def checkedSource (x : LoadCtx) (bytes : Chk (Nat × List Byte)) : Chk (List Section × List Byte) := do
  let (limit, bs) ← bytes
  let (l, _) ← steps12 x limit bs
  return (l, bs)

theorem programBytes_eq {e : Env} {slot : Nat} {bytes : Chk (Nat × List Byte)} {c : Chip} : programBytes slot bytes e c =
    match checkedSource (c.loadCtx e) bytes with
    | .error (code, detail) => (c.result 6 code detail).setBit A.CHT_INT 4
    | .ok (_, bs) => (c.eraseSlot e slot).ldrDo fun l =>
        { l with nvm := some { erase := false, slot := slot, data := bs } } := rfl

/-- A reader that has an effect, with everything that is done with what it tells, hides. -/
def Yields {β : Type} (f : Chip → β × Chip) : Prop :=
  ∀ G : β → Chip → Chip, (∀ x, Hides (G x)) → Hides fun c => G (f c).1 (f c).2

namespace Yields
variable {α β : Type} {f g : Chip → β × Chip} {e : Env} {a n src addr : Nat}

theorem of (h : Yields g) (e : f = g) : Yields f := e ▸ h

theorem tell {k : Chip → β} (hk : Blind k) : Yields fun c => (k c, c) := fun _ hG => .read hk hG

theorem give {h : Chip → Chip} (hh : Hides h) (x : β) : Yields fun c => (x, h c) := fun _ hG => hh.seq (hG x)

theorem on (k : Chip → α) (hk : Blind k) (h : ∀ x, ∃ g, (∀ c, k c = x → f c = g c) ∧ Yields g) : Yields f := fun G hG =>
  .on k hk fun x => by
    obtain ⟨g, hg, hy⟩ := h x
    exact ⟨_, fun c hc => by rw [hg c hc], hy G hG⟩

theorem bind {h : α → Chip → β × Chip} {f : Chip → α × Chip} (hf : Yields f) (hh : ∀ x, Yields (h x)) :
    Yields fun c => h (f c).1 (f c).2 := fun G hG => hf (fun x c => G (h x c).1 (h x c).2) fun x => hh x G hG

theorem map {φ : β → α} (hf : Yields f) : Yields fun c => (φ (f c).1, (f c).2) := fun _ hG => hf _ fun x => hG (φ x)

theorem coherentRead : Yields (coherentRead (.host 0) a n e) := fun G hG =>
  .of (.read (k := fun c => c.draw.1) (.fields (by rfl)) fun k => .seq .draw <|
    .read (k := fun c => c.coherentBytes e k a n) (fun c r ws _ => coherentBytes_put e c r ws k a n) hG) rfl

theorem readSource : Yields (·.readSource e src addr n) := by
  by_cases hsrc : (decide (src = 0) || decide (src = 1)) = true
  · exact .of (.tell (k := fun c => some (c.fetchBytes e addr n)) fun c r ws _ => congrArg some
      (fetchBytes_put e c r ws addr n))
      (funext fun c => if_pos hsrc)
  · refine .on (·.busCause (.host 0) false false addr n) (fun c r ws h => Chip.busCause_put h ..) fun o => ?_
    cases o with
    | none =>
      exact ⟨fun c => (some (Machine.coherentRead (.host 0) addr n e c).1, (Machine.coherentRead (.host 0) addr n e c).2),
        fun c h => (if_neg hsrc).trans (by rw [h]), .map .coherentRead⟩
    | some q =>
      exact ⟨fun c => (none, c.busError (.host 0) q.2 q.1 addr false), fun c h => (if_neg hsrc).trans (by rw [h]),
          .give .busError none⟩

theorem sourceTail {limit : Nat} (o : Option (List Byte)) : Yields (sourceTail e src a limit o) := by
  cases o with
  | none => exact .tell (.const _)
  | some head =>
    by_cases hall : (decide (slotSize < wordAt head 16) || decide (limit < wordAt head 16)) = true
    · exact .of (.tell (.const _)) (funext fun c => if_pos hall)
    · refine .of (.map (φ := fun o : Option (List Byte) => o.elim (.error (0x02, 0)) fun bs => .ok (limit, bs))
        (readSource (e := e) (src := src) (addr := a) (n := max 36 (wordAt head 16)))) (funext fun c => ?_)
      rw [Machine.sourceTail, if_neg hall]
      obtain ⟨_ | bs, c⟩ := c.readSource e src a (max 36 (wordAt head 16)) <;> rfl

theorem sourceBytes : Yields (·.sourceBytes e src addr) := by
  have hregion : Blind (·.sourceRegion src addr) := fun c r ws h => by
    simp +decide [Chip.sourceRegion, Chip.xspiSize, Chip.fld_put h]
  refine .on (·.sourceRegion src addr) hregion fun o => ?_
  rcases o with _ | ⟨a, limit⟩
  · exact ⟨fun c => (.error (0x02, 0), c), fun c h => by rw [Chip.sourceBytes, h], .tell (.const _)⟩
  by_cases hlimit : limit < 36
  · exact ⟨fun c => (.error (0x02, 0), c), fun c h => by rw [Chip.sourceBytes, h]; exact if_pos hlimit, .tell (.const _)⟩
  exact ⟨_, fun c h => sourceBytes_of_region h hlimit, .bind .readSource sourceTail⟩

end Yields

namespace Hides
variable {e : Env} {slot op a : Nat} {v : Word}

/-! ### Slots of the flash, and the loader's commands -/

theorem eraseSlot : Hides (·.eraseSlot e slot) := .of (.seq (.fields (by rfl)) .countErase) rfl

theorem programBytes {bytes : Chk (Nat × List Byte)} : Hides (programBytes slot bytes e) := by
  refine .on (fun c => checkedSource (c.loadCtx e) bytes) (.map .loadCtx (checkedSource · bytes)) fun r => ?_
  rcases r with ⟨code, detail⟩ | ⟨l, bs⟩
  · refine ⟨fun c => (c.result 6 code detail).setBit A.CHT_INT 4, fun c h => ?_, .seq .result (.setBit (by decide))⟩
    rw [programBytes_eq, h]
  · refine ⟨fun c => (c.eraseSlot e slot).ldrDo fun l => { l with nvm := some { erase := false, slot := slot, data := bs } },
      fun c h => ?_, .seq .eraseSlot .ldrDo⟩
    rw [programBytes_eq, h]

theorem programSlot : Hides (programSlot slot e) :=
  .of (.iteBool (k := fun c => !c.opMode) (.fields (by rfl)) (refuseOp (op := 6)) <|
    .iteBool (k := fun c => c.slotRefused slot) (.fields (by rfl)) (result (op := 6) (code := 0x61) (detail := slot)) <|
    .read (k := fun c => (c.rd A.CHT_SRC_ADDR).toNat) (.map (.rd (by decide)) BitVec.toNat) fun addr =>
      Yields.sourceBytes (src := 2) (addr := addr) (fun bytes => Machine.programBytes slot bytes e) fun _ => .programBytes) rfl

theorem eraseOp : Hides (eraseOp slot e) :=
  .of (.iteBool (k := fun c => !c.opMode) (.fields (by rfl)) (refuseOp (op := 7)) <|
    .iteBool (k := fun c => c.slotRefused slot) (.fields (by rfl)) (result (op := 7) (code := 0x61) (detail := slot)) <|
    .seq eraseSlot ldrDo) rfl

theorem chtCmd : Hides (chtCmd v e) := by
  unfold Machine.chtCmd
  split
  · exact .id
  · exact .verifyStart
  · exact .commitOp
  · exact .planSwap
  · exact .armSwap
  · exact .cancelOp
  · exact .programSlot
  · exact .eraseOp
  · exact .refuseOp

theorem swapParamWrite {xfade : Bool} : Hides (swapParamWrite xfade v) :=
  .of (.iteBool (k := fun c => c.ldr.state = .planned || c.ldr.state = .armed) (.fields (by rfl)) (.setBit (by decide)) <|
      .iteConst (xfade = true) (.put (by decide)) (.put (by decide))) rfl

end Hides
end Sys2Proof.Machine
end

section
/-! PROOF. Writes of the queues, the keys, the converters, MIDI and USB hide it. -/

namespace Sys2Proof.Machine

/-- The bits of KEY_CFG and KEY_MAP that no write changes while the keys are scanned (R221). -/
def keyMask (a : Nat) : Word := if a = A.KEY_CFG then 0x60FFFF00 else 0x1FF

/-- A write of KEY_CFG or KEY_MAP is refused, by what the register, KEY_CFG and KEY_MAP hold. -/
def keyRefused (a : Nat) (v old cfg map : Word) : Bool :=
  let mode := if a = A.KEY_CFG then bits v 30 29 else bits cfg 30 29
  (old ^^^ v) &&& keyMask a ≠ 0 && (cfg.getLsbD 31 || (mode = 3 ||
    decide (256 < (if a = A.KEY_CFG then bits v 23 16 else bits cfg 23 16) + (mode + 1) *
        (if a = A.KEY_CFG then bits map 8 0 else bits v 8 0))))

/-- What such a write stores. -/
def keyValue (a : Nat) (v old : Word) (refused : Bool) : Word :=
  if refused then (v &&& ~~~ keyMask a) ||| (old &&& keyMask a) else v

namespace Blind
variable {n k i t : Nat}

theorem tenBits : Blind Chip.bitNum := .map (.bit (by decide)) fun b : Bool => if b then 14450688 else 15728640

theorem moutNow : Blind (·.moutNow i t) := fun c r ws h => by
  have hgrid (j : Nat) : (c.put r ws).gridAt j = c.gridAt j := by rw [Chip.gridAt, tenBits c r ws h, Chip.gridAt]
  have hfrom (j : Nat) : (c.put r ws).gridFrom j = c.gridFrom j := by rw [Chip.gridFrom, tenBits c r ws h, Chip.gridFrom]
  have hbyte (o : MidiOut) (at0 b : Nat) : (c.put r ws).byteOut o at0 b = c.byteOut o at0 b := by
    rw [Chip.byteOut, hfrom, hgrid, Chip.byteOut]
  have hbytes (l : List Nat) (o : MidiOut) (t : Nat) : (c.put r ws).bytesUpTo t l o = c.bytesUpTo t l o := by
    induction l generalizing o with
    | nil => rfl
    | cons b l ih => rw [Chip.bytesUpTo, Chip.bytesUpTo, hbyte, ih]
  exact hbytes ..

/-- The averages of every contact of a key (R230) are read below DISP_STAT. -/
theorem bounceOf (hk : k < 512) : Blind (·.bounceOf k) := fun c r ws h => by
  have hmode : (c.put r ws).keyMode = c.keyMode := Chip.fld_put h (by decide) ..
  have hbase : (c.put r ws).keyBase = c.keyBase := Chip.fld_put h (by decide) ..
  have hcontact (r' : Nat) : (c.put r ws).contactOf k r' = c.contactOf k r' := by
    rw [Chip.contactOf, hmode, hbase, Chip.contactOf]
  show maxL _ = maxL _
  rw [hmode]
  refine congrArg maxL (List.map_congr_left fun j hj => ?_)
  have hj := List.mem_range.mp hj
  have hmlt : c.keyMode < 4 := Nat.mod_lt _ (by decide)
  have hblt : c.keyBase < 256 := Nat.mod_lt _ (by decide)
  have hmul : (c.keyMode + 1) * k ≤ 4 * 512 := Nat.mul_le_mul hmlt hk.le
  have ha : A.KEY_BAVGw (c.contactOf k j / 2) ≠ A.DISP_STAT := by
    unfold A.KEY_BAVGw A.DISP_STAT Chip.contactOf
    omega
  rw [hcontact, Chip.bounceAvg, Chip.bounceAvg, Chip.fld_put h ha, Chip.fld_put h ha]

/-- The contacts of the longest bounce. -/
theorem bounceTop : Blind fun c => (List.range c.keyCount).foldl
    (fun l k => (topInsert (k, c.bounceOf k) l).take 8) [] := fun c r ws h => by
  have hcount : (c.put r ws).keyCount = c.keyCount := Chip.fld_put h (by decide) ..
  have hlt : c.keyCount < 512 := Nat.mod_lt _ (by decide)
  dsimp only
  rw [hcount]
  exact List.foldl_ext _ _ _ fun l k hk =>
    congrArg (fun x => (topInsert (k, x) l).take 8) (bounceOf ((List.mem_range.mp hk).trans hlt) c r ws h)

end Blind

namespace Hides
variable {e : Env} {n a i op src : Nat} {v : Word} {β : Type}

theorem foldlMem {F : β → Chip → Chip} (l : List β) (hF : ∀ x ∈ l, Hides (F x)) :
    Hides fun c => l.foldl (fun c x => F x c) c := by
  induction l with
  | nil => exact id
  | cons x l ih =>
    obtain ⟨hx, hl⟩ := List.forall_mem_cons.mp hF
    exact hx.seq (ih hl)

/-! ### Queues, the engine's commands and the keys -/

theorem queWrite (ha : a ≠ A.DISP_STAT) : Hides (queWrite (.dma n) a v e) := by
  have hstage (i : Nat) : Hides (pushStage (.dma n) i v) := .fields (by rfl)
  have hcommit (q : Nat) (timed : Bool) : Hides (pushCommit (.dma n) q timed v e) :=
    .of (.iteBool (k := fun c => (c.qe q).depth = 0 || (c.qe q).producer ≠ 0) (.fields (by rfl)) (.setBit (by simp))
        (.fields (by rfl))) rfl
  unfold Machine.queWrite
  refine .iteConst _ ?_ (.writeCoded ha)
  dsimp only
  split
  · exact hstage _
  · exact hstage _
  · exact hstage _
  · exact hcommit _ _
  · exact hcommit _ _
  · exact .writeCoded ha

theorem vcmdWrite {x : Nat} : Hides (vcmdWrite op x src) := .of (.iteConst (op = 0) .id (.fields (by rfl))) rfl

theorem keyCfgWrite (ha : a ≠ A.DISP_STAT) : Hides (keyCfgWrite a v) := by
  have hwrite (refused : Bool) (v' : Word) (fresh : Bool) : Hides fun c =>
      if fresh then ((if refused then c.setBit A.KEY_STAT 1 else c).writeCoded a v').keyDo fun k =>
          { k with fresh := true, lastScan := none }
      else (if refused then c.setBit A.KEY_STAT 1 else c).writeCoded a v' :=
    .iteConst _ (.seq (.seq (.iteConst _ (.setBit (by decide)) .id) (.writeCoded ha)) (fields (f := (·.keyDo _)) (by rfl)))
        (.seq (.iteConst _ (.setBit (by decide)) .id) (.writeCoded ha))
  exact .of (.read (k := fun c => (c.rd a, c.rd A.KEY_CFG, c.rd A.KEY_MAP))
      (.pair (.rd ha) (.pair (.rd (by decide)) (.rd (by decide)))) fun p =>
    hwrite (keyRefused a v p.1 p.2.1 p.2.2) (keyValue a v p.1 (keyRefused a v p.1 p.2.1 p.2.2))
      (a = A.KEY_CFG && !p.1.getLsbD 31 && (keyValue a v p.1 (keyRefused a v p.1 p.2.1 p.2.2)).getLsbD 31)) rfl

theorem keyScanWrite : Hides (keyScanWrite v) := writeCoded (by decide)

theorem updateTop : Hides Chip.updateTop :=
  .of (.seq (fields (f := fun c => { c with ldg := { c.ldg with recheck := true } }) (by rfl)) <| .read .bounceTop fun top =>
    foldlMem (F := fun i c => c.wr (A.KEY_BTOPi i) (match top[i]? with
      | some (k, v) => word (2 ^ 31 + k * 65536 + v)
      | none => 0)) (List.range 8) fun i hi => put (a := A.KEY_BTOPi i) (ha := by
        have := List.mem_range.mp hi
        unfold A.KEY_BTOPi A.DISP_STAT
        omega)) rfl

theorem keyAvgWrite (ha : a ≠ A.DISP_STAT) : Hides (keyAvgWrite a v) := .of (.seq (.writeCoded ha) .updateTop) rfl

/-! ### ADC and MIDI -/

theorem adcCfgWrite : Hides (adcCfgWrite n v) := by
  have hidle : Blind fun c => !(List.range 16).any (fun i => c.bit (A.ADCn_CFG i) 31) := fun c r ws h => by
    simp [Chip.bit_put h]
  exact .of (.seq (.iteBool hidle (fields (f := fun c => { c with adc := { c.adc with last := none } }) (by rfl)) .id) <|
    .read (k := (·.adcChan n)) (.fields (by rfl)) fun x => .seq (writeCoded (a := A.ADCn_CFG n) (v := v) (by simp))
      (fields (f := fun c => c.setAdc n { x with sum := 0, n := 0, first := true, up := none }) (by rfl))) rfl

theorem minCfgWrite : Hides (minCfgWrite i v) :=
  .of (.seq (writeCoded (a := A.MID_INn_CFG i) (by simp)) <|
      .iteConst ((v.getLsbD 2 && v.getLsbD 31) = true) .id (clrBit (by simp))) rfl

theorem moutCfgWrite : Hides (moutCfgWrite i v e) :=
  .of (.seq (.iteBool (.and (.bit (a := A.MID_OUTn_CFG i) (i := 31) (by simp)) (.const (!v.getLsbD 31)))
      (.read (k := (·.moutNow i e.now)) .moutNow fun o => fields (f := fun c =>
        c.setMout i { o with msg := [], freeAt := min o.freeAt e.now, sysex := false }) (by rfl)) .id)
    (writeCoded (a := A.MID_OUTn_CFG i) (v := v) (by simp))) rfl

theorem midWrite (ha : a ≠ A.DISP_STAT) : Hides (midWrite a v e) :=
  .of (.iteConst ((A.MID_INn_CFG 0 ≤ a && a < A.MID_INn_CFG 4 && a % 0x20 = 0) = true) .minCfgWrite <|
    .iteConst ((A.MID_OUTn_CFG 0 ≤ a && a < A.MID_OUTn_CFG 4 && a % 0x20 = 0) = true) .moutCfgWrite <| .writeCoded ha) rfl

/-! ### USB -/

theorem usbDo {g : Usb → Usb} : Hides (·.usbDo g) := .fields (by rfl)

theorem usbUnconfigure : Hides Chip.usbUnconfigure :=
  .of (.read (k := Chip.usbConfig) (.fld (by decide)) fun was =>
    .seq (setFld (a := A.USB_STAT) (hi := 15) (lo := 2) (x := 0) (by decide)) <|
        .seq (fields (f := Chip.dropMessages) (by rfl)) <|
    .seq (fields (f := Chip.emptyRings) (by rfl)) <| .seq (usbDo (g := fun u => { u with tog1 := false, tog2 := false })) <|
    .iteConst (was ≠ 0) (setBit (a := A.USB_EVT) (i := 3) (by decide)) .id) rfl

theorem usbDetach : Hides Chip.usbDetach :=
  .of (.seq (.seq (.seq .usbUnconfigure (setFld (a := A.USB_STAT) (hi := 17) (lo := 16) (x := 0) (by decide)))
    (clrBit (a := A.USB_STAT) (i := 1) (by decide))) (usbDo (g := fun u => { u with pullup := false, address := 0 }))) rfl

theorem usbCfgWrite (ha : a ≠ A.DISP_STAT) : Hides (usbCfgWrite a v) := by
  have hcfg (old new : Word) : Hides fun c =>
      let c := if old.getLsbD 31 then
          (if bits new 30 0 ≠ bits old 30 0 then c.setBit A.USB_EVT 7 else c).putBit A.USB_CFG 31 (v.getLsbD 31)
        else c.wr A.USB_CFG new
      if old.getLsbD 31 && !v.getLsbD 31 then (c.usbDetach).usbDo fun u => { u with reconnect := none }
      else if !old.getLsbD 31 && v.getLsbD 31 then
        c.usbDo fun u => { u with pullup := true, outCh := min 8 (bits new 3 0), inCh := min 8 (bits new 11 8) }
      else c :=
    .seq (.iteConst _ (.seq (.iteConst _ (.setBit (by decide)) .id) (.putBit (by decide))) (.put (by decide))) <|
        .iteConst _ (.seq .usbDetach .usbDo) <| .iteConst _ .usbDo .id
  refine .of (.iteConst (a = A.USB_CFG) (.read (k := fun c => c.rd A.USB_CFG) (.rd (by decide)) fun old => hcfg old
      (match regFind a with
      | some (r, _) => codedWrite r old v
      | none => old)) <|
    .iteBool (.and (.const (a = A.USB_ID || a = A.USB_BCD || a = A.USB_STR_ADDR)) (.bit (by decide))) (.setBit (by decide)) <|
        .writeCoded ha) rfl

end Hides
end Sys2Proof.Machine
end

section
/-! PROOF. Writes of the display controller hide it, those of DISP_STAT itself among them: they keep PUSHING. -/

namespace Sys2Proof.Machine

/-! ### Writes of DISP_STAT -/

/-- DISP_STAT has clear bits 0 to 6 and no others that a write moves. -/
theorem exists_regFind_dispStat : ∃ r ix, regFind A.DISP_STAT = some (r, ix) ∧ r.rw = 0 ∧ r.w1s = 0 ∧ r.w1c = 0x7F :=
  ⟨_, _, rfl, rfl, rfl, rfl⟩

theorem writeCoded_dispStat (c : Chip) (v : Word) :
    c.writeCoded A.DISP_STAT v = c.wr A.DISP_STAT (c.rd A.DISP_STAT &&& ~~~ (v &&& 0x7F)) := by
  obtain ⟨r, ix, hfind, hrw, hw1s, hw1c⟩ := exists_regFind_dispStat
  have hcode (x : Word) : codedWrite r x v = x &&& ~~~ (v &&& 0x7F) := by
    rw [codedWrite, hrw, hw1s, hw1c]
    show ((x &&& BitVec.allOnes 32) ||| (v &&& 0#32) ||| (v &&& 0#32)) &&& ~~~ (v &&& 0x7F#32) = _
    rw [BitVec.and_allOnes, BitVec.and_zero, BitVec.or_zero, BitVec.or_zero]
    rfl
  simp only [Chip.writeCoded, hfind, hcode]

/-- The layers run out of pixels before the x'th of the row, and not before. -/
def Chip.outrun (c : Chip) (x : Nat) : Bool :=
  c.disp.current.2.any (fun l => !l.1.isEmpty && decide (l.2 < x)) && !c.disp.current.2.any
      (fun l => !l.1.isEmpty && decide (l.2 < c.disp.row.length))

/-- The layers' pixels of a column. -/
def Chip.layerPixel (c : Chip) (p k : Nat) : Option Nat := match c.disp.current.2[k]? with
  | some (l, n) => if p < n then l.getD p none else none
  | none => none

/-- The pixels of the row that lack up to the x'th. -/
def Chip.composed (c : Chip) (x : Nat) : List Nat :=
  (List.range (x - c.disp.row.length)).map fun i => c.pinData (c.compose (c.layerPixel (c.disp.row.length + i)))

namespace Blind
variable {x : Nat} {nib : Bool}

/-- The next pixels of a row. -/
theorem pinData {px : Nat → Option Nat} : Blind fun c => c.pinData (c.compose px) := fun c r ws h => by
  have hcolour (v : Nat) : (c.put r ws).colour v = c.colour v := by
    simp only [Chip.colour, Chip.rd_put h, family_ne_dispStat, ne_eq, not_false_eq_true]
  have hcompose : (c.put r ws).compose px = c.compose px := by
    simp +decide only [Chip.compose, Chip.rd_put h, Chip.bit_put h, Chip.fld_put h, hcolour]
    rfl
  simp +decide only [Chip.pinData, Chip.bit_put h, hcompose]

theorem surfacePalette {a : Nat} : Blind (·.surfacePalette a) := fun c r ws h => by
  simp +decide only [Chip.surfacePalette, Chip.fld_put h]
  rfl

theorem composed : Blind (·.composed x) := fun c r ws h => List.map_congr_left fun _ _ => pinData c r ws h

theorem byteCounts : Blind (·.byteCounts nib) := fun c r ws h => by
  simp +decide only [Chip.byteCounts, Chip.eighths, Chip.tenMs, Chip.family441, Chip.xferCycles, Chip.bit_put h, Chip.fld_put h]
  rfl

end Blind

namespace Hides
variable {f g : Chip → Chip} {e : Env} {a i x : Nat} {v : Word}

/-- An effect that is, with no push under way, one that hides. -/
theorem ofIdle (hg : Hides g) (h : ∀ c, c.disp.push = none → f c = g c) : Hides f := fun c hc =>
  (hg c hc).congr (h c hc.push) fun r ws _ => h (c.put r ws) hc.push

theorem iteIf (q : Prop) [Decidable q] (hf : q → Hides f) (hg : ¬ q → Hides g) : Hides fun c => if q then f c else g c := by
  split
  · exact hf ‹_›
  · exact hg ‹_›

theorem chrNow {now : Nat} : Hides (·.chrNow now) := .ofIdle .id fun c h => by rw [Chip.chrNow, h]

/-- A bit that every mask shows. -/
theorem setStat (hi : ∀ m, Mask m → word (2 ^ i) &&& m = word (2 ^ i)) : Hides (·.setBit A.DISP_STAT i) :=
  touch (φ := (· ||| word (2 ^ i))) (fun x h => by rw [BitVec.getLsbD_or, h, Bool.true_or]) fun m hm x => by
    rw [BitVec.and_comm, BitVec.and_or_distrib_left, BitVec.and_comm m, BitVec.and_comm m, hi m hm]

theorem writeStat : Hides (·.writeCoded A.DISP_STAT v) := .of (touch (φ := (· &&& ~~~ (v &&& 0x7F)))
  (fun x h => by rw [BitVec.getLsbD_and, h]; simp) fun m _ x => by rw [BitVec.and_assoc, BitVec.and_comm _ m,
      ← BitVec.and_assoc])
  (funext fun c => writeCoded_dispStat c v)

/-! ### The display controller (R270 to R298) -/

theorem composeTo : Hides (·.composeTo x) :=
  .of (.ite (p := fun c => x ≤ c.disp.row.length) (.fields (by rfl)) .id <|
    .read (k := fun c => (c.outrun x, c.composed x)) (.pair (.fields (by rfl)) .composed) fun p =>
      .seq (.iteConst (p.1 = true) (.seq (setStat (i := 0) fun _ h => h.underrun) (inc (a := A.DISP_UNDERRUNS) (by decide)))
          .id)
        (fields (f := (·.dispDo fun d => { d with row := d.row ++ p.2 })) (by rfl))) rfl

theorem composeNow : Hides (·.composeNow e) :=
  .of (.iteBool (k := fun c => !c.scanning) (.fields (by rfl)) .id <|
    .iteBool (k := fun c => c.disp.lineAt = some (c.lineCount (c.frameStart e.now) (c.beamAt e.now).1) && c.disp.current.1 =
        (c.beamAt e.now).1)
      (.fields (by rfl)) (.read (k := fun c => min (c.beamAt e.now).2 c.dsec.size.1) (.fields (by rfl)) fun x => composeTo
          (x := x)) .id) rfl

theorem dispCtlWrite : Hides (dispCtlWrite v e) := .of (.seq .composeNow (.writeCoded (by decide))) rfl

theorem fifoRun {now n : Nat} : Hides (fifoRun now n) := by
  induction n with
  | zero => exact .of .id rfl
  | succ n ih =>
    refine .on (·.disp.fifo) (.fields (by rfl)) fun l => ?_
    cases l with
    | nil => exact ⟨_, fun c h => by rw [Machine.fifoRun, h], .id⟩
    | cons b l =>
      refine ⟨_, fun c h => by rw [Machine.fifoRun, h], .iteBool (k := fun c =>
        c.disp.push.isSome || !(c.dkind = 2 || c.dkind = 3 || c.dkind = 4) || decide (now < c.disp.busFree))
            (.fields (by rfl)) .id ?_⟩
      exact .of (.read (k := (·.byteCounts b.nibble)) .byteCounts fun n =>
        .seq (fields (f := (·.dispDo fun d => { d with fifo := l, busFree := d.busFree + n, sent := [(b.dc, b.byte)] }))
            (by rfl)) ih) rfl

theorem fifoNow : Hides (·.fifoNow e) :=
  .of (.read (k := fun c => c.disp.fifo.length + 1) (.fields (by rfl)) fun n => fifoRun (now := e.now) (n := n)) rfl

theorem fifoWrite {b : DispByte} : Hides (fifoWrite b e) :=
  .of (.seq .fifoNow <| .ite (p := fun c => 16 ≤ c.disp.fifo.length) (.fields (by rfl))
      (setStat (i := 5) fun _ h => h.cmdOvf) <|
    .seq (fields (f := (·.dispDo fun d => { d with
      fifo := d.fifo ++ [b], busFree := if d.fifo.isEmpty then max d.busFree e.now else d.busFree })) (by rfl)) .fifoNow) rfl

theorem markAll : Hides Chip.markAll :=
  .of (.read (k := fun c => (c.tilesW, c.tilesH)) (.fields (by rfl)) fun p => markTiles (x0 := 0) (y0 := 0) (x1 := p.1)
      (y1 := p.2)) rfl

theorem dirtyAll : Hides (dirtyAll v) := .of (.iteConst (v.getLsbD 0 = true) .markAll .id) rfl

theorem chrCmd : Hides (chrCmd v e) :=
  .of (.read (k := fun c => v.getLsbD 9 && c.bit A.DISP_CHR_CFG 16) (.and (.const _) (.bit (by decide))) fun nib =>
    fifoWrite (b := { dc := v.getLsbD 8, nibble := nib, byte := bits v 7 0 }) (e := e)) rfl

theorem chrCfg : Hides (chrCfg v e) :=
  .of (.seq (.seq .chrNow (.writeCoded (by decide))) <|
      .iteConst (v.getLsbD 17 = true) (fields (f := (·.dispDo fun d => { d with shadow := [] })) (by rfl)) .id) rfl

theorem srWrite : Hides (srWrite v) :=
  .of (.seq (.writeCoded (by decide)) <|
      .iteConst (v.getLsbD 0 = true) (fields (f := (·.dispDo fun d => { d with srAsk := true })) (by rfl)) .id) rfl

theorem writeCodedOrStat : Hides (·.writeCoded a v) := by
  by_cases ha : a = A.DISP_STAT
  · exact ha ▸ writeStat
  · exact writeCoded ha

theorem dispWrite : Hides (dispWrite a v e) :=
  .of (.iteConst (a = A.DISP_CTL) .dispCtlWrite <| .iteConst (a = A.DISP_DBI_CMD) (.of .fifoWrite rfl) <|
    .iteConst (a = A.DISP_DIRTY_MARK) .markTiles <| .iteConst (a = A.DISP_DIRTY_ALL) .dirtyAll <|
    .iteConst (a = A.DISP_CHR_CMD) .chrCmd <| .iteConst (a = A.DISP_CHR_CFG) .chrCfg <| .iteConst (a = A.DISP_SR) .srWrite <|
    .iteIf (a = A.DISP_DBI_TIME) (fun ha => .seq (.seq .fifoNow .writeCodedOrStat) <|
      .ite (p := fun c => c.fld a 11 8 = 0) (.map (.fld (ha ▸ by decide)) (· = 0)) (setFld (ha ▸ by decide)) .id) fun _ =>
    .seq (.iteConst (isClassP a = true) .composeNow .chrNow) <|
    .seq (.iteBool (.and (.fields (k := Chip.dirtyMap) (by rfl)) .surfacePalette) .markAll .id) .writeCodedOrStat) rfl

end Hides
end Sys2Proof.Machine
end

section
/-! PROOF. Every write that a DMA channel posts hides it (R448, R490). -/

namespace Sys2Proof.Machine

/-- What a write of a DMA channel does that breaks no rule (R448, R490). -/
def dmaStore (n a : Nat) (bs : List Byte) (e : Env) (c : Chip) : Chip :=
  if regionOf a == .periph || regionOf a == .voice then regWrite (.dma n) a (word (leNat bs)) e c
  else if c.chCoh n && (regionOf a).cacheable then coherentWrite a bs e c
  else c.setMemBytes a bs

section
variable {c : Chip} {n a cause t : Nat} {bs : List Byte} {e : Env}

theorem busWrite_of_cause (h : c.busCause (.dma n) true false a bs.length = some (cause, t)) :
    busWrite (.dma n) a bs e c = (.error cause, c.busError (.dma n) t cause a true) := by
  simp only [busWrite, access, h]

theorem busWrite_of_allowed (h : c.busCause (.dma n) true false a bs.length = none) :
    busWrite (.dma n) a bs e c = (.ok [], dmaStore n a bs e c) := by
  simp only [busWrite, access, h]
  rfl

end

end Sys2Proof.Machine

namespace Sys2Proof.Machine.Hides
variable {e : Env} {n a op : Nat} {v : Word} {bs : List Byte}

/-! ### Register writes of a DMA channel -/

theorem scrGo : Hides (scrGo op e) :=
  .of (.iteBool (.bit (by decide)) (.setBit (by decide)) <| .iteConst (op = 1) (.seq (.fields (f := fun c =>
      c.scrDo fun s => { s with list := false, began := e.now, fired := none }) (by rfl)) (.setBit (by decide))) <|
    .iteConst (op = 2) (.read (k := fun c => (c.rd A.SCR_LIST_ADDR).toNat) (.map (.rd (by decide)) BitVec.toNat) fun a =>
      .seq (.fields (f := fun c => c.scrDo fun s => { s with list := true, pc := a, began := e.now, fired := none })
          (by rfl)) <|
      .seq (put (a := A.SCR_PC) (v := word a) (by decide)) (setBit (a := A.SCR_STAT) (i := 0) (by decide))) .id) rfl

theorem scrWrite (ha : a ≠ A.DISP_STAT) : Hides (scrWrite a v e) :=
  .of (.iteBool (.and (.bit (by decide)) (.const (scrGuarded a))) (.setBit (by decide)) <| .iteConst (a = A.SCR_GO) .scrGo <|
    .iteConst (a = A.SCR_CTL) (.iteConst (v.getLsbD 0 = true) .scrAbort .id) <| .writeCoded ha) rfl

theorem lowWrite (ha : a ≠ A.DISP_STAT) : Hides (lowWrite (.dma n) a v e) := by
  have hcode : Hides (·.writeCoded a v) := .writeCoded ha
  unfold Machine.lowWrite
  split
  · exact .sysWrite ha
  · exact .iteConst _ .chtCmd <| .iteConst _ .swapParamWrite <| .iteConst _ .swapParamWrite hcode
  · exact .queWrite ha
  · exact .iteConst _ .vcmdWrite hcode
  · exact .iteConst _ .groupWrite hcode
  · exact .iteConst _ (.keyCfgWrite ha) <| .iteConst _ .keyScanWrite <| .iteConst _ (.keyAvgWrite ha) hcode
  · exact .iteConst _ .adcCfgWrite hcode
  · exact .iteConst _ .groupWrite <| .midWrite ha
  · exact .usbCfgWrite ha
  · exact .dispWrite
  · exact hcode

theorem regWrite : Hides (regWrite (.dma n) a v e) := by
  by_cases ha : a = A.DISP_STAT
  · subst ha
    exact .of (dispWrite (a := A.DISP_STAT) (v := v) (e := e)) rfl
  unfold Machine.regWrite
  split
  · exact .scrWrite ha
  · exact .dmaWrite ha
  · exact .intcWrite ha
  · exact .iteConst _ .groupWrite <| .timWrite ha
  · exact .rtcWrite
  · exact .iteConst _ .rngCtlWrite <| .writeCoded ha
  · exact .rtcWrite
  · exact .fltWrite ha
  · exact .pinWrite ha
  · exact .hostWrite ha
  · exact .xmcWrite ha
  · exact .regyWrite ha
  · exact .dbgWindow
  · exact .voiceSpaceWrite
  · exact .lowWrite ha

/-! ### Writes of a DMA channel (R448, R490) -/

theorem dmaStore : Hides (dmaStore n a bs e) :=
  .of (.iteConst ((regionOf a == .periph || regionOf a == .voice) = true) .regWrite <|
    .iteBool (.and (.bit (a := A.CHn_CFG n) (i := 30) (by simp)) (.const (regionOf a).cacheable)) .coherentWrite
        .setMemBytes) rfl

/-! ### An abort of a DMA channel (R503) -/

theorem chShow : Hides (·.chShow n) := by
  refine .on (fun c => (c.ch n).x) (.fields (by rfl)) fun o => ?_
  cases o with
  | none => exact ⟨_, fun c h => by rw [Chip.chShow, h], .id⟩
  | some x =>
    exact ⟨_, fun c h => by rw [Chip.chShow, h],
        .of (.seq (put (a := A.CHn_COUNT n) (v := word (x.residue % 2 ^ 20)) (by simp)) <|
      .iteBool (k := (·.chProgram n)) (.bit (by simp)) .id <|
          .seq (put (a := A.CHn_SRC n) (v := word (modeAddr x.smode x.src x.readPos)) (by simp))
        (put (a := A.CHn_DST n) (v := word (modeAddr x.dmode x.dst x.pos)) (by simp))) rfl⟩

end Sys2Proof.Machine.Hides
end

section
/-! PROOF. What follows a command, up to the posted words, hides it: a FATAL that ends no push, the resets due and the
aborts asked for (R503, R584, R614). -/

namespace Sys2Proof.Machine

/-- Where the next burst of a flushed copy goes, and how long it is (R503). -/
def Xfer.burstTo (x : Xfer) : Nat := modeAddr x.dmode x.rowDst x.pos

def Xfer.burst (x : Xfer) : Nat := burstLen x.dmode x.burstTo x.buf.length

theorem chFlush_of_buffered {n fuel : Nat} {e : Env} {c : Chip} {x : Xfer} (h : (c.ch n).x = some x)
    (hbuf : ¬ x.buf.isEmpty = true) :
    chFlush n e (fuel + 1) c = match busWrite (.dma n) x.burstTo (x.buf.take x.burst) e c with
      | (.error _, c) => c
      | (.ok _, c) => chFlush n e fuel (((c.chCount n (targetOf x.burstTo) x.burst).modCh n fun q =>
        { q with x := some { x with pos := x.pos + x.burst, buf := x.buf.drop x.burst } }).chShow n) := by
  rw [chFlush, h]
  exact if_neg hbuf

/-- The aborts that were asked for. -/
def askedAborts (e : Env) (c : Chip) : Chip :=
  c.dma.aborts.foldl (fun c n => chAbort n e c) { c with dma := { c.dma with aborts := [] } }

/-- What a FATAL does before it comes to the display (R614). -/
def beforeFatal (e : Env) (c : Chip) : Chip :=
  (scrAbort 0 e (c.pwrDo fun p => { p with due := { p.due with fatal := false } })).cancelArmed 4 2

/-- What follows a command up to the words that wait for target 8. -/
def beforeWords (e : Env) (c : Chip) : Chip := askedAborts e (stopForReset e 1 (stopForReset e 0 (fatalStop e c)))

namespace Hides
variable {e : Env} {n : Nat}

theorem chFlush {fuel : Nat} : Hides (chFlush n e fuel) := by
  induction fuel with
  | zero => exact .of .id rfl
  | succ fuel ih =>
    have hcause (x : Xfer) : Blind (·.busCause (.dma n) true false x.burstTo (x.buf.take x.burst).length) :=
      fun c r ws h => Chip.busCause_put h ..
    refine .on (fun c => (c.ch n).x) (.fields (by rfl)) fun o => ?_
    cases o with
    | none => exact ⟨_, fun c h => by rw [Machine.chFlush, h], .id⟩
    | some x =>
      by_cases hbuf : x.buf.isEmpty = true
      · exact ⟨_, fun c h => by rw [Machine.chFlush, h]; exact if_pos hbuf, .id⟩
      refine ⟨_, fun c h => chFlush_of_buffered h hbuf, .on _ (hcause x) fun o => ?_⟩
      cases o with
      | none => exact ⟨_, fun c h => by rw [busWrite_of_allowed h], .seq .dmaStore <|
                  .seq (.seq (.seq .chCount .modCh) .chShow) ih⟩
      | some q => exact ⟨_, fun c h => by rw [busWrite_of_cause h], .busError⟩

theorem chAbort : Hides (chAbort n e) := by
  have hstop (p : Nat × Nat) : Hides fun c => (((c.statusRecord e n 1 0 p.1 p.2).modCh n fun x =>
      { x with wait := none, pre := none, x := none, tries := 0, post := none }).setBit (A.CHn_STAT n) 3).setChState n 0 :=
    .seq (.seq (.seq .statusRecord .modCh) (.setBit (by simp))) .setChState
  exact .of (.iteBool (.not .chActive) .id <|
    .seq (.ite (p := fun c => c.chState n = 3) (.map (Blind.fld (a := A.CHn_STAT n) (hi := 31) (lo := 29) (by simp)) (· = 3))
        .id .chFlush) <|
    .seq (dropHeld (n := n)) <| .read (k := fun c => (c.chResidue n, (c.rd (A.CHn_SRC n)).toNat))
        (.pair (.fields (by rfl)) (.map (.rd (by simp)) BitVec.toNat)) hstop) rfl

theorem askedAborts : Hides (askedAborts e) :=
  .of (.read (k := fun c => c.dma.aborts) (.fields (by rfl)) fun asked =>
    .seq (.fields (f := fun c => { c with dma := { c.dma with aborts := [] } }) (by rfl))
      (.foldl (F := fun n c => Machine.chAbort n e c) (fun _ => .chAbort) asked)) rfl

theorem beforeFatal : Hides (beforeFatal e) := .of (.seq .pwrDo (.seq .scrAbort .cancelArmed)) rfl

end Hides

/-! ### A FATAL with no push under way (R614) -/

section
variable {c : Chip} {now : Nat} {e : Env}

theorem Chip.displayFatal_of_none (h : c.dkind = 0) (hpush : c.disp.push = none) : c.displayFatal now = c := by
  have hchr : c.chrNow now = c := by rw [Chip.chrNow, hpush]
  simp only [Chip.displayFatal, hchr, h]

theorem Chip.displayFatal_of_scanned (h : c.dkind = 1) (hpush : c.disp.push = none) :
    c.displayFatal now = if c.bit A.DISP_SR 2 then (c.setBit A.DISP_SR 0).dispDo fun d => { d with srAsk := true } else c := by
  have hchr : c.chrNow now = c := by rw [Chip.chrNow, hpush]
  simp only [Chip.displayFatal, hchr, h]

theorem Chip.displayFatal_of_pushed (h : 1 < c.dkind) (hpush : c.disp.push = none) :
    c.displayFatal now = ((c.dispDo fun d => { d with push := none, waitTe := none }).setBit A.DISP_STAT 6).clrBit A.DISP_STAT
        8 := by
  have hchr : c.chrNow now = c := by rw [Chip.chrNow, hpush]
  simp only [Chip.displayFatal, hchr]
  split
  · omega
  · omega
  · rfl

/-- A display that takes no pushes leaves DISP_STAT alone. -/
theorem Chip.Stuck.hidesAt_displayFatal (hc : c.Stuck) (hkind : c.dkind ≤ 1) : c.HidesAt (·.displayFatal now) := by
  obtain h | h : c.dkind = 0 ∨ c.dkind = 1 := by omega
  · exact (Hides.id c hc).congr (displayFatal_of_none h hc.push) fun r ws _ => displayFatal_of_none (c := c.put r ws) h hc.push
  · have hrest : Hides fun c => if c.bit A.DISP_SR 2 then (c.setBit A.DISP_SR 0).dispDo fun d =>
      { d with srAsk := true } else c :=
      .iteBool (.bit (by decide)) (.seq (.setBit (a := A.DISP_SR) (i := 0) (by decide)) (.fields
        (f := (·.dispDo fun d => { d with srAsk := true })) (by rfl))) .id
    exact (hrest c hc).congr (displayFatal_of_scanned h hc.push) fun r ws _ => displayFatal_of_scanned
        (c := c.put r ws) h hc.push

theorem Chip.Stuck.hidesAt_fatalStop (hc : c.Stuck) (h : c.pwr.due.fatal = true → (beforeFatal e c).dkind ≤ 1) :
    c.HidesAt (fatalStop e) := by
  by_cases hdue : c.pwr.due.fatal = true
  · have hfatal := Hides.beforeFatal (e := e) c hc
    exact (hfatal.seq (hfatal.1.hidesAt_displayFatal (h hdue))).congr (if_pos hdue) fun r ws _ => if_pos hdue
  · exact (Hides.id c hc).congr (if_neg hdue) fun r ws _ => if_neg hdue

/-- So do the resets and the aborts that come next. -/
theorem Chip.Stuck.hidesAt_beforeWords (hc : c.Stuck) (h : c.pwr.due.fatal = true → (beforeFatal e c).dkind ≤ 1) :
    c.HidesAt (beforeWords e) := by
  have hfatal := hc.hidesAt_fatalStop h
  exact hfatal.seq ((Hides.seq (.seq .stopForReset .stopForReset) .askedAborts) _ hfatal.1)

end
end Sys2Proof.Machine
end

section
/-! PROOF. A state with PUSHING at 0 that settles to the one with PUSHING stuck at 1. Where no FATAL ends a push, a posted
word for DISP_STAT takes the veiled entry away; where one does, its own write of DISP_STAT does. -/

namespace Sys2Proof.Machine

variable {c d : Chip} {e : Env} {m : Word}

/-! ### Writes of DISP_STAT that leave no twin -/

/-- Of two writes of one key the second stands, where both leave an entry. -/
theorem putS_putS_of_ne {u v : Word} (hu : u ≠ 0) (hv : v ≠ 0) (l : SMap Word) (a : Nat) :
    putS 0 (putS 0 l a u) a v = putS 0 l a v := by
  induction l with
  | nil => simp only [putS, if_neg hu, if_neg hv, Nat.lt_irrefl, if_false, if_true]
  | cons x l ih =>
    obtain ⟨k, x⟩ := x
    rcases Nat.lt_trichotomy a k with hk | rfl | hk
    · simp only [putS, if_neg hu, if_neg hv, if_pos hk, Nat.lt_irrefl, if_false, if_true]
    · simp only [putS, if_neg hu, if_neg hv, Nat.lt_irrefl, if_false, if_true]
    · rw [Veil.putS_cons_gt hk, Veil.putS_cons_gt hk, Veil.putS_cons_gt hk, ih]

/-- DISP_STAT after a FATAL. -/
def fatalStat (x : Word) : Word := (x ||| word (2 ^ 6)) &&& ~~~ word (2 ^ 8)

theorem fatalStat_ne_zero (x : Word) : fatalStat x ≠ 0 :=
  Hides.word_ne_zero_of_bit (i := 6) (by simp [fatalStat, word])

theorem fatalStat_and (x : Word) : fatalStat (x &&& ~~~ 0x100) = fatalStat x := by
  have hmask : ~~~ word (2 ^ 8) = ~~~ 0x100 := rfl
  simp only [fatalStat, hmask, BitVec.and_comm _ (~~~ 0x100 : Word), BitVec.and_or_distrib_left, ← BitVec.and_assoc,
      BitVec.and_self]

theorem Chip.setBit_clrBit_stat (c : Chip) :
    (c.setBit A.DISP_STAT 6).clrBit A.DISP_STAT 8 = c.wr A.DISP_STAT (fatalStat (c.rd A.DISP_STAT)) := by
  have hreset : regReset A.DISP_STAT = 0 := by decide
  have hne : c.rd A.DISP_STAT ||| word (2 ^ 6) ≠ 0 := Hides.word_ne_zero_of_bit (i := 6) (by simp [word])
  rw [Chip.clrBit, Chip.setBit, Chip.rd_wr_self_of_ne_reset (hreset ▸ hne), ← fatalStat]
  simp only [Chip.wr, hreset, putS_putS_of_ne hne (fatalStat_ne_zero _)]

/-- A FATAL that ends a push writes DISP_STAT anew. -/
theorem Chip.Stuck.exists_displayFatal (hc : c.Stuck) (hkind : 1 < c.dkind) (now : Nat) :
    ∃ r, c.Twin (~~~ 0x100) r ∧ (c.put r c.dma.words).displayFatal now = c.displayFatal now := by
  have hreset : regReset A.DISP_STAT = 0 := by decide
  obtain ⟨r, hr, hput⟩ := Veil.exists_putS_ne_zero (a := A.DISP_STAT) (w := c.rd A.DISP_STAT &&& ~~~ 0x100)
      (Nat.zero_le _) c.regs
  have hrd : (c.put r c.dma.words).rd A.DISP_STAT = c.rd A.DISP_STAT &&& ~~~ 0x100 := hr.getS_self
  refine ⟨r, hr, ?_⟩
  rw [displayFatal_of_pushed hkind hc.push, displayFatal_of_pushed (c := c.put r _) hkind hc.push, setBit_clrBit_stat,
      setBit_clrBit_stat]
  have hstat (c : Chip) (f : Disp → Disp) : (c.dispDo f).rd A.DISP_STAT = c.rd A.DISP_STAT := rfl
  rw [hstat, hstat, hrd, fatalStat_and]
  simp only [wr, dispDo, hreset]
  simp only [put, hput _ (fatalStat_ne_zero _)]

/-! ### A write of DISP_STAT that a channel has posted -/

/-- The word that clears UNDERRUN to CMD_OVF, posted for DISP_STAT. -/
def clearStat : Nat × Nat × Word := (0, A.DISP_STAT, 0x7F)

def writeWord (e : Env) (c : Chip) (w : Nat × Nat × Word) : Chip := (busWrite (.dma w.1) w.2.1 (leBytes 4 w.2.2.toNat) e c).2

/-- The words that wait for target 8 are written. -/
def writeWords (e : Env) (c : Chip) : Chip := c.dma.words.foldl (writeWord e) { c with dma := { c.dma with words := [] } }

theorem follow_congr (h : writeWords e (beforeWords e c) = writeWords e (beforeWords e d)) : follow e c = follow e d := by
  have hsettle (c : Chip) : dmaSettle e (stopForReset e 1 (stopForReset e 0 (fatalStop e c))) = chPosted
      (writeWords e (beforeWords e c)) := rfl
  simp only [follow, hsettle, h]

/-- With no push under way and no other bit to be read, that write leaves DISP_STAT 0. -/
theorem writeWord_clearStat (hpush : c.disp.push = none) (hstat : c.rd A.DISP_STAT &&& ~~~ 0x7F = 0) :
    writeWord e c clearStat = c.wr A.DISP_STAT 0 := by
  have hcause : c.busCause (.dma 0) true false A.DISP_STAT (leBytes 4 (0x7F : Word).toNat).length = none :=
    Chip.busCause_of_register (.inl (by decide)) (by decide) (by decide) c true
  have hdisp : dmaStore 0 A.DISP_STAT (leBytes 4 (0x7F : Word).toNat) e c = dispWrite A.DISP_STAT 0x7F e c := rfl
  have hchr : c.chrNow e.now = c := by rw [Chip.chrNow, hpush]
  have hpalette : c.surfacePalette A.DISP_STAT = false := by
    simp +decide [Chip.surfacePalette]
  have hwrite : dispWrite A.DISP_STAT 0x7F e c = c.writeCoded A.DISP_STAT 0x7F := by
    simp +decide [dispWrite, hchr, hpalette]
  have hcode : c.writeCoded A.DISP_STAT 0x7F = c.wr A.DISP_STAT 0 := by
    rw [writeCoded_dispStat, ← hstat]
    rfl
  rw [writeWord, clearStat, busWrite_of_allowed hcause]
  exact hdisp.trans (hwrite.trans hcode)

/-- Behind that write a twin is the device itself. -/
theorem Chip.Stuck.exists_writeWords (hc : c.Stuck) :
    ∃ r, c.Twin 0x7F r ∧ writeWords e (c.put r (clearStat :: c.dma.words)) = writeWords e c := by
  have hreset : regReset A.DISP_STAT = 0 := by decide
  obtain ⟨r, hr, hput⟩ := Veil.exists_putS_zero (a := A.DISP_STAT) (w := c.rd A.DISP_STAT &&& 0x7F) (Nat.zero_le _) c.regs
  have hrd : (c.put r []).rd A.DISP_STAT = c.rd A.DISP_STAT &&& 0x7F := hr.getS_self
  have hstat : (c.put r []).rd A.DISP_STAT &&& ~~~ 0x7F = 0 := by
    rw [hrd, BitVec.and_assoc]
    simp
  have hfirst : writeWord e (c.put r []) clearStat = c.put c.regs [] := by
    rw [writeWord_clearStat (c := c.put r []) hc.push hstat]
    simp only [wr, hreset, put, hput]
  exact ⟨r, hr, congrArg (c.dma.words.foldl (writeWord e)) hfirst⟩

theorem mask_0x7F : Mask 0x7F := ⟨by decide, by decide⟩

theorem mask_not_0x100 : Mask (~~~ 0x100) := ⟨by decide, by decide⟩

/-! ### A device whose PUSHING reads 0 and which comes to the same -/

/-- A word posted for DISP_STAT takes away what hides PUSHING, unless a FATAL ends a push. -/
theorem Chip.Stuck.exists_follow_of_word (hc : c.Stuck) (h : c.pwr.due.fatal = true → (beforeFatal e c).dkind ≤ 1) :
    ∃ r, c.Twin 0x7F r ∧ follow e (c.put r (clearStat :: c.dma.words)) = follow e c := by
  obtain ⟨hstuck, htwin⟩ := hc.hidesAt_beforeWords h
  obtain ⟨r', hr', hwords⟩ := hstuck.exists_writeWords (e := e)
  obtain ⟨r, hr, hput⟩ := htwin _ mask_0x7F r' hr'
  exact ⟨r, hr, follow_congr ((congrArg (writeWords e) (hput [clearStat])).trans hwords)⟩

/-- A FATAL that ends a push does so itself. -/
theorem Chip.Stuck.exists_follow_of_fatal (hc : c.Stuck) (hdue : c.pwr.due.fatal = true) (hkind : 1 < (beforeFatal e c).dkind) :
    ∃ r, c.Twin (~~~ 0x100) r ∧ follow e (c.put r c.dma.words) = follow e c := by
  obtain ⟨hstuck, htwin⟩ := Hides.beforeFatal (e := e) c hc
  obtain ⟨r', hr', hfatal⟩ := hstuck.exists_displayFatal hkind e.now
  obtain ⟨r, hr, hput⟩ := htwin _ mask_not_0x100 r' hr'
  have hstop : fatalStop e (c.put r c.dma.words) = fatalStop e c := calc
    fatalStop e (c.put r c.dma.words) = (beforeFatal e (c.put r c.dma.words)).displayFatal e.now := if_pos hdue
    _ = (beforeFatal e c).displayFatal e.now := (congrArg (·.displayFatal e.now) (hput [])).trans hfatal
    _ = fatalStop e c := (if_pos hdue).symm
  exact ⟨r, hr, by simp only [follow, hstop]⟩

/-- With a duty, and the same to follow, a device comes to what another comes to. -/
theorem State.settle_of_follow (s : State) (hd : d.duties = true) (h : follow s.env d = follow s.env s.chip) :
    (s.withChip d).settle = s.settle := by
  have hleft : (s.withChip d).settle = dueReset ((s.on follow).on follow) := by
    rw [State.settle, if_pos (show (s.withChip d).chip.duties = true from hd), State.on_on, State.on_on]
    exact congrArg (fun c => dueReset (s.withChip (follow s.env c))) h
  by_cases hs : s.chip.duties = true
  · rw [hleft, State.settle, if_pos hs]
  · have hquiet := eq_false_of_ne_true hs
    obtain ⟨hrest, hrecheck⟩ := Chip.resting_of_quiet hquiet
    have hfollow := hrest.follow_eq_self hrecheck s.env
    have hreset : dueReset s = s := by
      have hdue : s.chip.pwr.due = {} := by
        by_contra hne
        exact hs (by simp [Chip.duties, hne])
      rw [dueReset, hdue]
    rw [hleft, State.on_on, hfollow, hfollow, State.settle_of_quiet hquiet]
    exact hreset

/-- PUSHING that reads 1 with no push under way: a state that has it at 0 settles to the same one. -/
theorem State.exists_settle_of_stuck (s : State) (h : s.chip.Stuck) :
    ∃ r ws, (s.chip.put r ws).bit A.DISP_STAT 8 = false ∧ (s.withChip (s.chip.put r ws)).settle = s.settle := by
  have hbit {m : Word} {r : SMap Word} {ws : List (Nat × Nat × Word)} (hm : m.getLsbD 8 = false) (hr : s.chip.Twin m r) :
      (s.chip.put r ws).bit A.DISP_STAT 8 = false := by
    have hrd : (s.chip.put r ws).rd A.DISP_STAT = s.chip.rd A.DISP_STAT &&& m := hr.getS_self
    rw [Chip.bit, hrd, BitVec.getLsbD_and, hm, Bool.and_false]
  by_cases hfatal : s.chip.pwr.due.fatal = true → (beforeFatal s.env s.chip).dkind ≤ 1
  · obtain ⟨r, hr, hfollow⟩ := h.exists_follow_of_word hfatal
    exact ⟨r, _, hbit (by decide) hr, s.settle_of_follow (by simp [Chip.duties]) hfollow⟩
  · obtain ⟨hdue, hkind⟩ := Classical.not_imp.mp hfatal
    obtain ⟨r, hr, hfollow⟩ := h.exists_follow_of_fatal hdue (not_le.mp hkind)
    have hne : (s.chip.pwr.due != {}) = true := bne_iff_ne.mpr fun h0 => by simp [h0] at hdue
    exact ⟨r, _, hbit (by decide) hr, s.settle_of_follow (by simp [Chip.duties, hne]) hfollow⟩

end Sys2Proof.Machine
end

section
/-! PROOF. The display controller's commands (08_display.md, R270 to R298): O40 in register files of every form. -/

namespace Sys2Proof.Machine

/-! ### The clauses of O40 -/

variable {s : State} {m : Master} {v : Word} {p : Push}

/-- R293: a push ends at its last transfer, in a register file of any form. -/
theorem exec_pushComplete (hp : s.chip.powered = true) (hs : s.chip.slow = false) (hpush : s.chip.disp.push = some p) :
    ∃ t : State, exec .pushComplete s = .next t.settle ∧ t.clock = (s.advTo p.finish).clock ∧ t.chip.disp.push = none ∧
      t.chip.disp.dirty = s.chip.disp.dirty ∧ t.chip.bit A.DISP_STAT 8 = false := by
  let t := (s.advTo p.finish).withChip (pushEnd { now := p.finish, fuses := s.fuses } (s.advTo p.finish).chip)
  obtain ⟨hnone, hdirty, -⟩ := pushEnd_of_push (c := (s.advTo p.finish).chip) (by rw [State.advTo_chip_disp, hpush])
    { now := p.finish, fuses := s.fuses }
  have hmarks : t.chip.disp.dirty = s.chip.disp.dirty := hdirty.trans (congrArg Disp.dirty (s.advTo_chip_disp _))
  have hdue : s.chip.pushDue = some p.finish := by rw [Chip.pushDue, hpush, Option.map_some]
  have hexec : exec .pushComplete s = .next t.settle := runTickDue_of_due hp hs hdue
  by_cases hbit : t.chip.bit A.DISP_STAT 8 = true
  · obtain ⟨r, ws, hclear, hsettle⟩ := t.exists_settle_of_stuck ⟨hbit, hnone⟩
    exact ⟨t.withChip (t.chip.put r ws), by rw [hexec, hsettle], rfl, hnone, hmarks, hclear⟩
  · exact ⟨t, hexec, rfl, hnone, hmarks, eq_false_of_ne_true hbit⟩

/-- A line start is at the next line's count, and where the scan-out is stopped it records that count alone. -/
theorem exec_dispLineStart_bounds (hp : s.chip.powered = true) (hs : s.chip.slow = false) (hkind : s.chip.dkind = 1)
    (hv : 0 < s.chip.vTotal) (hfc : 0 < s.chip.frameCounts) (h0 : s.chip.met.frame0 ≤ s.clock.abs) (late : List (Nat × Nat)) :
    ∃ t, s.clock.abs ≤ t ∧ t ≤ s.clock.abs + s.chip.frameCounts ∧ exec (.dispLineStart late) s = .next
        (s.becomesAt t (lineTick late)) ∧
      (s.chip.disp.row = [] → s.chip.disp.current.2 = [] → s.chip.disp.scan = false → s.chip.bit A.DISP_CTL 0 = false →
        s.chip.scrBusy = false → exec (.dispLineStart late) s =
          .next (s.becomesAt t fun _ c => { c with disp := { c.disp with lineAt := some t } })) := by
  obtain ⟨hlo, hhi⟩ := Chip.nextLine_bounds hfc h0 hv
  refine ⟨_, hlo, hhi, exec_dispLineStart hp hs late, fun hrow hcurrent hscan hen hscr => ?_⟩
  exact (exec_dispLineStart_of_scanStopped hp hs ⟨hkind, hrow, hcurrent, hscan, hen, hscr⟩ late).trans
    (congrArg _ (State.becomesAt_congr rfl))

/-- Settles O40. Where PUSHING still reads 1 after a push, in a register file that lists DISP_STAT twice, the state of the
statement is another one that settles to the same: `State.exists_settle_of_stuck`. -/
theorem displayControllerCommands : Obligations.DisplayControllerCommands := by
  intro m v late p rects s hp c d now byte queued marked
  refine ⟨exec_dispCtlWrite hp, fun hs hkind hv hfc h0 => exec_dispLineStart_bounds hp hs hkind hv hfc h0 late,
    exec_dispTeEdge_of_waiting hp, fun hs hpush _ => exec_pushComplete hp hs hpush, fun hm hpush hroom => ?room,
    fun hm hpush hfull => ?full, fun hm hmap => ?marks, fun hm => exec_resync hp hm, exec_dispSrWrite hp⟩
  case room =>
    have hwrite (b : DispByte) := fifoWrite_of_push_of_lt hpush hroom b s.env
    exact ⟨by rw [exec_dispDbiCmd hp hm, hwrite]; rfl, by rw [exec_dispChrCmd hp hm, hwrite]; rfl⟩
  case full =>
    have hwrite (b : DispByte) := fifoWrite_of_push_of_full hpush hfull b s.env
    exact ⟨by rw [exec_dispDbiCmd hp hm, hwrite], by rw [exec_dispChrCmd hp hm, hwrite]⟩
  case marks =>
    obtain ⟨l, hl, hmem⟩ := Chip.markTiles_eq hmap (bits v 7 0) (bits v 15 8) (bits v 23 16) (bits v 31 24)
    obtain ⟨l', hl', hall⟩ := Chip.markAll_eq hmap
    exact ⟨⟨l, (exec_dispDirtyMark hp hm).trans (by rw [hl]), hmem⟩,
      fun h => ⟨l', (exec_dispDirtyAll hp hm h).trans (by rw [hl']), by simp [hall]⟩⟩

end Sys2Proof.Machine
end
